-- ==== Sys2Proof/Word.lean ====
section
/-!
DEFINITION. The word types of the block: bytes, register words, and the sparse table used for every
numbered collection of like things (memory bytes, queues, ports, streams, points).
-/

namespace Sys2Proof

/-- One byte, of host memory, of bulk memory or of a frame. -/
abbrev Byte := BitVec 8

/-- One 32-bit register word. -/
abbrev Word := BitVec 32

/-- One 64-bit counter or address. -/
abbrev DWord := BitVec 64

/-- A sparse table keyed by number, in one canonical form: keys strictly rising, and no entry equal to
what an unlisted key reads as. The value of an unlisted key is given by the accessor that reads it. -/
abbrev Tab (α : Type) := List (Nat × α)

end Sys2Proof
end

