-- ==== Sys2Proof/Syntax.lean ====
section
/-!
DEFINITION. The commands and events of the block: the clerk's commands with their packet, and everything else that
can happen to the post with what it brings. Cmd is the packet of R565 without its header's layout.
-/

namespace Sys2Proof

/-- Where a command came from, and so where its outcome goes: the entry of a command queue (its queue number and
the index of its first unit, R572), a carried command of the king post (its CARRY_SEQ, R585), or the partner post
over the tie beam (the serving post's own number for it, R581 and R582). -/
inductive Origin where
  | queue (q : Nat) (index : BitVec 16)
  | carried (seq : BitVec 32)
  | partner (ref : Nat)
deriving DecidableEq, Repr

/-- A command packet, R565: the fields the clerk reads and the parameter area. The opcode is the constructor. -/
structure Cmd where
  /-- Where the packet came from. -/
  origin : Origin := .queue 0 0
  /-- TAG of the header, R477. -/
  tag : BitVec 16 := 0
  /-- LEN of the header: units of 32 bytes, 1 to 8. -/
  len : Nat := 8
  /-- SCOPE: 0 SELF, 1 BENT, 2 SPAN, 3 reserved. -/
  scope : BitVec 2 := 0
  /-- PARTNER: execute at the other post of the bent. -/
  partner : Bool := false
  /-- FORCE. -/
  force : Bool := false
  /-- BENCH: bench handle. -/
  bench : BitVec 2 := 0
  /-- REPLY_ADDR. -/
  replyAddr : BitVec 64 := 0
  /-- REPLY_LEN. -/
  replyLen : BitVec 32 := 0
  /-- The parameter area, LEN * 32 - 24 bytes. -/
  params : List Byte := []
deriving DecidableEq, Repr

/-- A time value as it travels: whole nanoseconds of the span timescale and a fraction in 2^-16 ns (R13, R44). -/
abbrev Stamp := BitVec 96

/-- The common span header, chapter "The span cycle". -/
structure SpanHdr where
  subtype : Nat
  version : Nat := 1
  /-- CHANNEL: false A, true B. -/
  channel : Bool := false
  payload : Nat := 0
  hops : Nat := 1
  pattern : Nat := 0
  number : Nat := 0
  cycle : BitVec 32 := 0
  owner : BitVec 64 := 0
  len : Nat := 0
  ackValid : Bool := false
  ackPattern : Nat := 0
  ackCycle : Nat := 0
deriving DecidableEq, Repr

/-- The body of a bell frame; START in units of 2^-16 ns. -/
structure Bell where
  start : Nat := 0
  lc : Nat := 0
  pi : Nat := 0
  kingPrio : Nat := 0
  raising : Bool := false
  announce : Bool := false
  dropped : Bool := false
  yielding : Bool := false
  dhop : Nat := 0
  hopLimit : Nat := 0
  annPattern : Nat := 0
  annCycle : BitVec 32 := 0
  setId : BitVec 32 := 0
deriving DecidableEq, Repr

/-- The body of a carriage frame; REF in units of 2^-16 ns. -/
structure Carry where
  ref : Nat := 0
  /-- KIND: 0 image part, 1 carried command. -/
  kind : Nat := 0
  part : Nat := 0
  parts : Nat := 1
  tag : BitVec 32 := 0
  data : List Byte := []
deriving DecidableEq, Repr

/-- A PTP message as the port hardware and the clerk see it. -/
structure PtpMsg where
  domain : Nat := 0
  seq : BitVec 16 := 0
  senderId : BitVec 64 := 0
  senderPort : Nat := 0
  twoStep : Bool := false
  /-- correctionField in 2^-16 ns. -/
  correction : Int := 0
  /-- The timestamp that the message carries, in 2^-16 ns of the span timescale. -/
  stamp : Nat := 0
  /-- For a response: the port that asked. -/
  reqId : BitVec 64 := 0
  reqPort : Nat := 0
deriving DecidableEq, Repr

/-- What an Announce message says of a grandmaster (R66 and the standard algorithm). -/
structure Announce where
  priority1 : Nat := 128
  clockClass : Nat := 248
  accuracy : Nat := 0xFE
  variance : Nat := 0xFFFF
  priority2 : Nat := 255
  gmId : BitVec 64 := 0
  steps : Nat := 0
  /-- Identity of the sender's port: clock identity and port number. -/
  senderId : BitVec 64 := 0
  senderPort : Nat := 0
deriving DecidableEq, Repr

/-- The phase report TLV, R77. -/
structure PhaseReport where
  phase : Nat
  valid : Bool
  seq : BitVec 8
deriving DecidableEq, Repr

/-- What the data of a STATE mirror entry stands for (R617, R620). The spec gives the regions and not their byte layout. -/
inductive LedgerItem where
  /-- A bent ring: its configuration and state (WQ_STATE), WQ region. -/
  | ring (q kind group noticeBook logN weight burst : Nat) (base shadow stateWord : Nat) (ci done : BitVec 16)
      (window : List (BitVec 16 × Nat × Bool × Nat))
  /-- A bent daybook: its configuration and state. -/
  | book (b logN : Nat) (base pendingAddr : Nat) (home : Option Nat) (vector irqCount irqDelay state latched : Nat)
  /-- A mirrored setting: the opcode and the parameter area and image of the bench command that wrote it. -/
  | setting (opcode : Nat) (params image : List Byte)
  /-- A stream-table entry, a recovery function and an account, each as its READ command replies. -/
  | stream (handle : Nat) (entry : List Byte)
  | rcvy (index : Nat) (entry : List Byte)
  | account (id : Nat) (entry : List Byte)
  /-- A delivery of the journal: an RX_DELIVER entry past its queue's done index. -/
  | journal (queue : Nat) (index : BitVec 16) (count : Nat) (isAccount : Bool) (path : Nat) (matchAlg : Bool)
      (target seq : Nat)
deriving DecidableEq, Repr

/-- A mirror entry, R619. -/
inductive MirrorEntry where
  | wqAccept (queue : Nat) (index : BitVec 16) (len : Nat) (seqValid : Bool) (handle seq : Nat)
  | rxDeliver (queue : Nat) (index : BitVec 16) (count : Nat) (isAccount : Bool) (path : Nat) (matchAlg : Bool)
      (target seq : Nat)
  | wqDone (queue : Nat) (index : BitVec 16)
  | state (item : LedgerItem)
deriving DecidableEq, Repr

/-- Status codes of R571. -/
inductive Status where
  | ok | okClamped | busy | late | noCapacity | inconsistent | badOpcode | badLength | notActive | sealed
  | fencedUnit | unbraced | timeout | internal
deriving DecidableEq, Repr


/-- A command or event of the block: one constructor per row of spec/opcode_table.json. A row with an opcode is a
command of the clerk (operand: the packet and where it came from); every other row is an event, with what the
event brings. -/
inductive Instr where
  /-- NOP (R603): Etelo general command that completes with OK and detail 0. -/
  | nop (c : Cmd)
  /-- IDENTIFY (R603): Returns the 64-byte identity reply: part, stepping, order-code bits, versions, clock and bent identity, hallmark. -/
  | identify (c : Cmd)
  /-- FENCE (R576): Command-queue fence that completes once every command taken before it from its queue has completed. -/
  | fence (c : Cmd)
  /-- ECHO (R603): Copies the parameter area to the reply buffer and returns its CRC-32 in the detail word. -/
  | echo (c : Cmd)
  /-- REG_READ (R604): The clerk reads 1 to 64 BAR0 registers as software would, latching included, below 0x0100_0000. -/
  | regRead (c : Cmd)
  /-- REG_WRITE (R604): The clerk writes one BAR0 register as software would, refusing doorbell pages and GLB_RESET. -/
  | regWrite (c : Cmd)
  /-- BENCH_OPEN (R590): Takes the lowest free bench, records owner queue and scope, and returns the handle. -/
  | benchOpen (c : Cmd)
  /-- BENCH_DRY_FIT (R592): Checks the bench as a whole against the settings in force and returns FITTED with STAGE_US or the failing check. -/
  | benchDryFit (c : Cmd)
  /-- BENCH_PEG (R596): Runs the dry fit again and pegs the bench at a named cycle, span time or the next safe point. -/
  | benchPeg (c : Cmd)
  /-- BENCH_DISCARD (R598): Frees an OPEN, FITTED or PEGGED bench without applying it, unless the peg instant is within 20 µs. -/
  | benchDiscard (c : Cmd)
  /-- BENCH_STATUS (R591): Returns the 48-byte state of a bench: state, scope, commands, bytes, clamps, stage time and peg instant. -/
  | benchStatus (c : Cmd)
  /-- BENCH_STAGED (R573): Staging of a pegged bench ends no later than STAGE_US after the peg is accepted. -/
  | benchStaged (bench : Nat)
  /-- BENCH_PEG_INSTANT (R599): At the peg tick every setting of the pegged bench applies at once and BENCH_PEG completes within 10 µs. -/
  | benchPegInstant (bench : Nat)
  /-- COMMAND_TAKE (R572): The clerk takes the head command of a running command queue, copies the packet and passes CI. -/
  | commandTake
  /-- CARRIED_COMMAND_RX (R585): A post executes a carried command once per CARRY_SEQ from the first valid carriage copy. -/
  | carriedCommandRx (king : BitVec 64) (carry : Carry)
  /-- CARRIED_REPLY_RX (R586): The king post receives a carried-command reply in an owner's static slot. -/
  | carriedReplyRx (owner : Nat) (data : List Byte)
  /-- PARTNER_COMMAND_RX (R582): A command arriving over the tie beam is executed at the partner as a command of its own scope. -/
  | partnerCommandRx (ref opcode : Nat) (cmd : Cmd)
  /-- PARTNER_REPLY_RX (R858): The partner's reply and CMD_DONE return over the tie beam and the serving post writes them. -/
  | partnerReplyRx (ref : Nat) (st : Status) (clamps detail : Nat) (reply : List Byte)
  /-- PARTNER_REPLY_TIMEOUT (R582): A PARTNER command with no answer within 10 ms completes with TIMEOUT. -/
  | partnerReplyTimeout
  /-- TIME_GET (R50): Returns span time, cycle, time status, uncertainty and offset at the clerk's execution. -/
  | timeGet (c : Cmd)
  /-- TIME_SET (R106): Steps the counter to a new span time at execution or at the next PPS edge, where allowed. -/
  | timeSet (c : Cmd)
  /-- TIME_ACCEPT (R48): Makes COARSE time VALID on a post without a span time parent. -/
  | timeAccept (c : Cmd)
  /-- TIME_SLEW (R107): Starts a slew of a signed offset at no more than TIM_SLEW_MAX. -/
  | timeSlew (c : Cmd)
  /-- TIME_PORT_READ (R76): Returns a copy of one port's 88-byte timing register set. -/
  | timePortRead (c : Cmd)
  /-- TIME_SET_PPS_TIMEOUT (R106): A TIME_SET with AT_PPS that sees no edge within 1.1 s completes with TIMEOUT. -/
  | timeSetPpsTimeout
  /-- SET_TIME_REF (R59): Bench command that sets one entry of the DPLL reference list. -/
  | setTimeRef (c : Cmd)
  /-- SET_DPLL (R109): Bench command that sets loop bandwidth, holdover limit and stability, convergence threshold and slew limit. -/
  | setDpll (c : Cmd)
  /-- SET_PTP_INSTANCE (R860): Bench command that sets profile, domain and priorities of a PTP instance. -/
  | setPtpInstance (c : Cmd)
  /-- SET_PTP_PORT (R108): Bench command that joins a port to a PTP instance and sets its intervals, transport and asymmetry. -/
  | setPtpPort (c : Cmd)
  /-- SET_PORT_LATENCY (R83): Bench command that sets a port's receive and transmit timestamp trims. -/
  | setPortLatency (c : Cmd)
  /-- SET_SYNCE (R72): Bench command that sets SyncE transmit, reference use, ESMC and EEC option of a port. -/
  | setSynce (c : Cmd)
  /-- SET_TIME_IO (R101): Bench command that sets PPS input edge, time-of-day labelling and baud, and PPS and 10 MHz outputs. -/
  | setTimeIo (c : Cmd)
  /-- SET_TS_DAYBOOK (R86): Bench command that names the daybook of a port's timestamp queue. -/
  | setTsDaybook (c : Cmd)
  /-- SLEW_DONE (R55): A slew ends once its offset has been removed. -/
  | slewDone
  /-- TIME_BUS_LOAD (R38): Every 1,024 ticks the time bus loads the full 96-bit value into every tap. -/
  | timeBusLoad
  /-- TIME_BUS_RECAL (R38): Tap delay corrections are recalibrated once per second and on a 2 °C change. -/
  | timeBusRecal
  /-- DPLL_UPDATE (R63): An offset measurement updates the DPLL and may move it between FREERUN, ACQUIRE, LOCKED and HOLDOVER. -/
  | dpllUpdate (offset : Int)
  /-- REF_QUALIFIED (R62): A reference present within ±100 ppm for 2 s without interruption becomes qualified. -/
  | refQualified (kind source : Nat)
  /-- REF_DISQUALIFIED (R62): A reference is disqualified on its timeout or fault condition, and the DPLL may switch or hold over. -/
  | refDisqualified (kind source : Nat)
  /-- HOLDOVER_LIMIT_EXPIRE (R48): HOLDOVER longer than TIM_HOLD_LIMIT turns the flag from VALID to COARSE. -/
  | holdoverLimitExpire
  /-- PPS_IN_EDGE (R99): The selected TIM_PPS_IN edge is timestamped into TIM_PPS_IN_TIME and applies a waiting AT_PPS TIME_SET. -/
  | ppsInEdge
  /-- TOD_MESSAGE_RX (R101): A time-of-day message labels a PPS edge, or is ignored and counted. -/
  | todMessageRx (isTime : Bool) (sec : Nat)
  /-- SECOND_BOUNDARY (R102): At each span-time second TIM_PPS_OUT and TIM_10M_OUT rise unless suppressed. -/
  | secondBoundary
  /-- SYNC_TX (R65): A master port sends Sync, one-step or two-step, at its sync interval. -/
  | syncTx (p : Nat)
  /-- ANNOUNCE_TX (R66): A port sends Announce with the king priority vector at its announce interval. -/
  | announceTx (p : Nat)
  /-- SYNC_RX (R71): A received Sync, with Follow_Up where two-step, gives the offset to the parent. -/
  | syncRx (p : Nat) (m : PtpMsg) (followUp : Bool) (report : Option PhaseReport) (t : Nat)
  /-- ANNOUNCE_RX (R66): A received Announce is ranked by the king priority vector in the best master clock algorithm. -/
  | announceRx (p domain : Nat) (a : Announce)
  /-- PDELAY_REQ_TX (R68): A port sends Pdelay_Req at its Pdelay interval. -/
  | pdelayReqTx (p : Nat)
  /-- PDELAY_REQ_RX (R65): The port hardware answers a received Pdelay_Req. -/
  | pdelayReqRx (p : Nat) (m : PtpMsg) (t : Nat)
  /-- PDELAY_RESP_RX (R68): A Pdelay response completes an exchange and updates meanLinkDelay. -/
  | pdelayRespRx (p : Nat) (m : PtpMsg) (followUp : Bool) (t : Nat)
  /-- PDELAY_LOST (R70): An exchange without valid response in the interval is counted, and ALLOWED_LOST losses end time capability. -/
  | pdelayLost (p : Nat)
  /-- SYNC_TIMEOUT (R62): No Sync for 3 sync intervals on a slave port counts SYNC_TIMEOUT and disqualifies the reference. -/
  | syncTimeout (p : Nat)
  /-- PHASE_REPORT_TX (R77): Every 2^-7 s a port sends its phase report TLV on a Follow_Up, Sync or Signaling message. -/
  | phaseReportTx (p : Nat)
  /-- PHASE_REPORT_RX (R79): A received phase report updates TIM_P_PHASE_REV and drives the phase procedure on a phase-locked slave port. -/
  | phaseReportRx (p : Nat) (r : PhaseReport) (fwd : Nat)
  /-- ESMC_RX (R73): A received ESMC gives the quality level of a SyncE port. -/
  | esmcRx (p ql : Nat)
  /-- ESMC_TX (R73): A port sends ESMC with DNU toward its reference and the DPLL's quality elsewhere. -/
  | esmcTx (p : Nat)
  /-- SPAN_STATUS (R145): Returns the 36-byte span status: state, cycle, king, SET_ID and cycle start. -/
  | spanStatus (c : Cmd)
  /-- SPAN_JOIN (R153): Takes a DISABLED span-cycle engine to LISTEN and starts the listen timer. -/
  | spanJoin (c : Cmd)
  /-- SPAN_LEAVE (R153): Takes the span-cycle engine to DISABLED and cancels cycle-named actions. -/
  | spanLeave (c : Cmd)
  /-- PATTERN_CHANGE (R154): At the king post in KING, announces a pattern change for cycle n + k. -/
  | patternChange (c : Cmd)
  /-- SPAN_OWNER_READ (R134): Returns the 64-byte counter set of one owner index. -/
  | spanOwnerRead (c : Cmd)
  /-- SET_SPAN_LOCAL (R156): Bench command that sets king capability, bell loss limit, raise pattern, listen time and ready lead. -/
  | setSpanLocal (c : Cmd)
  /-- SET_SPAN_PORT (R156): Bench command that makes a trunk port a span port and sets its channel. -/
  | setSpanPort (c : Cmd)
  /-- SET_PATTERN_SET (R142): Bench command that loads the pattern set image from host memory. -/
  | setPatternSet (c : Cmd)
  /-- SET_SLOT_SOURCE (R155): Bench command that binds an owned slot or frame identifier of a pattern to a slot source. -/
  | setSlotSource (c : Cmd)
  /-- LISTEN_TIMER_EXPIRE (R145): The listen timer expires and a king-capable post with valid time and image raises, or the timer restarts. -/
  | listenTimerExpire
  /-- CYCLE_BOUNDARY (R112): At T(n) the post captures named stocktakes, advances the cycle counter, applies cycle pegs and launches the cycle's frames. -/
  | cycleBoundary
  /-- BELL_RX (R145): A received bell is judged and drives trial, integration, yield, rival counting or loss of the king. -/
  | bellRx (p : Nat) (h : SpanHdr) (b : Bell) (t : Nat)
  /-- BELL_MISSING (R145): A cycle's bell fails to arrive, counting BELL_MISSED and possibly leaving the span cycle. -/
  | bellMissing
  /-- SLOT_READY_LEAD (R126): At Tref − READY_LEAD of an owned slot the post takes the bound source's head frame if ready and fitting. -/
  | slotReadyLead (slot : Nat)
  /-- SPAN_LAUNCH (R119): An originated slot, dynamic or carriage frame is launched at its instant L, or counted LAUNCH_BLOCKED. -/
  | spanLaunch
  /-- MINISLOT_END (R129): At the end of each mini-slot the post advances its mini-slot count by the procedure. -/
  | minislotEnd
  /-- SLOT_END (R134): At a static slot's end a receiver counts EMPTY for an owner with no valid copy. -/
  | slotEnd (slot : Nat)
  /-- SLOT_COPY_RX (R132): A received SLOT copy is judged by header and timestamp and delivered once and relayed. -/
  | slotCopyRx (p : Nat) (h : SpanHdr) (data : List Byte) (t : Nat)
  /-- DYN_COPY_RX (R130): A received DYN copy is judged, or counts DYN_DESYNC and silences the post for the cycle. -/
  | dynCopyRx (p : Nat) (h : SpanHdr) (data : List Byte) (t : Nat)
  /-- CARRY_RX (R144): A received carriage frame is relayed and its image part assembled, replacing the stored image when complete. -/
  | carryRx (p : Nat) (h : SpanHdr) (c : Carry) (t : Nat)
  /-- RELAY_LAUNCH (R120): A valid received span copy is relayed at its instant L with HOPS raised, or counted RELAY_LATE. -/
  | relayLaunch
  /-- GATE_ENTRY_CHANGE (R164): The cutting-list entry in force changes at an entry boundary, setting gates, HOLD and SPAN. -/
  | gateEntryChange (p : Nat)
  /-- GATE_STATUS (R158): Returns a port's gate status, list position, cycle and next entry change. -/
  | gateStatus (c : Cmd)
  /-- GATE_LIST_READ (R196): Writes the image of a port's cutting list of one pattern into a host buffer. -/
  | gateListRead (c : Cmd)
  /-- SET_CUTTING_LIST (R163): Bench command that copies a cutting-list image into the bench or clears a list. -/
  | setCuttingList (c : Cmd)
  /-- SET_GATE_PORT (R197): Bench command that sets gate mode, unscheduled mask, fragment fit, offset, guard, overhead and resume limit. -/
  | setGatePort (c : Cmd)
  /-- WIRE_FREE (R190): The wire of a port becomes free at the end of a frame or fragment and its gap. -/
  | wireFree (p : Nat)
  /-- FRAGMENT_END (R185): A pre-emptable fragment ends at its legal boundary and the frame is suspended or held. -/
  | fragmentEnd (p : Nat)
  /-- FRAME_TX_END (R27): A frame's last bit leaves the MAC, its cells are released and its completion written. -/
  | frameTxEnd (p : Nat)
  /-- CBS_CREDIT_ELIGIBLE (R202): A CBS class's credit reaches zero and the class becomes eligible again. -/
  | cbsCreditEligible (p c : Nat)
  /-- SHAPER_ELIGIBLE (R222): A flow's token bucket reaches zero and the flow becomes eligible. -/
  | shaperEligible (p c n : Nat)
  /-- ENQUEUE_COMPLETE (R213): A frame completes enqueue on a flow, takes its finish tag and may trigger a decision. -/
  | enqueueComplete (p : Nat)
  /-- FLOW_AGE_EXPIRE (R209): A learned binding idle for QSV_FLOW_AGE is released. -/
  | flowAgeExpire (p n : Nat)
  /-- QSV_STATUS (R237): Returns a copy of a port's QSV sub-block. -/
  | qsvStatus (c : Cmd)
  /-- FLOW_READ (R238): Returns the 64-byte state of a flow context or spill flow. -/
  | flowRead (c : Cmd)
  /-- FILTER_READ (R239): Returns the settings and counters of a stream filter. -/
  | filterRead (c : Cmd)
  /-- METER_READ (R239): Returns the settings, buckets and counters of a flow meter. -/
  | meterRead (c : Cmd)
  /-- FILTER_UNBLOCK (R232): Clears the blocked state of a stream filter. -/
  | filterUnblock (c : Cmd)
  /-- METER_UNMARK (R234): Clears MARK_RED of a flow meter. -/
  | meterUnmark (c : Cmd)
  /-- SET_QSV_PORT (R199): Bench command that sets Oport, CBS enables, ranks and flow age of a port. -/
  | setQsvPort (c : Cmd)
  /-- SET_CLASS_SERVICE (R204): Bench command that sets idleSlope, default weight and Oflow and the spill-flow settings of a class. -/
  | setClassService (c : Cmd)
  /-- SET_FLOW (R210): Bench command that makes or removes a static flow binding with weight and shaper. -/
  | setFlow (c : Cmd)
  /-- SET_STREAM_FILTER (R230): Bench command that defines or removes a stream filter. -/
  | setStreamFilter (c : Cmd)
  /-- SET_FLOW_METER (R236): Bench command that defines or removes a flow meter. -/
  | setFlowMeter (c : Cmd)
  /-- PAUSE_RX (R301): A received PAUSE or PFC frame is validated, counted and starts or stops pause timers. -/
  | pauseRx (p : Nat) (b : List Byte) (fcsBad : Bool) (t : Nat)
  /-- PAUSE_TIMER_EXPIRE (R302): A pause timer runs out and its classes stop being paused. -/
  | pauseTimerExpire (p k : Nat)
  /-- PAUSE_REFRESH (R307): Each half PAUSE_QUANTA above XON the pause request is sent again. -/
  | pauseRefresh (p k : Nat)
  /-- MAC_MERGE_STATUS (R275): Returns a copy of a port's MMG sub-block. -/
  | macMergeStatus (c : Cmd)
  /-- MAC_MERGE_PARTNER (R276): Replaces a port's partner values when software runs LLDP. -/
  | macMergePartner (c : Cmd)
  /-- VERIFY_RESTART (R275): Returns a FAILED verify state machine to WAIT_PARTNER. -/
  | verifyRestart (c : Cmd)
  /-- SET_MAC_MERGE (R277): Bench command that sets MAC merge enable, verify, nesting, pause-at-fragment, fragment size and levels. -/
  | setMacMerge (c : Cmd)
  /-- VERIFY_SEND (R268): A verify mPacket is sent at the next free wire and the verify timer starts. -/
  | verifySend (p : Nat)
  /-- VERIFY_TIMEOUT (R268): The verify timer expires and verify is retried or fails. -/
  | verifyTimeout (p : Nat)
  /-- VERIFY_MPACKET_RX (R261): A valid SMD-V is answered with SMD-R at the next free wire. -/
  | verifyMpacketRx (p : Nat) (bad : Bool)
  /-- RESPOND_MPACKET_RX (R268): A valid SMD-R moves the verify state machine to SUCCEEDED. -/
  | respondMpacketRx (p : Nat) (bad : Bool)
  /-- FRAGMENT_RX (R261): A received fragment opens, appends to, completes or discards a reassembly buffer. -/
  | fragmentRx (p smd frag crc : Nat) (b : List Byte) (t : Nat)
  /-- LLDP_TX (R264): The clerk's LLDP agent sends the MAC merge TLVs every 30 s or within 1 s of a change. -/
  | lldpTx (p : Nat)
  /-- LLDPDU_RX (R264): A received LLDPDU updates the partner's pre-emption values and is delivered. -/
  | lldpduRx (p : Nat) (b : List Byte) (t : Nat)
  /-- PARTNER_VALUES_EXPIRE (R266): Partner values expire at the end of their TTL. -/
  | partnerValuesExpire (p : Nat)
  /-- OPERATION_MODE_CHANGE (R270): A pending change between standard and nested operation takes effect once no frame is suspended. -/
  | operationModeChange (p : Nat)
  /-- PORT_STATUS (R326): Returns a copy of a port's MAC sub-block. -/
  | portStatus (c : Cmd)
  /-- LINK_RESTART (R281): Takes a port's link DOWN and retrains it. -/
  | linkRestart (c : Cmd)
  /-- MACSEC_SC_READ (R293): Returns a secure channel's SCI, associations, PNs and counters, never keys. -/
  | macsecScRead (c : Cmd)
  /-- THRESH_RESET (R310): Sets a port's start thresholds back to PRT_THRESH_BASE at once. -/
  | threshReset (c : Cmd)
  /-- SET_PORT_MODE (R278): Bench command that sets a port's mode, FEC and lane polarities. -/
  | setPortMode (c : Cmd)
  /-- SET_PORT_FRAME (R287): Bench command that sets MAX_LEN, default priority, thresholds, link timers, event daybook, decay and MAC address. -/
  | setPortFrame (c : Cmd)
  /-- SET_FLOW_CONTROL (R328): Bench command that sets PAUSE or PFC mode, honour, generation, quanta, map and thresholds. -/
  | setFlowControl (c : Cmd)
  /-- SET_EEE (R298): Bench command that sets EEE enable, idle time and wake time of a port. -/
  | setEee (c : Cmd)
  /-- SET_PORT_WAKE (R314): Bench command that arms a port's wake sources and knock code. -/
  | setPortWake (c : Cmd)
  /-- SET_MACSEC_PORT (R294): Bench command that sets a port's MACsec enable, validation, protect-all, default channel and PN warning. -/
  | setMacsecPort (c : Cmd)
  /-- SET_MACSEC_SC (R329): Bench command that defines or removes a secure channel. -/
  | setMacsecSc (c : Cmd)
  /-- SET_MACSEC_SA (R293): Bench command that installs or removes a secure association. -/
  | setMacsecSa (c : Cmd)
  /-- PCS_LINK_UP (R281): PCS link becomes true, taking the link UP from DOWN or DEBOUNCE. -/
  | pcsLinkUp (p : Nat)
  /-- PCS_LINK_DOWN (R281): PCS link becomes false on an UP link and the debounce timer starts. -/
  | pcsLinkDown (p : Nat) (signal hiBer : Bool)
  /-- LINK_DEBOUNCE_EXPIRE (R281): The debounce timer expires, the link goes DOWN, suspended frames are discarded and the discard timer starts. -/
  | linkDebounceExpire (p : Nat)
  /-- LINK_DOWN_DISCARD (R281): The discard timer expires and every frame queued on the DOWN port is discarded. -/
  | linkDownDiscard (p : Nat)
  /-- FRAME_RX (R286): A received frame is judged for length and FCS, verified by MACsec and written into the frame hold. -/
  | frameRx (p : Nat) (b : List Byte) (fcsBad cut : Bool) (t : Nat)
  /-- TS_RECORD_WRITE (R86): A timestamp record leaves its queue into its daybook once the daybook has room. -/
  | tsRecordWrite (p : Nat)
  /-- TX_UNDERRUN (R309): A spilled frame runs dry, is ended with an inverted FCS and becomes its class's retry. -/
  | txUnderrun (p : Nat)
  /-- UNDERRUN_DECAY (R310): After UNDERRUN_DECAY without underrun a class's start threshold falls by 512 bytes. -/
  | underrunDecay (p c : Nat)
  /-- LPI_ENTER (R299): After EEE_IDLE of idle wire with nothing pending the transmitter enters LPI. -/
  | lpiEnter (p : Nat)
  /-- KNOCK_RX (R316): A knock frame is recognised at the MAC, waking a sleeping post or counted. -/
  | knockRx (p : Nat) (b : List Byte) (fcsBad : Bool) (t : Nat)
  /-- STOCKTAKE (R319): Reserves a stocktake bank for a capture now, at a cycle, or at a span time, SELF or SPAN-wide. -/
  | stocktake (c : Cmd)
  /-- STOCKTAKE_STATUS (R320): Returns the stocktake common page. -/
  | stocktakeStatus (c : Cmd)
  /-- STOCKTAKE_RELEASE (R330): Returns a HELD bank to FREE. -/
  | stocktakeRelease (c : Cmd)
  /-- STOCKTAKE_CANCEL (R330): Cancels a RESERVED stocktake and frees its bank. -/
  | stocktakeCancel (c : Cmd)
  /-- STOCKTAKE_COPY_DONE (R321): The bank copy ends within 20 µs, VALID is written and STOCKTAKE completes. -/
  | stocktakeCopyDone (bank : Nat)
  /-- FRAME_DISPATCH (R18): A frame is offered to a joiner thread once its first 256 bytes are in the frame hold. -/
  | frameDispatch (upsets : List (Nat × Nat × Nat))
  /-- FRAME_DATA_ARRIVAL (R405): Frame bytes a thread waits for arrive and the thread becomes ready again. -/
  | frameDataArrival (id n : Nat)
  /-- LOOKUP_ANSWER (R448): A table-cache lookup answers and the waiting thread becomes ready. -/
  | lookupAnswer (k : Nat)
  /-- STREAM_ENGINE_FRAME (R331): The stream engine identifies, polices and runs recovery or account ordering on a frame and returns a verdict. -/
  | streamEngineFrame (id : Nat) (miss : Bool)
  /-- CACHE_FETCH_DONE (R379): A missed entry, function or account arrives in the cache and its waiting frame is handled. -/
  | cacheFetchDone (id : Nat)
  /-- LEARN_AGE_EXPIRE (R347): A learned entry unused for LEARN_AGE is freed with its function. -/
  | learnAgeExpire (h : Nat)
  /-- RCVY_RESET_TIMEOUT (R362): RESET_MS since LAST_PASS sets a function's TAKE_ANY. -/
  | rcvyResetTimeout (r : Nat)
  /-- LATENT_ERROR_TEST (R363): At the end of each LE_PERIOD the function or account runs the latent-error test. -/
  | latentErrorTest (isAccount : Bool) (index : Nat)
  /-- ACCOUNT_HOLD_EXPIRE (R373): HOLD_MAX after HOLD_START the account releases through its highest held number. -/
  | accountHoldExpire (a : Nat)
  /-- ACCOUNT_RESET_TIMEOUT (R374): RESET_MS since LAST_PASS with nothing held sets the account's TAKE_ANY. -/
  | accountResetTimeout (a : Nat)
  /-- STREAM_STATUS (R331): Returns a copy of the STM block registers. -/
  | streamStatus (c : Cmd)
  /-- STREAM_READ (R386): Returns a stream-table entry. -/
  | streamRead (c : Cmd)
  /-- STREAM_FIND (R387): Finds the handle of an entry with a given method, key and port. -/
  | streamFind (c : Cmd)
  /-- RCVY_READ (R386): Returns a recovery-function record. -/
  | rcvyRead (c : Cmd)
  /-- ACCOUNT_READ (R386): Returns the first 512 bytes of an account record. -/
  | accountRead (c : Cmd)
  /-- SEQ_RESET (R388): Resets a function, a stream's generation or an account's sequence state. -/
  | seqReset (c : Cmd)
  /-- STREAM_FORGET (R389): Frees a LEARNED entry and its function at once. -/
  | streamForget (c : Cmd)
  /-- SET_STREAMS (R349): Bench command that writes or frees stream-table entries from an array. -/
  | setStreams (c : Cmd)
  /-- SET_RECOVERY (R357): Bench command that defines or frees STATIC recovery functions. -/
  | setRecovery (c : Cmd)
  /-- SET_ACCOUNTS (R371): Bench command that creates, changes or removes accounts. -/
  | setAccounts (c : Cmd)
  /-- SET_MASK_RULE (R343): Bench command that sets or removes a mask-and-match rule. -/
  | setMaskRule (c : Cmd)
  /-- SET_LEARN_RULE (R391): Bench command that sets a learning rule. -/
  | setLearnRule (c : Cmd)
  /-- SET_STREAM_GLOBAL (R393): Bench command that sets DCW port, learning, event daybook, learn age and a port's PRP and HSR settings. -/
  | setStreamGlobal (c : Cmd)
  /-- THREAD_TIMEOUT (R430): A thread idle for 65,536 cycles is a fault; its frame is discarded and the foreman told. -/
  | threadTimeout (k : Nat)
  /-- CS_SCRUB (R438): A cluster scrubs its control-store copy, correcting errors in place. -/
  | csScrub (c a m : Nat)
  /-- CS_REWRITE (R468): A cluster rewrites its copy once no pre-peg thread remains after a microcode load. -/
  | csRewrite (c : Nat)
  /-- ROTATION_FENCE (R429): The self-test rotation fences the next joiner. -/
  | rotationFence
  /-- ROTATION_TEST_END (R429): A joiner's 500 µs test ends and it returns to service. -/
  | rotationTestEnd (fail : Bool)
  /-- CLUSTER_GATE (R770): A cluster idle for CLUSTER_GATE_T is gated. -/
  | clusterGate (c : Nat)
  /-- JOINERY_STATUS (R394): Returns a copy of the JNR block registers. -/
  | joineryStatus (c : Cmd)
  /-- MICROCODE_READ (R471): Writes an image of customer microcode words into a host buffer. -/
  | microcodeRead (c : Cmd)
  /-- HOOK_TABLE_READ (R472): Writes entries of a hook table into a host buffer. -/
  | hookTableRead (c : Cmd)
  /-- SET_MICROCODE (R467): Bench command that copies a customer microcode image into the bench. -/
  | setMicrocode (c : Cmd)
  /-- SET_HOOK (R461): Bench command that sets a hook's enable, entry, budget, ports and kinds. -/
  | setHook (c : Cmd)
  /-- SET_CLASS_RULES (R473): Bench command that writes classification rules. -/
  | setClassRules (c : Cmd)
  /-- SET_STEER_ENTRIES (R473): Bench command that writes steer entries. -/
  | setSteerEntries (c : Cmd)
  /-- SET_HOOK_TABLE (R473): Bench command that replaces a hook table. -/
  | setHookTable (c : Cmd)
  /-- SPILL_START (R28): Frame-hold occupancy reaches the HI mark and the spill engine moves frames until LO. -/
  | spillStart
  /-- SPILL_RETURN (R30): A spilled frame's bytes return to the hold and it becomes ready at its start threshold. -/
  | spillReturn (id n : Nat)
  /-- WINDOW_HANDOFF (R670): A telegram of the window queue crosses the input port when the island is READY. -/
  | windowHandoff
  /-- WQ_DOORBELL (R482): A write of WQ_DB sets PI, or stops the queue on a malformed doorbell. -/
  | wqDoorbell (fn q : Nat) (v : BitVec 16)
  /-- WQ_INVALIDATE (R499): A write of WQ_INV discards prefetched copies of units, increments INV_ACK and writes the shadow. -/
  | wqInvalidate (fn q : Nat) (v : BitVec 32)
  /-- BOOK_DOORBELL (R512): A write of BOOK_DB sets a daybook's BCI, or sends it to ERROR when malformed. -/
  | bookDoorbell (fn q : Nat) (v : BitVec 16)
  /-- CQ_CFG_WRITE (R526): A write of CQ_CFG sets up a command queue or enables or disables it. -/
  | cqCfgWrite (fn q off : Nat) (v : BitVec 32)
  /-- ENTRY_FETCHED (R498): The read of a prefetched entry returns and the entry is held as read. -/
  | entryFetched (q : Nat) (bad : Bool)
  /-- ARBITER_ROUND (R505): The start arbiter serves TX queues in weighted passes of bursts. -/
  | arbiterRound
  /-- SHADOW_WRITE (R485): The device writes a queue's shadow within 1 µs of a CI change or state change. -/
  | shadowWrite (q : Nat)
  /-- WQ_STOPPED (R502): A STOPPING queue with every started entry complete becomes DISABLED and WQ_DISABLE completes. -/
  | wqStopped (q : Nat)
  /-- RX_DELIVERY (R491): A DELIVERY channel writes a frame into RX buffers, result area and completions in order. -/
  | rxDelivery (q : Nat)
  /-- WQ_FENCE_DONE (R520): A fence completes once all covered work reaches its defined point. -/
  | wqFenceDone (q : Nat)
  /-- DAYBOOK_RECORD (R513): A notice is written to its daybook, or folded into the pending bitmap when full. -/
  | daybookRecord (b : Nat)
  /-- DAYBOOK_OVERFLOW (R514): A daybook with room and a set bitmap writes the bitmap and an OVERFLOW record. -/
  | daybookOverflow (b : Nat)
  /-- DAYBOOK_IRQ (R516): A daybook sends its MSI-X vector after IRQ_COUNT records, IRQ_DELAY, or an OVERFLOW. -/
  | daybookIrq (b : Nat)
  /-- WQ_STATUS (R527): Returns the 96-byte state of a work queue. -/
  | wqStatus (c : Cmd)
  /-- WQ_ENABLE (R528): Enables a DISABLED TX or RX queue with its ring and settings. -/
  | wqEnable (c : Cmd)
  /-- WQ_DISABLE (R529): Takes a queue to STOPPING, completing when it reaches DISABLED. -/
  | wqDisable (c : Cmd)
  /-- BOOK_STATUS (R531): Returns the 64-byte state of a daybook. -/
  | bookStatus (c : Cmd)
  /-- BOOK_ENABLE (R530): Enables a DISABLED daybook with its ring, home page and interrupt settings. -/
  | bookEnable (c : Cmd)
  /-- BOOK_DISABLE (R531): Disables a daybook, discarding its bitmap into DROPPED. -/
  | bookDisable (c : Cmd)
  /-- SET_WQ_SERVICE (R532): Bench command that sets a TX queue's weight and burst. -/
  | setWqService (c : Cmd)
  /-- FETCH_FRAME_MOVE (R536): A FETCH channel moves a TX entry's frame from host memory into the frame hold. -/
  | fetchFrameMove (e ch : Nat) (bad : Bool)
  /-- DRY_CHANNEL_DOORBELL (R545): A write of DRY_CH_DB sets DB_PENDING or wakes a PARKED chain channel. -/
  | dryChannelDoorbell (fn e ch : Nat)
  /-- DESC_FETCHED (R542): A descriptor read returns, is checked and starts moving, or the channel errors. -/
  | descFetched (e ch : Nat) (bad listBad : Bool)
  /-- DESC_FINISHED (R545): A descriptor's last write leaves, its STATUS is written and the channel follows NEXT or parks. -/
  | descFinished (e ch : Nat)
  /-- DESC_MOVE_ERROR (R549): An error during a move marks the descriptor BAD and the channel goes on. -/
  | descMoveError (e ch : Nat) (write : Bool) (addr n : Nat)
  /-- DESC_FENCE_DONE (R551): A fence descriptor completes after its read-backs return. -/
  | descFenceDone (e ch : Nat) (bad : Bool) (addr : Nat)
  /-- LATE_ERROR (R552): A write error arriving after STATUS is written is recorded in LATE_STATUS. -/
  | lateError (e ch addr beat : Nat)
  /-- CHAIN_STOPPED (R545): A STOPPING channel with every STATUS and response in becomes DISABLED. -/
  | chainStopped (e ch : Nat)
  /-- PACING_HI (R556): A frame channel's FILL reaches HI and it starts MOVING. -/
  | pacingHi (e ch : Nat)
  /-- PACING_FLUSH (R556): The oldest waiting frame has waited FLUSH and the channel starts MOVING. -/
  | pacingFlush (e ch : Nat)
  /-- DRAY_STATUS (R562): Returns a channel's registers. -/
  | drayStatus (c : Cmd)
  /-- DRAY_START (R562): Starts a DISABLED chain channel at a descriptor head. -/
  | drayStart (c : Cmd)
  /-- DRAY_STOP (R545): Stops a chain channel after its descriptor in progress finishes. -/
  | drayStop (c : Cmd)
  /-- DRAY_ABORT (R545): Stops a chain channel, ending its descriptor at the next beat as ABORTED. -/
  | drayAbort (c : Cmd)
  /-- SET_DRAY_CHANNEL (R563): Bench command that sets a channel's priority, vector, pacing and window. -/
  | setDrayChannel (c : Cmd)
  /-- BENT_STATUS (R627): Returns a copy of the BNT block registers. -/
  | bentStatus (c : Cmd)
  /-- BENT_SWITCH (R655): Runs a handover at the next boundary on a BRACED bent. -/
  | bentSwitch (c : Cmd)
  /-- BENT_RESIGN (R656): Makes the ACTIVE post resign. -/
  | bentResign (c : Cmd)
  /-- BENT_RESYNC (R657): Returns a non-fatally resigned post to FORMING or restarts a resynchronisation. -/
  | bentResync (c : Cmd)
  /-- LEDGER_READ (R658): Reads a region of an orphan's ledger to host memory. -/
  | ledgerRead (c : Cmd)
  /-- LEDGER_WRITE (R658): Writes a ledger region into a FORMING post. -/
  | ledgerWrite (c : Cmd)
  /-- BENT_ASSUME (R659): With FORCE, makes an ORPHAN or FORMING post take over on the ledger it holds. -/
  | bentAssume (c : Cmd)
  /-- SET_BENT (R660): Bench command that forms or dissolves a bent and sets its timers. -/
  | setBent (c : Cmd)
  /-- FORM_WAIT_EXPIRE (R628): A non-home FORMING post seeing PARTNER_HELD low for FORM_WAIT takes control. -/
  | formWaitExpire
  /-- HEARTBEAT_TX (R630): Each post sends HEARTBEAT every 10 µs on each lane that is up. -/
  | heartbeatTx
  /-- HEARTBEAT_RX (R630): A received heartbeat carries the partner's role and sync state. -/
  | heartbeatRx (bad : Bool) (role : Nat) (inSync cold : Bool)
  /-- HEARTBEAT_LOSS (R630): No packet from the partner for HB_MISS × 10 µs sets HB_LOST and tells the foreman. -/
  | heartbeatLoss
  /-- MIRROR_RX (R618): The standby applies mirror entries in MSEQ order and acknowledges. -/
  | mirrorRx (bad : Bool) (mseq : Nat) (entries : List MirrorEntry)
  /-- ACK_RX (R618): An ACK confirms mirror entries and releases steps waiting for them. -/
  | ackRx (n : Nat)
  /-- ACK_OVERDUE (R622): An ACK ACK_LIMIT overdue makes the active post stop waiting; the bent is UNBRACED. -/
  | ackOverdue
  /-- TB_CREDIT_RETURN (R621): Tie-beam credits return and a mirror entry waiting for credit is sent. -/
  | tbCreditReturn (lane n : Nat)
  /-- TB_LANE_DOWN (R616): A tie-beam lane goes down and the beam runs on the other, or not at all. -/
  | tbLaneDown (lane : Nat)
  /-- RESIGN_FLUSH_DONE (R633): The resigning post's flush read completes and it drops CONTROL_HELD and sends RESIGN. -/
  | resignFlushDone (flushed : Bool)
  /-- RESIGN_RX (R636): A standby receiving RESIGN takes over if in sync, otherwise becomes ORPHAN. -/
  | resignRx (mseq : Nat) (flushed fatal : Bool)
  /-- PARTNER_HELD_LOW (R636): PARTNER_HELD low for 2 µs makes a standby take over or become ORPHAN, and wakes a cold standby. -/
  | partnerHeldLow
  /-- PARTNER_HELD_HIGH (R628): PARTNER_HELD high for 2 µs on an ACTIVE post counts DUAL_CONTROL. -/
  | partnerHeldHigh
  /-- TAKEOVER_SETTLE_EXPIRE (R636): After BNT_SETTLE the new active post reads the windows of the bent rings. -/
  | takeoverSettleExpire
  /-- TAKEOVER_WINDOW_READ (R626): Window reads return; deliveries are undone, kept frames offered, TX entries rerun and daybooks restarted. -/
  | takeoverWindowRead
  /-- SHADOW_KEEP_EXPIRE (R623): A frame kept by the standby for SHADOW_KEEP is freed. -/
  | shadowKeepExpire
  /-- HOLD_OFF_EXPIRE (R642): A home standby in sync for HOLD_OFF sends RECLAIM. -/
  | holdOffExpire
  /-- RECLAIM_RX (R642): The active post receives RECLAIM and schedules a handover at the next boundary. -/
  | reclaimRx
  /-- HANDOVER_DRAINED (R643): Drained work, confirmed mirror and a flush read let the active post send HANDOVER and drop control. -/
  | handoverDrained
  /-- HANDOVER_ABANDON (R643): BNT_DRAIN expires, the active post resumes work and counts HANDOVER_ABANDONED. -/
  | handoverAbandon
  /-- HANDOVER_RX (R643): The standby receiving HANDOVER takes control with an empty window. -/
  | handoverRx (mseq : Nat)
  /-- RESYNC_START (R645): The active post starts the delta stream and then the bulk copy to a resyncing post. -/
  | resyncStart
  /-- COPY_RX (R646): A resyncing post applies a COPY packet in MSEQ order. -/
  | copyRx (bad : Bool) (mseq : Nat) (entries : List LedgerItem)
  /-- SYNC_DONE_RX (R628): A resyncing post applying SYNC_DONE in sync becomes STANDBY. -/
  | syncDoneRx (mseq : Nat)
  /-- COPY_FAIL (R648): A copy fails on beam loss, MSEQ gap, ledger error or 60 s timeout. -/
  | copyFail (late : Bool)
  /-- RESYNC_RETRY (R648): 1 s after a failed copy the resyncing post starts a new resynchronisation. -/
  | resyncRetry
  /-- SPAN_STATE_RX (R147): The standby of a king bent tracks cycle, T(n), pattern and announcement over the tie beam. -/
  | spanStateRx (cycle : BitVec 32) (start pattern : Nat) (ann : Option (Nat × BitVec 32))
  /-- ASY_STATUS (R688): Returns the island's status page. -/
  | asyStatus (c : Cmd)
  /-- ASY_PARAM (R675): Sends a PARAM record to the island and completes on its result. -/
  | asyParam (c : Cmd)
  /-- ASY_KEY (R695): Sends a KEY record to the island. -/
  | asyKey (c : Cmd)
  /-- ASY_FIRMWARE (R694): Sends a signed firmware image to the island in FW_CHUNK records. -/
  | asyFirmware (c : Cmd)
  /-- ASY_SNAPSHOT (R700): Fetches a billing snapshot of a point through the readout ring. -/
  | asySnapshot (c : Cmd)
  /-- ASY_LEGAL_TIME (R685): Sends a LEGAL_TIME_SET record to the island. -/
  | asyLegalTime (c : Cmd)
  /-- ASY_LOG_ROLL (R692): Sends a LOG_ROLL record to the island. -/
  | asyLogRoll (c : Cmd)
  /-- ASY_READ (R701): Copies a range of the publication area through the read port. -/
  | asyRead (c : Cmd)
  /-- ASY_RESULT_TIMEOUT (R699): No island result within 1 s, or 600 s for firmware, completes the command with TIMEOUT. -/
  | asyResultTimeout
  /-- TELEGRAM_RECORD (R673): The island checks a telegram and integrates its energy or refuses it. -/
  | telegramRecord
  /-- PARAM_RECORD (R675): The island applies or refuses a parameter change and logs it. -/
  | paramRecord
  /-- KEY_RECORD (R695): The island installs a point key or the key-loading key. -/
  | keyRecord
  /-- FW_CHUNK_RECORD (R694): The island stores a firmware chunk and verifies the finished image. -/
  | fwChunkRecord
  /-- SNAPSHOT_FETCH_RECORD (R700): The island writes a snapshot into the readout slot. -/
  | snapshotFetchRecord
  /-- LEGAL_TIME_SET_RECORD (R685): The island sets legal time with the seal open. -/
  | legalTimeSetRecord
  /-- LOG_ROLL_RECORD (R692): The island archives and empties its event log. -/
  | logRollRecord
  /-- TIME_SAMPLE (R684): A span-time sample trims or steps legal time, or marks it implausible. -/
  | timeSample
  /-- POWER_PERIOD_CLOSE (R679): At each MAXP_MIN multiple a point closes its power period and updates MAXP. -/
  | powerPeriodClose
  /-- BILLING_SNAPSHOT (R682): At the billing instant the island snapshots each register record and starts a new period. -/
  | billingSnapshot (profile : Nat)
  /-- CHECKPOINT_ROTATION (R689): The island writes point checkpoints to its NOR at least once per CKPT_S. -/
  | checkpointRotation
  /-- SEAL_CHANGE (R686): ASY_SEAL_N stable for 50 ms changes the seal state and is logged. -/
  | sealChange (open_ : Bool)
  /-- STATUS_PAGE_REWRITE (R688): The island rewrites its status page on a change and at least once per second. -/
  | statusPageRewrite
  /-- ISLAND_BOOT (R690): After power loss or ASY_RST_N the island boots, restores checkpoints and logs POWER_UP. -/
  | islandBoot (selfTest : Bool)
  /-- ASY_PFAIL (R840): ASY_PFAIL_N low makes the island finish NOR work in progress and start no other. -/
  | asyPfail
  /-- ALIVE_LOST (R697): ALIVE not toggling for 250 ms tells the foreman ASY_SILENT. -/
  | aliveLost
  /-- HALLMARK_MIRROR_READ (R822): The post reads the status page to mirror the hallmark into GLB. -/
  | hallmarkMirrorRead
  /-- READ_PORT_ACCESS (R663): A read of the publication area is served, or returns zero and counts READS_DENIED. -/
  | readPortAccess (addr n : Nat)
  /-- FOREMAN_TAKE (R710): The foreman takes a pending message, records it, drives pins and starts its reaction. -/
  | foremanTake (lost : List Nat)
  /-- FAULT_FORCE_WRITE (R714): Writing 1 to a source's FORCE bit raises a forced message or is refused. -/
  | faultForceWrite (source : Nat)
  /-- THERMAL_CROSSING (R706): Tj crossing a warn, limit or trip threshold raises the thermal kind. -/
  | thermalCrossing (level : Nat) (above : Bool)
  /-- ISLAND_MONITOR_EVENT (R773): An island's supply or clock leaves its limits for over 1 µs and a fault is raised. -/
  | islandMonitorEvent (source : Nat) (clock : Bool) (dv dt : Nat)
  /-- CROSSING_FAIL (R774): A crossing transfer fails its parity or handshake check and raises CROSSING_ERROR. -/
  | crossingFail (source addr : Nat) (critical : Bool)
  /-- FH_TEST_START (R732): A frame-hold bank leaves the round-robin for test when occupancy allows. -/
  | fhTestStart
  /-- TC_TEST_START (R734): A table-cache bank test starts once no lookup to it is outstanding. -/
  | tcTestStart
  /-- ROTATION_TEST_DONE (R735): A rotation bank test ends, counting pass or raising SELFTEST_FAIL. -/
  | rotationTestDone (hold : Bool) (fail : Bool)
  /-- ROTATION_GAP_EXPIRE (R731): After FLT_ROT_GAP the rotation starts its next test. -/
  | rotationGapExpire (rotation : Nat)
  /-- FAULT_STATUS (R702): Returns a copy of FLT 0x000 to 0x3FF. -/
  | faultStatus (c : Cmd)
  /-- FAULT_CLEAR (R727): Clears UNCLEARED bits and optionally returns fenced units to service after a test. -/
  | faultClear (c : Cmd)
  /-- FAULT_INJECT (R742): Raises a forced fault message as a force bit would. -/
  | faultInject (c : Cmd)
  /-- SET_FAULT_KIND (R743): Bench command that sets a kind's reaction, fence gating and CORR_LIMIT. -/
  | setFaultKind (c : Cmd)
  /-- SET_FAULT_GLOBAL (R730): Bench command that sets the fault daybook, vector, notice mask, forcing and floors. -/
  | setFaultGlobal (c : Cmd)
  /-- MAINT_ENTER (R738): With FORCE, resigns, leaves the span, takes links down, disables rings and sets MAINT. -/
  | maintEnter (c : Cmd)
  /-- SELFTEST (R736): Tests one named unit at once, refused for disruptive units without FORCE. -/
  | selftest (c : Cmd)
  /-- MEM_BIST (R739): In maintenance, runs a march test of a memory target and zeroes it. -/
  | memBist (c : Cmd)
  /-- EYE_SCAN (R737): Measures a lane's receive eye with its monitor sampler. -/
  | eyeScan (c : Cmd)
  /-- SET_SELFTEST (R731): Bench command that sets the self-test rotations, gap and frame-hold test limit. -/
  | setSelftest (c : Cmd)
  /-- UNIT_TEST_DONE (R744): A SELFTEST, MEM_BIST, EYE_SCAN or unfence test ends and its result is written. -/
  | unitTestDone (source : Nat) (fail : Bool) (a b : Nat)
  /-- POWER_STATUS (R745): Returns a copy of PWR 0x000 to 0x3FF. -/
  | powerStatus (c : Cmd)
  /-- POWER_REQUEST (R748): Starts a transition to a deeper state when its conditions hold, otherwise BUSY. -/
  | powerRequest (c : Cmd)
  /-- SET_POWER (R779): Bench command that sets retention, off, wake, cluster gating and idle timers. -/
  | setPower (c : Cmd)
  /-- IDLE_TIMER_EXPIRE (R747): An idle timer reaches its value and entry to its state begins. -/
  | idleTimerExpire (target : Nat)
  /-- ENTRY_DONE (R750): An entry transition ends and the pending request is served or discarded. -/
  | entryDone
  /-- WAKE_EVENT (R751): An armed wake source requests Run and a wake begins. -/
  | wakeEvent (source port : Nat)
  /-- RAIL_GOOD (R837): A switched rail's PWR_GOOD rises and the next PWR_EN is driven. -/
  | railGood (rail : Nat)
  /-- RAIL_GOOD_TIMEOUT (R757): A PWR_GOOD not risen 20 ms after PWR_EN returns the post to Off. -/
  | railGoodTimeout
  /-- OSC_READY (R756): Crystals and PLLs lock and the oscillator step ends. -/
  | oscReady
  /-- MEM_READY (R756): SRAM domains are on and bulk memory retrained and the memory step ends. -/
  | memReady (gib width ranks rate : Nat) (popError : Bool)
  /-- WAKE_STEP_TIMEOUT (R757): OSC_READY or MEM_READY not given within twice its figure fails the wake. -/
  | wakeStepTimeout
  /-- LOGIC_READY (R756): Logic domains are on, state restored and time rebuilt, and the wake completes. -/
  | logicReady
  /-- BOOT_DONE (R847): The boot ROM verifies and runs a firmware slot and the clerk becomes READY. -/
  | bootDone (a b : List Byte)
  /-- AON_RESET_RELEASE (R837): The always-on domain leaves its power-on reset 2 ms after its supplies are good. -/
  | aonResetRelease
  /-- POWER_ON (R817): PWR_GOOD_CORE rising resets the whole post. -/
  | powerOn (split bar4 : Bool)
  /-- PWR_GOOD_CORE_FALL (R775): PWR_GOOD_CORE falling loses everything and clears the fatal state. -/
  | pwrGoodCoreFall
  /-- SYS_RST_N_ASSERT (R842): SYS_RST_N low for 10 µs causes a cold reset or starts a wake from Off. -/
  | sysRstNAssert
  /-- WAKE_N_ASSERT (R753): WAKE_N low is a level wake source from Sleep, Deep sleep and Off. -/
  | wakeNAssert (stays : Bool)
  /-- ASY_RST_N_ASSERT (R844): ASY_RST_N low for 10 µs restarts the island. -/
  | asyRstNAssert
  /-- WARM_RESET (R819): GLB_RESET with WARM clears what is in flight and keeps what was provisioned. -/
  | warmReset
  /-- COLD_RESET (R823): GLB_RESET with COLD resets the whole post except the fatal state. -/
  | coldReset (split bar4 : Bool)
  /-- WARM_RESET_DONE (R819): The clerk restarts and sets CMD_STATUS.READY within 20 ms. -/
  | warmResetDone
  /-- FUNCTION_LEVEL_RESET (R504): A function's queues, daybooks and chain channels go to DISABLED at once. -/
  | functionLevelReset (fn : Nat) (vf : Option Nat)
  /-- PERST_ASSERT (R843): PERSTn_N low takes its host link to Detect without resetting the post. -/
  | perstAssert (fn : Nat)
  /-- HOST_LINK_DOWN (R794): A host link leaving L0 for Detect or Hot Reset stops its functions' rings and channels. -/
  | hostLinkDown (fn : Nat)
  /-- AER_ERROR (R794): A host-link correctable or uncorrectable error is counted and reported. -/
  | aerError (fn : Nat) (corrected : Bool)
  /-- COMPLETION_ERROR (R794): A poisoned completion or completion timeout fails the reading unit's access. -/
  | completionError (fn : Nat) (timeout : Bool) (addr : Nat)
  /-- VF_ENABLE (R789): Setting VF Enable checks and assigns each virtual function's resources. -/
  | vfEnable (fn n : Nat)
  /-- HST_VF_WRITE (R788): A write of HST_VF registers takes effect only while VF Enable is 0. -/
  | hstVfWrite (fn off : Nat) (v : BitVec 32)
  /-- BAR4_ACCESS (R786): A BAR4 access reaches the software region of bulk memory or is denied. -/
  | bar4Access (fn off n : Nat) (write : Bool) (data : List Byte)
  /-- BAR2_WRITE (R784): A write to BAR2 has no effect and counts BAR2_WRITES. -/
  | bar2Write (fn off : Nat)
  /-- BAR0_BAD_ACCESS (R807): A BAR0 access of bad size or alignment has no effect and counts GLB_BAD_ACCESS. -/
  | bar0BadAccess (fn off : Nat) (read : Bool)
  /-- LATCHING_READ (R810): A read of a 64-bit low word or a _0 register fills the requester's latch. -/
  | latchingRead (fn off n : Nat)
  /-- REGISTER_WRITE (R815): A write to a register with no row of its own acts per field, ignoring and counting RWL changes. -/
  | registerWrite (fn off n : Nat) (v : BitVec 64)
  /-- MEM_SPILL_MARKS_WRITE (R804): A write of the spill marks applies at the next comparison or is ignored. -/
  | memSpillMarksWrite (v : BitVec 32)
  /-- MEM_SCRUB_HOURS_WRITE (R800): A write of the scrub period takes effect only within 1 to 168. -/
  | memScrubHoursWrite (v : BitVec 32)
  /-- SCRUB_READ (R800): The patrol scrub reads a burst, correcting or poisoning it. -/
  | scrubRead (off : Nat) (found : Nat)
  /-- POISONED_READ (R801): A read of a poisoned burst raises MEM_UNCORRECTED with a region-dependent effect. -/
  | poisonedRead (off master : Nat) (uncorrectable : Bool)
  /-- DBG_CHALLENGE (R850): The test access port returns a debug challenge nonce. -/
  | dbgChallenge
  /-- DBG_RESPONSE (R850): A signed response opens debug access until cold reset, or counts toward lockout. -/
  | dbgResponse (signature key : List Byte)
  /-- TRST_ASSERT (R849): TRST_N low resets the test access port. -/
  | trstAssert
  /-- SYNC_TABLE_EXPIRE (R421): A two-step residence entry older than 1 s is dropped. -/
  | syncTableExpire (p : Nat)
  /-- HOST_LINK_UP (R755): A host link finishes training and reaches L0, after which PCIE_WAKE_N is released and the link's functions can carry work again. -/
  | hostLinkUp (fn speed width : Nat)
  /-- TB_LANE_UP (R616): A tie-beam lane regains lock and the beam returns from one lane or none to two. -/
  | tbLaneUp (lane : Nat)
  /-- SYS_RST_N_RELEASE (R842): SYS_RST_N rises and the post leaves cold reset, or a wake from Off continues. -/
  | sysRstNRelease (split bar4 : Bool)
  /-- RAIL_GOOD_FALL (R839): A switched rail's PWR_GOOD falls during entry to Off, letting the sequencer drop the next PWR_EN. -/
  | railGoodFall (rail : Nat)
  /-- ISLAND_POWER_LOSS (R690): VDD_ASY or VDDIO_ASY is lost and the island's volatile state is lost with it. -/
  | islandPowerLoss
  /-- ASY_PFAIL_RELEASE (R840): ASY_PFAIL_N rises and the island resumes NOR programming and erasing. -/
  | asyPfailRelease
  /-- DELAY_REQ_TX (R65): A slave port of an external 1588 default instance with the end-to-end mechanism sends Delay_Req at its interval. -/
  | delayReqTx (p : Nat)
  /-- DELAY_REQ_RX (R65): A master port of an end-to-end instance receives Delay_Req and answers with Delay_Resp. -/
  | delayReqRx (p : Nat) (m : PtpMsg) (t : Nat)
  /-- DELAY_RESP_RX (R65): A slave port of an end-to-end instance receives Delay_Resp and completes its delay measurement. -/
  | delayRespRx (p : Nat) (m : PtpMsg)
deriving DecidableEq, Repr

end Sys2Proof
end

