-- ==== Sys2Proof/Decode.lean ====
section
/-!
DEFINITION. Reading a command from a word of the opcode table. The table gives no row any bits, so no word spells a
command; the packets and records that carry commands are read by the machine itself (COMMAND_TAKE and its fellows).
-/

namespace Sys2Proof

/-- The command that a word spells by the bits of spec/opcode_table.json: the table gives bits to no row. -/
def decodeTableWord (_nbits _w : Nat) : Option Instr := none

end Sys2Proof
end

