-- ==== Sys2Proof/Machine/OpTable.lean ====
section
/-!
DEFINITION. The opcode table of the commands (R605 and the opcode tables of the chapters): parameter length (R566),
scopes (R579), refusal of PARTNER (R858), selector fields with their ranges (R587), and the length of a fixed reply
(R569).
-/

namespace Sys2Proof.Machine

/-- A selector field of a command: word offset, lowest bit, width, least and greatest value. -/
structure Selector where
  off : Nat
  lo : Nat
  w : Nat
  min : Nat := 0
  max : Nat
deriving DecidableEq, Repr

/-- One opcode. `scopes` has bit n set for scope n. -/
structure Op where
  code : Nat
  len : Nat := 0
  scopes : Nat := 1
  noPartner : Bool := false
  sels : List Selector := []
  reply : Nat := 0
deriving DecidableEq, Repr

/-- Opcodes 0x0000 to 0x0401. -/
def opTable0 : List Op := [
  { code := 0x0000 },
  { code := 0x0001, reply := 64 },
  { code := 0x0002, noPartner := true },
  { code := 0x0003 },
  { code := 0x0004, len := 8, sels := [⟨4, 0, 8, 1, 64⟩] },
  { code := 0x0005, len := 8 },
  { code := 0x0100, scopes := 7 },
  { code := 0x0101, scopes := 7 },
  { code := 0x0102, len := 20, scopes := 7 },
  { code := 0x0103, scopes := 7 },
  { code := 0x0104, reply := 48 },
  { code := 0x0200, reply := 32 },
  { code := 0x0201, len := 16 },
  { code := 0x0202 },
  { code := 0x0203, len := 8 },
  { code := 0x0204, len := 4, sels := [⟨0, 0, 8, 0, 26⟩], reply := 88 },
  { code := 0x0210, len := 4 },
  { code := 0x0211, len := 20 },
  { code := 0x0212, len := 4 },
  { code := 0x0213, len := 12, sels := [⟨0, 0, 8, 0, 23⟩] },
  { code := 0x0214, len := 12, sels := [⟨0, 0, 8, 0, 26⟩] },
  { code := 0x0215, len := 4, sels := [⟨0, 0, 8, 0, 23⟩] },
  { code := 0x0216, len := 12 },
  { code := 0x0217, len := 4, sels := [⟨0, 0, 8, 0, 24⟩] },
  { code := 0x0300, reply := 36 },
  { code := 0x0301 },
  { code := 0x0302 },
  { code := 0x0303, len := 4, scopes := 4 },
  { code := 0x0304, len := 4, sels := [⟨0, 0, 12, 0, 4095⟩], reply := 64 },
  { code := 0x0310, len := 12 },
  { code := 0x0311, len := 4, sels := [⟨0, 0, 8, 0, 15⟩] },
  { code := 0x0312, len := 12, scopes := 4 },
  { code := 0x0313, len := 4 },
  { code := 0x0400, len := 4, sels := [⟨0, 0, 8, 0, 24⟩], reply := 1024 },
  { code := 0x0401, len := 4, sels := [⟨0, 0, 8, 0, 24⟩] } ]

/-- Opcodes 0x0402 to 0x0705. -/
def opTable1 : List Op := [
  { code := 0x0402, len := 4, sels := [⟨0, 0, 8, 0, 24⟩], reply := 64 },
  { code := 0x0403, len := 4, sels := [⟨0, 0, 8, 0, 24⟩] },
  { code := 0x0408, len := 4, sels := [⟨0, 0, 8, 0, 23⟩], reply := 400 },
  { code := 0x0409, len := 8, sels := [⟨0, 0, 8, 0, 23⟩] },
  { code := 0x040A, len := 4, sels := [⟨0, 0, 8, 0, 23⟩] },
  { code := 0x0410, len := 4, sels := [⟨0, 0, 8, 0, 24⟩] },
  { code := 0x0411, len := 24, sels := [⟨0, 0, 8, 0, 24⟩] },
  { code := 0x0412, len := 20, sels := [⟨0, 0, 8, 0, 23⟩] },
  { code := 0x0413, len := 12, sels := [⟨0, 0, 8, 0, 24⟩] },
  { code := 0x0414, len := 12, sels := [⟨0, 0, 8, 0, 24⟩] },
  { code := 0x0415, len := 16, sels := [⟨0, 0, 8, 0, 24⟩] },
  { code := 0x0416, len := 16, sels := [⟨0, 0, 8, 0, 24⟩] },
  { code := 0x0417, len := 64, sels := [⟨0, 0, 8, 0, 24⟩] },
  { code := 0x0418, len := 8, sels := [⟨0, 0, 8, 0, 23⟩] },
  { code := 0x0500, len := 4, sels := [⟨0, 0, 8, 0, 24⟩], reply := 32 },
  { code := 0x0501, len := 20, sels := [⟨0, 0, 8, 0, 24⟩] },
  { code := 0x0510, len := 20, sels := [⟨0, 0, 8, 0, 24⟩] },
  { code := 0x0511, len := 16, sels := [⟨0, 0, 8, 0, 24⟩] },
  { code := 0x0600, len := 4, sels := [⟨0, 0, 8, 0, 24⟩], reply := 512 },
  { code := 0x0601, len := 8, sels := [⟨0, 0, 8, 0, 24⟩, ⟨0, 16, 13, 0, 4096⟩], reply := 64 },
  { code := 0x0602, len := 4, reply := 72 },
  { code := 0x0603, len := 4, reply := 64 },
  { code := 0x0604, len := 4 },
  { code := 0x0605, len := 4 },
  { code := 0x0610, len := 12, sels := [⟨0, 0, 8, 0, 24⟩] },
  { code := 0x0611, len := 24, sels := [⟨0, 0, 8, 0, 24⟩] },
  { code := 0x0612, len := 20, sels := [⟨0, 0, 8, 0, 24⟩, ⟨0, 16, 13, 0, 4096⟩] },
  { code := 0x0620, len := 16 },
  { code := 0x0621, len := 20 },
  { code := 0x0700, reply := 768 },
  { code := 0x0701, len := 4, reply := 64 },
  { code := 0x0702, len := 44 },
  { code := 0x0703, len := 4, reply := 256 },
  { code := 0x0704, len := 4, reply := 512 },
  { code := 0x0705, len := 8 } ]

/-- Opcodes 0x0706 to 0x0B10. -/
def opTable2 : List Op := [
  { code := 0x0706, len := 4 },
  { code := 0x0710, len := 12, scopes := 3 },
  { code := 0x0711, len := 12, scopes := 3 },
  { code := 0x0712, len := 12, scopes := 3 },
  { code := 0x0713, len := 24, scopes := 3 },
  { code := 0x0714, len := 16, scopes := 3 },
  { code := 0x0715, len := 12, sels := [⟨8, 0, 8, 0, 24⟩] },
  { code := 0x0800, reply := 512 },
  { code := 0x0801, len := 20 },
  { code := 0x0802, len := 20 },
  { code := 0x0810, len := 12, scopes := 3 },
  { code := 0x0811, len := 16, sels := [⟨0, 0, 2, 1, 2⟩] },
  { code := 0x0812, len := 12, scopes := 3 },
  { code := 0x0813, len := 12, scopes := 3 },
  { code := 0x0814, len := 12, scopes := 3 },
  { code := 0x0900, len := 4, noPartner := true, reply := 96 },
  { code := 0x0901, len := 24, noPartner := true },
  { code := 0x0902, len := 4, noPartner := true },
  { code := 0x0903, len := 4, noPartner := true, reply := 64 },
  { code := 0x0904, len := 28, noPartner := true },
  { code := 0x0905, len := 4, noPartner := true },
  { code := 0x0910, len := 4, scopes := 3, noPartner := true },
  { code := 0x0A00, len := 4, noPartner := true, reply := 256 },
  { code := 0x0A01, len := 16, noPartner := true },
  { code := 0x0A02, len := 4, noPartner := true },
  { code := 0x0A03, len := 4, noPartner := true },
  { code := 0x0A10, len := 32, noPartner := true },
  { code := 0x0B00, reply := 512 },
  { code := 0x0B01, scopes := 2 },
  { code := 0x0B02 },
  { code := 0x0B03 },
  { code := 0x0B04, len := 28, noPartner := true, sels := [⟨0, 0, 3, 0, 5⟩] },
  { code := 0x0B05, len := 28, noPartner := true, sels := [⟨0, 0, 3, 0, 5⟩] },
  { code := 0x0B06, noPartner := true },
  { code := 0x0B10, len := 32 } ]

/-- Opcodes 0x0C00 to 0x7F10. -/
def opTable3 : List Op := [
  { code := 0x0C00, reply := 256 },
  { code := 0x0C01, len := 16 },
  { code := 0x0C02, len := 48 },
  { code := 0x0C03, len := 12 },
  { code := 0x0C04, len := 4, reply := 128 },
  { code := 0x0C05, len := 8 },
  { code := 0x0C06 },
  { code := 0x0C07, len := 16 },
  { code := 0x0D00, reply := 1024 },
  { code := 0x0D01, len := 4 },
  { code := 0x0D02, len := 4 },
  { code := 0x0D10, len := 4 },
  { code := 0x0D11, len := 8 },
  { code := 0x0E00, reply := 1024 },
  { code := 0x0E01, len := 4, sels := [⟨0, 0, 3, 0, 4⟩] },
  { code := 0x0E10, len := 28 },
  { code := 0x0F00, len := 20, scopes := 5 },
  { code := 0x0F01, reply := 16 },
  { code := 0x0F02, len := 4 },
  { code := 0x0F03, len := 4 },
  { code := 0x7F00 },
  { code := 0x7F01, len := 4, sels := [⟨0, 0, 4, 0, 7⟩], reply := 16 },
  { code := 0x7F02, len := 4, sels := [⟨0, 0, 3, 0, 4⟩], reply := 16 },
  { code := 0x7F03, len := 4, sels := [⟨0, 0, 8, 0, 26⟩], reply := 16 },
  { code := 0x7F10, len := 8 } ]

/-- Every opcode. -/
def opTable : List Op := opTable0 ++ opTable1 ++ opTable2 ++ opTable3

/-- The row of an opcode. -/
def opInfo (code : Nat) : Option Op := opTable.find? (fun o => o.code == code)

end Sys2Proof.Machine
end

