-- ==== Sys2Proof/Config.lean ====
section
/-!
DEFINITION. What the spec leaves to an implementation or to a standard that it does not reproduce: free
values and functions of operands, all without a body, so that nothing in Lean can evaluate them or prove a
value of them. A statement that mentions one holds for every value of it.
-/
namespace Sys2Proof.Config

/-- The n-th free value: nothing constrains it. The state's counter `free` says which n comes next (DESIGN
CHOICE, log entry 99). -/
opaque freeValue : Nat → BitVec 64

/-- rho10 of R678: the density of IAPWS-IF97 region 1 (the standard is not reproduced in the spec) times 1,024, of the
temperature in thousandths of a degree Celsius and the pressure in kPa. -/
opaque rho10 : Int → Nat → Nat

/-- h4 of R678: the specific enthalpy of IAPWS-IF97 region 1 times 16, of the same. -/
opaque h4 : Int → Nat → Int

/-- The saturation temperature of IAPWS-IF97 in thousandths of a degree Celsius, of the pressure in kPa (R676). -/
opaque saturation : Nat → Int

/-- What EN 13757-7 reads from a telegram: security mode, identification of the link header and message counter, or
none when the telegram is shorter than its headers (external standard). -/
opaque telegramHeader : List Byte → Option (Nat × BitVec 64 × Nat)

/-- Does the message authentication code of a telegram fit, under the point's key (EN 13757-7)? -/
opaque telegramMac : List Byte → List Byte → Bool

/-- The decrypted application data of a telegram, under the point's key (EN 13757-7). -/
opaque telegramData : List Byte → List Byte → List Byte

/-- The version that an island firmware image states, and whether its signature verifies under the type-examination key
(R694; the spec gives no layout of the image). -/
opaque islandVersion : List Byte → Nat
opaque islandSigned : List Byte → Bool

/-- AES-128 encryption of one block: of the key and the block (external standard). -/
opaque aesBlock : List Byte → List Byte → List Byte

/-- The CMAC under AES-128 of a byte string: of the key and the bytes (external standard). -/
opaque aesCmac : List Byte → List Byte → List Byte

/-- AES-CTR of a byte string: of the key, the counter block and the bytes (external standard). -/
opaque aesCtr : List Byte → List Byte → List Byte → List Byte

/-- AES key unwrap: of the key and the wrapped bytes; the empty list when it does not unwrap. -/
opaque aesUnwrap : List Byte → List Byte → List Byte

/-- MACsec protection of a frame (IEEE 802.1AE-2018, an external standard): of the cipher suite and confidentiality
offset, the key, the initialisation vector's inputs (SCI, SSCI and salt, PN) and the frame with its SecTAG; the bytes
after the SecTAG as they are sent, with the ICV (DEDUCED, log entry 28). -/
opaque macsecSeal : Nat → List Byte → List Byte → List Byte → List Byte

/-- MACsec validation: of the same and the frame as received; the bytes after the SecTAG in the clear, or none when the
ICV does not fit (DEDUCED, log entry 28). -/
opaque macsecOpen : Nat → List Byte → List Byte → List Byte → Option (List Byte)

/-- SHA-256 of a byte string (external standard). -/
opaque sha256 : List Byte → List Byte

/-- SHA-384 of a byte string (external standard). -/
opaque sha384 : List Byte → List Byte

/-- ECDSA verification: of the public key, the digest and the signature (external standard). -/
opaque ecdsaVerify : List Byte → List Byte → List Byte → Bool

/-- The bytes of a ledger region (R617; the spec gives no layout of its records): of the region, the byte offset, the
length and the records held (DESIGN CHOICE, log entry 77). -/
opaque ledgerBytes : Nat → Nat → Nat → List LedgerItem → List Byte

/-- What bytes written into a ledger region say: of the region, the byte offset and the bytes (DESIGN CHOICE,
log entry 77). -/
opaque ledgerItems : Nat → Nat → List Byte → List LedgerItem

end Sys2Proof.Config
end

