-- ==== Sys2Proof/Machine/Bits.lean ====
section
/-!
DEFINITION. Bit fields, byte order, the sparse table's operations and CRC-32: the plain helpers every other file
of the machine uses.
-/

namespace Sys2Proof.Machine

/-- Bits lo to lo + w - 1 of a number (R9: bit 0 is the least significant). -/
def bits (v lo w : Nat) : Nat := v / 2 ^ lo % 2 ^ w

/-- Bit i of a number. -/
def bit (v i : Nat) : Bool := v / 2 ^ i % 2 == 1

/-- A field of w bits placed at bit lo. -/
def field (v lo w : Nat) : Nat := v % 2 ^ w * 2 ^ lo

/-- A Boolean as the number 0 or 1. -/
def flag (b : Bool) : Nat := if b then 1 else 0

/-- Replace bits lo to lo + w - 1 of v. -/
def setBits (v lo w x : Nat) : Nat := v - bits v lo w * 2 ^ lo + x % 2 ^ w * 2 ^ lo

/-- n bytes of a number, least significant first (R10: host memory is little-endian). -/
def leBytes : Nat → Nat → List Byte
  | 0, _ => []
  | n + 1, v => BitVec.ofNat 8 v :: leBytes n (v / 256)

/-- n bytes of a number, most significant first (R11: fields on the wire are in network order). -/
def beBytes (n v : Nat) : List Byte := (leBytes n v).reverse

/-- The number that a little-endian byte string holds. -/
def ofLe : List Byte → Nat
  | [] => 0
  | b :: bs => b.toNat + 256 * ofLe bs

/-- The number that a big-endian byte string holds. -/
def ofBe (bs : List Byte) : Nat := ofLe bs.reverse

/-- n bytes of a string from an offset; bytes beyond its end read 0. -/
def slice (bs : List Byte) (off : Nat) : Nat → List Byte
  | 0 => []
  | n + 1 => (bs.getD off 0) :: slice bs (off + 1) n

/-- The little-endian number of n bytes at an offset. -/
def leAt (bs : List Byte) (off n : Nat) : Nat := ofLe (slice bs off n)

/-- The big-endian number of n bytes at an offset. -/
def beAt (bs : List Byte) (off n : Nat) : Nat := ofBe (slice bs off n)

/-- Bits lo to lo + w - 1 of the little-endian 32-bit word at an offset. -/
def fieldAt (bs : List Byte) (off lo w : Nat) : Nat := bits (leAt bs off 4) lo w

/-- Replace the bytes at an offset. -/
def splice (bs : List Byte) (off : Nat) (xs : List Byte) : List Byte :=
  bs.take off ++ xs ++ bs.drop (off + xs.length)

/-- Replace bits lo to lo + w - 1 of the n-byte little-endian word at an offset. -/
def setFieldAt (bs : List Byte) (off n lo w x : Nat) : List Byte :=
  splice bs off (leBytes n (setBits (leAt bs off n) lo w x))

/-- n zero bytes. -/
def zeros (n : Nat) : List Byte := List.replicate n 0

/-- The signed value of a w-bit two's complement number. -/
def toSigned (w v : Nat) : Int := if v < 2 ^ (w - 1) then v else (v : Int) - (2 ^ w : Nat)

/-- A signed value as a w-bit two's complement number, wrapping. -/
def ofSigned (w : Nat) (i : Int) : Nat := (i % ((2 ^ w : Nat) : Int)).toNat

/-- Division rounding up. -/
def ceilDiv (a b : Nat) : Nat := (a + b - 1) / b

/-- Unsigned difference modulo 2^w. -/
def modSub (w a b : Nat) : Nat := (a % 2 ^ w + 2 ^ w - b % 2 ^ w) % 2 ^ w

/-- Serial number order on w bits: a is ahead of b by less than half the range. -/
def isAhead (w a b : Nat) : Bool := let d := modSub w a b; 0 < d && d < 2 ^ (w - 1)

/-- A sum that stays at its greatest w-bit value. -/
def satAdd (w a b : Nat) : Nat := min (a + b) (2 ^ w - 1)

/-- The list of numbers from a to a + n - 1. -/
def upto (a : Nat) : Nat → List Nat
  | 0 => []
  | n + 1 => a :: upto (a + 1) n

/-- One round of CRC-32 on eight bits. -/
def crcBits : Nat → Nat → Nat
  | 0, c => c
  | n + 1, c => crcBits n (if c % 2 = 1 then Nat.xor (c / 2) 0xEDB88320 else c / 2)

/-- CRC-32 register after a byte string. -/
def crcFold : Nat → List Byte → Nat
  | c, [] => c
  | c, b :: bs => crcFold (crcBits 8 (Nat.xor c b.toNat)) bs

/-- CRC-32 of IEEE 802.3 over a byte string (PRESUMED: the standard's own polynomial, log entry 4). -/
def crc32 (bs : List Byte) : Nat := Nat.xor (crcFold 0xFFFFFFFF bs) 0xFFFFFFFF

/-! ### The sparse table -/

/-- What key i reads as; d is the value of an unlisted key. -/
def Tab.get {α : Type} (d : α) : Tab α → Nat → α
  | [], _ => d
  | (k, v) :: t, i => if i = k then v else Tab.get d t i

/-- Put an entry at its place in the order of keys. -/
def Tab.put {α : Type} : Tab α → Nat → α → Tab α
  | [], i, v => [(i, v)]
  | (k, w) :: t, i, v => if i = k then (k, v) :: t else if i < k then (i, v) :: (k, w) :: t else (k, w) :: Tab.put t i v

/-- Write key i; writing d, the value of an unlisted key, removes the entry, so equal tables are equal data. -/
def Tab.set {α : Type} [DecidableEq α] (d : α) (t : Tab α) (i : Nat) (v : α) : Tab α :=
  if v = d then t.filter (fun p => p.1 != i) else Tab.put t i v

/-- The keys strictly rise from a bound. -/
def Tab.above {α : Type} : Nat → Tab α → Bool
  | _, [] => true
  | b, (k, _) :: t => decide (b ≤ k) && Tab.above (k + 1) t

/-- The canonical form of a table whose unlisted keys read d. -/
def Tab.wf {α : Type} [DecidableEq α] (d : α) (t : Tab α) : Bool :=
  Tab.above 0 t && t.all (fun p => decide (p.2 ≠ d))

/-- Keep the entries whose key and value meet a test. -/
def Tab.keep {α : Type} (f : Nat → α → Bool) (t : Tab α) : Tab α := t.filter (fun p => f p.1 p.2)

/-- Change every listed value. -/
def Tab.mapAll {α : Type} [DecidableEq α] (d : α) (f : Nat → α → α) : Tab α → Tab α
  | [] => []
  | (k, v) :: t => if f k v = d then Tab.mapAll d f t else (k, f k v) :: Tab.mapAll d f t

/-- The first key whose value meets a test. -/
def Tab.findKey {α : Type} (f : Nat → α → Bool) : Tab α → Option Nat
  | [] => none
  | (k, v) :: t => if f k v then some k else Tab.findKey f t

/-! ### Byte memories -/

/-- Read n bytes from an address upward; an unlisted byte reads 0 (DESIGN CHOICE, log entry 3). -/
def readBytes (m : Tab Byte) (a : Nat) : Nat → List Byte
  | 0 => []
  | n + 1 => Tab.get 0 m a :: readBytes m (a + 1) n

/-- Write bytes from an address upward. -/
def writeBytes (m : Tab Byte) (a : Nat) : List Byte → Tab Byte
  | [] => m
  | b :: bs => writeBytes (Tab.set 0 m a b) (a + 1) bs

/-- Write n zero bytes from an address upward: the entries of the range leave the table. -/
def zeroBytes (m : Tab Byte) (a n : Nat) : Tab Byte := m.filter (fun p => p.1 < a || a + n ≤ p.1)

end Sys2Proof.Machine
end

