-- ==== Sys2Proof/Machine/RegMap.lean ====
section
/-!
DEFINITION. The BAR0 map (R806, R826): block bases, the offsets of the registers that hold settings, and the table
of RW, RWL and RS words with their reset values (R815, R818, R820).
-/

namespace Sys2Proof.Machine

/-! ### Block bases, R806 -/

abbrev timBase : Nat := 0x00100000
abbrev spnBase : Nat := 0x00200000
/-- Region of port index p. -/
abbrev prtBase (p : Nat) : Nat := 0x00300000 + 0x10000 * p
abbrev mmgBase (p : Nat) : Nat := prtBase p + 0x4000
abbrev gatBase (p : Nat) : Nat := prtBase p + 0x8000
abbrev qsvBase (p : Nat) : Nat := prtBase p + 0xC000
abbrev prtCommon : Nat := 0x004F0000
abbrev stmBase : Nat := 0x00500000
abbrev jnrBase : Nat := 0x00600000
abbrev dryBase (e : Nat) : Nat := 0x00700000 + 0x40000 * e
/-- Registers of channel c of dray engine e. -/
abbrev dryChan (e c : Nat) : Nat := dryBase e + 0x1000 + 0x100 * c
abbrev cmdBase : Nat := 0x00900000
abbrev bntBase : Nat := 0x00A00000
abbrev asyBase : Nat := 0x00B00000
abbrev fltBase : Nat := 0x00C00000
abbrev pwrBase : Nat := 0x00D00000
abbrev hstBase : Nat := 0x00E00000
abbrev memBase : Nat := 0x00F00000
/-- Doorbell page of queue q, R526. -/
abbrev pageBase (q : Nat) : Nat := 0x01000000 + 0x1000 * q
/-- Registers of physical function f's HST block: each function sees its own (R785), so the second function's lie at
a key of their own. -/
abbrev hstKey (f : Nat) : Nat := hstBase + 0x10000000 * f
/-- Key of the MSI-X table of virtual function n of function f, apart from every BAR0 offset of a physical function. -/
abbrev vfTable (f n : Nat) : Nat := 0x80000000 + 0x1000 * (64 * f + n)

/-- One row of a register table: n words from off at a stride, the bits software writes directly (RW), the bits a
pegged bench writes (RWL), and the reset value. -/
structure RegRow where
  off : Nat
  n : Nat := 1
  stride : Nat := 4
  rw : Nat := 0
  rwl : Nat := 0
  reset : Nat := 0
deriving DecidableEq, Repr

/-- Does the row hold the word at an offset of its block? -/
def RegRow.covers (r : RegRow) (o : Nat) : Bool :=
  r.off ≤ o && (o - r.off) % r.stride == 0 && (o - r.off) / r.stride < r.n

abbrev allBits : Nat := 0xFFFFFFFF

/-- TIM settings of the chapter "Span time". -/
def timRows : List RegRow := [
  { off := 0x40, n := 8, rwl := 0x1FFF },
  { off := 0x60, rwl := allBits, reset := 1000 },
  { off := 0x64, rwl := allBits, reset := 10000 },
  { off := 0x68, rwl := allBits, reset := 100000 },
  { off := 0x6C, rwl := allBits, reset := 100 },
  { off := 0x70, rwl := allBits, reset := 1000 },
  { off := 0x80, rwl := allBits },
  { off := 0x84, rwl := allBits, reset := 100000000 },
  { off := 0x88, rwl := allBits },
  { off := 0x1014, n := 27, stride := 0x100, rwl := allBits },
  { off := 0x1018, n := 27, stride := 0x100, rwl := allBits },
  { off := 0x101C, n := 27, stride := 0x100, rwl := allBits },
  { off := 0x1028, n := 27, stride := 0x100, rwl := 0xFF } ]

/-- SPN settings of the chapter "The span cycle". -/
def spnRows : List RegRow := [
  { off := 0x40, rwl := 0x7FF01, reset := 0x400 },
  { off := 0x44, rwl := allBits, reset := 2000000 },
  { off := 0x48, rwl := allBits, reset := 2000 },
  { off := 0x80, n := 16, rwl := 0x3 } ]

/-- MAC settings of one port, the chapter "Ports, MACs and the stocktake". -/
def macRows : List RegRow := [
  { off := 0x004, rwl := allBits },
  { off := 0x008, rwl := 0x73FFF, reset := 0x5F2 },
  { off := 0x00C, rwl := 0xFFFF000F, reset := 0xFFFF0000 },
  { off := 0x010, rwl := allBits, reset := 0x08040201 },
  { off := 0x014, rwl := allBits, reset := 0x80402010 },
  { off := 0x018, rwl := allBits },
  { off := 0x01C, rwl := allBits },
  { off := 0x020, rwl := 0xFFFF0001 },
  { off := 0x024, rwl := allBits, reset := 16500 },
  { off := 0x028, rwl := 0x7 },
  { off := 0x02C, rwl := allBits },
  { off := 0x030, rwl := 0xFFFF, reset := 0x88B5 },
  { off := 0x034, rwl := 0xFFFF00FF, reset := 0x00640000 },
  { off := 0x038, rwl := 0xFF },
  { off := 0x03C, rwl := 0x00FF0F00, reset := 0x00FF0000 },
  { off := 0x040, rwl := allBits, reset := 0xC0000000 },
  { off := 0x044, rwl := allBits },
  { off := 0x080, n := 8, rwl := 0xFFFF, reset := 2048 },
  { off := 0x0C0, rwl := 0xFFFF, reset := 60 },
  { off := 0x0C8, rwl := allBits },
  { off := 0x0CC, rwl := 0xFFFF } ]

/-- MAC merge settings of one port. -/
def mmgRows : List RegRow := [
  { off := 0x004, rwl := 0x00FFFF7F, reset := 0x00030A00 },
  { off := 0x008, rwl := 0xFFFF } ]

/-- Gate settings of one port. -/
def gatRows : List RegRow := [
  { off := 0x004, rwl := 0x00FFFF01, reset := 0xFF00 },
  { off := 0x008, rwl := allBits },
  { off := 0x00C, rwl := 0xFFFF },
  { off := 0x010, rwl := 0xFF, reset := 20 },
  { off := 0x014, rwl := allBits, reset := 100000 } ]

/-- Queue-service settings of one port. -/
def qsvRows : List RegRow := [
  { off := 0x004, rwl := 0x00FFFFFF, reset := 0x00FAC688 },
  { off := 0x008, rwl := 0x00FF01FF, reset := 0x14 },
  { off := 0x00C, rwl := allBits, reset := 1000 },
  { off := 0x100, n := 8, stride := 0x20, rwl := allBits },
  { off := 0x108, n := 8, stride := 0x20, rwl := 0x00FFFFFF, reset := 1 },
  { off := 0x10C, n := 8, stride := 0x20, rwl := 0xFFFF, reset := 1 },
  { off := 0x118, n := 8, stride := 0x20, rwl := allBits },
  { off := 0x11C, n := 8, stride := 0x20, rwl := 0x1FFFFFF } ]

/-- Stream engine settings. -/
def stmRows : List RegRow := [
  { off := 0x040, rwl := 0x1FFFF, reset := 0x19EB },
  { off := 0x044, rwl := allBits, reset := 60000 },
  { off := 0x048, rwl := 0xFF },
  { off := 0x080, n := 25, rwl := 0xF1 },
  { off := 0x100, n := 16, stride := 0x20, rwl := allBits },
  { off := 0x104, n := 16, stride := 0x20, rwl := allBits },
  { off := 0x108, n := 16, stride := 0x20, rwl := allBits },
  { off := 0x10C, n := 16, stride := 0x20, rwl := allBits } ]

/-- Joinery settings. -/
def jnrRows : List RegRow := [
  { off := 0x00C, rwl := 0x1, reset := 1 },
  { off := 0x020, rwl := 0x1FFFBFFF, reset := 0x00013000 },
  { off := 0x024, rwl := 0x01FFFFFF, reset := 0x01FFFFFF },
  { off := 0x028, rwl := 0xFF },
  { off := 0x030, rwl := 0x1FFFBFFF, reset := 0x00013000 },
  { off := 0x034, rwl := 0x01FFFFFF, reset := 0x01FFFFFF },
  { off := 0x038, rwl := 0xFF } ]

/-- Settings of the 32 channels of one dray engine: channel c at 0x1000 + 0x100 * c. The PRIO reset value depends on
the kind of channel (chapter "The dray engines"): FETCH 2, DELIVERY 3, chain 0. -/
def dryRows : List RegRow := [
  { off := 0x1004, n := 8, stride := 0x100, rwl := 0x7FF7, reset := 3 },
  { off := 0x1804, n := 8, stride := 0x100, rwl := 0x7FF7, reset := 2 },
  { off := 0x2004, n := 16, stride := 0x100, rwl := 0x7FF7 },
  { off := 0x1008, n := 32, stride := 0x100, rwl := 0x1FFFFFF, reset := 1 },
  { off := 0x100C, n := 32, stride := 0x100, rwl := 0x1FFFFFF },
  { off := 0x1010, n := 32, stride := 0x100, rwl := allBits, reset := 2000 },
  { off := 0x1030, n := 32, stride := 0x100, rwl := allBits },
  { off := 0x1034, n := 32, stride := 0x100, rwl := allBits },
  { off := 0x1038, n := 32, stride := 0x100, rwl := allBits },
  { off := 0x103C, n := 32, stride := 0x100, rwl := allBits } ]

/-- Bent settings. -/
def bntRows : List RegRow := [
  { off := 0x004, rwl := 0xFFFFFF07, reset := 0x003C0300 },
  { off := 0x008, rwl := allBits, reset := 100 },
  { off := 0x00C, rwl := allBits, reset := 2000 },
  { off := 0x010, rwl := allBits, reset := 1000 },
  { off := 0x014, rwl := allBits, reset := 100 },
  { off := 0x018, rwl := 0x7FF },
  { off := 0x020, rwl := allBits },
  { off := 0x024, rwl := allBits } ]

/-- Foreman settings but for the kind registers, whose reset value is R706's default reaction. -/
def fltRows : List RegRow := [
  { off := 0x008, rwl := 0x7FFFFF, reset := 0x00300000 },
  { off := 0x00C, rwl := 0x7FFFF, reset := 0x00037728 },
  { off := 0x010, rw := 0x3FF },
  { off := 0x014, rwl := 0xFFFF0003, reset := 0x03E80003 },
  { off := 0x018, rwl := allBits, reset := 33554432 },
  { off := 0x5000, n := 256, rwl := 0xFF0F } ]

/-- Power settings. -/
def pwrRows : List RegRow := [
  { off := 0x018, rwl := 0x70007, reset := 0x00060000 },
  { off := 0x01C, rwl := allBits },
  { off := 0x020, rwl := allBits },
  { off := 0x024, rwl := allBits },
  { off := 0x028, rwl := allBits },
  { off := 0x02C, rwl := allBits },
  { off := 0x030, rwl := 0x260, reset := 0x1A2 },
  { off := 0x034, rwl := allBits, reset := 100 },
  { off := 0x038, rw := 0x1 } ]

/-- HST settings of one physical function, with its MSI-X table: 2,048 entries of four words, masked at reset
(PRESUMED: PCIe's own reset value, log entry 5). -/
def hstRows : List RegRow := [
  { off := 0x004, rw := 0xFF },
  { off := 0x1000, n := 64, stride := 0x20, rw := 0x007F0FFF },
  { off := 0x1004, n := 64, stride := 0x20, rw := 0x1FFF },
  { off := 0x1008, n := 64, stride := 0x20, rw := allBits },
  { off := 0x100C, n := 64, stride := 0x20, rw := 0x3F07FF },
  { off := 0x80000, n := 2048, stride := 16, rw := 0xFFFFFFFC },
  { off := 0x80004, n := 2048, stride := 16, rw := allBits },
  { off := 0x80008, n := 2048, stride := 16, rw := allBits },
  { off := 0x8000C, n := 2048, stride := 16, rw := 0x1, reset := 1 } ]

/-- The MSI-X table of one virtual function: its 32 entries, R793 (PRESUMED, log entry 5). -/
def vfRows : List RegRow := [
  { off := 0x0, n := 32, stride := 16, rw := 0xFFFFFFFC },
  { off := 0x4, n := 32, stride := 16, rw := allBits },
  { off := 0x8, n := 32, stride := 16, rw := allBits },
  { off := 0xC, n := 32, stride := 16, rw := 0x1, reset := 1 } ]

/-- Bulk-memory settings. -/
def memRows : List RegRow := [
  { off := 0x030, rw := allBits, reset := 0x02800300 },
  { off := 0x034, rw := 0xFF, reset := 24 } ]

/-- GLB settings. -/
def glbRows : List RegRow := [ { off := 0x040, n := 4, rw := allBits } ]

/-- The command queue registers of one doorbell page. -/
def pageRows : List RegRow := [
  { off := 0x100, rw := allBits }, { off := 0x104, rw := allBits },
  { off := 0x108, rw := allBits }, { off := 0x10C, rw := allBits },
  { off := 0x110, rw := 0x80FF000F, reset := 0x00FF0004 } ]

/-- The default reactions of R706 for the kinds whose default is not LOG, as pairs (kind, reaction code of R717). -/
def kindReset : List (Nat × Nat) := [
  (0x02, 1), (0x04, 2), (0x07, 2), (0x08, 2), (0x09, 2), (0x0A, 2), (0x0B, 3), (0x0D, 3), (0x0F, 2), (0x12, 3),
  (0x13, 2), (0x16, 3), (0x1A, 2), (0x1C, 3) ]

/-- The rows and the offset in its block of a BAR0 offset; a port's region is split into its four sub-blocks. -/
def regBlock (o : Nat) : List RegRow × Nat :=
  let p := (o - 0x300000) / 0x10000
  let r := o % 0x10000
  if o < 0x100000 then (glbRows, o)
  else if o < 0x200000 then (timRows, o - timBase)
  else if o < 0x300000 then (spnRows, o - spnBase)
  else if o < 0x490000 then
    if r < 0x4000 then (macRows, r)
    else if r < 0x8000 then (if p = 24 then [] else mmgRows, r - 0x4000)
    else if r < 0xC000 then (gatRows, r - 0x8000)
    else (qsvRows, r - 0xC000)
  else if o < 0x500000 then ([], 0)
  else if o < 0x600000 then (stmRows, o - stmBase)
  else if o < 0x700000 then (jnrRows, o - jnrBase)
  else if o < 0x800000 then (dryRows, o % 0x40000)
  else if o < 0xA00000 then ([], 0)
  else if o < 0xB00000 then (bntRows, o - bntBase)
  else if o < 0xC00000 then ([], 0)
  else if o < 0xD00000 then (fltRows, o - fltBase)
  else if o < 0xE00000 then (pwrRows, o - pwrBase)
  else if o < 0xF00000 then (hstRows, o - hstBase)
  else if o < 0x1000000 then (memRows, o - memBase)
  else if o = pageBase 0 + o % 0x1000 || o = pageBase 2048 + o % 0x1000 then (pageRows, o % 0x1000)
  else if 0x80000000 ≤ o then (vfRows, o % 0x1000)
  else if 0x10000000 ≤ o then (hstRows, o - hstKey 1)
  else ([], 0)

/-- The row that holds the settings word at a BAR0 offset. -/
def regRow (o : Nat) : Option RegRow := let b := regBlock o; b.1.find? (fun r => r.covers b.2)

/-- The reset value of the settings word at a BAR0 offset (R820); 0 where no row holds it. -/
def resetWord (o : Nat) : Word :=
  match regRow o with
  | none => 0
  | some r =>
    if fltBase + 0x5000 ≤ o ∧ o < fltBase + 0x5400 then
      BitVec.ofNat 32 (((kindReset.find? (fun p => p.1 == (o - fltBase - 0x5000) / 4)).map (·.2)).getD 0)
    else BitVec.ofNat 32 r.reset

end Sys2Proof.Machine
end

