-- ==== Sys2Proof/Machine/TypesWork.lean ====
section
/-!
DEFINITION. State of the work queues, daybooks and dray engines' host side, the clerk and its benches, and the GLB
block (chapters 11, 13 and 19).
-/

namespace Sys2Proof.Machine

/-- The states of a work queue, R502. -/
inductive QState where
  | disabled | running | stopping | error
deriving DecidableEq, Repr

/-- The kinds of work queue, R475, numbered as WQ_STATUS shows them. -/
inductive QKind where
  | tx | rx | command
deriving DecidableEq, Repr

/-- A prefetched entry: the index of its first unit and its bytes as the one read returned them; `bad` when that
read returned an error (R497, R498, R500 cause FETCH). -/
structure Fetched where
  index : BitVec 16
  bytes : List Byte := []
  bad : Bool := false
deriving DecidableEq, Repr

/-- A started entry whose completion is not written yet (R484, R502). -/
structure Started where
  /-- Number of this start among all starts and deliveries of the post, for fences. -/
  sn : Nat
  index : BitVec 16
  /-- Header word of the entry, R477. -/
  header : BitVec 32 := 0
  kind : Nat := 0
  /-- TX: the ports of the copies still to leave, the ports whose copy did not leave and the first status other
  than OK by port, R489. -/
  waitMask : Nat := 0
  failedMask : Nat := 0
  statuses : List (Nat × Nat) := []
  tsLost : Bool := false
  tsQueued : Bool := false
  seqValid : Bool := false
  seq : BitVec 28 := 0
  /-- FENCE: scope, the work it waits for, its initial count, and what R523 reports. -/
  scope : Nat := 0
  covers : List Nat := []
  covered : Nat := 0
  folded : Bool := false
  /-- BENT fence: the last MSEQ sent when it started, which must be confirmed (R519). -/
  mseq : Nat := 0
  /-- Its frame in the frame hold, and the mask of its copies (R487). -/
  frame : Option Nat := none
  egress : Nat := 0
  slot : Option Nat := none
  /-- RX_BUF: the buffer's address and length as the entry was fetched (R490). -/
  bufAddr : Nat := 0
  bufLen : Nat := 0
deriving DecidableEq, Repr

/-- One work queue, R474 to R506. -/
structure WorkQueue where
  state : QState := .disabled
  kind : QKind := .tx
  group : Nat := 0
  noticeBook : Nat := 0xFF
  logN : Nat := 4
  weight : Nat := 1
  burst : Nat := 1
  base : BitVec 64 := 0
  shadow : BitVec 64 := 0
  pi : BitVec 16 := 0
  ci : BitVec 16 := 0
  invAck : BitVec 16 := 0
  cause : Nat := 0
  latched : BitVec 16 := 0
  fetched : List Fetched := []
  started : List Started := []
  /-- The published shadow lies behind CI, R485. -/
  shadowDue : Bool := false
  /-- CQ_CFG.ENABLE was set while the queue was STOPPING, R526. -/
  enablePending : Bool := false
  /-- RX: frames steered here in their order of hand-over (R403, R537). -/
  rxWait : List Nat := []
  /-- Braced bent: the head entry whose WQ_ACCEPT is sent and not confirmed (R620), with the number it was given. -/
  accepting : Option (Option Nat) := none
  /-- A step of this queue waits for a mirror credit (R621). -/
  stalled : Bool := false
  cStarted : BitVec 64 := 0
  cCompleted : BitVec 64 := 0
  cDiscarded : BitVec 64 := 0
  cDbIgnored : BitVec 64 := 0
  cInvalidates : BitVec 64 := 0
  cNoBuffer : BitVec 64 := 0
  cDeliveryDiscarded : BitVec 64 := 0
  cMalformed : BitVec 64 := 0
deriving DecidableEq, Repr

/-- The states of a daybook, R517. -/
inductive BState where
  | disabled | running | error
deriving DecidableEq, Repr

/-- A notice that has arisen and whose record is not written yet (R508 to R513): its daybook, record kind, the source
bit that folding sets, the body after the header word (28 bytes, with the time filled in at the write when `timed`),
and the work that caused it, for fences. -/
structure Notice where
  book : Nat
  kind : Nat
  source : Nat
  body : List Byte
  /-- Bytes 0x10 to 0x1F take the span time and flag of the write. -/
  timed : Bool := true
  sn : Option Nat := none
  /-- A vector of physical function 0 that is sent once the record is written or folded (R730). -/
  vector : Option Nat := none
deriving DecidableEq, Repr

/-- One daybook, R507 to R517. -/
structure Daybook where
  state : BState := .disabled
  logN : Nat := 4
  base : BitVec 64 := 0
  pendingAddr : BitVec 64 := 0
  bpi : BitVec 16 := 0
  bci : BitVec 16 := 0
  latched : BitVec 16 := 0
  /-- The page that is its home, kept through BOOK_DISABLE (R526); none after cold reset. -/
  homeWq : Option Nat := none
  vector : Nat := 0
  irqCount : Nat := 0
  irqDelay : Nat := 0
  /-- Set bits of the pending bitmap, rising. -/
  bitmap : List Nat := []
  folded : BitVec 32 := 0
  /-- Records written since the last message, and the tick of the first record no message covers, R516. -/
  uncovered : Nat := 0
  firstUncovered : Option Nat := none
  /-- An OVERFLOW record asks for a message at once. -/
  irqNow : Bool := false
  cRecords : BitVec 64 := 0
  cFoldedTotal : BitVec 64 := 0
  cOverflows : BitVec 64 := 0
  cDropped : BitVec 64 := 0
  cMessages : BitVec 64 := 0
deriving DecidableEq, Repr

/-- An MSI-X message sent or waiting for its mask bit (R793): physical function, vector. -/
structure Msix where
  fn : Nat
  vector : Nat
deriving DecidableEq, Repr

/-- What a command that has passed its execution point waits for, R574. -/
inductive WaitKind where
  /-- FENCE, R576: every command taken before it from its queue. -/
  | fence
  /-- BENCH_PEG: the peg instant of a bench. -/
  | peg (bench : Nat)
  /-- BENCH_PEG of a BENT bench: the partner's confirmation of staging under a number, R600, with its deadline. -/
  | pegStage (bench ref deadline : Nat)
  /-- TIME_SET with AT_PPS: the new time and the deadline. -/
  | timeSetPps (time : Nat) (deadline : Nat)
  /-- PARTNER scope: the answer over the tie beam, R582, with its deadline. -/
  | partner (ref : Nat) (deadline : Nat)
  /-- BENT scope: this post's own status and clamps, until the partner's, R581. -/
  | bent (ref : Nat) (status : Status) (detail : Nat) (clamps : Nat)
  /-- WQ_DISABLE: the queue reaches DISABLED. -/
  | wqDisable (q : Nat)
  /-- PATTERN_CHANGE: the change is done or dropped. -/
  | patternChange
  /-- STOCKTAKE: the bank's copy. -/
  | stocktake (bank : Nat)
  /-- A span-wide STOCKTAKE at the king post: the replies, by its SEQ (R325). -/
  | spanStocktake (seq : BitVec 32)
  /-- DRAY_STOP and DRAY_ABORT: the channel reaches DISABLED. -/
  | drayStop (engine channel : Nat)
  /-- A 0x0Cxx command: the island's result to an input record, with its deadline. -/
  | assay (inseq : BitVec 32) (deadline : Nat)
  /-- ASY_FIRMWARE: the result of the chunk at an offset. -/
  | assayFw (inseq : BitVec 32) (deadline offset : Nat)
  /-- SELFTEST, MEM_BIST, EYE_SCAN, FAULT_CLEAR with a test: the unit test of a source. -/
  | unitTest (source : Nat)
  /-- FAULT_CLEAR with UNFENCE: the units whose tests still run, and whether one has failed (R727). -/
  | unfence (left : List Nat) (bad : Bool)
  /-- FAULT_INJECT: the foreman takes the message of a source (R742). -/
  | inject (source : Nat)
  /-- MAINT_ENTER: everything it stops has stopped. -/
  | maint
  /-- BENT_SWITCH: the handover is over. -/
  | bentSwitch
  /-- BENT_RESIGN: the resignation is over. -/
  | bentResign
  /-- BENT_RESYNC: the copy is over. -/
  | bentResync
  /-- LINK_RESTART and other port waits. -/
  | linkRestart (port : Nat)
deriving DecidableEq, Repr

/-- A command the clerk has taken and not yet executed, with its place in the order of taking (R572, R576). -/
structure Taken where
  no : Nat
  opcode : Nat
  cmd : Cmd
  /-- Its completion is discarded after a function level reset (R504, R602). -/
  discard : Bool := false
deriving DecidableEq, Repr

/-- A command past its execution point that waits to complete, R575. -/
structure Waiting where
  no : Nat
  opcode : Nat
  cmd : Cmd
  clamps : Nat := 0
  kind : WaitKind
  discard : Bool := false
  /-- The reply that a BENT command's own effect gave, until the partner has finished. -/
  reply : List Byte := []
deriving DecidableEq, Repr

/-- The states of a bench, R591. -/
inductive BenchState where
  | free | open | fitted | pegged
deriving DecidableEq, Repr

/-- One accepted bench command as it will apply: its opcode, its parameter area with every field clamped, and the
image or array it read from host memory. -/
structure Setting where
  opcode : Nat
  params : List Byte
  image : List Byte := []
  /-- The physical function of the command queue that wrote it, for ownership checks at the dry fit. -/
  fn : Nat := 0
deriving DecidableEq, Repr

/-- How a peg names its instant, R596. -/
inductive PegAt where
  | safe | cycle | time
deriving DecidableEq, Repr

/-- One bench, R590 to R601. -/
structure Bench where
  state : BenchState := .free
  /-- The command queue that owns it: 0 or 2,048; `partnerOwned` for a bench opened over the tie beam. -/
  owner : Nat := 0
  ownerPartner : Bool := false
  scope : Nat := 0
  /-- Accepted bench commands, oldest first. -/
  settings : List Setting := []
  clamps : Nat := 0
  stageUs : Nat := 0
  pegAt : PegAt := .safe
  /-- Named or chosen cycle, and whether the peg lies on that cycle (for SAFE: its boundary less precision). -/
  pegCycle : BitVec 32 := 0
  pegOnCycle : Bool := false
  /-- Span time of the peg tick in units of 2^-40 ns; the local tick for a safe point off the cycle. -/
  pegTime : Nat := 0
  pegTick : Option Nat := none
  /-- Tick at which the peg was accepted and the tick by which staging is over. -/
  stagedBy : Option Nat := none
  staged : Bool := false
deriving DecidableEq, Repr

/-- A command waiting in the carry queue of the king post, R583. -/
structure Carried where
  seq : BitVec 32
  opcode : Nat
  force : Bool
  params : List Byte
deriving DecidableEq, Repr

/-- The reply of a carried command that waits for the next owned slot, R586. -/
structure CarriedReply where
  seq : BitVec 32
  opcode : Nat
  status : Status
  clamps : Nat
  detail : BitVec 32
deriving DecidableEq, Repr

/-- The clerk, chapter "Command packets and the bench". -/
structure Clerk where
  /-- CMD_STATUS.READY. -/
  ready : Bool := false
  benches : Tab Bench := []
  /-- Commands taken so far, which numbers them. -/
  takeNo : Nat := 0
  taken : List Taken := []
  waiting : List Waiting := []
  /-- The command queue to be served next, R572. -/
  turn : Nat := 0
  carryQueue : List Carried := []
  carrySeq : BitVec 32 := 0
  /-- CARRY_SEQs of the current king's carriage already executed here, R585. -/
  carryDone : List (BitVec 32) := []
  carryKing : BitVec 64 := 0
  carriedReplies : List CarriedReply := []
  /-- Numbers the commands sent to the partner. -/
  partnerRef : Nat := 0
deriving DecidableEq, Repr

/-- Identity, straps, fuses and the access counters of the GLB block, with the boot slots and debug port
(DESIGN CHOICE, log entry 23). -/
structure Glb where
  stepping : BitVec 8 := 1
  metrology : Bool := true
  industrial : Bool := true
  clockId : BitVec 64 := 0
  macBase : BitVec 48 := 0
  /-- Version of the firmware image that runs; 0 while none runs (R847, R857). -/
  fwVer : BitVec 32 := 0
  vendorMcVer : BitVec 32 := 0
  hallmark : BitVec 32 := 0
  hallmarkVer : BitVec 16 := 0
  hallmarkValid : Bool := false
  debugLocked : Bool := true
  secureBoot : Bool := true
  rollback : BitVec 8 := 0
  /-- Fused hashes of the firmware signing key and of the debug key, R847 and R850. -/
  fwKeyHash : List Byte := []
  debugKeyHash : List Byte := []
  hostSplit : Bool := false
  bar4En : Bool := true
  resetCause : BitVec 32 := 0
  lastIgnored : BitVec 32 := 0
deriving DecidableEq, Repr

end Sys2Proof.Machine
end

