-- ==== Sys2Proof/Machine/TypesTime.lean ====
section
/-!
DEFINITION. State of the time island's first domain and of PTP and SyncE on every port (chapter "Span time").
Instants of span time inside the machine are natural numbers of 2^-40 ns since the PTP epoch, the unit of the
counter's accumulator; a register, record or parameter carries them in the layout of R44.
-/

namespace Sys2Proof.Machine

/-- The time flags, R47. -/
inductive TimeFlag where
  | valid | coarse | invalid
deriving DecidableEq, Repr

/-- The DPLL states, R63. -/
inductive Dpll where
  | freerun | acquire | locked | holdover
deriving DecidableEq, Repr

/-- A reference: its code in the table of the section "References", and its source port or PTP domain. -/
structure RefId where
  kind : Nat
  source : Nat := 0
deriving DecidableEq, Repr

/-- One PTP context of the four, R65 and R860. -/
structure PtpInst where
  profile : Nat := 1
  domain : Nat := 0
  priority1 : Nat := 128
  priority2 : Nat := 128
deriving DecidableEq, Repr

/-- The roles of a PTP port, TIM_P_STATUS.ROLE. -/
inductive PtpRole where
  | disabled | master | slave | passive
deriving DecidableEq, Repr

/-- One completed peer-delay exchange: t1 and t4 local, t2 and t3 the partner's, in 2^-16 ns. -/
structure Exchange where
  t1 : Nat
  t2 : Nat
  t3 : Nat
  t4 : Nat
deriving DecidableEq, Repr

/-- A record of a timestamp queue: bytes 0x04 to 0x1F of R86's record, with the work that asked for it. -/
structure TsRec where
  body : List Byte
  sn : Option Nat := none
deriving DecidableEq, Repr

/-- Time state of one port, indices 0 to 26. -/
structure PortTime where
  /-- Settings of SET_PTP_PORT; `joined` none until one joins the port (R860). -/
  joined : Option Nat := none
  oneStep : Bool := false
  transport : Nat := 0
  e2e : Bool := false
  logSync : Int := -3
  logPdelay : Int := -3
  logAnnounce : Int := 0
  allowedLost : Nat := 3
  /-- Settings of SET_SYNCE. -/
  synceEnable : Bool := false
  synceRxRef : Bool := false
  synceEsmc : Bool := false
  qlForce : Nat := 0
  option2 : Bool := false
  ql : Nat := 0
  role : PtpRole := .disabled
  timeCapable : Bool := false
  /-- TIM_P_DELAY in 2^-8 ns, TIM_P_RATIO as its register shows it. -/
  delay : Nat := 0
  ratio : BitVec 32 := 0
  exchanges : List Exchange := []
  lostRun : Nat := 0
  /-- Send instant of the request of the exchange in progress, and the sequence numbers of the messages sent. -/
  pdelayT1 : Option Nat := none
  pdelaySeq : BitVec 16 := 0
  /-- An exchange has begun and is neither complete nor lost, R70. -/
  pdelayOpen : Bool := false
  syncSeq : BitVec 16 := 0
  announceSeq : BitVec 16 := 0
  /-- End-to-end: sequence number and send instant of the Delay_Req in progress, and the receive instant and origin
  of the last Sync. -/
  delayReqSeq : BitVec 16 := 0
  delayReqT3 : Option Nat := none
  syncT1 : Nat := 0
  syncT2 : Nat := 0
  /-- A two-step Sync whose Follow_Up is awaited: sequence number, receive instant, correction. -/
  awaitFollow : Option (Nat × Nat × Int) := none
  lastSync : Option Nat := none
  foreign : Option Announce := none
  /-- Offset to the parent by R71 in 2^-16 ns. -/
  thetaPtp : Int := 0
  /-- Phases in 2^-16 ns, R76 and R77. -/
  phaseFwd : Nat := 0
  phaseRev : Nat := 0
  phaseValid : Bool := false
  partnerPhaseValid : Bool := false
  phaseTxSeq : BitVec 8 := 0
  phaseRxSeq : Option (BitVec 8) := none
  phaseRun : Nat := 0
  partnerSynce : Bool := false
  /-- The phase of the previous report and the PTP estimate then, for R79. -/
  lastTheta : Int := 0
  lastPtp : Int := 0
  /-- A two-step Pdelay_Resp whose follow-up is awaited: t2, t4 and correction. -/
  awaitPdelay : Option (Nat × Nat × Int) := none
  tsq : List TsRec := []
  tsqSeq : BitVec 32 := 0
deriving DecidableEq, Repr

/-- A slew in progress, R55: the offset still to remove, in 2^-40 ns. -/
structure Slew where
  remaining : Int
deriving DecidableEq, Repr

/-- The time island's first domain. -/
structure Time where
  /-- Ticks of 1.28 ns since the last power-on. -/
  ticks : Nat := 0
  /-- The counter: SEC, NS and the 40-bit fraction as one number of 2^-40 ns. -/
  count : Nat := 0
  flag : TimeFlag := .invalid
  /-- Increment less nominal, 2^-40 ns per tick: TIM_FREQ_ADJ. -/
  adj : Int := 0
  slew : Option Slew := none
  dpll : Dpll := .freerun
  everLocked : Bool := false
  /-- What the first measurement in ACQUIRE does to the offset: 0 nothing, 1 steps or slews, 2 slews (R56, R63). -/
  entry : Nat := 0
  /-- Set by a takeover until LOCKED: the offset is removed by slewing only, R97. -/
  noStep : Bool := false
  /-- Consecutive updates within 10 ns (R63) and within TIM_VALID_THRESH (R48). -/
  nearRun : Nat := 0
  convRun : Nat := 0
  /-- Offset to the phase reference, 2^-16 ns: TIM_OFFSET. -/
  offset : Int := 0
  qualified : List RefId := []
  phRef : Option RefId := none
  fqRef : Option RefId := none
  epoch : BitVec 8 := 0
  /-- Uncertainty in ns at the instant `uncertFrom`, from which it grows at `uncertPpb`, R49, R63, R93. -/
  uncertBase : Nat := 0
  uncertFrom : Nat := 0
  uncertPpb : Nat := 0
  /-- Tick from which HOLDOVER is counted, R48. -/
  holdFrom : Nat := 0
  ppsIn : Nat := 0
  ppsInTick : Option Nat := none
  todLabel : Option Nat := none
  todTick : Option Nat := none
  /-- The span-time second at which TIM_PPS_OUT last rose, in 2^-16 ns; none while it is suppressed. -/
  ppsOut : Option Int := none
  tenMhzOut : Bool := false
  busLoads : Nat := 0
  insts : Tab PtpInst := []
  ports : Tab PortTime := []
  /-- Saved at entry to Deep sleep (R92): time, 48-bit always-on counter, increment and flag. -/
  savedCount : Nat := 0
  savedAon : Nat := 0
  savedAdj : Int := 0
  savedFlag : TimeFlag := .invalid
deriving DecidableEq, Repr

end Sys2Proof.Machine
end

