-- ==== Sys2Proof/Machine/TypesSpan.lean ====
section
/-!
DEFINITION. State of the span-cycle engine (chapter "The span cycle"). Instants are in units of 2^-16 ns of span time,
as bells carry them.
-/

namespace Sys2Proof.Machine

/-- The states of the span-cycle engine, R145, in the order of SPN_STATUS.STATE. -/
inductive SpanState where
  | disabled | listen | trial | raise | king | joined | member
deriving DecidableEq, Repr

/-- A bell kept for comparison: its king, header and body. -/
structure KeptBell where
  owner : BitVec 64
  cycle : BitVec 32
  body : Bell
  pattern : Nat := 0
  /-- Whether the post was aligned when it arrived. -/
  aligned : Bool := false
  /-- Tick of its arrival. -/
  tick : Nat := 0
deriving DecidableEq, Repr

/-- A copy of a span frame that is to be launched on a port at an instant (R119). -/
structure Launch where
  port : Nat
  hdr : SpanHdr
  bell : Option Bell := none
  carry : Option Carry := none
  data : List Byte := []
  /-- L in units of 2^-16 ns. -/
  at_ : Int
  relay : Bool := false
  /-- The frame of the frame hold that rides in it. -/
  frame : Option Nat := none
  /-- Number that copies of one originated frame share, for SLOT_SENT and DYN_SENT. -/
  group : Nat := 0
deriving DecidableEq, Repr

/-- A pending pattern change, R148. -/
structure Change where
  pattern : Nat
  target : BitVec 32
  /-- The king's present set and the owners that have acknowledged. -/
  present : List Nat := []
  acked : List Nat := []
  /-- At a member: this post has acknowledged it. -/
  acking : Bool := false
  /-- The first cycle whose bell announces it, at a member the one that it learned it from. -/
  fromCycle : BitVec 32 := 0
deriving DecidableEq, Repr

/-- A stocktake that the king has carried, R323 to R325. -/
structure SpanStocktake where
  cycle : BitVec 32
  seq : BitVec 32
  carrySeq : BitVec 32
  /-- Owner index, status code and bank of each owner of the present set; status 0xFF until its reply. -/
  replies : List (Nat × Nat × Nat)
deriving DecidableEq, Repr

/-- The span-cycle engine. -/
structure Span where
  state : SpanState := .disabled
  cycle : BitVec 32 := 0
  cycValid : Bool := false
  /-- T(n) of the current cycle, and the pattern of this cycle and of the one before. -/
  tn : Nat := 0
  pattern : Nat := 0
  prevPattern : Nat := 0
  /-- The boundary of the current cycle has come about: false between a raise and its T(0). -/
  begun : Bool := true
  /-- Pattern of the first bell received, or the raise pattern (R165). -/
  firstPattern : Nat := 0
  /-- Last cycle whose bell was received or sent, R175. -/
  bellCycle : BitVec 32 := 0
  bellSeen : Bool := false
  silenced : Bool := false
  kingId : BitVec 64 := 0
  kingPrio : Nat := 0
  /-- PI, DHOP and HOP_LIMIT of the last bell or the image. -/
  pi : Nat := 0
  dhop : Nat := 0
  hopLimit : Nat := 0
  trial : Option KeptBell := none
  lastBell : Option KeptBell := none
  /-- The latest bell of each king: its identity, CYCLE and START, by which copies of one bell are known (R133). -/
  heard : List (BitVec 64 × BitVec 32 × Nat) := []
  missedRun : Nat := 0
  integrationCycle : BitVec 32 := 0
  listenFrom : Option Nat := none
  /-- A better king's bell was heard: yield at the next boundary. -/
  yieldTo : Option KeptBell := none
  change : Option Change := none
  /-- At the king: the cycle whose bell carries DROPPED. -/
  dropAt : Option (BitVec 32) := none
  /-- Stored image bytes; empty while there is none. -/
  image : List Byte := []
  imageValid : Bool := false
  setId : BitVec 32 := 0
  /-- Parts of the image being assembled: tag, number of parts, parts held. -/
  asmTag : BitVec 32 := 0
  asmParts : Nat := 0
  asm : Tab (List Byte) := []
  /-- Span ports whose hop margin is negative, R122. -/
  marginLow : List Nat := []
  /-- Static bindings keyed 4,096 * pattern + slot - 1, dynamic bindings keyed 16,384 * pattern + identifier; 255 none. -/
  statBind : Tab Nat := []
  dynBind : Tab Nat := []
  /-- Slot sources: frames of the frame hold, oldest first. -/
  sources : Tab (List Nat) := []
  /-- The mini-slot count of R129; 0 before the dynamic segment. -/
  miniCount : Nat := 0
  dynSilent : Bool := false
  /-- Copies accepted in this cycle: subtype, number and mini-slot occupancy; and what was done once in it: 0x12 a slot's
  end, 0x22 a slot's ready lead, 0x31 a missing bell. -/
  accepted : List (Nat × Nat × Nat) := []
  /-- Owners whose static-slot copy was accepted in this cycle and in the last one. -/
  presentNow : List Nat := []
  presentLast : List Nat := []
  launches : List Launch := []
  /-- Groups already counted as sent, and the next group number. -/
  sentGroups : List Nat := []
  nextGroup : Nat := 1
  carousel : Nat := 0
  stocktakes : List SpanStocktake := []
deriving DecidableEq, Repr

end Sys2Proof.Machine
end

