-- ==== Sys2Proof/Machine/TypesPort.lean ====
section
/-!
DEFINITION. State of one port: link, wire, transmit queues, gates, flows, MAC merge, MACsec and flow control
(chapters 4 to 7), and of a frame in the frame hold. Port instants are in units of 1/(25 * 2^16) ns, in which one
byte-time of every port mode and every instant of span time is whole.
-/

namespace Sys2Proof.Machine

/-- Link states, R281. -/
inductive Link where
  | down | up | debounce
deriving DecidableEq, Repr

/-- A frame waiting on a flow of a port: its number in the frame hold, the length L of R213, its MACsec expansion,
its secure channel and its finish tag. -/
structure QFrame where
  id : Nat
  len : Nat
  exp : Nat := 0
  sc : Nat := 0xFF
  tag : BitVec 64 := 0
  /-- FIT_DEFERRED was counted for it. -/
  deferred : Bool := false
  /-- R181's check was made since it became the head of its flow. -/
  checked : Bool := false
  /-- The secure channel and packet number it took at its start. -/
  pn : Option (Nat × Nat) := none
deriving DecidableEq, Repr

/-- A flow context or the spill flow of a class (R205 to R226). Tokens in units of 2^-20 / 10^9 byte. -/
structure Flow where
  number : Nat := 0
  ftag : BitVec 32 := 0
  cls : Nat := 0
  static : Bool := false
  weight : Nat := 1
  oflow : Int := 0
  fprev : BitVec 64 := 0
  frames : List QFrame := []
  rate : Nat := 0
  bucket : Nat := 0
  tokens : Int := 0
  /-- Instant to which the tokens are brought up. -/
  tokAt : Nat := 0
  /-- Tick since which it has held no frame. -/
  idleFrom : Option Nat := none
deriving DecidableEq, Repr

/-- A suspended frame: what is left of it, and the operation in which it started. -/
structure Susp where
  qf : QFrame
  cls : Nat
  level : Nat
  flow : Nat
  /-- Bytes of frame data already sent, frag_count of the next continuation, frame count of its SMD. -/
  sent : Nat
  frag : Nat := 0
  count : Nat := 0
  nested : Bool := false
  heldAt : Nat := 0
  /-- Held under R185, so R187 applies. -/
  fitHeld : Bool := false
  /-- Start position of its first fragment. -/
  began : Nat := 0
deriving DecidableEq, Repr

/-- Frames the device itself makes for a port, waiting for the wire ahead of every frame (R308, R261, R268) or, for
PTP, LLDP and ESMC, on the ordinary path of the clerk. -/
inductive Ctrl where
  | pause (quanta : Nat)
  | pfc (prio : Nat) (quanta : Nat)
  | verify
  | respond
  | ptp (kind : Nat) (msg : PtpMsg) (ann : Option Announce) (phase : Option PhaseReport)
  | esmc (ql : Nat)
  /-- An LLDPDU with the values of MMG_ADVERT at its sending (R264). -/
  | lldp (advert : Nat)
deriving DecidableEq, Repr

/-- What is on the wire. -/
inductive WireKind where
  | frame | span | ctrl
deriving DecidableEq, Repr

/-- A transmission in progress on a port. -/
structure Wire where
  kind : WireKind
  /-- The frame, its class and level, and whether it was started express. -/
  qf : QFrame
  cls : Nat := 0
  level : Nat := 0
  flow : Nat := 0
  /-- Start position and the instants of the last bit and of the end of the gap. -/
  start : Nat
  dataEnd : Nat
  gapEnd : Nat
  /-- Offset of frame data at which this fragment began, and at which it ends. -/
  from_ : Nat := 0
  upto : Nat := 0
  /-- It ends the frame. -/
  final : Bool := true
  frag : Nat := 0
  count : Nat := 0
  nested : Bool := false
  /-- The frame holds a retry, R311. -/
  retry : Bool := false
  /-- Ended under a fragment plan, R185; interrupted; or held under pause, R272. -/
  planned : Bool := false
  cut : Bool := false
  cutPause : Bool := false
  /-- Cut for an interrupting frame. -/
  cutFor : Bool := false
  /-- Start position of the frame's first fragment. -/
  began : Nat := 0
  /-- GATE_OVERRUN was counted for it. -/
  overrun : Bool := false
  /-- Its last bit has left, the gap runs. -/
  done : Bool := false
  ctrl : Option Ctrl := none
  launch : Option Launch := none
deriving DecidableEq, Repr

/-- A cutting-list entry, R162. -/
structure GateEntry where
  interval : Nat
  gates : BitVec 8
  hold : Bool := false
  span : Bool := false
deriving DecidableEq, Repr

/-- A cutting list in force for one pattern, with its image's LIST_ID. -/
structure GateList where
  entries : List GateEntry := []
  cycleNs : Nat := 0
  listId : BitVec 32 := 0
  /-- Its image passed the header check of R171. -/
  headerOk : Bool := true
deriving DecidableEq, Repr

/-- Verify states, R268, in the order of MMG_STATUS.VERIFY. -/
inductive Verify where
  | disabled | waitPartner | sendVerify | waitResponse | succeeded | failed
deriving DecidableEq, Repr

/-- A reassembly buffer, R260. -/
structure Reasm where
  count : Nat
  data : List Byte
  nextFrag : Nat := 0
  since : Nat := 0
  rxTime : Nat := 0
deriving DecidableEq, Repr

/-- A secure association, R292. -/
structure SecAssoc where
  nextPn : Nat
  key : List Byte
  ssci : BitVec 32 := 0
  salt : List Byte := []
  warned : Bool := false
deriving DecidableEq, Repr

/-- A secure channel, R292 to R296. -/
structure SecChan where
  sci : BitVec 64 := 0
  tx : Bool := false
  cipher : Nat := 0
  confOffset : Nat := 0
  includeSci : Bool := false
  replayProtect : Bool := false
  encAn : Nat := 0
  window : Nat := 0
  frames : BitVec 64 := 0
  discarded : BitVec 64 := 0
  assocs : Tab (Option SecAssoc) := []
  defined : Bool := false
deriving DecidableEq, Repr

/-- State of one port index 0 to 24 beside its settings and counters. -/
structure Port where
  /-- MAC address set by a bench; none for the fused base plus the index. -/
  mac : Option (BitVec 48) := none
  link : Link := .down
  pcs : Bool := false
  signal : Bool := false
  fecLock : Bool := false
  hiBer : Bool := false
  rxLpi : Bool := false
  txLpi : Bool := false
  lpiSince : Nat := 0
  /-- Instant before which no start position falls after leaving LPI, R299. -/
  wakeAt : Nat := 0
  debounceAt : Option Nat := none
  discardAt : Option Nat := none
  threshUp : Tab Nat := []
  decayAt : Tab Nat := []
  /-- The transmitter. -/
  wire : Option Wire := none
  /-- Instant from which the wire has been idle. -/
  idleFrom : Nat := 0
  ctrl : List Ctrl := []
  /-- The transmission that starts when the fragment on the wire has ended, R192. -/
  commit : Option Wire := none
  /-- HOLD in force on an active MAC merge sublayer, for HOLD_COUNT. -/
  holdOn : Bool := false
  /-- The last frame of the device's own that left on the port. -/
  lastCtrl : Option Ctrl := none
  suspended : List Susp := []
  /-- Underrun retry of each class. -/
  retry : Tab (Option (QFrame × Nat)) := []
  flows : Tab Flow := []
  spill : Tab Flow := []
  vtime : Tab (BitVec 64) := []
  /-- Credit of each CBS class in units of 2^-16 / 25,000,000 bit, and the instant it is brought up to. -/
  credit : Tab Int := []
  creditAt : Nat := 0
  /-- The cutting list of each pattern. -/
  lists : Tab GateList := []
  /-- What the port last acted on: whether its lists ran, the pattern of the list in force, and whether it held none. -/
  running : Bool := false
  listPattern : Nat := 0
  noListNow : Bool := false
  /-- MAC merge. -/
  verify : Verify := .disabled
  attempts : Nat := 0
  verifyAt : Option Nat := none
  nested : Bool := false
  modePending : Bool := false
  frameCount : Nat := 0
  partner79 : Bool := false
  caps79 : Nat := 0
  partnerLz : Bool := false
  lzFlags : Nat := 0
  lzVersion : Nat := 0
  partnerUntil : Option Nat := none
  lldpAt : Option Nat := none
  reasm : List Reasm := []
  /-- Pause: end instants of the timers, PAUSE under key 8 and PFC priority p under key p. -/
  pauseUntil : Tab Nat := []
  /-- Requests of this port in force: instant of the last request by key as above. -/
  xoffAt : Tab (Option Nat) := []
  /-- Frames on their way to a class queue, oldest first. -/
  arriving : List Nat := []
  /-- Data of the last frame whose last bit has left, as the MAC sent it, without FCS. -/
  lastSent : List Byte := []
  sec : Tab SecChan := []
deriving DecidableEq, Repr

/-- Where a frame came from. -/
inductive FrameOrigin where
  | rx (port : Nat)
  | tx (q : Nat) (sn : Nat)
  | clerk
deriving DecidableEq, Repr

/-- Where a frame's bytes are, R28 to R30. -/
inductive FramePlace where
  | hold | spilled | returning
deriving DecidableEq, Repr

/-- The stage a frame of the frame hold has reached. -/
inductive FrameStage where
  /-- Waits for a joiner thread, R18. -/
  | dispatch
  /-- In a joiner thread or the stream engine. -/
  | joinery
  /-- Steered: waits at its destinations. -/
  | steered
  /-- Held for account ordering, in the ordering pool of bulk memory, R31. -/
  | ordered
  /-- Kept by a standby, R623. -/
  | kept
deriving DecidableEq, Repr

/-- One edit of a frame's edit list, R417 and R455. -/
inductive Edit where
  | vlanPush (tpid tci : Nat)
  | vlanPop
  | vlanRewrite (tci : Nat) (keepPcp : Bool)
  /-- The whole outer TCI, by a hook. -/
  | setTci (tci : Nat)
  | setBytes (at_ : Nat) (bytes : List Byte)
  | dscp (value : Nat)
  /-- Sequence tag of a FORMAT of R350 with its number; its path field is written at each egress port (R354). -/
  | seqInsert (format seq : Nat)
  | seqRemove
  | dcwWrite (seq : Nat)
  | destRewrite (mac : List Byte) (vid : Nat)
  /-- DEI of the outer tag set by a meter, R235. -/
  | dei
  /-- correctionField: residence time, with link delay, or of a Follow_Up (R420, R421). -/
  | residence (p2p : Bool)
  | followUp
deriving DecidableEq, Repr

/-- A frame in the frame hold or the spill store, with what the joinery has learned of it. -/
structure Frame where
  origin : FrameOrigin
  /-- From the destination address to the last data byte, without FCS. -/
  bytes : List Byte := []
  /-- Whole length in bytes, from which its cells are counted (R17); set when reception or fetch begins. -/
  size : Nat := 0
  /-- Reception or fetch has ended; before that only a first part is in the hold. -/
  whole : Bool := true
  /-- Bytes in the hold while it is not whole, or while it returns from the spill store. -/
  arrived : Nat := 0
  /-- Reception ended in error after a cut-through start, R24. -/
  bad : Bool := false
  /-- The counter of that error, counted at the frame's end. -/
  rxErr : Nat := 0
  place : FramePlace := .hold
  stage : FrameStage := .dispatch
  /-- Receive timestamp in 2^-16 ns, time flag and epoch at capture, R85. -/
  rxTime : Nat := 0
  rxFlag : TimeFlag := .invalid
  rxEpoch : BitVec 8 := 0
  /-- TIM_UNCERT at capture. -/
  rxUncert : Nat := 0
  /-- PCP of the outer VLAN tag or the port's default priority. -/
  prio : Nat := 0
  dei : Bool := false
  cls : Nat := 0
  ftag : BitVec 32 := 0
  /-- Number of joinery dispatch, for order. -/
  ticket : Nat := 0
  /-- Destinations that have not released it, R19 and R20. -/
  egress : List Nat := []
  wq : Option Nat := none
  window : Bool := false
  slot : Option Nat := none
  /-- Span frame payload, R133. -/
  span : Bool := false
  edge : Bool := false
  windowFull : Bool := false
  kind : Nat := 0
  steer : Nat := 0
  sc : Nat := 0xFF
  tsReq : Bool := false
  tsRecord : Bool := false
  handle : Option Nat := none
  account : Option Nat := none
  path : Nat := 0
  seq : Nat := 0
  seqValid : Bool := false
  gap : Option Nat := none
  /-- Counted in NO_BUFFER, waiting since. -/
  noBuf : Bool := false
  since : Nat := 0
  hdrWrite : Bool := false
  /-- The joinery's edit list, R417. -/
  edits : List Edit := []
  /-- Stream handle of R338, verdict given, and the destination set fixed. -/
  handleFormat : Nat := 0
  /-- LEGAL and LEGAL_PENDING of R416. -/
  legal : Bool := false
  legalPending : Bool := false
  meterPoint : Nat := 0
  /-- Ticket source (25 for the host, 26 for releases) and the entry's queue for the host source (R401). -/
  tsource : Nat := 0
  flowTag : BitVec 32 := 0
  spanPort : Nat := 0
  handled : Bool := false
  /-- Its verdict was given after it had been kept through a takeover (R636). -/
  judged : Bool := false
  /-- A hook replaced the account's destination by a steer entry (R459). -/
  acctEntry : Bool := false
deriving DecidableEq, Repr

end Sys2Proof.Machine
end

