-- ==== Sys2Proof/Machine/TypesSys.lean ====
section
/-!
DEFINITION. State of the foreman, power, host link, bulk memory, boot, pins and debug port (chapters 16 to 20), and of
the stocktake banks (chapter 7).
-/

namespace Sys2Proof.Machine

/-- A fault message, R702; classes 0 CORRECTED, 1 CONTAINED, 2 FATAL. -/
structure FaultMsg where
  source : Nat
  kind : Nat
  cls : Nat
  access : Nat := 0
  forced : Bool := false
  escalated : Bool := false
  witness : Bool := false
  address : Nat := 0
  master : Nat := 0
  /-- Bits [63:0] of span time and the time flag at detection. -/
  time : Nat := 0
  flag : Nat := 0
deriving DecidableEq, Repr

/-- What the foreman keeps of one source. -/
structure FaultSource where
  slot : Option FaultMsg := none
  uncleared : Bool := false
  worst : Nat := 0
  /-- The message was one of the fatal state's. -/
  fatal : Bool := false
  /-- A RESIGN carried out as LOG, to be made up for when the post becomes ACTIVE (R722). -/
  resign : Bool := false
  /-- Ticks of this window's corrected messages by kind, R707. -/
  window : List (Nat × Nat) := []
deriving DecidableEq, Repr

/-- Why a unit is fenced. -/
inductive FenceWhy where
  | fault | test
deriving DecidableEq, Repr

/-- A unit fenced, named by the first source identifier of its range; its domains are off when gated. -/
structure Fence where
  unit_ : Nat
  why : FenceWhy
  gated : Bool := false
deriving DecidableEq, Repr

/-- A unit test in progress: of a rotation, of SELFTEST, EYE_SCAN or MEM_BIST, or of FAULT_CLEAR with UNFENCE. -/
inductive TestWhy where
  | rotation | selftest | unfence | eyeScan | bist
deriving DecidableEq, Repr

structure UnitTest where
  unit_ : Nat
  why : TestWhy
  /-- Test time in microseconds, and the tick at which it ends; none while the bank still drains. -/
  us : Nat := 0
  endAt : Option Nat := none
  target : Nat := 0
  index : Nat := 0
deriving DecidableEq, Repr

/-- The foreman. -/
structure Foreman where
  sources : Tab FaultSource := []
  lastTaken : Nat := 0
  hseq : BitVec 32 := 0
  /-- The last messages taken, newest first, with HSEQ and the reaction carried out. -/
  history : List (FaultMsg × Nat × Nat) := []
  first : Option (FaultMsg × Nat × Nat) := none
  fatal : Bool := false
  fatalSource : Nat := 0
  fatalKind : Nat := 0
  stopped : Bool := false
  stopSource : Nat := 0
  maint : Bool := false
  fences : List Fence := []
  tests : List UnitTest := []
  rotFh : Nat := 0
  rotTc : Nat := 0
  rotJoiner : Nat := 0
  /-- Ticks at which the gap of each rotation ends: frame hold, table cache, joiners. -/
  gapFh : Option Nat := none
  gapTc : Option Nat := none
  gapJn : Option Nat := none
  /-- Crossings raised and not yet re-armed: warn, limit, trip. -/
  warmWarn : Bool := false
  warmLimit : Bool := false
  warmTrip : Bool := false
  /-- Units degraded by a reaction. -/
  throttled : Bool := false
  slowLink : Bool := false
  /-- SRAM cells retired for good, as source identifier and address. -/
  retired : List (Nat × Nat) := []
deriving DecidableEq, Repr

/-- The power states, R745, numbered as PWR_STATE shows them; Off as POWER_REQUEST names it. -/
inductive PState where
  | run | idle | sleep | deep | off
deriving DecidableEq, Repr

/-- A transition in progress, R749 and R756: its target; for a wake the step it is in (1 regulator to 4 logic), the
rail being brought up, the deadline of the step, and what began it. -/
structure Transition where
  from_ : PState
  dest : PState
  wake : Bool
  step : Nat := 0
  rail : Nat := 0
  stepBy : Nat := 0
deriving DecidableEq, Repr

/-- The power sequencer and its records. -/
structure Power where
  state : PState := .run
  trans : Option Transition := none
  slot : Option PState := none
  /-- Source and port of the wake event in the pending slot. -/
  slotFrom : Nat × Nat := (0, 0)
  /-- A warm reset asked for in a sleeping state waits for the wake, R775. -/
  warmAfter : Bool := false
  /-- Deep sleep was entered in Etelo mode. -/
  etelo : Bool := false
  wakeSource : Nat := 0
  wakeFrom : Nat := 0
  wakePort : Nat := 0
  wakeStep : Nat := 0
  wakeTime : Nat := 0
  /-- Tick from which each idle timer (1 Idle to 4 Off) counts. -/
  idleFrom : Tab Nat := []
  railEn : Tab Bool := []
  railGood : Tab Bool := []
  oscReady : Bool := false
  memReady : Bool := false
  logicReady : Bool := false
  /-- The boot ROM has run a firmware image since the wake began. -/
  booted : Bool := false
  spreadV : Nat := 0
  spreadT : Nat := 0
  pcieWake : Bool := false
  /-- The strongbox holds a saved image, and a region CRC of it fails. -/
  saved : Bool := false
  savedBad : Bool := false
deriving DecidableEq, Repr

/-- One physical function's link and PCIe state. -/
structure HostFn where
  up : Bool := false
  speed : Nat := 0
  width : Nat := 0
  pm : Nat := 0
  vfEnabled : Nat := 0
  vfErr : Tab Nat := []
  /-- Virtual functions that hold their resources, R789. -/
  vfHeld : List Nat := []
  perst : Bool := false
deriving DecidableEq, Repr

/-- Bulk-memory controllers, spill engine and layout. -/
structure Memory where
  trained : Nat := 0
  popError : Bool := false
  ready : Bool := false
  spilling : Bool := false
  spillStopped : Bool := false
  /-- MEM_POP fields. -/
  gibPerChannel : Nat := 0
  devWidth : Nat := 0
  ranks : Nat := 0
  rate : Nat := 0
  scrubDone : Nat := 0
  scrubAt : Nat := 0
  /-- Poisoned 64-byte bursts, by bulk-memory offset, rising. -/
  poisoned : List Nat := []
deriving DecidableEq, Repr

/-- The state of a stocktake bank, R321. -/
inductive BankState where
  | free | reserved | filling | held
deriving DecidableEq, Repr

/-- One stocktake bank, R319 to R322. -/
structure Bank where
  state : BankState := .free
  seq : BitVec 32 := 0
  all : Bool := false
  port : Nat := 0
  spanWide : Bool := false
  /-- How its tick is named: cycle, or span time in 2^-16 ns. -/
  atCycle : Option (BitVec 32) := none
  atTime : Option Nat := none
  cycle : BitVec 32 := 0
  flag : Nat := 0
  time : Nat := 0
  tag : Nat := 0
  valid : Bool := false
  doneAt : Nat := 0
  /-- Counters as captured, keyed as `State.ctr`. -/
  ctr : Tab DWord := []
deriving DecidableEq, Repr

/-- The stocktake's common state. -/
structure Stock where
  seq : BitVec 32 := 0
  banks : Tab Bank := []
deriving DecidableEq, Repr

/-- Boot, the pins of the always-on domain and the debug port. -/
structure Board where
  /-- Levels of input pins, true for high. -/
  sysRstN : Bool := true
  wakeN : Bool := true
  /-- Straps as they stand at the balls, sampled at cold reset (R845). -/
  strapSplit : Bool := false
  strapBar4 : Bool := true
  /-- A cold reset holds until SYS_RST_N rises. -/
  inReset : Bool := false
  bootFailed : Bool := false
  /-- A warm reset has begun and READY has not returned (R819). -/
  warming : Bool := false
  aonReady : Bool := false
  /-- The always-on counter of 48 bits at 32.768 kHz is derived from ticks plus this base. -/
  aonBase : Nat := 0
  trstN : Bool := true
  challenge : Option (List Byte) := none
  debugOpen : Bool := false
  badResponses : Nat := 0
deriving DecidableEq, Repr

end Sys2Proof.Machine
end

