-- ==== Sys2Proof/Machine/TypesDray.lean ====
section
/-!
DEFINITION. State of the dray engines (chapter 12) and of the bent (chapter 14).
-/

namespace Sys2Proof.Machine

/-- The states of a chain channel, R545, numbered as DRY_CH_STATUS shows them. -/
inductive ChainState where
  | disabled | running | parked | stopping | error
deriving DecidableEq, Repr

/-- One pair of a descriptor, R540. -/
structure DescPair where
  addr : Nat
  len : Nat
  dst : Bool
  space : Nat
deriving DecidableEq, Repr

/-- The descriptor that a channel runs: its address, the copy that the one read returned (R542) and its pairs, read
from the list when LIST is set. -/
structure Desc where
  addr : Nat
  copy : List Byte
  pairs : List DescPair := []
  /-- A parked descriptor read again: it finishes without moving a byte (R547). -/
  again : Bool := false
  fence : Bool := false
deriving DecidableEq, Repr

/-- A frame in the source queue of a frame channel, R555: for FETCH a started TX entry (its queue and start number),
for DELIVERY a steered frame; its bytes and the tick since which it waits. -/
structure DrayItem where
  queue : Nat := 0
  sn : Nat := 0
  frame : Nat := 0
  bytes : Nat
  since : Nat
  /-- Address and length of the segments of the TX entry, as it was fetched. -/
  segs : List (Nat × Nat) := []
deriving DecidableEq, Repr

/-- One channel of a dray engine. -/
structure DrayChan where
  state : ChainState := .disabled
  dbPending : Bool := false
  errCode : Nat := 0
  cur : BitVec 64 := 0
  /-- The fetch of CUR is issued and not returned; true when it fetches a parked descriptor again. -/
  fetching : Option Bool := none
  desc : Option Desc := none
  /-- (space, function) written since the previous fence, with the last destination address of each. -/
  written : List (Nat × Nat) := []
  lateSince : Nat := 0
  /-- Descriptors whose LATE_STATUS holds the first late error. -/
  lateSeen : List Nat := []
  /-- Descriptors finished since the previous fence that wrote bulk memory. -/
  bulkDone : List Nat := []
  stopCount : Nat := 0
  /-- Frame channels: MOVING, and the source queue. -/
  moving : Bool := false
  source : List DrayItem := []
  framesIn : Nat := 0
deriving DecidableEq, Repr

/-- One engine: the channel that issued its last beat. -/
structure DrayEngine where
  owner : Nat := 0
deriving DecidableEq, Repr

structure Dray where
  engines : Tab DrayEngine := []
  /-- Channel c of engine e under key 32 * e + c. -/
  chans : Tab DrayChan := []
deriving DecidableEq, Repr

/-- The roles of a post in a bent, R628, numbered as BNT_STATUS shows them. -/
inductive Role where
  | solo | forming | active | standby | resync | orphan | resigned
deriving DecidableEq, Repr

/-- A step of the active post that waits for the confirmation of its mirror entry (R620). -/
inductive MirrorWait where
  /-- CI of a queue passes the entry at an index. -/
  | start (q : Nat) (index : BitVec 16)
  /-- The delivery of a frame to an RX queue. -/
  | deliver (frame : Nat)
  | none
deriving DecidableEq, Repr

/-- A mirror entry sent and not yet confirmed. -/
structure Unacked where
  mseq : Nat
  entry : MirrorEntry
  wait : MirrorWait := .none
  sentAt : Nat
deriving DecidableEq, Repr

/-- A frame that a standby keeps, R623: its frame of the frame hold, its recovery function or account, its number and
the tick at which SHADOW_KEEP passes. -/
structure Kept where
  frame : Nat
  isAccount : Bool
  target : Nat
  path : Nat
  seq : Nat
  until_ : Nat
deriving DecidableEq, Repr

/-- An accepted entry past the done index of a bent ring, as the ledger holds it. -/
structure Accepted where
  index : BitVec 16
  len : Nat
  seqValid : Bool := false
  seq : Nat := 0
deriving DecidableEq, Repr

/-- The mirrored state of one bent ring: done index, CI and the window between them. -/
structure RingLedger where
  done : BitVec 16 := 0
  ci : BitVec 16 := 0
  window : List Accepted := []
  /-- Its configuration and state. -/
  cfg : Option LedgerItem := none
deriving DecidableEq, Repr

/-- A delivery of the journal: RX_DELIVER past its queue's done index. -/
structure Journal where
  queue : Nat
  index : BitVec 16
  count : Nat
  isAccount : Bool
  path : Nat
  matchAlg : Bool
  target : Nat
  seq : Nat
deriving DecidableEq, Repr

/-- The steps of a resignation (R633), a takeover (R636) and a handover (R643) that last. -/
inductive BentStep where
  | none
  | resignFlush
  | takeSettle (until_ : Nat)
  | takeWindow
  | drain (until_ : Nat)
deriving DecidableEq, Repr

/-- The tie-beam packet kinds of R614 with what they carry. -/
inductive TbPacket where
  | heartbeat (role : Nat) (inSync home fallback cold : Bool) (count : Nat)
  | mirror (mseq : Nat) (entry : MirrorEntry)
  | ack (mseq : Nat)
  | resign (mseq : Nat) (flushed fatal : Bool)
  | handover (mseq : Nat)
  | reclaim
  | copy (mseq : Nat) (entry : MirrorEntry)
  | syncDone (mseq : Nat)
  | command (ref opcode : Nat) (cmd : Cmd)
  | reply (ref : Nat) (status : Nat) (clamps : Nat) (detail : Nat) (data : List Byte)
  | time (count : Nat)
  | spanState (cycle : BitVec 32) (start pattern : Nat) (ann : Option (Nat × BitVec 32))
deriving DecidableEq, Repr

/-- One tie-beam lane: packets in the partner's 32 receive buffers, oldest first (R613). -/
structure TbLane where
  up : Bool := false
  inFlight : List TbPacket := []
deriving DecidableEq, Repr

/-- The bent. -/
structure Bent where
  role : Role := .solo
  controlHeld : Bool := false
  partnerHeld : Bool := false
  lane0 : TbLane := {}
  lane1 : TbLane := {}
  /-- Packets that wait for a credit, oldest first. -/
  waiting : List TbPacket := []
  hbLost : Bool := false
  hbCount : Nat := 0
  witness : Bool := false
  fallback : Bool := false
  copying : Bool := false
  resyncFails : Nat := 0
  holdOffAt : Option Nat := none
  cold : Bool := false
  copyDone : List Nat := []
  bentId : BitVec 64 := 0
  mseqSent : Nat := 0
  mseqConfirmed : Nat := 0
  copyLeft : Nat := 0
  /-- Active: records still to copy, by region and index, and whether SYNC_DONE has been sent. Resyncing post: it has
  joined the MSEQ stream. -/
  copyQueue : List (Nat × Nat) := []
  syncSent : Bool := false
  joined : Bool := false
  copyUntil : Option Nat := none
  retryAt : Option Nat := none
  /-- Active: counts the standby as in sync (R622). Standby: in sync by its own view (R627). -/
  inSync : Bool := false
  lastHeard : Nat := 0
  partnerRole : Option Role := none
  partnerCold : Bool := false
  unacked : List Unacked := []
  step : BentStep := .none
  resignFatal : Bool := false
  resignedFatal : Bool := false
  formAt : Option Nat := none
  /-- Handover: the instant in 2^-16 ns or cycle of BENT_SWITCH or RECLAIM, and who asked. -/
  handoverCycle : Option (BitVec 32) := none
  handoverTime : Option Nat := none
  handoverBySwitch : Bool := false
  kept : List Kept := []
  rings : Tab RingLedger := []
  journal : List Journal := []
  /-- The STATE items that the ledger holds, one for each record. -/
  ledger : List LedgerItem := []
  /-- Rings whose software has not yet written PI, and daybooks that wait for BOOK_DB, after a takeover. -/
  awaitPi : List Nat := []
  awaitBci : List Nat := []
  /-- Entries of the takeover window to run again, oldest first: queue, index, SEQ_VALID and number. -/
  rerun : List (Nat × Accepted) := []
  witnessedNow : Bool := false
  /-- MSEQ of the RESIGN that a takeover began with: the mirror stream is applied up to it (R636). -/
  takeTo : Nat := 0
deriving DecidableEq, Repr

end Sys2Proof.Machine
end

