-- ==== Sys2Proof/Machine/TypesStream.lean ====
section
/-!
DEFINITION. State of the stream engine (chapter 8): stream table, recovery functions, accounts and rules.
-/

namespace Sys2Proof.Machine

/-- A stream-table entry, R341. STATE 0 FREE, 1 STATIC, 2 LEARNED. -/
structure StreamEntry where
  state : Nat := 0
  method : Nat := 0
  tagging : Nat := 0
  port : Nat := 0
  rcvyEn : Bool := false
  unrecovered : Bool := false
  genEn : Bool := false
  format : Nat := 0
  skipZero : Bool := false
  path : Nat := 0
  primary : Bool := false
  rule : Nat := 0
  rcvy : Nat := 0
  genSeq : Nat := 0
  steer : Nat := 0
  /-- The 40 bytes of KEY. -/
  key : List Byte := []
  lastSeen : Nat := 0
deriving DecidableEq, Repr

/-- A recovery function, R358. HISTORY as a number whose bit i stands for RECOV_SEQ - i. -/
structure Recovery where
  state : Nat := 0
  takeAny : Bool := false
  alg : Nat := 0
  format : Nat := 0
  skipZero : Bool := false
  leEn : Bool := false
  paths : Nat := 0
  histLen : Nat := 2
  resetMs : Nat := 1
  lePeriod : Nat := 10
  leDiff : Nat := 1
  recovSeq : Nat := 0
  lastPass : Nat := 0
  leStart : Nat := 0
  leBasePassed : Nat := 0
  leBaseDiscarded : Nat := 0
  history : Nat := 0
  passed : BitVec 64 := 0
  discarded : BitVec 64 := 0
  outOfOrder : BitVec 64 := 0
  lost : BitVec 64 := 0
  rogue : BitVec 64 := 0
  tagless : BitVec 64 := 0
  resets : BitVec 64 := 0
  latentErrors : BitVec 64 := 0
deriving DecidableEq, Repr

/-- One member path of an account, R370. -/
structure AccountPath where
  src : Nat := 0
  label : Nat := 0
  valid : Bool := false
  ipv6 : Bool := false
deriving DecidableEq, Repr

/-- A packet held for ordering: its number, path, frame and the 256-byte cells it takes in the ordering pool. -/
structure HeldPacket where
  seq : Nat
  path : Nat
  frame : Nat
  cells : Nat
deriving DecidableEq, Repr

/-- An account record, R370 and R371. -/
structure Account where
  defined : Bool := false
  metering : Bool := false
  leEn : Bool := false
  skipZero : Bool := false
  window : Nat := 1
  resetMs : Nat := 1
  holdMax : Nat := 1000
  meterPoint : Nat := 0
  wq : Nat := 0
  lePeriod : Nat := 10
  leDiff : Nat := 1
  paths : List AccountPath := []
  next : Nat := 0
  takeAny : Bool := false
  held : List HeldPacket := []
  holdStart : Nat := 0
  lastPass : Nat := 0
  leStart : Nat := 0
  delivered : Nat := 0
  /-- Numbers delivered before a takeover and not to be delivered again (R637). -/
  skipSet : List Nat := []
  /-- Numbers skipped since the previous delivery, R376. -/
  gap : Nat := 0
  leBasePassed : Nat := 0
  leBaseDuplicate : Nat := 0
  passed : BitVec 64 := 0
  duplicate : BitVec 64 := 0
  late : BitVec 64 := 0
  rogue : BitVec 64 := 0
  tagless : BitVec 64 := 0
  heldTotal : BitVec 64 := 0
  gapReleased : BitVec 64 := 0
  gapSeqs : BitVec 64 := 0
  poolFull : BitVec 64 := 0
  resets : BitVec 64 := 0
  latentErrors : BitVec 64 := 0
  rx : Tab DWord := []
  won : Tab DWord := []
deriving DecidableEq, Repr

/-- A mask-and-match rule, R343. -/
structure MaskRule where
  portMask : Nat
  handle : Nat
  mask : List Byte
  value : List Byte
deriving DecidableEq, Repr

/-- A stream filter, R230 to R232. -/
structure StreamFilter where
  enabled : Bool := false
  handle : Nat := 0
  anyHandle : Bool := false
  prio : Nat := 0
  anyPrio : Bool := false
  maxSdu : Nat := 0
  blockEn : Bool := false
  meter : Nat := 0
  noMeter : Bool := false
  blocked : Bool := false
  matched : BitVec 64 := 0
  passed : BitVec 64 := 0
  blockedCount : BitVec 64 := 0
  tooLong : BitVec 64 := 0
  sduPassed : BitVec 64 := 0
  red : BitVec 64 := 0
  yellowDropped : BitVec 64 := 0
deriving DecidableEq, Repr

/-- A flow meter, R233 to R236. Tokens in units of 2^-20 / 500,000 byte, in which every update of R233 is whole. -/
structure FlowMeter where
  couple : Bool := false
  aware : Bool := false
  dropYellow : Bool := false
  markEn : Bool := false
  markRed : Bool := false
  cir : Nat := 0
  cbs : Nat := 0
  eir : Nat := 0
  ebs : Nat := 0
  c : Int := 0
  e : Int := 0
  /-- A BENCH has defined it; the instant of the last update in 2^-16 ns. -/
  defined : Bool := false
  last : Nat := 0
  green : BitVec 64 := 0
  yellow : BitVec 64 := 0
  red : BitVec 64 := 0
deriving DecidableEq, Repr

/-- The stream engine. -/
structure Stream where
  entries : Tab StreamEntry := []
  rcvy : Tab Recovery := []
  accounts : Tab Account := []
  rules : Tab (Option MaskRule) := []
  filters : Tab StreamFilter := []
  meters : Tab FlowMeter := []
  rcvyExhausted : Bool := false
  streamsFull : Bool := false
  poolFull : Bool := false
  /-- Frames that wait for a fetch into a cache, R379, oldest first. -/
  waiting : List Nat := []
deriving DecidableEq, Repr

end Sys2Proof.Machine
end

