-- ==== Sys2Proof/Machine/TypesJoinery.lean ====
section
/-!
DEFINITION. State of the joinery and its microcode (chapters 9 and 10).
-/

namespace Sys2Proof.Machine

/-- A staged effect of a hook, R463. -/
inductive Staged where
  | edit (e : Edit)
  | record (on : Bool)
  /-- Steer op of R458 with its value. -/
  | steer (op value : Nat)
  /-- Hook counter and what is added. -/
  | count (index add : Nat)
deriving DecidableEq, Repr

/-- The hook context of a thread: registers, flags, call stack, key buffer and last lookup, R441 to R462. -/
structure HookRun where
  point : Nat
  pc : Nat
  /-- G0 to G31. -/
  regs : Tab Word := []
  za : Bool := false
  na : Bool := false
  ca : Bool := false
  zb : Bool := false
  nb : Bool := false
  cb : Bool := false
  stack : List Nat := []
  issued : Nat := 0
  key : List Byte := []
  /-- Answer of the last lookup, and the answer on its way (R448). -/
  lk : List Word := []
  lkst : Word := 0
  coming : Option (List Word × Word) := none
  staged : List Staged := []
deriving DecidableEq, Repr

/-- What a thread waits for, R395. -/
inductive ThreadWait where
  | ready
  /-- Frame bytes up to an offset, or the frame's end. -/
  | bytes (upto : Nat)
  | frameEnd
  | lookup
  | verdict
  /-- Its cluster's copy is not rewritten yet, R468. -/
  | load
deriving DecidableEq, Repr

/-- Where a thread stands on the vendor path. -/
inductive ThreadAt where
  | parse | hook1 | request | steer | hook2 | fix
deriving DecidableEq, Repr

/-- A joiner thread: its frame, its joiner's cluster and the load it started under. -/
structure Thread where
  frame : Nat
  /-- The load whose customer words and hook settings were in force at its start, R468. -/
  gen : Nat := 0
  at_ : ThreadAt := .parse
  wait : ThreadWait := .ready
  wbase : Nat := 0
  hook : Option HookRun := none
  hooked : Bool := false
  steerIx : Nat := 0
  /-- Steer overrides committed by hooks. -/
  overrides : List (Nat × Nat) := []
  /-- Tick since which it has waited, R430. -/
  since : Nat := 0
deriving DecidableEq, Repr

/-- Why a joiner is fenced, R428. -/
inductive JoinerFence where
  | none | test (endAt : Option Nat) | fault
deriving DecidableEq, Repr

/-- A hook-table entry, R454. -/
structure HookEntry where
  key : List Byte
  lk : List Word
deriving DecidableEq, Repr

/-- One telegram of the window queue, R33 and R415. -/
structure WindowEntry where
  account : Nat
  point : Nat
  path : Nat
  seq : Nat
  rxTime : Nat
  rxFlag : TimeFlag
  telegram : List Byte
  frame : Nat
deriving DecidableEq, Repr

/-- An entry of the two-step residence table of an egress port, R421. -/
structure SyncEntry where
  domain : Nat
  senderId : BitVec 64
  senderPort : Nat
  seq : BitVec 16
  residence : Nat
  until_ : Nat
deriving DecidableEq, Repr

/-- The customer words and the six hook-setting words of one load, R468. -/
structure CodeGen where
  gen : Nat
  words : Tab Nat
  hooks : List Nat
deriving DecidableEq, Repr

/-- The joinery. -/
structure Joinery where
  /-- Threads keyed 4 * joiner + thread. -/
  threads : Tab (Option Thread) := []
  /-- Frames of each ticket source in ticket order, with those whose thread has fixed them (R403). -/
  order : Tab (List Nat) := []
  /-- Dispatch: released account packets and span inner frames, oldest first, and the source served last (R397). -/
  released : List Nat := []
  turn : Nat := 0
  gated : List Nat := []
  /-- The cluster gated last and the tick at which its gating began, for the window of R771. -/
  gateWin : Option (Nat × Nat) := none
  fences : Tab JoinerFence := []
  rotNext : Nat := 0
  /-- Classification rules and steer entries as their 32 bytes. -/
  rules : Tab (List Byte) := []
  steers : Tab (List Byte) := []
  hookTables : Tab (List HookEntry) := []
  /-- Customer words in force, by address; an unlisted word is HRET (R435). -/
  words : Tab Nat := []
  /-- Each cluster's own copy, as bits that differ from the words it should hold: key 2^14 * cluster + address. -/
  upsets : Tab Nat := []
  /-- Words and hook settings of the loads before the present one that some cluster still holds or waits for. -/
  past : List CodeGen := []
  /-- Load that each cluster's copy holds. -/
  loaded : Tab Nat := []
  gen : Nat := 0
  imageId : BitVec 32 := 0
  windowQueue : List WindowEntry := []
  sync : Tab (List SyncEntry) := []
deriving DecidableEq, Repr

end Sys2Proof.Machine
end

