-- ==== Sys2Proof/Machine/TypesAssay.lean ====
section
/-!
DEFINITION. State of the Assay metrology island and of the post's half of the counter window (chapter "The Assay
metrology island"). Legal time is in milliseconds since 1970, UTC.
-/

namespace Sys2Proof.Machine

/-- A profile, R675, each field at the lowest value of its range until a PARAM record sets it (log entry 45). -/
structure AsyProfile where
  mode : Nat := 0
  position : Nat := 0
  pressure : Nat := 100
  tmin : Nat := 0
  tmax : Nat := 0
  dtMin : Nat := 10
  dtMax : Nat := 1000
  volUnit : Nat := 1
  tariffMode : Nat := 0
  tariffThresh : Nat := 0
  tariffTable : Nat := 0
  billing : Nat := 1
  maxpMin : Nat := 1
  gapLimit : Nat := 2
deriving DecidableEq, Repr

/-- The register record of a point, R680. -/
structure AsyRegs where
  energy : BitVec 64 := 0
  volume : BitVec 64 := 0
  t1 : BitVec 64 := 0
  t2 : BitVec 64 := 0
  t3 : BitVec 64 := 0
  t4 : BitVec 64 := 0
  maxp : BitVec 32 := 0
  errorTime : BitVec 32 := 0
  period : BitVec 32 := 0
  upd : BitVec 16 := 0
deriving DecidableEq, Repr

/-- The diagnostic record of a point, R681. -/
structure AsyDiag where
  accepted : Nat := 0
  refused : Nat := 0
  lastReason : Nat := 0
  errorNow : Bool := false
  gapLast : Bool := false
  restored : Bool := false
  lastRx : BitVec 32 := 0
  msgCtr : BitVec 32 := 0
  lastTf : BitVec 32 := 0
  lastTr : BitVec 32 := 0
  gaps : Nat := 0
deriving DecidableEq, Repr

/-- What a point keeps privately beside its records, R664, R675 and R677. -/
structure AsyPoint where
  enabled : Bool := false
  profile : Nat := 0
  sensorId : BitVec 64 := 0
  /-- The point's key; empty until a KEY record gives one. -/
  key : List Byte := []
  first : Bool := true
  volPrev : BitVec 32 := 0
  /-- Legal seconds of the last telegram. -/
  lastRx : Nat := 0
  resH : Nat := 0
  resC : Nat := 0
  periodWh : Nat := 0
  /-- Last accepted message counter; none while it starts again. -/
  msgCtr : Option Nat := none
  regs : AsyRegs := {}
  diag : AsyDiag := {}
deriving DecidableEq, Repr

/-- An entry of the event log or the seal journal, R691. -/
structure AsyLog where
  seq : Nat
  utc : Nat
  ms : Nat
  sealOpen : Bool
  source : Nat := 0
  param : Nat := 0
  target : Nat := 0
  kind : Nat
  old : BitVec 64 := 0
  new : BitVec 64 := 0
deriving DecidableEq, Repr

/-- A snapshot of a point, R682 and R700. -/
structure AsySnap where
  utc : Nat
  audit : BitVec 32
  digest : BitVec 32
  ver : BitVec 16
  regs : AsyRegs
deriving DecidableEq, Repr

/-- An input record in the input FIFO, R666. -/
structure AsyRec where
  typ : Nat
  flag : Nat := 0
  inseq : BitVec 32
  point : Nat := 0
  path : Nat := 0
  account : Nat := 0
  seq : Nat := 0
  /-- TIME in the layout of R44. -/
  time : Nat := 0
  payload : List Byte
deriving DecidableEq, Repr

/-- An image being loaded into the slot that does not run, R694: its length, the bytes so far. -/
structure AsyLoad where
  total : Nat
  data : List Byte
deriving DecidableEq, Repr

/-- The island, with the post's half of the window. -/
structure Assay where
  /-- PD152 has power and its firmware runs. -/
  running : Bool := false
  /-- ALIVE as the post sees it; the level of ASY_PFAIL_N, true while low. -/
  alive : Bool := false
  pfail : Bool := false
  /-- Debounced seal, true while open. -/
  sealOpen : Bool := false
  /-- Firmware in force: its version, digest and image, the image that awaits activation, the one being loaded, and the
  lowest version fused. -/
  image : List Byte := []
  pendingImage : Option (List Byte) := none
  load : Option AsyLoad := none
  minVersion : Nat := 0
  loadKey : List Byte := []
  /-- Global parameters. -/
  utcTai : Nat := 0
  tzOffset : Int := 0
  dstRule : Nat := 0
  ltStepMax : Nat := 1
  ckptS : Nat := 60
  profiles : Tab AsyProfile := []
  points : Tab AsyPoint := []
  fifo : List AsyRec := []
  /-- Records of the clerk that wait in the input-port sender for READY. -/
  sender : List AsyRec := []
  nextInseq : BitVec 32 := 0
  /-- Counters of the status page by k, and LAST_INSEQ. -/
  counts : Tab Nat := []
  lastInseq : BitVec 32 := 0
  /-- The log in order, entries of the seal journal, the next SEQ, the audit counter and LOG_ROLLS. -/
  log : List AsyLog := []
  journal : List AsyLog := []
  logSeq : Nat := 0
  audit : BitVec 32 := 0
  logRolls : Nat := 0
  /-- Archives of the log, newest first, at most 16. -/
  archives : List (List AsyLog) := []
  /-- Legal time in nanoseconds, `ltBase` at tick `ltTick`, with the crystal trimmed by `ltTrim` parts per billion;
  `stepAt` is legal time in milliseconds at the last step. -/
  ltBase : Nat := 0
  ltTick : Nat := 0
  ltTrim : Int := 0
  stepAt : Nat := 0
  ltValid : Bool := false
  ltImplausible : Bool := false
  /-- The last 60 values of d, newest first, LAST_D, and the tick of the last TIME_IMPLAUSIBLE entry. -/
  samples : List Int := []
  lastD : Int := 0
  implausibleAt : Option Nat := none
  /-- Result ring and readout ring by slot, RESULT_HEAD. -/
  results : Tab (List Byte) := []
  readout : Tab (List Byte) := []
  resultHead : Nat := 0
  /-- Legal time as the status page shows it. -/
  pageMs : Nat := 0
  /-- The checkpoint: points, legal time, and what is written to the NOR before the change it records. -/
  ckptPoints : Tab AsyPoint := []
  ckptMs : Nat := 0
  /-- Snapshots of each point, newest first, at most 16. -/
  snaps : Tab (List AsySnap) := []
  /-- The billing instant of the last snapshot of each profile (or legal time at the change of its date), in milliseconds,
  and the local minute up to which power periods are closed. -/
  billed : Tab Nat := []
  closedMin : Nat := 0
deriving DecidableEq, Repr

end Sys2Proof.Machine
end

