-- ==== Sys2Proof/Machine/State.lean ====
section
/-!
DEFINITION. The state of the post, the reasons a step can stop, and the state after reset.
-/

namespace Sys2Proof.Machine

/-- Reasons a step can stop with a fault. The spec gives every command and event of the block an outcome that the block
goes on from, so no meaning raises a fault and the type has no constructor. -/
inductive Fault where
deriving DecidableEq, Repr

/-- Reasons a step can refuse. -/
inductive Refusal where
  /-- The command has no meaning yet; raised by its arm of exec; safe. -/
  | notModelled (mnemonic : String)
deriving DecidableEq, Repr

/-- The state of one post, its host memory and the queue of waiting commands. -/
structure State where
  /-- Commands and events waiting, first in, first out. -/
  pending : List Instr := []
  /-- Number of the next free value of Config; the model's own field. -/
  free : Nat := 0
  /-- Settings words (RW, RWL, RS) keyed by BAR0 offset; an unlisted word holds its reset value. -/
  cfg : Tab Word := []
  /-- 64-bit counters keyed by BAR0 offset; an unlisted counter is 0. -/
  ctr : Tab DWord := []
  /-- Latches of R810, keyed by requester * 2^32 + offset of the latched word. -/
  latches : Tab (Option Word) := []
  /-- Host memory of the two physical functions: function f's address a at f * 2^64 + a. -/
  hostMem : Tab Byte := []
  /-- Bulk memory's software region, spill and other plain bytes, by bulk-memory offset. -/
  bulk : Tab Byte := []
  glb : Glb := {}
  time : Time := {}
  queues : Tab WorkQueue := []
  books : Tab Daybook := []
  notices : List Notice := []
  /-- Number of the next start or delivery, for fences. -/
  nextSn : Nat := 0
  /-- Deliveries begun and not finished, by number (R519). -/
  deliveries : List Nat := []
  /-- MSI-X messages held back by a mask bit, by physical function and vector. -/
  msixPending : List Msix := []
  clerk : Clerk := {}
  span : Span := {}
  ports : Tab Port := []
  frames : Tab (Option Frame) := []
  nextFrame : Nat := 0
  flt : Foreman := {}
  pwr : Power := {}
  host : Tab HostFn := []
  mem : Memory := {}
  stock : Stock := {}
  board : Board := {}
  dray : Dray := {}
  bent : Bent := {}
  stream : Stream := {}
  joinery : Joinery := {}
  assay : Assay := {}
  /-- The bytes that the last read of BAR0, BAR2 or BAR4 returned, and whether it completed with Unsupported Request
  or a poisoned completion; the model's record of what the reader saw. -/
  readData : List Byte := []
  readBad : Bool := false
deriving DecidableEq, Repr

/-- The post right after power-on: every settings word and counter at its reset value, every queue, daybook and bench
free, the time island at the PTP epoch with flag INVALID (R90), and no command waiting. -/
def State.reset : State := {}

end Sys2Proof.Machine
end

