-- ==== Sys2Proof/Machine/Ops.lean ====
section
/-!
DEFINITION. The shared operations of the machine: registers and counters, free values, the clock, host memory,
notices, messages to the foreman, and the records every block keeps in the state.
-/

namespace Sys2Proof.Machine

/-- The outcome of one command or event. -/
abbrev Result := Host.Outcome State Fault Refusal

/-- Go on from a state. -/
abbrev ok (s : State) : Result := Host.Outcome.next s

namespace State

/-! ### Settings words and counters -/

/-- The settings word at a BAR0 offset. -/
def reg (s : State) (o : Nat) : Nat := (Tab.get (resetWord o) s.cfg o).toNat

/-- Bits lo to lo + w - 1 of a settings word. -/
def regBits (s : State) (o lo w : Nat) : Nat := bits (s.reg o) lo w

/-- Set a settings word. -/
def setReg (s : State) (o v : Nat) : State :=
  { s with cfg := Tab.set (resetWord o) s.cfg o (BitVec.ofNat 32 v) }

/-- Set bits lo to lo + w - 1 of a settings word. -/
def setRegBits (s : State) (o lo w v : Nat) : State := s.setReg o (setBits (s.reg o) lo w v)

/-- A 64-bit settings register, low word first. -/
def reg64 (s : State) (o : Nat) : Nat := s.reg o + 2 ^ 32 * s.reg (o + 4)

/-- Set a 64-bit settings register. -/
def setReg64 (s : State) (o v : Nat) : State := (s.setReg o (v % 2 ^ 32)).setReg (o + 4) (v / 2 ^ 32)

/-- The counter at a BAR0 offset. -/
def counter (s : State) (o : Nat) : DWord := Tab.get 0 s.ctr o

/-- Add to a counter; it wraps after its highest value (R318). -/
def countN (s : State) (o n : Nat) : State :=
  { s with ctr := Tab.set 0 s.ctr o (Tab.get 0 s.ctr o + BitVec.ofNat 64 n) }

/-- Count one event. -/
def count (s : State) (o : Nat) : State := s.countN o 1

/-! ### Free values -/

/-- Take the next free value of Config (DESIGN CHOICE, log entry 99). -/
def fresh (s : State) : DWord × State := (Config.freeValue s.free, { s with free := s.free + 1 })

/-- The TLPs that a host link has sent and received are a free value at every reading: the model carries no
link packets (DEDUCED, log entry 51). -/
def touchTlp (s : State) (f : Nat) : State :=
  let a := s.fresh
  let b := a.2.fresh
  { b.2 with ctr := Tab.set 0 (Tab.set 0 b.2.ctr (hstKey f + 0x100) a.1) (hstKey f + 0x108) b.1 }

/-! ### Collections -/

def port (s : State) (p : Nat) : Port := Tab.get {} s.ports p
def setPort (s : State) (p : Nat) (v : Port) : State := { s with ports := Tab.set {} s.ports p v }
def modPort (s : State) (p : Nat) (f : Port → Port) : State := s.setPort p (f (s.port p))

def queue (s : State) (q : Nat) : WorkQueue := Tab.get {} s.queues q
def setQueue (s : State) (q : Nat) (v : WorkQueue) : State := { s with queues := Tab.set {} s.queues q v }
def modQueue (s : State) (q : Nat) (f : WorkQueue → WorkQueue) : State := s.setQueue q (f (s.queue q))

def book (s : State) (b : Nat) : Daybook := Tab.get {} s.books b
def setBook (s : State) (b : Nat) (v : Daybook) : State := { s with books := Tab.set {} s.books b v }
def modBook (s : State) (b : Nat) (f : Daybook → Daybook) : State := s.setBook b (f (s.book b))

def ptime (s : State) (p : Nat) : PortTime := Tab.get {} s.time.ports p
def setPtime (s : State) (p : Nat) (v : PortTime) : State :=
  { s with time := { s.time with ports := Tab.set {} s.time.ports p v } }
def modPtime (s : State) (p : Nat) (f : PortTime → PortTime) : State := s.setPtime p (f (s.ptime p))

/-- The reset values of the PTP contexts, R860. -/
def ptpReset (i : Nat) : PtpInst := if i = 0 then { profile := 0 } else {}
def ptpInst (s : State) (i : Nat) : PtpInst := Tab.get (ptpReset i) s.time.insts i
def setPtpInst (s : State) (i : Nat) (v : PtpInst) : State :=
  { s with time := { s.time with insts := Tab.set (ptpReset i) s.time.insts i v } }

def bench (s : State) (b : Nat) : Bench := Tab.get {} s.clerk.benches b
def setBench (s : State) (b : Nat) (v : Bench) : State :=
  { s with clerk := { s.clerk with benches := Tab.set {} s.clerk.benches b v } }

def frame (s : State) (id : Nat) : Option Frame := Tab.get none s.frames id
def setFrame (s : State) (id : Nat) (f : Option Frame) : State :=
  { s with frames := Tab.set none s.frames id f }
def modFrame (s : State) (id : Nat) (f : Frame → Frame) : State := s.setFrame id ((s.frame id).map f)

/-- Put a new frame into the frame hold and give its number. -/
def addFrame (s : State) (f : Frame) : Nat × State :=
  (s.nextFrame, { s.setFrame s.nextFrame (some f) with nextFrame := s.nextFrame + 1 })

def hostFn (s : State) (f : Nat) : HostFn := Tab.get {} s.host f
def setHostFn (s : State) (f : Nat) (v : HostFn) : State := { s with host := Tab.set {} s.host f v }

def bank (s : State) (b : Nat) : Bank := Tab.get {} s.stock.banks b
def setBank (s : State) (b : Nat) (v : Bank) : State :=
  { s with stock := { s.stock with banks := Tab.set {} s.stock.banks b v } }

end State

/-! ### The clock

One tick of the counter is 1.28 ns; the counter holds 2^-40 ns units (R54). -/

/-- The nominal increment of R54 in 2^-40 ns: 1 ns plus 0x47_AE14_7AE1. -/
def nominalInc : Nat := 2 ^ 40 + 0x47AE147AE1

/-- Largest departure of the increment from nominal: 200 ppm (R54). -/
def adjLimit : Nat := nominalInc * 200 / 1000000

/-- An increment change held within the limit of R54. -/
def clampAdj (a : Int) : Int := max (-(adjLimit : Int)) (min (adjLimit : Int) a)

namespace State

/-- The increment of one tick. -/
def inc (s : State) : Nat := ((nominalInc : Int) + s.time.adj).toNat

/-- What a slew adds at most in one tick, 2^-40 ns: TIM_SLEW_MAX parts per billion of a tick, rounded down (R55). -/
def slewPer (s : State) : Nat := s.reg (timBase + 0x70) * nominalInc / 1000000000

/-- What a slew adds over k ticks. -/
def slewOver (s : State) (k : Nat) : Int :=
  match s.time.slew with
  | none => 0
  | some w =>
    let n : Nat := min w.remaining.natAbs (k * s.slewPer)
    if w.remaining < 0 then -(n : Int) else (n : Int)

/-- Is the time island off: its counter stands (R92, R760)? It runs from the reset that a wake from Off makes (R90). -/
def timeOff (s : State) : Bool :=
  s.pwr.state == .deep || (s.pwr.state == .off && !s.pwr.trans.any (fun t => t.wake && (t.step != 1 || t.rail != 0)))

/-- The counter after k more ticks; it never lies before the epoch (R56). -/
def countAfter (s : State) (k : Nat) : Nat :=
  if s.timeOff then s.time.count else ((s.time.count : Int) + ((k * s.inc : Nat) : Int) + s.slewOver k).toNat

/-- Let k ticks of 1.28 ns pass: the counter advances by the increment at each and by a slew in progress
(R55) (DESIGN CHOICE, log entry 1). -/
def advance (s : State) (k : Nat) : State :=
  { s with time := { s.time with
      ticks := s.time.ticks + k
      count := s.countAfter k
      slew := s.time.slew.map (fun w => { w with remaining := w.remaining - s.slewOver k }) } }

/-- Let time pass until a tick, if it lies ahead (DESIGN CHOICE, log entry 22; DEDUCED, log entry 26). -/
def advanceTo (s : State) (t : Nat) : State := s.advance (t - s.time.ticks)

/-- Ticks until the counter first reaches a value. -/
def ticksTo (s : State) (target : Nat) : Nat :=
  let d := target - s.time.count
  let i := s.inc
  let p := s.slewPer
  match s.time.slew with
  | none => ceilDiv d i
  | some w =>
    let r := w.remaining.natAbs
    if w.remaining < 0 then
      let k := ceilDiv d (i - p)
      if k * p ≤ r then k else ceilDiv (d + r) i
    else
      let k := ceilDiv d (i + p)
      if k * p ≤ r then k else ceilDiv (d - r) i

/-- Let time pass until span time reaches an instant in 2^-16 ns. -/
def advanceToU (s : State) (u : Nat) : State := s.advance (s.ticksTo (u * 2 ^ 24))

/-- Span time now, in 2^-16 ns. -/
def nowU (s : State) : Nat := s.time.count / 2 ^ 24

/-- Span time now, in the ports' unit of 1/(25 * 2^16) ns. -/
def nowQ (s : State) : Nat := s.time.count * 25 / 2 ^ 24

/-- Let time pass until a port instant. -/
def advanceToQ (s : State) (q : Nat) : State := s.advance (s.ticksTo (ceilDiv (q * 2 ^ 24) 25))

end State

/-- Ticks in n microseconds, rounded up: 781.25 ticks each. -/
def usTicks (n : Nat) : Nat := ceilDiv (n * 78125) 100
def msTicks (n : Nat) : Nat := usTicks (n * 1000)
def secTicks (n : Nat) : Nat := n * 781250000
/-- Ticks in n nanoseconds, rounded up. -/
def nsTicks (n : Nat) : Nat := ceilDiv (n * 100) 128

/-- An instant of 2^-16 ns in the 96-bit layout of R44: SEC in bits [95:48], NS in [47:16], FRAC in [15:0]. -/
def toStamp (u : Nat) : Nat :=
  u % 65536 + 2 ^ 16 * (u / 65536 % 1000000000) + 2 ^ 48 * (u / 65536 / 1000000000 % 2 ^ 48)

/-- The NS field of a value in the layout of R44. -/
def stampNs (v : Nat) : Nat := bits v 16 32

/-- A value in the layout of R44 as an instant in 2^-16 ns. -/
def ofStamp (v : Nat) : Nat := (bits v 48 48 * 1000000000 + bits v 16 32) * 65536 + bits v 0 16

/-- Codes of the time flags, TIM_STATUS.FLAG. -/
def TimeFlag.code : TimeFlag → Nat
  | .valid => 0
  | .coarse => 1
  | .invalid => 2

namespace State

/-- Span time now in the layout of R44. -/
def nowStamp (s : State) : Nat := toStamp s.nowU

/-- TIM_UNCERT, R49: in ns, rounded up and saturating, while the flag is COARSE; 0 otherwise. -/
def uncert (s : State) : Nat :=
  if s.time.flag = .coarse then
    min (2 ^ 32 - 1) (s.time.uncertBase +
      ceilDiv ((s.time.ticks - s.time.uncertFrom) * 128 * s.time.uncertPpb) (100 * 1000000000))
  else 0

/-- The cycle number software sees, R52. -/
def nowCycle (s : State) : BitVec 32 := if s.span.cycValid then s.span.cycle else 0

/-! ### Host memory -/

/-- Key of a host address of a physical function. -/
def hostKey (fn a : Nat) : Nat := fn * 2 ^ 64 + a % 2 ^ 64

def readHost (s : State) (fn a n : Nat) : List Byte := readBytes s.hostMem (hostKey fn a) n
def writeHost (s : State) (fn a : Nat) (bs : List Byte) : State :=
  { s with hostMem := writeBytes s.hostMem (hostKey fn a) bs }

/-- The physical function that owns a queue, R474. -/
def fnOfQueue (s : State) (q : Nat) : Nat := if s.glb.hostSplit && 2048 ≤ q then 1 else 0
/-- The physical function that owns a daybook, R474. -/
def fnOfBook (s : State) (b : Nat) : Nat := if s.glb.hostSplit && 128 ≤ b then 1 else 0
/-- Is q a command queue, R475? -/
def isCommandQueue (s : State) (q : Nat) : Bool := q == 0 || (s.glb.hostSplit && q == 2048)

/-- An HST_VF word of virtual function n of function f: Q at 0, B at 4, C at 8, V at 0xC. -/
def vfWord (s : State) (f n k : Nat) : Nat := s.reg (hstKey f + 0x1000 + 0x20 * n + k)

/-- The virtual function of f that holds queue q, R790. -/
def vfOfQueue (s : State) (q : Nat) : Option Nat :=
  let f := s.fnOfQueue q
  (s.hostFn f).vfHeld.find? (fun n => let w := s.vfWord f n 0; bits w 0 12 ≤ q && q < bits w 0 12 + bits w 16 7)

/-- The function that owns queue q for doorbells: 0 or 1 for a physical function, 2 + 64 * f + n for virtual function n
of f (R790). -/
def requesterOfQueue (s : State) (q : Nat) : Nat :=
  match s.vfOfQueue q with
  | some n => 2 + 64 * s.fnOfQueue q + n
  | none => s.fnOfQueue q

/-- The MSI-X table entry of vector v of the vector space of function f, R793. -/
def msixEntry (s : State) (f v : Nat) : Nat :=
  match (s.hostFn f).vfHeld.find? (fun n => let w := s.vfWord f n 0xC; bits w 0 11 ≤ v && v < bits w 0 11 + bits w 16 6) with
  | some n => vfTable f n + 16 * (v - bits (s.vfWord f n 0xC) 0 11)
  | none => hstKey f + 0x80000 + 16 * v

/-- Send an MSI-X message of a function's vector, or hold it while its table entry is masked (R793). A message that
the function's mask holds back is sent when the bit clears. -/
def sendMsix (s : State) (fn v : Nat) : State :=
  let e := s.msixEntry fn v
  if s.regBits (e + 12) 0 1 = 1 then
    if s.msixPending.contains ⟨fn, v⟩ then s else { s with msixPending := s.msixPending ++ [⟨fn, v⟩] }
  else s.writeHost fn (s.reg64 e) (leBytes 4 (s.reg (e + 8)))

/-! ### Notices -/

/-- A notice arises: its record is written, or folded, by DAYBOOK_RECORD (R509, R513). -/
def notify (s : State) (n : Notice) : State := { s with notices := s.notices ++ [n] }

/-! ### Messages to the foreman -/

def source (s : State) (n : Nat) : FaultSource := Tab.get {} s.flt.sources n
def setSource (s : State) (n : Nat) (v : FaultSource) : State :=
  { s with flt := { s.flt with sources := Tab.set {} s.flt.sources n v } }

end State

/-- The kinds whose corrected messages escalate, R707. -/
def escalates (k : Nat) : Bool := k == 0x01 || k == 0x03 || k == 0x05 || k == 0x14

/-- Counter of a class, R713. -/
def classCounter (c : Nat) : Nat := fltBase + 0x100 + 8 * c
/-- Counter of a kind, R713. -/
def kindCounter (k : Nat) : Nat := fltBase + 0x6000 + 8 * k

namespace State

/-- A message enters its source's pending slot, R708: an empty slot takes it; a full one takes it whole when its class
is higher and loses one message to MERGED either way, and the lost message is counted by kind and class (R713). -/
def fillSlot (s : State) (m : FaultMsg) : State :=
  let f := s.source m.source
  match f.slot with
  | none => s.setSource m.source { f with slot := some m }
  | some h =>
    let lost := if m.cls > h.cls then h else m
    let kept := if m.cls > h.cls then m else h
    (((s.setSource m.source { f with slot := some kept }).count (fltBase + 0x118)).count
      (kindCounter lost.kind)).count (classCounter lost.cls)

/-- R707: within one second of 781,250,000 ticks, more than CORR_LIMIT messages of a kind from one source make its next
message of that kind one of the next kind, CONTAINED, with ESCALATED set, and start the count again. -/
def escalate (s : State) (m : FaultMsg) : FaultMsg × State :=
  let limit := s.regBits (fltBase + 0x5000 + 4 * m.kind) 8 8
  if !escalates m.kind || limit = 0 then (m, s) else
    let f := s.source m.source
    let recent := f.window.filter (fun p => p.1 == m.kind && s.time.ticks < p.2 + 781250000)
    let others := f.window.filter (fun p => p.1 != m.kind)
    if limit < recent.length then
      ({ m with kind := m.kind + 1, cls := 1, escalated := true },
        (s.setSource m.source { f with window := others }).count (fltBase + 0x120))
    else (m, s.setSource m.source { f with window := others ++ recent ++ [(m.kind, s.time.ticks)] })

/-- First source identifier of the unit that a source belongs to, R705 and R719: a port for each of its lanes, a joiner,
a cluster for a control-store copy, a bank, and so on. -/
def unitOf (_s : State) (n : Nat) : Nat :=
  if 0x060 ≤ n ∧ n < 0x080 then 0x060
  else if 0x080 ≤ n ∧ n < 0x0A0 then n - n % 8
  else if 0x0A0 ≤ n ∧ n < 0x0C0 then n - n % 16
  else if 0x0C0 ≤ n ∧ n < 0x0D0 then n - n % 8
  else if 0x0D0 ≤ n ∧ n < 0x0D8 then 0x0D0
  else if 0x100 ≤ n ∧ n < 0x180 then n - n % 32
  else if 0x180 ≤ n ∧ n < 0x200 then n - n % 16
  else if 0x200 ≤ n ∧ n < 0x2C0 then n - n % 4
  else if 0x2C0 ≤ n ∧ n < 0x2CC then n - n % 2
  else if 0x300 ≤ n ∧ n < 0x340 then n - n % 2
  else if 0x340 ≤ n ∧ n < 0x350 then n - n % 2
  else if 0x380 ≤ n ∧ n < 0x400 then n - n % 16
  else if 0x400 ≤ n ∧ n < 0x440 then n - n % 16
  else if 0x440 ≤ n ∧ n < 0x480 then n - n % 32
  else if 0x500 ≤ n ∧ n < 0x600 then n - n % 64
  else n

/-- Is the unit of a source under test, R735: its test has begun? -/
def underTest (s : State) (n : Nat) : Bool :=
  s.flt.tests.any (fun t => t.unit_ == s.unitOf n && t.endAt.isSome)
    || (0x200 ≤ n && n < 0x2C0 && (match Tab.get JoinerFence.none s.joinery.fences ((n - 0x200) / 4) with
      | .test (some _) => true | _ => false))

/-- A block raises a fault message (R702); a unit under test raises none (R735) but its test's own result. -/
def raiseMsg (s : State) (m : FaultMsg) : State :=
  if s.underTest m.source && m.kind != 0x1A && !m.forced then s else
    let r := s.escalate { m with time := s.nowStamp % 2 ^ 64, flag := s.time.flag.code }
    r.2.fillSlot r.1

/-- The address that a message carries, R703: the given one, or for a kind whose address is "the unit's own word or cell
address", which the spec does not number, a free value (DESIGN CHOICE, log entry 30). -/
def faultAddr (s : State) (addr : Option Nat) : Nat × State :=
  match addr with
  | some a => (a % 2 ^ 48, s)
  | none => (s.fresh.1.toNat % 2 ^ 48, s.fresh.2)

/-- Raise a message of a source, kind and class (DESIGN CHOICE, log entry 30). -/
def raise (s : State) (src kind cls : Nat) (addr : Option Nat := none) (access : Nat := 0) (master : Nat := 0) : State :=
  let a := s.faultAddr addr
  a.2.raiseMsg { source := src, kind := kind, cls := cls, address := a.1, access := access, master := master }

end State

/-- The scheduler that serves a port, and its source identifier (chapter 1, "Blocks", and R705). -/
def schedSource (p : Nat) : Nat :=
  0x400 + 0x10 * (if p < 16 then p / 4 else if p < 24 then (p - 16) / 2 else 3)

/-- The source identifier of a port's lane 0, R705: trunk ports and their sub-ports, field ports, M0, tie beam. -/
def portSource (p : Nat) : Nat :=
  if p < 16 then 0x100 + 0x20 * (p / 4) + p % 4
  else if p < 24 then 0x180 + 0x10 * (p - 16)
  else if p = 24 then 0x0D0
  else 0x0C0 + 8 * (p - 25)

end Sys2Proof.Machine
end

