-- ==== Sys2Proof/Machine/SpanImage.lean ====
section
/-!
DEFINITION. Fields of the stored pattern set image (chapter 3, "The pattern set").
-/

namespace Sys2Proof.Machine

/-- Records of an image by pattern. -/
def imgS (b : List Byte) (p : Nat) : Nat := leAt b (0x40 + 0x20 * p) 2
def imgM (b : List Byte) (p : Nat) : Nat := leAt b (0x42 + 0x20 * p) 2
def imgLs (b : List Byte) (p : Nat) : Nat := leAt b (0x44 + 0x20 * p) 4
def imgLm (b : List Byte) (p : Nat) : Nat := leAt b (0x48 + 0x20 * p) 4
def imgNit (b : List Byte) (p : Nat) : Nat := leAt b (0x4C + 0x20 * p) 4
def imgSlotMax (b : List Byte) (p : Nat) : Nat := leAt b (0x50 + 0x20 * p) 2
def imgDmax (b : List Byte) (p : Nat) : Nat := leAt b (0x52 + 0x20 * p) 2
def imgValid (b : List Byte) (p : Nat) : Bool := fieldAt b (0x54 + 0x20 * p) 0 8 == 1
def imgOwners (b : List Byte) : Nat := leAt b 6 2
def imgLength (b : List Byte) : Nat := leAt b 8 4
def imgPi (b : List Byte) : Nat := leAt b 0xC 2
def imgRate (b : List Byte) : Nat := leAt b 0xE 1
def imgTopology (b : List Byte) : Nat := leAt b 0xF 1
def imgDhop (b : List Byte) : Nat := leAt b 0x10 4
def imgLb (b : List Byte) : Nat := leAt b 0x14 4
def imgHopLimit (b : List Byte) : Nat := leAt b 0x18 4
def imgGuard (b : List Byte) : Nat := leAt b 0x1C 4
def imgEtype (b : List Byte) : Nat := leAt b 0x20 2
def imgMacsec (b : List Byte) : Bool := leAt b 0x28 1 == 1
/-- Identity of owner i. -/
def imgOwner (b : List Byte) (i : Nat) : Nat := leAt b (0x140 + 16 * i) 8

/-- Length of a cycle under pattern p, in ns. -/
def imgLc (b : List Byte) (p : Nat) : Nat := imgLb b + imgS b p * imgLs b p + imgM b p * imgLm b p + imgNit b p

/-- Offset of the slot map of pattern p, and of its dynamic map. -/
def imgSlotMapAt (b : List Byte) (p : Nat) : Nat :=
  0x140 + 16 * imgOwners b + (upto 0 p).foldl (fun n i => n + 2 * imgS b i) 0
def imgDynMapAt (b : List Byte) (p : Nat) : Nat :=
  imgSlotMapAt b 8 + (upto 0 p).foldl (fun n i => n + 2 * imgDmax b i) 0
/-- Owner index of slot j (from 1) and of identifier d (from 1); 0xFFFF for none. -/
def imgSlotOwner (b : List Byte) (p j : Nat) : Nat := leAt b (imgSlotMapAt b p + 2 * (j - 1)) 2
def imgDynOwner (b : List Byte) (p d : Nat) : Nat := leAt b (imgDynMapAt b p + 2 * (d - 1)) 2

namespace State

/-! ### Identity and ownership -/

/-- The identity under which the post owns, R67. -/
def ownId (s : State) : BitVec 64 := if s.bent.role == .active then s.bent.bentId else s.glb.clockId
def ownPrio (s : State) : Nat := (s.ptpInst 0).priority1

def integrated (s : State) : Bool := s.span.cycValid
def isKing (s : State) : Bool := s.span.state == .raise || s.span.state == .king

/-- Is an identity the one under which the post itself sends, R67 and R128: a post of a bent that is not ACTIVE does not
send under the bent identity, also where that is its own clock identity (DEDUCED, log entry 88)? -/
def sendsAs (s : State) (id : Nat) : Bool :=
  id == s.ownId.toNat && (s.bent.role == .solo || s.bent.role == .active || id != s.bent.bentId.toNat)

/-- Owner index of an identity in the stored image. -/
def ownerIndex (s : State) (id : BitVec 64) : Option Nat :=
  (upto 0 (imgOwners s.span.image)).find? (fun i => imgOwner s.span.image i == id.toNat)

/-- The owner index of a static slot from 1, or of a dynamic identifier, none where it has none. -/
def slotOwner (s : State) (p j : Nat) : Option Nat :=
  if j = 0 || imgS s.span.image p < j || imgSlotOwner s.span.image p j = 0xFFFF then none
  else some (imgSlotOwner s.span.image p j)
def dynOwner (s : State) (p d : Nat) : Option Nat :=
  if d = 0 || imgDmax s.span.image p < d || imgDynOwner s.span.image p d = 0xFFFF then none
  else some (imgDynOwner s.span.image p d)

/-- Does the post own a slot or an identifier? -/
def ownsSlot (s : State) (p j : Nat) : Bool :=
  (s.slotOwner p j).any (fun o => s.sendsAs (imgOwner s.span.image o))
def ownsDyn (s : State) (p d : Nat) : Bool :=
  (s.dynOwner p d).any (fun o => s.sendsAs (imgOwner s.span.image o))

/-- Does the post or its bent own a slot, or an identifier, R155? -/
def bentOwnsSlot (s : State) (p j : Nat) : Bool :=
  s.ownsSlot p j || (s.bent.role != .solo && (s.slotOwner p j).any (fun o => imgOwner s.span.image o == s.bent.bentId.toNat))
def bentOwnsDyn (s : State) (p d : Nat) : Bool :=
  s.ownsDyn p d || (s.bent.role != .solo && (s.dynOwner p d).any (fun o => imgOwner s.span.image o == s.bent.bentId.toNat))

def statBound (s : State) (p j : Nat) : Nat := Tab.get 255 s.span.statBind (4096 * p + (j - 1))
def dynBound (s : State) (p d : Nat) : Nat := Tab.get 255 s.span.dynBind (16384 * p + d)

/-- Does the post own a static slot of a valid pattern? -/
def ownsSlots (s : State) : Bool :=
  (upto 0 8).any (fun p => imgValid s.span.image p && (upto 1 (imgS s.span.image p)).any (s.ownsSlot p))

/-! ### Slot sources -/

/-- The greatest SLOT_MAX_LEN of the patterns in which a source is bound, R125; none while it is bound in none. A stale
binding is ignored (SPN_STATUS), and a pattern that is not valid has no slots. -/
def slotLimit (s : State) (source : Nat) : Option Nat :=
  let inPattern (p : Nat) : Bool :=
    imgValid s.span.image p
      && (s.span.statBind.any (fun e => e.2 == source && e.1 / 4096 == p && s.ownsSlot p (e.1 % 4096 + 1))
        || s.span.dynBind.any (fun e => e.2 == source && e.1 / 16384 == p && s.ownsDyn p (e.1 % 16384)))
  ((upto 0 8).filter inPattern).foldl (fun m p => some (max (m.getD 0) (imgSlotMax s.span.image p))) none

def source_ (s : State) (n : Nat) : List Nat := Tab.get [] s.span.sources n
def setSource_ (s : State) (n : Nat) (l : List Nat) : State :=
  { s with span := { s.span with sources := Tab.set [] s.span.sources n l } }

end State

end Sys2Proof.Machine
end

