-- ==== Sys2Proof/Machine/Hold.lean ====
section
/-!
DEFINITION. What several blocks ask of each other: ports in service and their rates, the frame hold's cells, the
role of the post, tie-beam packets and the mirror stream.
-/

namespace Sys2Proof.Machine

/-! ### Ports, R278 -/

/-- Port modes that a port index accepts, R278. -/
def modeAllowed (p m : Nat) : Bool :=
  m == 0 || (if p < 16 then (if p % 4 == 0 then 1 ≤ m && m ≤ 3 else m == 4)
    else if p < 24 then 4 ≤ m && m ≤ 8
    else p == 24 && (m == 7 || m == 8))

/-- FEC choices of a mode at a port, R278: 0 none, 1 Clause 74, 2 RS-FEC. -/
def fecAllowed (m f : Nat) : Bool :=
  f == 0 || (f == 1 && (m == 3 || m == 4 || m == 5)) || (f == 2 && (m == 1 || m == 3 || m == 4))

/-- Byte time of a mode in the ports' unit of 1/(25 * 2^16) ns (MAC rates of R278). -/
def modeByte (m : Nat) : Nat :=
  match m with
  | 1 => 131072
  | 2 => 327680
  | 3 => 524288
  | 4 => 524288
  | 5 => 1310720
  | 6 => 5242880
  | _ => 13107200

/-- MAC rate of a mode in kb/s. -/
def modeRate (m : Nat) : Nat :=
  match m with
  | 0 => 0
  | 1 => 100000000
  | 2 => 40000000
  | 3 => 25000000
  | 4 => 25000000
  | 5 => 10000000
  | 6 => 2500000
  | _ => 1000000

/-- Is a unit, named by any of its source identifiers, fenced? -/
def State.fenced (s : State) (src : Nat) : Bool := s.flt.fences.any (fun f => f.unit_ == s.unitOf src)

namespace State

/-- PRT_MODE of a port index: MODE in bits [11:8]. -/
def portMode (s : State) (p : Nat) : Nat := s.regBits (prtBase p + 4) 8 4
def portFec (s : State) (p : Nat) : Nat := s.regBits (prtBase p + 4) 12 2
def byteTime (s : State) (p : Nat) : Nat := modeByte (s.portMode p)

/-- Is a port index in service under given modes, R278? -/
def inServiceBy (mode : Nat → Nat) (p : Nat) : Bool :=
  p ≤ 24 && mode p != 0 && (p ≥ 16 || p % 4 == 0 || mode (p - p % 4) == 3)

/-- Is a port out of service by a fence of its own or of its scheduler, R719? -/
def portFenced (s : State) (p : Nat) : Bool := s.fenced (portSource p) || s.fenced (schedSource p)

def inService (s : State) (p : Nat) : Bool := inServiceBy s.portMode p && !s.portFenced p

/-- Do all ports stand still: a fatal fault or a resignation for one (R634, R724)? -/
def portsDead (s : State) : Bool := s.flt.fatal || (s.bent.role == .resigned && s.bent.resignedFatal)

/-- Are the transmitters off: Sleep, Deep sleep and Off (R313, R760)? -/
def txAsleep (s : State) : Bool := s.pwr.state == .sleep || s.pwr.state == .deep || s.pwr.state == .off

/-- Does transmission of all but span frames and time stand still: STOP, a resignation under way or done (R633, R634,
R723), or a sleeping post? (DEDUCED, log entry 41). -/
def txHalted (s : State) : Bool :=
  s.txAsleep || s.flt.stopped || s.flt.fatal || s.bent.step == .resignFlush || s.bent.role == .resigned

/-! ### Frame hold, R17 to R22 -/

/-- Cells of 256 bytes that a length takes, at least one. -/
def cellsOf (n : Nat) : Nat := max 1 (ceilDiv n 256)

/-- Banks of the frame hold in service: 32 less those fenced. -/
def holdBanks (s : State) : Nat := ((upto 0 32).filter (fun b => !s.fenced (0x300 + 2 * b))).length

/-- Cells in the frame hold: 8,192 in each bank in service, less those retired for good (R706). -/
def holdCells (s : State) : Nat :=
  8192 * s.holdBanks - (s.flt.retired.filter (fun r => 0x300 ≤ r.1 && r.1 < 0x340 && !s.fenced r.1)).length

/-- Does a frame occupy cells of the frame hold? One held for ordering lies in bulk memory (R31). -/
def Frame.inHold (f : Frame) : Bool := f.place != .spilled && f.stage != .ordered

/-- Cells in use. -/
def holdUsed (s : State) : Nat :=
  s.frames.foldl (fun n p => match p.2 with | some f => if Frame.inHold f then n + cellsOf f.size else n | none => n) 0

def holdFree (s : State) : Nat := s.holdCells - s.holdUsed

/-- Occupancy in bytes, MEM_FH_LEVEL. -/
def holdLevel (s : State) : Nat := 256 * s.holdUsed

/-! ### The post's role -/

/-- Does the post run the bent rings and deliver to the host: it is in no bent, or it is the active post (R609, R624),
and no resignation, handover, stop or fatal state holds its work back (R633, R643, R723, R724)? -/
def serves (s : State) : Bool :=
  (s.bent.role == .solo || s.bent.role == .active) && s.bent.step == .none && !s.flt.stopped && !s.flt.fatal
    && (s.pwr.state == .run || s.pwr.state == .idle) && !s.board.inReset

/-- BRACED as the active post sees it: it counts the standby as in sync (R622, R627). -/
def braced (s : State) : Bool :=
  match s.bent.role with
  | .active => s.bent.inSync && !s.bent.partnerCold
  | .standby => s.bent.inSync && !s.bent.cold
  | _ => false

/-- Can the partner be reached, R581: a lane is up and it answers heartbeats? -/
def partnerReachable (s : State) : Bool :=
  s.bent.role != .solo && (s.bent.lane0.up || s.bent.lane1.up) && !s.bent.hbLost && s.bent.partnerRole != none

/-! ### The tie beam -/

/-- A lane can take a packet: it is up and the partner has a free buffer of its 32 (R613). -/
def laneFree (l : TbLane) : Bool := l.up && l.inFlight.length < 32

/-- Send a packet on the first lane with a credit; with none it waits, and with no lane up it is lost. -/
def sendTb (s : State) (p : TbPacket) : State :=
  let b := s.bent
  if laneFree b.lane0 then { s with bent := { b with lane0 := { b.lane0 with inFlight := b.lane0.inFlight ++ [p] } } }
  else if laneFree b.lane1 then
    { s with bent := { b with lane1 := { b.lane1 with inFlight := b.lane1.inFlight ++ [p] } } }
  else if b.lane0.up || b.lane1.up then { s with bent := { b with waiting := b.waiting ++ [p] } }
  else s

/-- Does the mirror stream have a credit, R621? -/
def mirrorCredit (s : State) : Bool := laneFree s.bent.lane0 || laneFree s.bent.lane1

/-- The journal after a mirror entry: RX_DELIVER enters it, WQ_DONE drops what lies before the done index (R617). -/
def journalAfter (j : List Journal) (e : MirrorEntry) : List Journal :=
  match e with
  | .rxDeliver q i n acc path m target seq =>
    j ++ [{ queue := q, index := i, count := n, isAccount := acc, path := path, matchAlg := m, target := target, seq := seq }]
  | .wqDone q i => j.filter (fun x => x.queue != q || (x.index - i).toNat < 32768)
  | _ => j

/-- Send a mirror entry with the next MSEQ, R618. Its confirmation is awaited from a standby in sync. -/
def mirror (s : State) (e : MirrorEntry) (w : MirrorWait := .none) : State :=
  if s.bent.role != .active then s else
    let s := { s with bent := { s.bent with journal := journalAfter s.bent.journal e } }
    if !(s.bent.lane0.up || s.bent.lane1.up) then s else
      let n := s.bent.mseqSent + 1
      let u : Unacked := { mseq := n, entry := e, wait := w, sentAt := s.time.ticks }
      { s with bent := { s.bent with
          mseqSent := n, unacked := if s.bent.inSync then s.bent.unacked ++ [u] else s.bent.unacked } }.sendTb (.mirror n e)

/-- PRP stream entries or PRP learning rules apply to a port, R406. -/
def prpPort (s : State) (p : Nat) : Bool :=
  s.stream.entries.any (fun e => e.2.state != 0 && e.2.format == 2 && (e.2.port == p || e.2.port == 0xFF))
    || (s.regBits (stmBase + 0x40) 16 1 == 1 && (upto 0 16).any (fun r =>
      let w := s.reg (stmBase + 0x100 + 0x20 * r)
      bit w 4 && bits w 5 2 == 2 && (bits w 8 8 == p || bits w 16 8 == p)))

def dcwPort (s : State) : Nat := s.regBits (stmBase + 0x40) 0 16

/-- Number of the next start or delivery. -/
def nextStart (s : State) : Nat × State := (s.nextSn, { s with nextSn := s.nextSn + 1 })

end State

end Sys2Proof.Machine
end

