-- ==== Sys2Proof/Machine/Wake.lean ====
section
/-!
DEFINITION. Power states as the other blocks see them, wake sources, and the beginning of a wake (chapter "Power states
and domains").
-/

namespace Sys2Proof.Machine

/-- Depth of a state: 0 Run to 4 Off, as PWR_STATE and POWER_REQUEST number them. -/
def PState.code : PState → Nat
  | .run => 0
  | .idle => 1
  | .sleep => 2
  | .deep => 3
  | .off => 4

/-- The state of a number; a number above 4 names none. -/
def pstateOf (n : Nat) : PState :=
  match n with
  | 0 => .run
  | 1 => .idle
  | 2 => .sleep
  | 3 => .deep
  | _ => .off

namespace State

/-- Do the engines run that stay on in Idle (R760)? In a transition the state is still the one it began in. -/
def awake (s : State) : Bool := (s.pwr.state == .run || s.pwr.state == .idle) && !s.board.inReset

/-- Do the joiners and the clerk run: only in Run? -/
def inRun (s : State) : Bool := s.pwr.state == .run && !s.board.inReset

/-- PRT_WAKE_CFG of a port: SD_WAKE, EEE_WAKE and KNOCK_WAKE by bit. -/
def wakeCfg (s : State) (p k : Nat) : Bool := s.regBits (prtBase p + 0x28) k 1 == 1

/-- Is a port armed for any wake source, R313? -/
def portArmed (s : State) (p : Nat) : Bool := s.inService p && s.regBits (prtBase p + 0x28) 0 3 != 0

/-- States from which a source wakes, R753. -/
def wakesFrom (source : Nat) (st : PState) : Bool :=
  match st with
  | .run => false
  | .idle => 6 ≤ source && source ≤ 9
  | .sleep => (1 ≤ source && source ≤ 6) || source == 9
  | .deep => 1 ≤ source && source ≤ 6
  | .off => source == 1

/-- Is a source armed, R753: a port's by PRT_WAKE_CFG, PARTNER, HOST and FOREMAN by PWR_WAKE_EN, the others always? -/
def wakeArmed (s : State) (source port : Nat) : Bool :=
  match source with
  | 2 => s.inService port && s.wakeCfg port 0
  | 3 => s.inService port && s.wakeCfg port 1
  | 4 => s.inService port && s.wakeCfg port 2
  | 5 => s.regBits (pwrBase + 0x30) 5 1 == 1
  | 6 => s.regBits (pwrBase + 0x30) 6 1 == 1
  | 9 => s.regBits (pwrBase + 0x30) 9 1 == 1
  | n => n == 1 || n == 7 || n == 8

/-- Reaction codes of a kind in force, R717. -/
def reactionOf (s : State) (kind : Nat) : Nat := s.regBits (fltBase + 0x5000 + 4 * kind) 0 3

/-- Does a thread run or a frame wait for dispatch: condition 0 of R746? -/
def joineryBusy (s : State) : Bool :=
  s.joinery.threads.any (fun e => e.2.isSome) || !s.joinery.released.isEmpty
    || s.frames.any (fun e => match e.2 with | some f => f.stage == .dispatch | none => false)

/-- Is an entry startable at the head of a command queue: its units are covered by PI? -/
def commandWaits (s : State) (q : Nat) : Bool :=
  s.isCommandQueue q && (s.queue q).state == .running && (s.queue q).ci != (s.queue q).pi

/-- Condition 1 of R746: a command is startable, taken or waiting to complete, the carry queue is not empty, or a
carried or partner command waits. -/
def clerkBusy (s : State) : Bool :=
  s.commandWaits 0 || s.commandWaits 2048 || !s.clerk.taken.isEmpty || !s.clerk.waiting.isEmpty
    || !s.clerk.carryQueue.isEmpty || !s.clerk.carriedReplies.isEmpty

/-- Does the condition of a level source hold now, R753 and R314? HOST and the edges come with their events only. -/
def levelHolds (s : State) (source port : Nat) : Bool :=
  match source with
  | 1 => !s.board.wakeN
  | 2 => (s.port port).signal
  | 3 => (s.port port).pcs && !(s.port port).rxLpi
  | 5 => s.bent.role == .standby && !s.bent.partnerHeld
  | 7 => s.joineryBusy || s.clerkBusy
  | 9 => s.flt.sources.any (fun e => match e.2.slot with | some m => s.reactionOf m.kind != 0 || m.cls == 2 | none => false)
  | _ => false

/-- The level sources by code, with the ports of codes 2 and 3. -/
def levelSources : List (Nat × Nat) :=
  (1, 0) :: ((upto 0 25).map (fun p => (2, p)) ++ (upto 0 25).map (fun p => (3, p)) ++ [(5, 0), (7, 0), (9, 0)])

/-- The lowest level source that is armed and holds in a state. -/
def heldLevel (s : State) (st : PState) : Option (Nat × Nat) :=
  levelSources.find? (fun x => wakesFrom x.1 st && s.wakeArmed x.1 x.2 && s.levelHolds x.1 x.2)

/-- The deadline of a step of a wake, R757: 20 ms for a rail, otherwise twice the figure of R756; 0 where it gives none. -/
def stepDeadline (s : State) (from_ : PState) (step : Nat) : Nat :=
  match from_, step with
  | .off, 1 => s.time.ticks + msTicks 20
  | .off, 2 => s.time.ticks + msTicks 20
  | .deep, 2 => s.time.ticks + msTicks 4
  | .deep, 3 => s.time.ticks + msTicks 12
  | .sleep, 3 => s.time.ticks + usTicks 120
  | _, _ => 0

/-- The first step of a wake that has something to do, R756. -/
def firstStep (from_ : PState) : Nat :=
  match from_ with
  | .off => 1
  | .deep => 2
  | .sleep => 3
  | _ => 4

/-- Begin a wake to a state, R756; from Off the regulator step drives PWR_EN of the first rail. -/
def startWake (s : State) (dest : PState) (source port : Nat) : State :=
  let st := s.pwr.state
  let step := firstStep st
  let t : Transition := { from_ := st, dest := dest, wake := true, step := step, rail := 0, stepBy := s.stepDeadline st step }
  { s with pwr := { s.pwr with
      trans := some t
      wakeSource := source
      wakePort := if 2 ≤ source && source ≤ 4 then port else 0
      wakeFrom := st.code
      wakeStep := 0
      railEn := if st == .off then Tab.set false s.pwr.railEn 0 true else s.pwr.railEn } }

/-- A request takes the pending slot, R750. -/
def fillPending (s : State) (dest : PState) (source port : Nat) : State :=
  let s := if s.pwr.slot.isSome then s.count (pwrBase + 0xA8) else s
  { s with pwr := { s.pwr with slot := some dest, slotFrom := (source, port) } }

/-- A wake event of an armed source that acts in the present state, or in the state that an entry leads to: a request
for Run (R751). -/
def wakeEvent (s : State) (source port : Nat) : State :=
  if !s.wakeArmed source port then s else
    match s.pwr.trans with
    | some t => if wakesFrom source (if t.wake then t.from_ else t.dest) then s.fillPending .run source port else s
    | none => if wakesFrom source s.pwr.state then s.startWake .run source port else s

/-- The host accesses BAR0, BAR2 or BAR4: source HOST. -/
def hostTouch (s : State) : State := if s.pwr.state == .run then s else s.wakeEvent 6 0

end State

end Sys2Proof.Machine
end

