-- ==== Sys2Proof/Machine/Work.lean ====
section
/-!
DEFINITION. Work queues, the start arbiter, fences and daybooks (chapter 11): the shared operations, and the meanings
of the events of the post that belong to them.
-/

namespace Sys2Proof.Machine

/-! ### Entries -/

/-- Units of a ring, R476. -/
def WorkQueue.units (w : WorkQueue) : Nat := 2 ^ w.logN

/-- Host address of the unit with an index, R476. -/
def WorkQueue.addr (w : WorkQueue) (i : BitVec 16) : Nat := w.base.toNat + 32 * (i.toNat % w.units)

/-- Lap parity of an index, R479. -/
def lapParity (logN : Nat) (i : BitVec 16) : Nat := i.toNat / 2 ^ logN % 2

/-- Header fields of R477. -/
def hdrPhase (h : Nat) : Nat := bits h 0 1
def hdrLen (h : Nat) : Nat := bits h 1 4
def hdrDone (h : Nat) : Nat := bits h 5 1
def hdrKind (h : Nat) : Nat := bits h 8 8
def hdrTag (h : Nat) : Nat := bits h 16 16

/-- The header word of an entry. -/
def entryHdr (bs : List Byte) : Nat := leAt bs 0 4

/-- Header word of a completion record, R493: PHASE, LEN and TAG as in the entry, DONE 1 and the completion kind. -/
def doneHdr (h kind : Nat) : Nat := bits h 0 5 + 32 + 256 * kind + 65536 * hdrTag h

/-- Address and length of the segments of a TX entry, in order, R487. -/
def txSegments (bs : List Byte) : List (Nat × Nat) :=
  let n := hdrLen (entryHdr bs)
  (leAt bs 0x10 8, fieldAt bs 0x18 0 14) ::
    (upto 2 (2 * (n - 1))).map (fun k => let o := 16 * k; (leAt bs o 8, fieldAt bs (o + 8) 0 14))

/-- Frame length of a TX entry: the sum of its segment lengths. -/
def txLength (bs : List Byte) : Nat := (txSegments bs).foldl (fun n p => n + p.2) 0

/-- No segment follows one of length 0, R487. -/
def segmentsOk : List (Nat × Nat) → Bool
  | [] => true
  | (_, n) :: t => if n = 0 then t.all (fun p => p.2 == 0) else segmentsOk t

/-- Does the queue kind accept an entry kind, R475? -/
def kindAccepted (k : QKind) (e : Nat) : Bool :=
  match k with
  | .command => e == 4 || e == 0
  | .tx => e == 1 || e == 3 || e == 0
  | .rx => e == 2 || e == 0

/-- The cause that makes an entry malformed, or 0, R500. -/
def malformedCause (w : WorkQueue) (f : Fetched) : Nat :=
  let h := entryHdr f.bytes
  let n := hdrLen h
  let k := hdrKind h
  if f.bad then 10
  else if hdrPhase h != lapParity w.logN f.index then 1
  else if n == 0 || 8 < n || (k == 2 && n != 2) || (k == 3 && n != 1) then 2
  else if w.units < f.index.toNat % w.units + n then 3
  else if !kindAccepted w.kind k then 4
  else if hdrDone h == 1 then 5
  else if k == 1 && (!segmentsOk (txSegments f.bytes) || txLength f.bytes < 14 || 16379 < txLength f.bytes) then 6
  else if k == 2 && (fieldAt f.bytes 0x10 0 15 < 64 || 16384 < fieldAt f.bytes 0x10 0 15) then 7
  else 0

/-- Units a fetched entry takes: its LEN, or one when its LEN is malformed. -/
def Fetched.units (f : Fetched) : Nat :=
  let n := hdrLen (entryHdr f.bytes)
  if f.bad || n == 0 || 8 < n then 1 else n

/-- Units held in the prefetch store for a queue. -/
def WorkQueue.prefetched (w : WorkQueue) : Nat := w.fetched.foldl (fun n f => n + f.units) 0

/-- Index of the first unit that is not prefetched. -/
def WorkQueue.fetchFrom (w : WorkQueue) : BitVec 16 := w.ci + BitVec.ofNat 16 w.prefetched

/-- Is the entry at an index wholly below PI, R483? -/
def WorkQueue.covered (w : WorkQueue) (i : BitVec 16) (n : Nat) : Bool := n ≤ (w.pi - i).toNat

/-- The states of a queue as WQ_STATE shows them. -/
def QState.code : QState → Nat
  | .disabled => 0
  | .running => 1
  | .stopping => 2
  | .error => 3

/-- WQ_STATE of a queue. -/
def WorkQueue.stateWord (w : WorkQueue) : Nat := w.state.code + 16 * (w.cause % 16) + 65536 * w.latched.toNat
/-- WQ_INDEX of a queue. -/
def WorkQueue.indexWord (w : WorkQueue) : Nat := w.ci.toNat + 65536 * w.pi.toNat

namespace State

/-- A post that has resigned writes nothing into the bent's rings and daybooks (R634); its own command queues go on
(R610; DEDUCED, log entry 7). -/
def ringWrites (s : State) : Bool := s.bent.role != .resigned

/-- DEDUCED, log entry 7. -/
def writeRing (s : State) (q a : Nat) (bs : List Byte) : State :=
  if s.ringWrites || s.isCommandQueue q then s.writeHost (s.fnOfQueue q) a bs else s

/-! ### Shadow, R485 -/

/-- The 16 bytes of the shadow. -/
def shadowBytes (w : WorkQueue) : List Byte :=
  leBytes 4 (w.ci.toNat + 65536 * w.invAck.toNat) ++ leBytes 4 w.stateWord ++ zeros 8

/-- Write a queue's shadow in one write. -/
def writeShadow (s : State) (q : Nat) : State :=
  (s.writeRing q (s.queue q).shadow.toNat (shadowBytes (s.queue q))).modQueue q (fun w => { w with shadowDue := false })

/-! ### Completions, R493 and R509 -/

/-- A COMPLETION notice after its in-place completion, R509 and R510. -/
def completionNotice (s : State) (q : Nat) (index : BitVec 16) (ckind status tag : Nat) (sn : Option Nat) : State :=
  let b := (s.queue q).noticeBook
  if b = 0xFF then s else
    s.notify { book := b, kind := 1, source := q, sn := sn
               body := leBytes 4 (q + 65536 * index.toNat) ++ leBytes 4 (ckind + 256 * status + 65536 * tag) ++ zeros 4 }

/-- Done index of a queue: the first index of its oldest entry without a completion, or CI. -/
def doneIndex (w : WorkQueue) : BitVec 16 :=
  match w.started with
  | [] => w.ci
  | e :: _ => e.index

/-- Write a completion record over an entry, count it, send its notice and the done index (R493, R509, R620). -/
def complete (s : State) (q : Nat) (e : Started) (ckind status : Nat) (rest : List Byte) : State :=
  let w := s.queue q
  let s := s.writeRing q (w.addr e.index) (leBytes 4 (doneHdr e.header.toNat ckind) ++ rest)
  let s := s.modQueue q (fun w =>
    { w with started := w.started.filter (fun x => x.sn != e.sn), cCompleted := w.cCompleted + 1 })
  let s := s.completionNotice q e.index ckind status (hdrTag e.header.toNat) (some e.sn)
  if s.isCommandQueue q then s else s.mirror (.wqDone q (doneIndex (s.queue q)))

/-- The TX_DONE record of R495 (DEDUCED, log entry 96). -/
def completeTx (s : State) (q : Nat) (e : Started) : State :=
  let status := ((e.statuses.find? (fun p => p.2 != 0)).map (·.2)).getD 0
  s.complete q e 0x81 status (leBytes 4 (status + 256 * flag e.tsLost + 512 * flag e.tsQueued + 1024 * flag e.seqValid)
    ++ leBytes 4 (e.failedMask % 2 ^ 25) ++ leBytes 4 (if e.seqValid then e.seq.toNat else 0))

/-- Insert a copy's status in ascending order of port index. -/
def insertStatus (p st : Nat) : List (Nat × Nat) → List (Nat × Nat)
  | [] => [(p, st)]
  | (a, x) :: t => if p ≤ a then (p, st) :: (a, x) :: t else (a, x) :: insertStatus p st t

/-- Change one started entry. -/
def modStarted (s : State) (q sn : Nat) (f : Started → Started) : State :=
  s.modQueue q (fun w => { w with started := w.started.map (fun e => if e.sn == sn then f e else e) })

def startedOf (s : State) (q sn : Nat) : Option Started := (s.queue q).started.find? (fun e => e.sn == sn)

/-- A copy of a TX entry's frame has left on a port or been refused with a status; the last one completes the entry
(R489). Codes of R494. -/
def copyDone (s : State) (q sn p status : Nat) : State :=
  let s := s.modStarted q sn (fun e =>
    { e with waitMask := setBits e.waitMask p 1 0, statuses := insertStatus p status e.statuses
             failedMask := if status = 0 then e.failedMask else setBits e.failedMask p 1 1 })
  match s.startedOf q sn with
  | none => s
  | some e => if e.waitMask = 0 then s.completeTx q e else s

/-! ### Errors and stopping, R501 to R503 -/

/-- A queue enters ERROR, R501. -/
def queueError (s : State) (q cause : Nat) (latched : BitVec 16) : State :=
  let s := s.modQueue q (fun w => { w with state := .error, cause := cause, latched := latched, fetched := []
                                           accepting := none, cMalformed := w.cMalformed + 1 })
  (s.writeShadow q).raise 0x040 0x26 1 q

/-- A malformed entry that is the next to start puts its queue in ERROR, R501; entries below PI only. -/
def headCheck (s : State) (q : Nat) : State :=
  let w := s.queue q
  match w.fetched with
  | [] => s
  | f :: _ =>
    if w.state == .running && w.covered f.index 1 && malformedCause w f != 0 then
      s.queueError q (malformedCause w f) f.index
    else s

/-- Does some entry of a queue that has started lack its completion? A command counts until its CMD_DONE (R602). -/
def unfinished (s : State) (q : Nat) : Bool := !(s.queue q).started.isEmpty

/-- WQ_DISABLE, or CQ_CFG.ENABLE cleared, on a RUNNING or ERROR queue, R502. -/
def stopQueue (s : State) (q : Nat) : State :=
  (s.modQueue q (fun w => { w with state := .stopping, fetched := [], accepting := none
                                   cDiscarded := w.cDiscarded + BitVec.ofNat 64 w.fetched.length })).writeShadow q

/-- A queue starts to run with PI and CI at a start index, R502. -/
def runQueue (s : State) (q : Nat) (start : BitVec 16) : State :=
  (s.modQueue q (fun w => { w with state := .running, pi := start, ci := start, fetched := [], invAck := 0
                                   cause := 0, latched := 0, accepting := none })).writeShadow q

/-! ### Doorbells, R482 and R499 -/

/-- A write of PI to a queue's WQ_DB. -/
def doorbell (s : State) (q : Nat) (v : BitVec 16) : State :=
  let w := s.queue q
  match w.state with
  | .running =>
    let s := { s with bent := { s.bent with awaitPi := s.bent.awaitPi.filter (· != q) } }
    let move := (v - w.pi).toNat
    if w.units < (v - w.ci).toNat || w.units < move then s.queueError q (if 32768 < move then 9 else 8) v
    else (s.setQueue q { w with pi := v }).headCheck q
  | _ => s.modQueue q (fun w => { w with cDbIgnored := w.cDbIgnored + 1 })

/-- A write of FIRST and COUNT to WQ_INV, R499: the prefetched copies of those units go, and of the entries behind
them, which are read again in order. -/
def invalidate (s : State) (q : Nat) (first : BitVec 16) (count : Nat) : State :=
  let w := s.queue q
  if count = 0 || 32768 < count then s
  else match w.state with
    | .running =>
      let hit (f : Fetched) : Bool :=
        (f.index - first).toNat < count || (first - f.index).toNat < f.units
      (s.setQueue q { w with fetched := w.fetched.takeWhile (fun f => !hit f), invAck := w.invAck + 1
                             cInvalidates := w.cInvalidates + 1 }).writeShadow q
    | _ => s.modQueue q (fun w => { w with cDbIgnored := w.cDbIgnored + 1 })

/-! ### Prefetch, R497 and R498 -/

/-- The prefetch store's units in use over all queues. -/
def prefetchUsed (s : State) : Nat := s.queues.foldl (fun n p => n + p.2.prefetched) 0

/-- The entry at an index as one read of host memory returns it now. -/
def readEntry (s : State) (q : Nat) (i : BitVec 16) (bad : Bool) : Fetched :=
  let w := s.queue q
  let a := w.addr i
  let n := hdrLen (leAt (s.readHost (s.fnOfQueue q) a 4) 0 4)
  { index := i, bad := bad, bytes := s.readHost (s.fnOfQueue q) a (32 * (if n == 0 || 8 < n then 1 else n)) }

/-- Read the next entry ahead of its start. -/
def prefetch (s : State) (q : Nat) (bad : Bool) : State :=
  let w := s.queue q
  let f := s.readEntry q w.fetchFrom bad
  if w.state == .running && w.covered w.fetchFrom f.units && w.prefetched + f.units ≤ 64
      && s.prefetchUsed + f.units ≤ 16384 then
    (s.setQueue q { w with fetched := w.fetched ++ [f] }).headCheck q
  else s

/-! ### Starting entries, R484, R505 and R506 -/

/-- CI passes the head entry. -/
def passHead (s : State) (q : Nat) : State :=
  s.modQueue q (fun w => { w with ci := w.ci + BitVec.ofNat 16 ((w.fetched.head?.map Fetched.units).getD 0)
                                  fetched := w.fetched.tail, accepting := none, shadowDue := true
                                  cStarted := w.cStarted + 1 })

/-- Next number of a stream with GEN_EN, R352 and R353. -/
def seqAfter (format : Nat) (skipZero : Bool) (n : Nat) : Nat :=
  if format = 3 then (if skipZero then (if n % 2 ^ 28 = 2 ^ 28 - 1 then 1 else n % 2 ^ 28 + 1) else (n + 1) % 2 ^ 28)
  else (n + 1) % 65536

/-- Sequence generation for a TX entry, R353: the number given, if any. -/
def generate (s : State) (handle : Nat) : Option Nat × State :=
  let e := Tab.get {} s.stream.entries handle
  if e.state = 0 || !e.genEn then (none, s) else
    let n := if e.format = 3 && e.skipZero && e.genSeq = 0 then 1 else e.genSeq
    (some n, { s with stream := { s.stream with
      entries := Tab.set {} s.stream.entries handle { e with genSeq := seqAfter e.format e.skipZero n } } }.count
        (stmBase + 0x2D8))

/-- A fence of this queue waits, R521. -/
def fenceWaits (w : WorkQueue) : Bool := w.started.any (fun e => e.kind == 3)

/-- Frames a FETCH channel of a queue holds, R533 and R536: key of the channel. -/
def fetchChan (q : Nat) : Nat := 32 * (q % 4) + q / 4 % 8
def deliveryChan (q : Nat) : Nat := 32 * (q % 4) + 8 + q / 4 % 8

def chan (s : State) (k : Nat) : DrayChan := Tab.get {} s.dray.chans k
def setChan (s : State) (k : Nat) (c : DrayChan) : State :=
  { s with dray := { s.dray with chans := Tab.set {} s.dray.chans k c } }

/-- Is the head entry of a queue startable, R506? -/
def startable (s : State) (q : Nat) : Bool :=
  let w := s.queue q
  match w.fetched with
  | [] => false
  | f :: _ =>
    w.state == .running && w.covered f.index f.units && malformedCause w f == 0 && !fenceWaits w
      && w.accepting == none && !s.bent.awaitPi.contains q && !s.bent.rerun.any (fun r => r.1 == q)
      && (hdrKind (entryHdr f.bytes) != 1 ||
        (cellsOf (txLength f.bytes) ≤ s.holdFree && (s.chan (fetchChan q)).framesIn < 16))

/-- The port mask that a TX entry asks for, less nothing; SLOT ignores it (R487). -/
def txMask (bs : List Byte) : Nat := fieldAt bs 4 0 25
def txSlot (bs : List Byte) : Bool := fieldAt bs 4 28 1 == 1

/-- Has the entry no target, R489? -/
def noTarget (s : State) (bs : List Byte) : Bool :=
  (fieldAt bs 4 30 1 == 1 && (Tab.get {} s.stream.entries (fieldAt bs 0xC 0 24)).state == 0)
    || (!txSlot bs && (upto 0 25).all (fun p => !(bit (txMask bs) p && s.inService p)))

/-- Every start and delivery that a fence covers and whose defined point is not reached, R519. -/
def fenceCovers (s : State) (q scope : Nat) : List Nat :=
  let g := (s.queue q).group
  let qs := s.queues.filter (fun p => if scope = 0 then p.1 == q else if scope = 1 then p.2.group == g else true)
  qs.flatMap (fun p => p.2.started.map (·.sn))
    ++ (if 2 ≤ scope then s.deliveries else [])

/-- Notices and timestamp records that a covered start caused and that are still to be written. -/
def noticeSns (s : State) : List Nat := s.notices.filterMap (·.sn)

/-- Start a FENCE entry, R519 to R524. -/
def startFence (s : State) (q sn : Nat) (f : Fetched) : State :=
  let scope := fieldAt f.bytes 4 0 2
  let e : Started := { sn := sn, index := f.index, header := BitVec.ofNat 32 (entryHdr f.bytes), kind := 3, scope := scope }
  if scope = 3 && !s.braced then
    let s := s.modQueue q (fun w => { w with started := w.started ++ [e] })
    (s.writeShadow q).complete q e 0x85 9 (leBytes 4 9 ++ leBytes 4 0 ++ leBytes 4 s.nowCycle.toNat)
  else
    let cov := s.fenceCovers q scope
    s.modQueue q (fun w => { w with started := w.started ++
      [{ e with covers := cov ++ s.noticeSns, covered := cov.length, mseq := s.bent.mseqSent }] })

/-- Start a TX entry with the number it was given: its cells are taken and its FETCH channel begins (R484, R488). -/
def startTx (s : State) (q sn : Nat) (f : Fetched) (num : Option Nat) : State :=
  let n := txLength f.bytes
  let e : Started := { sn := sn, index := f.index, header := BitVec.ofNat 32 (entryHdr f.bytes), kind := 1
                       seqValid := num.isSome, seq := BitVec.ofNat 28 (num.getD 0)
                       waitMask := if txSlot f.bytes then 2 ^ 25 else txMask f.bytes
                       egress := txMask f.bytes, slot := if txSlot f.bytes then some (fieldAt f.bytes 0xC 24 8) else none }
  if s.noTarget f.bytes then
    let s := s.modQueue q (fun w => { w with started := w.started ++ [e] })
    s.complete q e 0x81 8 (leBytes 4 8 ++ leBytes 4 (if txSlot f.bytes then 0 else txMask f.bytes) ++ leBytes 4 0)
  else
    let r := s.addFrame { origin := .tx q sn, size := n, whole := false, seq := num.getD 0, seqValid := num.isSome
                          egress := if txSlot f.bytes then [] else (upto 0 25).filter (bit (txMask f.bytes))
                          slot := if txSlot f.bytes then some (fieldAt f.bytes 0xC 24 8) else none
                          cls := fieldAt f.bytes 4 25 3, ftag := BitVec.ofNat 32 (leAt f.bytes 8 4)
                          tsReq := fieldAt f.bytes 4 29 1 == 1, sc := fieldAt f.bytes 0x18 16 8
                          handle := if fieldAt f.bytes 4 30 1 == 1 then some (fieldAt f.bytes 0xC 0 24) else none }
    let s := r.2.modQueue q (fun w => { w with started := w.started ++ [{ e with frame := some r.1 }] })
    let c := s.chan (fetchChan q)
    s.setChan (fetchChan q) { c with framesIn := c.framesIn + 1, source := c.source ++
      [{ queue := q, sn := sn, frame := r.1, bytes := n, since := s.time.ticks, segs := txSegments f.bytes }] }

/-- The head entry starts and CI passes it, R484, with the number it was given. -/
def startHead (s : State) (q : Nat) (num : Option Nat) : State :=
  match (s.queue q).fetched with
  | [] => s
  | f :: _ =>
    let r := (s.passHead q).nextStart
    let s := match hdrKind (entryHdr f.bytes) with
      | 1 => r.2.startTx q r.1 f num
      | 3 => r.2.startFence q r.1 f
      | _ => r.2
    s.headCheck q

/-- A step of a queue waits for a mirror credit, counted once for each step (R621). -/
def stall (s : State) (q : Nat) : State :=
  if (s.queue q).stalled then s else (s.modQueue q (fun w => { w with stalled := true })).count (bntBase + 0x130)

/-- Start the startable head entry of a TX queue: at once, or in a braced bent once its WQ_ACCEPT is confirmed (R620);
without a mirror credit it waits and counts MIRROR_STALL (R621). A fence is no mirror point. -/
def serveHead (s : State) (q : Nat) : State :=
  match (s.queue q).fetched with
  | [] => s
  | f :: _ =>
    let k := hdrKind (entryHdr f.bytes)
    if s.braced && k != 3 && !s.mirrorCredit then s.stall q else
      let s := s.modQueue q (fun w => { w with stalled := false })
      let g := if k == 1 && fieldAt f.bytes 4 30 1 == 1 && !s.noTarget f.bytes
        then s.generate (fieldAt f.bytes 0xC 0 24) else (none, s)
      let entry := MirrorEntry.wqAccept q f.index f.units g.1.isSome (fieldAt f.bytes 0xC 0 24) (g.1.getD 0)
      if k == 3 then g.2.startHead q g.1
      else if s.braced then
        (g.2.modQueue q (fun w => { w with accepting := some g.1 })).mirror entry (.start q f.index)
      else (g.2.mirror entry).startHead q g.1

/-- Run the entries of a takeover window that are not completed, in ring order for each queue, while there are cells and
the FETCH channel is free; each is read afresh and keeps its number (R638). -/
def rerunEntries (s : State) : List (Nat × Accepted) → List Nat → State
  | [], _ => s
  | (q, a) :: rest, held =>
    let f := s.readEntry q a.index false
    if held.contains q || s.holdFree < cellsOf (txLength f.bytes) || 16 ≤ (s.chan (fetchChan q)).framesIn then
      s.rerunEntries rest (q :: held)
    else
      let s := { s with bent := { s.bent with rerun := s.bent.rerun.filter (fun r => r != (q, a)) } }
      let r := s.nextStart
      let s := if hdrKind (entryHdr f.bytes) == 1 then
          (r.2.startTx q r.1 f (if a.seqValid then some a.seq else none)).count
            (bntBase + (if a.seqValid then 0x140 else 0x148))
        else r.2
      s.rerunEntries rest held

/-- One queue's visit in one pass: up to BURST startable heads, R505. -/
def visit (s : State) (q : Nat) : Nat → State
  | 0 => s
  | n + 1 => if s.startable q then (s.serveHead q).visit q n else s

/-- The TX queues in ascending number. -/
def txQueues (s : State) : List Nat :=
  (s.queues.filter (fun p => p.2.kind == .tx && !s.isCommandQueue p.1)).map (·.1)

/-- One pass of a round. -/
def arbiterPass (pass : Nat) : List Nat → State → State
  | [], s => s
  | q :: qs, s =>
    let w := s.queue q
    arbiterPass pass qs (if w.state == .running && pass ≤ w.weight then s.visit q w.burst else s)

/-- One round of the start arbiter, R505. -/
def arbiterRound (s : State) : State :=
  (upto 1 16).foldl (fun s pass => arbiterPass pass s.txQueues s) (s.rerunEntries s.bent.rerun [])

/-! ### Daybooks, R507 to R517 -/

/-- Number of records of a daybook ring. -/
def bookSize (b : Daybook) : Nat := 2 ^ b.logN

def bookFull (b : Daybook) : Bool := bookSize b ≤ (b.bpi - b.bci).toNat

/-- Bytes 0x10 to 0x1F of a record: span time in the layout of R44 and the time flag. -/
def timeTail (s : State) : List Byte := leBytes 12 s.nowStamp ++ leBytes 4 s.time.flag.code

/-- Write one record of a kind as the next record of a daybook (R507, R508). -/
def putRecord (s : State) (b kind : Nat) (body : List Byte) : State :=
  let k := s.book b
  let a := k.base.toNat + 32 * (k.bpi.toNat % bookSize k)
  let s := if s.ringWrites then
      s.writeHost (s.fnOfBook b) a (leBytes 4 (k.bpi.toNat / bookSize k % 2 + 256 * kind) ++ body) else s
  s.setBook b { k with bpi := k.bpi + 1, uncovered := k.uncovered + 1, cRecords := k.cRecords + 1
                       firstUncovered := some (k.firstUncovered.getD s.time.ticks) }

/-- Set a bit of the pending bitmap. -/
def addBit (n : Nat) : List Nat → List Nat
  | [] => [n]
  | a :: t => if n = a then a :: t else if n < a then n :: a :: t else a :: addBit n t

/-- The 520 bytes of a bitmap: bit k in byte k / 8 at bit k mod 8 (R514). -/
def bitmapBytes (l : List Nat) : List Byte :=
  (upto 0 520).map (fun i => BitVec.ofNat 8 ((l.filter (fun k => k / 8 == i)).foldl (fun n k => n + 2 ^ (k % 8)) 0))

/-- The OVERFLOW record, R514 and R515. -/
def overflow (s : State) (b : Nat) : State :=
  let k := s.book b
  if k.state != .running || bookFull k || k.bitmap.isEmpty || s.bent.awaitBci.contains b then s else
    let s := if s.ringWrites then s.writeHost (s.fnOfBook b) k.pendingAddr.toNat (bitmapBytes k.bitmap) else s
    let s := s.setBook b { k with bitmap := [], folded := 0, irqNow := true, cOverflows := k.cOverflows + 1 }
    s.putRecord b 7 (leBytes 4 k.folded.toNat ++ leBytes 4 k.bitmap.length ++ zeros 4 ++ s.timeTail)

/-- A notice folds, R513; a fence that covers its work reports FOLDED (R523). -/
def fold (s : State) (n : Notice) : State :=
  let k := s.book n.book
  let s := s.setBook n.book { k with bitmap := addBit n.source k.bitmap, cFoldedTotal := k.cFoldedTotal + 1
                                     folded := BitVec.ofNat 32 (satAdd 32 k.folded.toNat 1) }
  match n.sn with
  | none => s
  | some sn => { s with queues := s.queues.map (fun p => (p.1, { p.2 with started := p.2.started.map (fun e =>
      if e.kind == 3 && e.covers.contains sn then { e with folded := true } else e) })) }

/-- The oldest notice of a daybook is dropped, folded or written (R513, R517). -/
def record (s : State) (b : Nat) : State :=
  match s.notices.find? (fun n => n.book == b) with
  | none => s
  | some n =>
    let s := { s with notices := s.notices.eraseP (fun m => m.book == b) }
    let send (s : State) : State := match n.vector with | some v => s.sendMsix 0 v | none => s
    send <| match (s.book b).state with
    | .disabled => s.modBook b (fun k => { k with cDropped := k.cDropped + 1 })
    | .error => s.fold n
    | .running =>
      let s := s.overflow b
      if bookFull (s.book b) || s.bent.awaitBci.contains b then s.fold n
      else s.putRecord b n.kind (slice n.body 0 (if n.timed then 12 else 28) ++ (if n.timed then s.timeTail else []))

/-- A write of BCI, R512 and R517. After a takeover the first write restarts the daybook at that index (R639). -/
def bookDoorbell (s : State) (b : Nat) (v : BitVec 16) : State :=
  let k := s.book b
  if s.bent.awaitBci.contains b && k.state == .running then
    { s.setBook b { k with bci := v, bpi := v } with
      bent := { s.bent with awaitBci := s.bent.awaitBci.filter (· != b) } }
  else match k.state with
    | .running =>
      if bookSize k < (k.bpi - v).toNat || (k.bpi - k.bci).toNat < (k.bpi - v).toNat then
        (s.setBook b { k with state := .error, latched := v }).raise 0x040 0x27 1 b
      else s.setBook b { k with bci := v }
    | _ => s

/-- BOOK_STATE. -/
def bookWord (s : State) (b : Nat) : Nat :=
  let k := s.book b
  (match k.state with | .disabled => 0 | .running => 1 | .error => 2) + 4 * flag (!k.bitmap.isEmpty) + 256 * b
    + 65536 * k.bpi.toNat

/-- The daybook whose home is a page, R526. -/
def homeBook (s : State) (q : Nat) : Option Nat := Tab.findKey (fun _ k => k.homeWq == some q) s.books

/-! ### Doorbell pages, R526 -/

/-- Enable or disable a command queue through CQ_CFG. -/
def cqEnable (s : State) (q : Nat) (on : Bool) : State :=
  let w := s.queue q
  match w.state, on with
  | .disabled, true =>
    let logN := s.regBits (pageBase q + 0x110) 0 4
    let s := s.setQueue q { w with kind := .command, logN := if logN < 4 then 4 else logN
                                   noticeBook := s.regBits (pageBase q + 0x110) 16 8
                                   base := BitVec.ofNat 64 (s.reg64 (pageBase q + 0x100))
                                   shadow := BitVec.ofNat 64 (s.reg64 (pageBase q + 0x108)) }
    s.runQueue q w.ci
  | .stopping, _ => s.setQueue q { w with enablePending := on }
  | .running, false => s.stopQueue q
  | .error, false => s.stopQueue q
  | _, _ => s

/-- A 32-bit write to a command queue's own registers: other fields change only while the queue is DISABLED and
ENABLE is 0. -/
def cqWrite (s : State) (q off v : Nat) : State :=
  let a := pageBase q + off
  let idle := (s.queue q).state == .disabled && s.regBits (pageBase q + 0x110) 31 1 == 0
  if off == 0x110 then
    let s := s.setReg a (if idle then v % 2 ^ 31 &&& 0x00FF000F ||| bits v 31 1 * 2 ^ 31
      else setBits (s.reg a) 31 1 (bits v 31 1))
    s.cqEnable q (bit v 31)
  else if idle then s.setReg a v else s

/-- A write to a register of a doorbell page by a function that owns the queue. -/
def pageWrite (s : State) (q off v : Nat) : State :=
  if off == 0 then s.doorbell q (BitVec.ofNat 16 v)
  else if off == 4 then s.invalidate q (BitVec.ofNat 16 v) (v / 65536)
  else if off == 0x40 then
    match s.homeBook q with
    | none => s
    | some b => s.bookDoorbell b (BitVec.ofNat 16 v)
  else if s.isCommandQueue q && 0x100 ≤ off && off ≤ 0x110 && off % 4 == 0 then s.cqWrite q off v
  else s

/-- A read of a register of a doorbell page. -/
def pageRead (s : State) (q off : Nat) : Nat :=
  if off == 8 then (s.queue q).stateWord
  else if off == 0xC then (s.queue q).indexWord
  else if off == 0x44 then ((s.homeBook q).map s.bookWord).getD 0
  else if s.isCommandQueue q && 0x100 ≤ off && off ≤ 0x110 then s.reg (pageBase q + off)
  else 0

/-! ### Work-queue fences, R520 and R523 -/

/-- Every start and delivery that has not reached its defined point. -/
def openWork (s : State) : List Nat := s.queues.flatMap (fun p => p.2.started.map (·.sn)) ++ s.deliveries

/-- Timestamp records still held that covered work asked for. -/
def heldRecords (s : State) (cov : List Nat) : Bool :=
  s.time.ports.any (fun p => p.2.tsq.any (fun r => match r.sn with | some n => cov.contains n | none => false))

/-- Has everything that a fence covers reached its defined point, R520? -/
def fenceReady (s : State) (e : Started) : Bool :=
  e.covers.all (fun n => n == e.sn || (!s.openWork.contains n && !s.noticeSns.contains n))
    && (e.scope != 3 || e.mseq ≤ s.bent.mseqConfirmed || !s.braced)

/-- FENCE_DONE of a fence whose work is done. -/
def fenceDone (s : State) (q : Nat) : State :=
  match (s.queue q).started.find? (fun e => e.kind == 3) with
  | none => s
  | some e =>
    if !s.fenceReady e then s else
      (s.writeShadow q).complete q e 0x85 0 (leBytes 4 (256 * flag e.folded + 512 * flag (s.heldRecords e.covers))
        ++ leBytes 4 (min e.covered (2 ^ 32 - 1)) ++ leBytes 4 s.nowCycle.toNat)

/-! ### Messages, R516 -/

/-- Send the MSI-X message of a daybook. -/
def bookIrq (s : State) (b : Nat) : State :=
  let k := s.book b
  if k.irqCount = 0 || (k.uncovered = 0 && !k.irqNow) then s else
    let s := if k.irqCount ≤ k.uncovered || k.irqNow then s
      else s.advanceTo (k.firstUncovered.getD 0 + usTicks k.irqDelay)
    (s.setBook b { k with uncovered := 0, firstUncovered := none, irqNow := false, cMessages := k.cMessages + 1 }).sendMsix
      (s.fnOfBook b) k.vector

end State

/-! ### Meanings -/

/-- WQ_DOORBELL: function fn writes WQ_DB of queue q (R482, R526). -/
def execWqDoorbell (fn q : Nat) (v : BitVec 16) (s : State) : Result :=
  let s := s.hostTouch
  ok (if q < 4096 && s.requesterOfQueue q == fn then s.pageWrite q 0 v.toNat else s)

/-- WQ_INVALIDATE: function fn writes WQ_INV of queue q (R499). -/
def execWqInvalidate (fn q : Nat) (v : BitVec 32) (s : State) : Result :=
  let s := s.hostTouch
  ok (if q < 4096 && s.requesterOfQueue q == fn then s.pageWrite q 4 v.toNat else s)

/-- BOOK_DOORBELL: function fn writes BOOK_DB in the page of queue q (R512, R517, R526, R639). -/
def execBookDoorbell (fn q : Nat) (v : BitVec 16) (s : State) : Result :=
  let s := s.hostTouch
  ok (if q < 4096 && s.requesterOfQueue q == fn then s.pageWrite q 0x40 v.toNat else s)

/-- CQ_CFG_WRITE: function fn writes a command queue register at an offset of the page of queue q (R526). -/
def execCqCfgWrite (fn q off : Nat) (v : BitVec 32) (s : State) : Result :=
  let s := s.hostTouch
  ok (if s.isCommandQueue q && s.fnOfQueue q == fn && 0x100 ≤ off then s.pageWrite q off v.toNat else s)

/-- ENTRY_FETCHED: the read of the next entry of queue q returns, or fails (R497, R498). -/
def execEntryFetched (q : Nat) (bad : Bool) (s : State) : Result := ok (s.prefetch q bad)

/-- ARBITER_ROUND: one round of the start arbiter (R505). -/
def execArbiterRound (s : State) : Result := ok (if s.serves then s.arbiterRound else s)

/-- SHADOW_WRITE: a queue whose CI has changed has its shadow written (R485). -/
def execShadowWrite (q : Nat) (s : State) : Result := ok (if (s.queue q).shadowDue then s.writeShadow q else s)

/-- WQ_FENCE_DONE: the fence of queue q completes once its work is done (R520, R523). -/
def execWqFenceDone (q : Nat) (s : State) : Result := ok (s.fenceDone q)

/-- DAYBOOK_RECORD: the oldest notice of daybook b is written, folded or dropped (R513, R517). -/
def execDaybookRecord (b : Nat) (s : State) : Result := ok (s.record b)

/-- DAYBOOK_OVERFLOW: daybook b has a free record and a set bit (R514). -/
def execDaybookOverflow (b : Nat) (s : State) : Result := ok (s.overflow b)

/-- DAYBOOK_IRQ: daybook b sends its message (R516). -/
def execDaybookIrq (b : Nat) (s : State) : Result := ok (s.bookIrq b)

end Sys2Proof.Machine
end

