-- ==== Sys2Proof/Machine/Clerk.lean ====
section
/-!
DEFINITION. The clerk (chapter 13): checks before execution, replies and completions, commands that wait, and the
scopes; and the meanings of the general commands and of the clerk's own events.
-/

namespace Sys2Proof

/-- Status codes of R571. -/
def Status.code : Status → Nat
  | .ok => 0
  | .okClamped => 1
  | .busy => 2
  | .late => 3
  | .noCapacity => 4
  | .inconsistent => 5
  | .badOpcode => 6
  | .badLength => 7
  | .notActive => 8
  | .sealed => 9
  | .fencedUnit => 10
  | .unbraced => 11
  | .timeout => 12
  | .internal => 13

/-- Is a status OK or OK_CLAMPED? -/
def Status.good (s : Status) : Bool := s == .ok || s == .okClamped

/-- A parameter field: bits lo to lo + w - 1 of the 32-bit word at an offset. -/
def Cmd.f (c : Cmd) (off lo w : Nat) : Nat := Machine.fieldAt c.params off lo w

/-- A parameter of n bytes at an offset. -/
def Cmd.n (c : Cmd) (off n : Nat) : Nat := Machine.leAt c.params off n

/-- The queue a command was taken from. -/
def Cmd.queueOf (c : Cmd) : Option Nat :=
  match c.origin with
  | .queue q _ => some q
  | _ => none

namespace Machine

/-- The kind of an opcode, R567. -/
def isBenchOp (op : Nat) : Bool := 0x10 ≤ op % 256 && op % 256 ≤ 0x3F

/-- What a command's effect answers: it is done, with its status, detail word, reply, clamps and the DISRUPTIVE bit; or
it has passed its execution point and waits (R574). A detail word to which the spec gives no meaning is none here, and
a free value in the record (log entry 6). -/
inductive Eff where
  | done (s : State) (st : Status) (detail : Option Nat) (reply : List Byte) (clamps : Nat) (disruptive : Bool)
  | wait (s : State) (k : WaitKind) (clamps : Nat)

/-- Done with OK (DESIGN CHOICE, log entry 6). -/
def Eff.ok (s : State) (detail : Option Nat := none) (reply : List Byte := []) : Eff := .done s .ok detail reply 0 false
/-- Refused with a status; nothing was done. -/
def Eff.refuse (s : State) (st : Status) (detail : Option Nat := none) : Eff := .done s st detail [] 0 false

/-- Offsets of the CMD counters. -/
def cmdCount (k : Nat) : Nat := cmdBase + 0x100 + 8 * k

/-- How many units each UNIT of R736 has. -/
def unitCount (u : Nat) : Nat := [48, 32, 8, 4, 6, 25, 4, 2].getD u 0

/-- Posts that take part in a scope, R578 step 3 (DEDUCED, log entry 104). -/
def scopeOk (o : Op) (scope : Nat) : Bool := scope < 3 && bit o.scopes scope

/-- The foreman source of the unit that a direct command of a port or a dray engine needs (step 10). -/
def neededUnit (code : Nat) (c : Cmd) : Option Nat :=
  if isBenchOp code then none
  else if code / 256 == 4 || code / 256 == 5 || code == 0x0600 || code == 0x0601 then some (portSource (c.f 0 0 8))
  else if code / 256 == 0xA then some (0x500 + 0x40 * c.f 0 0 2 + 32)
  else none

namespace State

/-- The issuing physical function of a command. -/
def cmdFn (s : State) (c : Cmd) : Nat :=
  match c.origin with
  | .queue q _ => s.fnOfQueue q
  | _ => 0

/-- Does a command act for the partner, or the owner of a bench? -/
def sameOwner (b : Bench) (c : Cmd) : Bool :=
  match c.origin with
  | .queue q _ => !b.ownerPartner && b.owner == q
  | .partner _ => b.ownerPartner
  | .carried _ => false

/-- Length of a fixed reply, R569; 0 when the reply has no fixed length. -/
def replyLen (o : Op) (c : Cmd) : Nat :=
  if o.code == 3 then c.params.length else if o.code == 4 then 4 * c.f 4 0 8
  else if o.code == 0x0C07 then c.n 4 4 else o.reply

/-- The SPN_STATUS state code. -/
def spanCode (st : SpanState) : Nat :=
  match st with
  | .disabled => 0
  | .listen => 1
  | .trial => 2
  | .raise => 3
  | .king => 4
  | .joined => 5
  | .member => 6

/-- May the post take a SPAN-scope command, R580 and R152? -/
def spanTakes (s : State) (code : Nat) : Bool :=
  let capable := s.regBits (spnBase + 0x40) 0 1 == 1
  match s.span.state with
  | .raise => true
  | .king => true
  | .disabled => capable && (code == 0x0312 || (0x0100 ≤ code && code ≤ 0x0103))
  | .listen => capable && (code == 0x0312 || (0x0100 ≤ code && code ≤ 0x0103))
  | _ => false

/-- A selector whose range depends on another field lies outside it: INDEX of SELFTEST, by its UNIT, and LANE of EYE_SCAN, by
the lanes of its port (R736, R744, R587) (DEDUCED, log entry 38). -/
def selectorBad (s : State) (code : Nat) (c : Cmd) : Bool :=
  if code == 0x7F01 then unitCount (c.f 0 0 4) ≤ c.f 0 8 8
  else if code == 0x7F03 then
    let p := c.f 0 0 8
    let m := s.portMode p
    (if p < 16 && p % 4 == 0 && (m == 1 || m == 2) then 4 else 1) ≤ c.f 0 8 2
  else false

/-- Does a code act on a named bench with the bench's own scope? -/
def actsOnBench (code : Nat) : Bool := code == 0x0101 || code == 0x0102 || code == 0x0103

/-- The checks of R578 in order: the first that fails gives status and detail word. -/
def precheck (s : State) (code : Nat) (c : Cmd) : Option (Status × Nat) :=
  match opInfo code with
  | none => some (.badOpcode, code)
  | some o =>
    let scope := c.scope.toNat
    let b := s.bench c.bench.toNat
    if s.flt.stopped && !(code ≤ 5 || code / 256 == 0x0D || code / 256 == 0x7F) then some (.fencedUnit, s.flt.stopSource)
    else if c.params.length < o.len then some (.badLength, ceilDiv (o.len + 24) 32)
    else if !scopeOk o scope || (c.partner && (scope != 0 || o.noPartner))
        || (actsOnBench code && !c.partner && b.state != .free && b.scope != scope) then some (.inconsistent, 4)
    else if code / 256 == 0x0C && !s.glb.metrology then some (.notActive, 0)
    else if scope == 2 && !s.spanTakes code then some (.notActive, spanCode s.span.state)
    else if (scope == 1 || c.partner) && !s.partnerReachable && (match c.origin with | .queue _ _ => true | _ => false) then
      some (.unbraced, 0)
    else if c.partner then none
    else if isBenchOp code && (b.state == .free || !sameOwner b c || b.scope != scope) then
      some (.notActive, c.bench.toNat)
    else if actsOnBench code && (b.state == .free || !sameOwner b c) then some (.notActive, c.bench.toNat)
    else if (isBenchOp code || code == 0x0101 || code == 0x0102) && b.state == .pegged then some (.busy, c.bench.toNat)
    else match o.sels.find? (fun x => c.f x.off x.lo x.w < x.min || x.max < c.f x.off x.lo x.w) with
      | some x => some (.inconsistent, x.off)
      | none =>
        let u := neededUnit code c
        if s.selectorBad code c then some (.inconsistent, 0)
        else if u.any s.fenced then some (.fencedUnit, u.getD 0)
        else if c.replyLen != 0 && c.replyAddr.toNat % 8 != 0 then some (.inconsistent, 8)
        else if c.replyLen.toNat < replyLen o c then some (.badLength, replyLen o c)
        else none

/-! ### Completions, R568 to R570 -/

/-- The CMD_DONE record of R568 after its header. -/
def cmdDoneBytes (st : Status) (clamps : Nat) (reply truncated disruptive : Bool) (detail bytes : Nat) : List Byte :=
  leBytes 4 (st.code + 256 * min clamps 255 + 65536 * flag reply + 131072 * flag truncated + 262144 * flag disruptive)
    ++ leBytes 4 detail ++ leBytes 4 bytes

/-- Write the reply buffer, the CMD_DONE record and the COMPLETION notice, or answer the partner or the king (R570,
R581, R586) (DEDUCED, log entry 7). -/
def finishCmd (s : State) (c : Cmd) (code : Nat) (st : Status) (detail : Nat) (reply : List Byte) (clamps : Nat)
    (disruptive discard : Bool) : State :=
  let st := if st == .ok && 0 < clamps then .okClamped else st
  match c.origin with
  | .queue q index =>
    let s := s.modQueue q (fun w => { w with started := w.started.filter (fun e => e.index != index) })
    if discard then s else
      let cut := reply.take c.replyLen.toNat
      let s := if cut.isEmpty then s else s.writeHost (s.fnOfQueue q) c.replyAddr.toNat cut
      let w := s.queue q
      let h := lapParity w.logN index + 2 * c.len + 65536 * c.tag.toNat
      let s := s.writeHost (s.fnOfQueue q) (w.addr index) (leBytes 4 (doneHdr h 0x84) ++
        cmdDoneBytes st clamps (!cut.isEmpty) (cut.length < reply.length) disruptive detail cut.length)
      let s := s.modQueue q (fun w => { w with cCompleted := w.cCompleted + 1 })
      (s.count (cmdCount 1)).completionNotice q index 0x84 st.code c.tag.toNat none
  | .carried seq =>
    if s.bent.role == .standby || !s.ownsSlots then s else
      { s with clerk := { s.clerk with carriedReplies := s.clerk.carriedReplies ++
        [{ seq := seq, opcode := code, status := st, clamps := clamps, detail := BitVec.ofNat 32 detail }] } }
  | .partner ref => s.sendTb (.reply ref st.code clamps detail (reply.take c.replyLen.toNat))

/-- Complete every FENCE whose earlier commands have all completed, oldest first, R576. -/
def fenceSweep (s : State) : State :=
  s.clerk.waiting.foldl (fun s w =>
    if w.kind != .fence then s else
      let q := Cmd.queueOf w.cmd
      let open_ := s.clerk.taken.any (fun t => Cmd.queueOf t.cmd == q && t.no < w.no)
        || s.clerk.waiting.any (fun v => Cmd.queueOf v.cmd == q && v.no < w.no)
      if open_ then s else
        { s with clerk := { s.clerk with waiting := s.clerk.waiting.filter (fun v => v.no != w.no) } }.finishCmd
          w.cmd w.opcode .ok 0 [] 0 false w.discard) s

/-- The detail word of a completion: as given, or a free value where the spec gives it no meaning (DESIGN
CHOICE, log entry 6). -/
def detailWord (s : State) (d : Option Nat) : Nat × State :=
  match d with
  | some n => (n, s)
  | none => (s.fresh.1.toNat % 2 ^ 32, s.fresh.2)

/-- Complete one waiting command. -/
def finishWaiting (s : State) (w : Waiting) (st : Status) (detail : Option Nat := none) (reply : List Byte := []) :
    State :=
  let r := s.detailWord detail
  let s := r.2
  let detail := r.1
  ({ s with clerk := { s.clerk with waiting := s.clerk.waiting.filter (fun v => v.no != w.no) } }.finishCmd
    w.cmd w.opcode st detail reply w.clamps false w.discard).fenceSweep

/-- Complete every waiting command of a kind. -/
def finishKind (s : State) (p : WaitKind → Bool) (st : Status) (detail : Option Nat := none)
    (reply : List Byte := []) : State :=
  (s.clerk.waiting.filter (fun w => p w.kind)).foldl (fun s w => s.finishWaiting w st detail reply) s

/-- Have the resignation and every queue, daybook and chain channel that MAINT_ENTER stops come to rest? Then MAINT is set
and the command completes (R738). -/
def maintCheck (s : State) : State :=
  let asked := s.clerk.waiting.any (fun w => w.kind == .maint)
  let busy := s.bent.step == .resignFlush || s.queues.any (fun e => !s.isCommandQueue e.1 && e.2.state != .disabled)
    || s.dray.chans.any (fun e => 16 ≤ e.1 % 32 && e.2.state != .disabled)
  if !asked || busy then s
  else { s with flt := { s.flt with maint := true } }.finishKind (fun k => k == WaitKind.maint) .ok

/-- Add a command that has passed its execution point to those that wait, R575. -/
def addWaiting (s : State) (w : Waiting) : State :=
  { s with clerk := { s.clerk with waiting := s.clerk.waiting ++ [w] } }

/-- Send a command to the partner with a number of its own, R581 and R582. -/
def toPartner (s : State) (code : Nat) (c : Cmd) : Nat × State :=
  let r := s.clerk.partnerRef
  (r, ({ s with clerk := { s.clerk with partnerRef := r + 1 } }.count (cmdCount 12)).sendTb
    (.command r code { c with origin := .partner r, partner := false }))

/-- Run a command: it leaves the commands taken, the checks of R578 decide, then it acts, is sent to the partner, or
waits (DEDUCED, log entry 24). -/
def runCmd (code : Nat) (c : Cmd) (s : State) (eff : State → Eff) : State :=
  let t := s.clerk.taken.find? (fun t => t.opcode == code && t.cmd.origin == c.origin)
  let no := (t.map (·.no)).getD s.clerk.takeNo
  let discard := (t.map (·.discard)).getD false
  let s := { s with clerk := { s.clerk with
    taken := s.clerk.taken.filter (fun x => !(x.opcode == code && x.cmd.origin == c.origin))
    takeNo := if t.isSome then s.clerk.takeNo else s.clerk.takeNo + 1 } }
  match s.precheck code c with
  | some (st, d) => (s.count (cmdCount 2)).finishCmd c code st d [] 0 false discard |>.fenceSweep
  | none =>
    if c.partner then
      let r := s.toPartner code c
      r.2.addWaiting { no := no, opcode := code, cmd := c, discard := discard
                       kind := .partner r.1 (s.time.ticks + msTicks 10) }
    else match eff s with
      | .done s st d reply clamps dis =>
        let v := s.detailWord d
        let d := v.1
        let s := v.2.countN (cmdCount 3) clamps
        if c.scope == 1 && (Cmd.queueOf c).isSome then
          let r := s.toPartner code (if code == 0x0100 then { c with bench := BitVec.ofNat 2 d } else c)
          r.2.addWaiting { no := no, opcode := code, cmd := c, clamps := clamps, discard := discard, reply := reply
                           kind := .bent r.1 (if st == .ok && 0 < clamps then .okClamped else st) d clamps }
        else (s.finishCmd c code st d reply clamps dis discard).fenceSweep
      | .wait s k clamps =>
        (s.addWaiting { no := no, opcode := code, cmd := c, clamps := clamps, kind := k, discard := discard }).fenceSweep

end State

/-- Run a command as a step. -/
def runStep (code : Nat) (c : Cmd) (s : State) (eff : State → Eff) : Result := ok (s.runCmd code c eff)

/-! ### Bench commands, R588 to R594 -/

/-- How a value field is checked: a numeric range with a step, signed or not; an enumerated set 0 to max with the
field's reset value; or as its width allows. -/
inductive FieldKind where
  | range (min max : Int) (step : Nat) (signed : Bool)
  | enum (max reset : Nat)
  /-- 0, or a numeric range. -/
  | zeroOr (min max : Nat)
  /-- A port index 0 to 24, or 0xFF; the reset value is 0. -/
  | anyPort
deriving DecidableEq, Repr

/-- A value field of a bench command: a word offset (1, 2, 4 or 8 bytes in the word), lowest bit and width. -/
structure FieldSpec where
  off : Nat
  lo : Nat := 0
  w : Nat
  kind : FieldKind
deriving DecidableEq, Repr

/-- Unsigned range. -/
def urange (off lo w min max : Nat) (step : Nat := 1) : FieldSpec := ⟨off, lo, w, .range min max step false⟩
/-- Signed range. -/
def srange (off lo w : Nat) (min max : Int) : FieldSpec := ⟨off, lo, w, .range min max 1 true⟩
/-- Enumerated set. -/
def fenum (off lo w max reset : Nat) : FieldSpec := ⟨off, lo, w, .enum max reset⟩

/-- One clamp: word offset, lowest bit, width, reason code of R588, value as written and as applied, each as 64 bits;
`image` when the offset counts in an image. -/
structure Clamp where
  off : Nat
  lo : Nat
  w : Nat
  reason : Nat
  requested : Nat
  applied : Nat
  image : Bool := false
deriving DecidableEq, Repr

/-- Clamp one field of a byte string, R588. -/
def clampField (bs : List Byte) (f : FieldSpec) : List Byte × Option Clamp :=
  let n := ceilDiv (f.lo + f.w) 8
  let raw := bits (leAt bs f.off n) f.lo f.w
  let put (v reason : Nat) (wide : Nat → Nat) : List Byte × Option Clamp :=
    (setFieldAt bs f.off n f.lo f.w v, some ⟨f.off, f.lo, f.w, reason, wide raw, wide v, false⟩)
  match f.kind with
  | .enum mx reset => if raw ≤ mx then (bs, none) else put reset 3 id
  | .zeroOr mn mx => if raw = 0 then (bs, none) else if raw < mn then put mn 1 id else if mx < raw then put mx 2 id else (bs, none)
  | .anyPort => if raw ≤ 24 || raw == 0xFF then (bs, none) else put 0 3 id
  | .range mn mx step signed =>
    let v : Int := if signed then toSigned f.w raw else (raw : Int)
    let wide (x : Nat) : Nat := if signed then ofSigned 64 (toSigned f.w x) else x
    if v < mn then put (ofSigned f.w mn) 1 wide
    else if mx < v then put (ofSigned f.w mx) 2 wide
    else if v % step != 0 then put (ofSigned f.w (v - v % step)) 4 wide
    else (bs, none)

/-- Clamp every field, in the order in which they lie. -/
def clampAll : List FieldSpec → List Byte → List Byte × List Clamp
  | [], bs => (bs, [])
  | f :: fs, bs =>
    let a := clampField bs f
    let b := clampAll fs a.1
    (b.1, a.2.toList ++ b.2)

/-- Clamp every entry of an array: n entries of a size from byte offset o. -/
def clampArray (fields : List FieldSpec) (size : Nat) : Nat → Nat → List Byte → List Byte × List Clamp
  | 0, _, bs => (bs, [])
  | n + 1, o, bs =>
    let r := clampAll fields (slice bs o size)
    let t := clampArray fields size n (o + size) (splice bs o r.1)
    (t.1, r.2.map (fun k => { k with off := o + k.off, image := true }) ++ t.2)

/-- One clamp report entry of 32 bytes, R589. -/
def clampBytes (code : Nat) (k : Clamp) : List Byte :=
  leBytes 4 (code + 65536 * flag k.image + 2 ^ 24 * k.reason) ++ leBytes 4 k.off ++ leBytes 4 (k.lo + 256 * k.w)
    ++ zeros 4 ++ leBytes 8 k.requested ++ leBytes 8 k.applied

/-- Bytes of images and arrays a bench holds. -/
def benchBytes (b : Bench) : Nat := b.settings.foldl (fun n x => n + x.image.length) 0

/-- Accept a bench command: its clamped parameters and image go into the bench, and its reply is the clamp report
(R588, R589, R591, R594). -/
def acceptSetting (s : State) (code : Nat) (c : Cmd) (params image : List Byte) (clamps : List Clamp) : Eff :=
  let h := c.bench.toNat
  let b := s.bench h
  if 4096 ≤ b.settings.length || 67108864 < benchBytes b + image.length then Eff.refuse s .noCapacity
  else
    let x : Setting := { opcode := code, params := params, image := image, fn := s.cmdFn c }
    .done (s.setBench h { b with state := .open, settings := b.settings ++ [x], clamps := b.clamps + clamps.length })
      .ok none (clamps.flatMap (clampBytes code)) clamps.length false

/-- A bench command with parameters only. -/
def benchSet (code : Nat) (c : Cmd) (s : State) (fields : List FieldSpec) : Result :=
  runStep code c s (fun s => let r := clampAll fields c.params; acceptSetting s code c r.1 [] r.2)

/-- Read an image or array of n bytes from the issuing function's host memory. -/
def readImage (s : State) (c : Cmd) (a n : Nat) : List Byte := s.readHost (s.cmdFn c) a n

/-- A bench command that reads an array of a clamped COUNT of entries at ADDRESS. -/
def benchArray (code : Nat) (c : Cmd) (s : State) (params : List FieldSpec) (countOff size : Nat) (addrOff : Nat)
    (fields : List FieldSpec) : Result :=
  runStep code c s (fun s =>
    let r := clampAll params c.params
    let n := leAt r.1 countOff 4
    let img := clampArray fields size n 0 (readImage s c (leAt r.1 addrOff 8) (size * n))
    acceptSetting s code c r.1 img.1 (r.2 ++ img.2))

/-! ### General commands, R603 and R604 -/

/-- NOP. -/
def execNop (c : Cmd) (s : State) : Result := runStep 0x0000 c s (fun s => Eff.ok s (some 0))

/-- The bent identity, R607: 0 outside a bent. -/
def State.bentId (s : State) : Nat := if s.bent.role == .solo then 0 else s.bent.bentId.toNat

/-- The 64-byte reply of IDENTIFY. -/
def identifyReply (s : State) (c : Cmd) : List Byte :=
  leBytes 4 (0x9740 + 65536 * s.glb.stepping.toNat + 2 ^ 24 * flag s.glb.metrology + 2 ^ 25 * flag s.glb.industrial)
    ++ leBytes 4 s.glb.fwVer.toNat ++ leBytes 4 s.glb.vendorMcVer.toNat ++ leBytes 4 5
    ++ leBytes 8 s.glb.clockId.toNat ++ leBytes 8 s.bentId
    ++ leBytes 4 (if s.glb.metrology then s.glb.hallmark.toNat else 0)
    ++ leBytes 4 ((if s.glb.metrology then s.glb.hallmarkVer.toNat else 0) + 65536 * flag (s.bent.role != .solo)
      + 131072 * flag (s.bent.role == .active))
    ++ leBytes 4 ((if s.glb.hostSplit then 2 else 1) + 256 * s.cmdFn c) ++ zeros 20

/-- IDENTIFY. -/
def execIdentify (c : Cmd) (s : State) : Result := runStep 0x0001 c s (fun s => Eff.ok s none (identifyReply s c))

/-- FENCE: it waits for every command taken before it from its own queue (R576). -/
def execFence (c : Cmd) (s : State) : Result := runStep 0x0002 c s (fun s => .wait s .fence 0)

/-- ECHO. -/
def execEcho (c : Cmd) (s : State) : Result := runStep 0x0003 c s (fun s => Eff.ok s (some (crc32 c.params)) c.params)

/-! ### Taking commands, R572 -/

/-- The packet of an entry, R565. -/
def packetOf (q : Nat) (f : Fetched) : Nat × Cmd :=
  let b := f.bytes
  (fieldAt b 4 0 16,
    { origin := .queue q f.index, tag := BitVec.ofNat 16 (hdrTag (entryHdr b)), len := hdrLen (entryHdr b)
      scope := BitVec.ofNat 2 (fieldAt b 4 16 2), partner := fieldAt b 4 18 1 == 1, force := fieldAt b 4 19 1 == 1
      bench := BitVec.ofNat 2 (fieldAt b 4 20 2), replyAddr := BitVec.ofNat 64 (leAt b 8 8)
      replyLen := BitVec.ofNat 32 (leAt b 0x10 4), params := slice b 24 (32 * hdrLen (entryHdr b) - 24) })

/-- The bytes of a command packet, R477 and R565: header with LEN, KIND 0x04 and TAG; opcode, SCOPE, PARTNER, FORCE and
BENCH; REPLY_ADDR; REPLY_LEN; the parameter area. PHASE is that of lap 0. -/
def packetBytes (code : Nat) (c : Cmd) : List Byte :=
  leBytes 4 (field c.len 1 4 + field 4 8 8 + field c.tag.toNat 16 16)
    ++ leBytes 4 (field code 0 16 + field c.scope.toNat 16 2 + field (flag c.partner) 18 1 + field (flag c.force) 19 1
      + field c.bench.toNat 20 2)
    ++ leBytes 8 c.replyAddr.toNat ++ leBytes 4 c.replyLen.toNat ++ zeros 4 ++ c.params

/-- The head entry of a command queue, prefetched or read now. -/
def State.cmdHead (s : State) (q : Nat) : Fetched := ((s.queue q).fetched.head?).getD (s.readEntry q (s.queue q).ci false)

/-- A command queue whose head may be taken; a BENCH_PEG holds its queue until its bench is staged (R573). -/
def State.cmdReady (s : State) (q : Nat) : Bool :=
  let w := s.queue q
  let staging := s.clerk.waiting.any (fun v => Cmd.queueOf v.cmd == some q && (match v.kind with
    | .peg b => !(s.bench b).staged
    | .pegStage _ _ _ => true
    | _ => false))
  w.state == .running && w.covered w.ci (s.cmdHead q).units && !staging
    && !s.clerk.taken.any (fun t => Cmd.queueOf t.cmd == some q)

/-- The clerk takes the head command of a queue: CI passes, and the checks of R578 run (R572, R484). -/
def State.takeFrom (s : State) (q : Nat) : State :=
  let f := s.cmdHead q
  let s := s.modQueue q (fun w => { w with fetched := f :: w.fetched.tail })
  if malformedCause (s.queue q) f != 0 then s.headCheck q
  else if hdrKind (entryHdr f.bytes) == 0 then s.passHead q
  else
    let k := packetOf q f
    let r := (s.passHead q).nextStart
    let s := (r.2.modQueue q (fun w => { w with started := w.started ++
      [{ sn := r.1, index := f.index, header := BitVec.ofNat 32 (entryHdr f.bytes), kind := 4 }] })).count (cmdCount 0)
    let no := s.clerk.takeNo
    let s := { s with clerk := { s.clerk with takeNo := no + 1, turn := q } }
    match s.precheck k.1 k.2 with
    | some (st, d) => (s.count (cmdCount 2)).finishCmd k.2 k.1 st d [] 0 false false |>.fenceSweep
    | none => { s with clerk := { s.clerk with taken := s.clerk.taken ++ [{ no := no, opcode := k.1, cmd := k.2 }] } }

/-- COMMAND_TAKE: the clerk takes one command from the next command queue in turn (R572, R575). -/
def execCommandTake (s : State) : Result :=
  ok (if !s.clerk.ready || !s.inRun || 64 ≤ s.clerk.waiting.length then s
    else
      let order := if s.glb.hostSplit then (if s.clerk.turn = 0 then [2048, 0] else [0, 2048]) else [0]
      match order.find? s.cmdReady with
      | none => s
      | some q => s.takeFrom q)

end Machine

end Sys2Proof
end

