-- ==== Sys2Proof/Machine/Island.lean ====
section
/-!
DEFINITION. The Assay island's own rules (chapter "The Assay metrology island"): legal and local time, the event log, the
energy calculation, billing, and the publication area. Times in milliseconds unless a name says otherwise.
-/

namespace Sys2Proof.Machine

/-! ### Calendar -/

/-- Days since 1970-01-01 of a year, month 1 to 12 and day 1 to 31 of the Gregorian calendar. -/
def daysOf (y m d : Nat) : Int :=
  let y := if m ≤ 2 then y - 1 else y
  let mp := (m + 9) % 12
  ((y / 400 * 146097 + (y % 400 * 365 + y % 400 / 4 - y % 400 / 100 + (153 * mp + 2) / 5 + (d - 1)) : Nat) : Int) - 719468

/-- Year, month and day of a number of days since 1970-01-01. -/
def dateOf (days : Int) : Nat × Nat × Nat :=
  let z := (days + 719468).toNat
  let doe := z % 146097
  let yoe := (doe - doe / 1460 + doe / 36524 - doe / 146096) / 365
  let doy := doe - (365 * yoe + yoe / 4 - yoe / 100)
  let mp := (5 * doy + 2) / 153
  let m := if mp < 10 then mp + 3 else mp - 9
  ((yoe + z / 146097 * 400) + (if m ≤ 2 then 1 else 0), m, doy - (153 * mp + 2) / 5 + 1)

/-- The UTC instant of 01:00 on the last Sunday of a month of 31 days. -/
def lastSunday (y m : Nat) : Int :=
  let d := daysOf y m 31
  (d - (d + 4) % 7) * 86400000 + 3600000

/-- Does DST_RULE 1 add an hour at a UTC instant, R675? -/
def summer (utc : Int) : Bool :=
  let y := (dateOf (utc / 86400000)).1
  lastSunday y 3 ≤ utc && utc < lastSunday y 10

namespace Assay

/-- Local legal time of a UTC instant: TZ_OFFSET, and 60 minutes while DST_RULE applies. -/
def localOf (a : Assay) (utc : Int) : Int :=
  utc + a.tzOffset * 60000 + (if a.dstRule = 1 && summer utc then 3600000 else 0)

/-- The UTC instant of 00:00:00 local legal time on a date. -/
def midnight (a : Assay) (y m d : Nat) : Int :=
  let u := daysOf y m d * 86400000 - a.tzOffset * 60000
  if a.dstRule = 1 && summer (u - 3600000) then u - 3600000 else u

/-- The month k months after (or, for negative k, before) a year and month. -/
def monthAt (y m : Nat) (k : Int) : Nat × Nat :=
  let n := (((12 * y + (m - 1) : Nat) : Int) + k).toNat
  (n / 12, n % 12 + 1)

/-- The billing instant of a profile in a month, if its date lies there. -/
def billingIn (a : Assay) (p : AsyProfile) (ym : Nat × Nat) : Option Int :=
  if bits p.billing 5 4 = 0 || bits p.billing 5 4 = ym.2 then some (a.midnight ym.1 ym.2 (bits p.billing 0 5)) else none

/-- The first billing instant after a UTC instant. -/
def nextBilling (a : Assay) (p : AsyProfile) (utc : Int) : Option Int :=
  let d := dateOf (a.localOf utc / 86400000)
  (upto 0 26).findSome? (fun k => (a.billingIn p (monthAt d.1 d.2.1 k)).filter (fun u => utc < u))

/-- The last billing instant at or before a UTC instant. -/
def lastBilling (a : Assay) (p : AsyProfile) (utc : Int) : Option Int :=
  let d := dateOf (a.localOf utc / 86400000)
  (upto 0 26).findSome? (fun k => (a.billingIn p (monthAt d.1 d.2.1 (-(k : Int)))).filter (fun u => u ≤ utc))

/-! ### Collections -/

def prof (a : Assay) (n : Nat) : AsyProfile := Tab.get {} a.profiles n
def point (a : Assay) (n : Nat) : AsyPoint := Tab.get {} a.points n
def setPoint (a : Assay) (n : Nat) (p : AsyPoint) : Assay := { a with points := Tab.set {} a.points n p }
def countAt (a : Assay) (k n : Nat) : Assay :=
  { a with counts := Tab.set 0 a.counts k ((Tab.get 0 a.counts k + n) % 2 ^ 64) }

/-- Write a register record: UPD rises by one (R680). -/
def writeRegs (p : AsyPoint) (r : AsyRegs) : AsyPoint := { p with regs := { r with upd := p.regs.upd + 1 } }

/-! ### The hallmark, R693 -/

def hallmarkOf (image : List Byte) : BitVec 32 := BitVec.ofNat 32 (beAt (Config.sha256 image) 0 4)
def versionOf (image : List Byte) : BitVec 16 := BitVec.ofNat 16 (Config.islandVersion image)
/-- OLD and NEW of the kinds that name a hallmark. -/
def hallmark64 (image : List Byte) : BitVec 64 :=
  BitVec.ofNat 64 ((hallmarkOf image).toNat + 2 ^ 32 * (versionOf image).toNat)
/-- The key check value of R691, 0 where there is no key (DEDUCED, log entry 37). -/
def keyCheck (key : List Byte) : BitVec 64 :=
  if key.isEmpty then 0 else BitVec.ofNat 64 (beAt (Config.aesBlock key (zeros 16)) 0 3)

/-! ### The log, R691 and R692 -/

/-- Kinds that raise the audit counter. -/
def audited (k : Nat) : Bool := k == 1 || k == 4 || k == 5 || k == 7 || k == 8 || k == 9
/-- LOG_FULL: all 16,384 entries are used. -/
def logFull (a : Assay) : Bool := 16384 ≤ a.log.length
/-- A record that would log is refused: LOG_COUNT has reached 16,320. -/
def logClosed (a : Assay) : Bool := 16320 ≤ a.log.length

/-- Make an entry: in the log; once it is full, a seal change in the journal, and any other event in LOG_LOST
(DEDUCED, log entry 34). -/
def logEntry (a : Assay) (now : Nat) (kind : Nat) (old new : BitVec 64) (source : Nat := 0) (param : Nat := 0)
    (target : Nat := 0) : Assay :=
  let e : AsyLog := { seq := a.logSeq, utc := now / 1000 % 2 ^ 32, ms := now % 1000, sealOpen := a.sealOpen
                      source := source, param := param, target := target, kind := kind, old := old, new := new }
  if !a.logFull then
    { a with log := a.log ++ [e], logSeq := a.logSeq + 1, audit := if audited kind then a.audit + 1 else a.audit }
  else if (kind == 2 || kind == 3) && a.journal.length < 1024 then
    { a with journal := a.journal ++ [e], logSeq := a.logSeq + 1 }
  else a.countAt 8 1

/-- An entry's 32 bytes. -/
def logBytes (e : AsyLog) : List Byte :=
  leBytes 4 e.seq ++ leBytes 4 e.utc ++
    leBytes 4 (e.ms % 1024 + 1024 * flag e.sealOpen + 2048 * (e.source % 4) + 65536 * (e.param % 65536)) ++
    leBytes 4 (e.target % 2 ^ 17 + 2 ^ 24 * (e.kind % 256)) ++ leBytes 8 e.old.toNat ++ leBytes 8 e.new.toNat

/-! ### Billing and power periods, R679 and R682 -/

/-- Snapshot every point of a profile at a billing instant: MAXP becomes 0 and PERIOD rises. A point that no record has
ever set up has none (log entry 46). -/
def snapshot (a : Assay) (n : Nat) (at_ : Int) : Assay :=
  let one (a : Assay) (k : Nat) (p : AsyPoint) : Assay :=
    if p.profile != n then a else
      let x : AsySnap := { utc := (at_ / 1000).toNat % 2 ^ 32, audit := a.audit, digest := hallmarkOf a.image
                           ver := versionOf a.image, regs := p.regs }
      let q := writeRegs p { p.regs with maxp := 0, period := p.regs.period + 1 }
      { a.setPoint k q with snaps := Tab.set [] a.snaps k ((x :: Tab.get [] a.snaps k).take 16) }
  let a := a.points.foldl (fun a e => one a e.1 e.2) a
  { a with billed := Tab.set 0 a.billed n at_.toNat }

/-- Close the power period of every point whose MAXP_MIN divides a local minute. -/
def closePeriods (a : Assay) (minute : Nat) : Assay :=
  let one (p : AsyPoint) : AsyPoint :=
    let m := (a.prof p.profile).maxpMin
    if m = 0 ∨ minute % m ≠ 0 then p else
      let w := p.periodWh * 60 / m
      let q := { p with periodWh := 0 }
      if p.regs.maxp.toNat < w then writeRegs q { q.regs with maxp := BitVec.ofNat 32 w } else q
  { a with points := Tab.mapAll {} (fun _ p => one p) a.points }

/-- Local minutes of a UTC instant. -/
def minuteOf (a : Assay) (utc : Nat) : Nat := (a.localOf utc / 60000).toNat

/-- Legal time moves from one instant to another: forward across a billing instant not yet taken it takes the snapshot
(R682), and forward across a close of power periods it closes them (DEDUCED, log entry 47). -/
def crossed (a : Assay) (old new : Nat) : Assay :=
  if new ≤ old then { a with closedMin := a.minuteOf new, stepAt := new } else
    let a := (upto 0 256).foldl (fun (a : Assay) n =>
      if !(a.points.any (fun e => e.2.profile == n)) then a else
        match a.lastBilling (a.prof n) new with
        | some u => if (old : Int) < u && ((Tab.get 0 a.billed n : Nat) : Int) < u then a.snapshot n u else a
        | none => a) a
    let o := a.minuteOf old
    let m := a.minuteOf new
    let passed (p : AsyPoint) : Bool := let k := (a.prof p.profile).maxpMin; k != 0 && o / k < m / k
    let pts := a.points
    let due := pts.filter (fun e => passed e.2)
    let a := due.foldl (fun (a : Assay) e =>
      let k := (a.prof e.2.profile).maxpMin
      let c := ({ a with points := [(e.1, a.point e.1)] } : Assay).closePeriods (m / k * k)
      a.setPoint e.1 (c.point e.1)) a
    { a with closedMin := m, stepAt := new }

/-! ### The energy calculation, R672 to R678 -/

/-- D of R677. -/
def energyDiv : Nat := 58982400000000

/-- The tariff of a time-of-day table at a local quarter-hour, 1 to 4; 0 when no entry is used (R676). -/
def tableTariff (table quarter : Nat) : Nat :=
  let es := (upto 0 7).filterMap (fun k => let e := bits table (9 * k) 9
                                            if bits e 0 7 = 0x7F then none else some (bits e 0 7, bits e 7 2 + 1))
  let best (l : List (Nat × Nat)) : Nat := (l.foldl (fun (b : Option (Nat × Nat)) e =>
    match b with | none => some e | some x => if x.1 ≤ e.1 then some e else b) none).elim 0 (·.2)
  let before := es.filter (fun e => e.1 ≤ quarter)
  if before.isEmpty then best es else best before

/-- The tariff register in force for a telegram, 0 for none (DEDUCED, log entry 37). -/
def tariff (a : Assay) (p : AsyProfile) (now : Nat) (tf dt : Int) : Nat :=
  let t :=
    match p.tariffMode with
    | 0 => 0
    | 1 => if a.ltValid then tableTariff p.tariffTable ((a.localOf now / 900000 % 96).toNat) else 1
    | 2 => if (p.tariffThresh : Int) < dt then 2 else 1
    | _ => if (p.tariffThresh : Int) < tf then 2 else 1
  if t = 4 && p.mode = 3 then 0 else t

/-- Procedure add of R677, into ENERGY or into T4. -/
def addEnergy (a : Assay) (pf : AsyProfile) (p : AsyPoint) (r : AsyRegs) (now : Nat) (cooling toT4 : Bool)
    (dvMl : Nat) (hot cold vol tf : Int) : AsyPoint × AsyRegs :=
  let raw := dvMl * Config.rho10 vol pf.pressure * (Config.h4 hot pf.pressure - Config.h4 cold pf.pressure).toNat
  let res := (if cooling then p.resC else p.resH) + raw
  let n := res / energyDiv
  let p := if cooling then { p with resC := res % energyDiv } else { p with resH := res % energyDiv }
  let w := BitVec.ofNat 64 n
  if toT4 then (p, { r with t4 := r.t4 + w }) else
    let r := { r with energy := r.energy + w }
    let r := match a.tariff pf now tf (hot - cold) with
      | 1 => { r with t1 := r.t1 + w }
      | 2 => { r with t2 := r.t2 + w }
      | 3 => { r with t3 := r.t3 + w }
      | 4 => { r with t4 := r.t4 + w }
      | _ => r
    ({ p with periodWh := p.periodWh + n }, r)

/-- Procedure integrate of R677 on a sample block, at legal time now. -/
def integrate (a : Assay) (p : AsyPoint) (blk : List Byte) (nowMs : Nat) : AsyPoint :=
  let pf := a.prof p.profile
  let now := nowMs / 1000
  let v := BitVec.ofNat 32 (leAt blk 0 4)
  let tf := toSigned 32 (leAt blk 4 4)
  let tr := toSigned 32 (leAt blk 8 4)
  if p.first then { p with volPrev := v, lastRx := now, first := false, diag := { p.diag with gapLast := false } } else
    let dt := now - p.lastRx
    let gap := decide (pf.gapLimit < dt) || p.diag.restored
    let dv := (v - p.volPrev).toNat
    let p := { p with lastRx := now, volPrev := v
                      diag := { p.diag with gapLast := gap, gaps := if gap then satAdd 32 p.diag.gaps 1 else p.diag.gaps } }
    let inError (p : AsyPoint) (r : AsyRegs) : AsyPoint :=
      writeRegs { p with diag := { p.diag with errorNow := true } } { r with errorTime := r.errorTime + BitVec.ofNat 32 dt }
    if 2 ^ 31 ≤ dv then inError p p.regs else
      let dvMl := dv * pf.volUnit
      let r := { p.regs with volume := p.regs.volume + BitVec.ofNat 64 dvMl }
      let outside (t : Int) : Bool := t < (pf.tmin : Int) || (pf.tmax : Int) < t
      if bits (leAt blk 0x10 2) 0 3 != 0 || outside tf || outside tr || pf.dtMax < (tf - tr).natAbs then inError p r else
        let p := { p with diag := { p.diag with errorNow := false } }
        let vol := if pf.position = 0 then tf else tr
        let x :=
          if (pf.mode = 1 || pf.mode = 3) && (pf.dtMin : Int) ≤ tf - tr then
            a.addEnergy pf p r nowMs false false dvMl tf tr vol tf
          else if (pf.mode = 2 || pf.mode = 3) && (pf.dtMin : Int) ≤ tr - tf then
            a.addEnergy pf p r nowMs true (pf.mode == 3) dvMl tr tf vol tf
          else (p, r)
        writeRegs x.1 x.2

/-- The check of R673 that a telegram fails: its reason, or the decrypted data and the message counter. -/
def checkTelegram (p : AsyPoint) (t : List Byte) : Nat ⊕ (List Byte × Nat) :=
  if !p.enabled then .inl 1 else
    match Config.telegramHeader t with
    | none => .inl 2
    | some (mode, id, ctr) =>
      if mode != 7 then .inl 2
      else if id != p.sensorId then .inl 3
      else if !Config.telegramMac p.key t then .inl 4
      else if p.msgCtr.any (fun c => ctr ≤ c) then .inl 5
      else
        let d := Config.telegramData p.key t
        if d.length < 18 then .inl 2 else .inr (d, ctr)

/-- One telegram: refused and counted, or integrated. -/
def telegram (a : Assay) (n : Nat) (t : List Byte) (nowMs : Nat) : Assay :=
  let p := a.point n
  match checkTelegram p t with
  | .inl k => (a.setPoint n { p with diag := { p.diag with refused := satAdd 32 p.diag.refused 1, lastReason := k } }).countAt k 1
  | .inr (d, ctr) =>
    let q := a.integrate p d nowMs
    let g := { q.diag with
      accepted := satAdd 32 q.diag.accepted 1, restored := false, lastRx := BitVec.ofNat 32 (nowMs / 1000)
      msgCtr := BitVec.ofNat 32 ctr, lastTf := BitVec.ofNat 32 (leAt d 4 4), lastTr := BitVec.ofNat 32 (leAt d 8 4) }
    (a.setPoint n { q with msgCtr := some ctr, diag := g }).countAt 0 1

/-! ### Parameters, R675 and R676 -/

/-- The value of a parameter, or none for an unknown PARAM code. -/
def param (a : Assay) (code target : Nat) : Option Nat :=
  let p := a.prof target
  let q := a.point target
  match code with
  | 0x001 => some a.utcTai
  | 0x002 => some (ofSigned 64 a.tzOffset)
  | 0x003 => some a.dstRule
  | 0x004 => some a.ltStepMax
  | 0x005 => some a.ckptS
  | 0x101 => some p.mode
  | 0x102 => some p.position
  | 0x103 => some p.pressure
  | 0x104 => some p.tmin
  | 0x105 => some p.tmax
  | 0x106 => some p.dtMin
  | 0x107 => some p.dtMax
  | 0x108 => some p.volUnit
  | 0x109 => some p.tariffMode
  | 0x10A => some p.tariffThresh
  | 0x10B => some p.tariffTable
  | 0x10C => some p.billing
  | 0x10D => some p.maxpMin
  | 0x10E => some p.gapLimit
  | 0x201 => some q.profile
  | 0x202 => some q.sensorId.toNat
  | 0x203 => some (flag q.enabled)
  | _ => none

/-- Is a value within a parameter's own range? -/
def paramRange (code v : Nat) : Bool :=
  let s := toSigned 64 v
  match code with
  | 0x001 => v ≤ 255
  | 0x002 => decide (-720 ≤ s ∧ s ≤ 840 ∧ s % 15 = 0)
  | 0x003 => v ≤ 1
  | 0x004 => 1 ≤ v && v ≤ 3600
  | 0x005 => 60 ≤ v && v ≤ 3600
  | 0x101 => v ≤ 3
  | 0x102 => v ≤ 1
  | 0x103 => 100 ≤ v && v ≤ 4000
  | 0x104 => v ≤ 230000
  | 0x105 => v ≤ 230000
  | 0x106 => 10 ≤ v && v ≤ 3000
  | 0x107 => 1000 ≤ v && v ≤ 230000
  | 0x108 => v == 1 || v == 10 || v == 100 || v == 1000
  | 0x109 => v ≤ 3
  | 0x10A => v ≤ 230000
  | 0x10B => v < 2 ^ 63 && (upto 0 7).all (fun k => bits v (9 * k) 7 ≤ 95 || bits v (9 * k) 7 == 0x7F)
  | 0x10C => v < 2 ^ 9 && 1 ≤ bits v 0 5 && bits v 0 5 ≤ 28 && bits v 5 4 ≤ 12
  | 0x10D => [1, 2, 3, 4, 5, 6, 10, 12, 15, 20, 30, 60].contains v
  | 0x10E => 2 ≤ v && v ≤ 3600
  | 0x201 => v ≤ 255
  | 0x203 => v ≤ 1
  | _ => true

/-- A profile with one field changed. -/
def setProf (p : AsyProfile) (code v : Nat) : AsyProfile :=
  match code with
  | 0x101 => { p with mode := v }
  | 0x102 => { p with position := v }
  | 0x103 => { p with pressure := v }
  | 0x104 => { p with tmin := v }
  | 0x105 => { p with tmax := v }
  | 0x106 => { p with dtMin := v }
  | 0x107 => { p with dtMax := v }
  | 0x108 => { p with volUnit := v }
  | 0x109 => { p with tariffMode := v }
  | 0x10A => { p with tariffThresh := v }
  | 0x10B => { p with tariffTable := v }
  | 0x10C => { p with billing := v }
  | 0x10D => { p with maxpMin := v }
  | _ => { p with gapLimit := v }

/-- The relations of R676 on a profile. -/
def profOk (p : AsyProfile) : Bool :=
  p.tmin < p.tmax && p.dtMin < p.dtMax && decide ((p.tmax : Int) ≤ Config.saturation p.pressure - 5000)

/-- Set a parameter whose value is in range. -/
def setParam (a : Assay) (code target v nowMs : Nat) : Assay :=
  let q := a.point target
  match code / 256 with
  | 0 =>
    match code with
    | 0x001 => { a with utcTai := v }
    | 0x002 => { a with tzOffset := toSigned 64 v }
    | 0x003 => { a with dstRule := v }
    | 0x004 => { a with ltStepMax := v }
    | _ => { a with ckptS := v }
  | 1 =>
    let a := { a with profiles := Tab.set {} a.profiles target (setProf (a.prof target) code v) }
    if code = 0x10C then { a with billed := Tab.set 0 a.billed target (max nowMs (Tab.get 0 a.billed target)) } else a
  | _ =>
    a.setPoint target (match code with
      | 0x201 => { q with profile := v }
      | 0x202 => { q with sensorId := BitVec.ofNat 64 v }
      | _ => { q with enabled := v == 1, first := if v = 1 && !q.enabled then true else q.first })

/-! ### The publication area, R664, R680, R681, R688 -/

def regsBytes (r : AsyRegs) : List Byte :=
  leBytes 8 r.energy.toNat ++ leBytes 8 r.volume.toNat ++ leBytes 8 r.t1.toNat ++ leBytes 8 r.t2.toNat ++
    leBytes 8 r.t3.toNat ++ leBytes 8 r.t4.toNat ++ leBytes 4 r.maxp.toNat ++ leBytes 4 r.errorTime.toNat ++
    leBytes 4 r.period.toNat ++ leBytes 4 r.upd.toNat

def diagBytes (d : AsyDiag) : List Byte :=
  leBytes 4 d.accepted ++ leBytes 4 d.refused ++
    leBytes 4 (d.lastReason + 256 * flag d.errorNow + 512 * flag d.gapLast + 1024 * flag d.restored) ++
    leBytes 4 d.lastRx.toNat ++ leBytes 4 d.msgCtr.toNat ++ leBytes 4 d.lastTf.toNat ++ leBytes 4 d.lastTr.toNat ++
    leBytes 4 d.gaps

/-- LAST_D, saturating to 32 signed bits. -/
def lastD32 (d : Int) : Nat := ofSigned 32 (max (-(2 ^ 31 : Int)) (min (2 ^ 31 - 1) d))

/-- The status page from 0x000 to 0x0FF. -/
def statusPage (a : Assay) : List Byte :=
  leBytes 4 (hallmarkOf a.image).toNat ++
  leBytes 4 ((versionOf a.image).toNat + 2 ^ 16 * flag (!a.sealOpen) + 2 ^ 17 * flag a.ltValid + 2 ^ 18 * flag a.ltImplausible
    + 2 ^ 19 * flag a.logFull + 2 ^ 20 * flag a.pendingImage.isSome) ++
  leBytes 4 a.audit.toNat ++ leBytes 4 a.lastInseq.toNat ++ leBytes 4 (a.pageMs / 1000) ++ leBytes 4 (a.pageMs % 1000) ++
  leBytes 4 (lastD32 a.lastD) ++ leBytes 4 a.log.length ++ leBytes 4 a.logRolls ++ leBytes 4 a.resultHead ++
  leBytes 4 a.journal.length ++ zeros 20 ++
  (upto 0 10).flatMap (fun k => leBytes 8 (Tab.get 0 a.counts k)) ++ zeros 112

/-- A 64-byte block of the publication area, by its island address; zeros while the island does not run. -/
def pubBlock (a : Assay) (addr : Nat) : List Byte :=
  if !a.running then zeros 64
  else if addr < 0xB41000 then slice a.statusPage (addr - 0xB40000) 64
  else if addr < 0xB45000 then (upto ((addr - 0xB41000) / 16) 4).flatMap (fun i => slice (Tab.get [] a.results i) 0 16)
  else if addr < 0xB65000 then slice (Tab.get [] a.readout ((addr - 0xB45000) / 128)) ((addr - 0xB45000) % 128) 64
  else if addr < 0xB80000 then zeros 64
  else if addr < 0xC00000 then (upto ((addr - 0xB80000) / 32) 2).flatMap (fun i =>
    match a.log.find? (fun e => e.seq % 16384 == i) with | some e => logBytes e | none => zeros 32)
  else if addr < 0x1400000 then slice (regsBytes (a.point ((addr - 0xC00000) / 64)).regs) 0 64
  else (upto ((addr - 0x1400000) / 32) 2).flatMap (fun i => diagBytes (a.point i).diag)

/-- Is an island address in the publication area? -/
def published (addr : Nat) : Bool := 0xB40000 ≤ addr && addr < 0x1800000

/-- n blocks of the publication area. -/
def pubBlocks (a : Assay) : Nat → Nat → List Byte
  | _, 0 => []
  | addr, n + 1 => a.pubBlock addr ++ a.pubBlocks (addr + 64) n

/-- Bytes that a record takes in the input FIFO: its header, and its payload padded to 8 bytes. -/
def recBytes (r : AsyRec) : Nat := 32 + ceilDiv r.payload.length 8 * 8

/-- Room in the input FIFO of 1 MiB. -/
def room (a : Assay) (r : AsyRec) : Bool := (a.fifo.foldl (fun n x => n + recBytes x) 0) + recBytes r ≤ 1048576

end Assay

/-! ### Legal time, R683 to R685 -/

namespace State

/-- Legal time in nanoseconds. -/
def legalNs (s : State) : Nat :=
  s.assay.ltBase + ((s.time.ticks - s.assay.ltTick) * 128 * (1000000000 + s.assay.ltTrim).toNat) / 100000000000

/-- Legal time in milliseconds since 1970. -/
def legal (s : State) : Nat := s.legalNs / 1000000

/-- Let time pass until legal time reaches a value. -/
def advanceLegal (s : State) (ms : Nat) : State :=
  s.advanceTo (s.assay.ltTick + ceilDiv ((ms * 1000000 - s.assay.ltBase) * 100000000000)
    (128 * (1000000000 + s.assay.ltTrim).toNat))

def setAssay (s : State) (a : Assay) : State := { s with assay := a }

/-- Legal time becomes a value, with what it crosses. -/
def setLegal (s : State) (ms : Nat) : State :=
  let old := s.legal
  s.setAssay ({ s.assay with ltBase := ms * 1000000, ltTick := s.time.ticks, ltValid := true, ltImplausible := false }.crossed
    old ms)

/-- The island runs and may write its NOR (R840) (DEDUCED, log entry 35). -/
def islandWrites (s : State) : Bool := s.assay.running && !s.assay.pfail

/-- A VALID sample that differs from legal time by d acts, R684 (DESIGN CHOICE, log entry 33). -/
def sampleActs (s : State) (sample : Int) (d : Int) : State :=
  let a := s.assay
  let agree := a.samples.length == 60 && decide
    ((a.samples.foldl max (a.samples.headD 0)) - (a.samples.foldl min (a.samples.headD 0)) ≤ 10)
  let steps := agree && s.islandWrites && !a.logFull
  let big := (a.ltStepMax : Int) * 1000
  let now := s.legal
  if !a.ltValid then
    if steps && (a.ckptMs : Int) ≤ sample then
      (s.setAssay (a.logEntry now 5 (BitVec.ofNat 64 now) (BitVec.ofInt 64 sample) 1)).setLegal sample.toNat
    else s
  else if d.natAbs ≤ 1000 then
    let r := s.fresh
    let t := r.1.toNat % 50001
    r.2.setAssay { a with
      ltBase := s.legalNs, ltTick := s.time.ticks
      ltTrim := if 0 < d then (t : Int) else if d < 0 then -(t : Int) else 0 }
  else if (d.natAbs : Int) ≤ big then
    if steps && a.samples.all (fun x => decide (0 < x) == decide (0 < d) && x != 0) then
      (s.setAssay (a.logEntry now 4 (BitVec.ofNat 64 now) (BitVec.ofInt 64 sample) 1)).setLegal sample.toNat
    else s
  else
    let a := { a with ltImplausible := true }
    if !s.islandWrites || a.implausibleAt.any (fun t => s.time.ticks < t + secTicks 86400) then s.setAssay a
    else s.setAssay ({ a with implausibleAt := some s.time.ticks }.logEntry now 6 (BitVec.ofNat 64 now)
      (BitVec.ofInt 64 sample) 1)

end State

end Sys2Proof.Machine
end

