-- ==== Sys2Proof/Machine/Release.lean ====
section
/-!
DEFINITION. Releasing frames: cells of the frame hold (R20), and the requests that a port sends its partner when
received frames take up too many of them (R307).
-/

namespace Sys2Proof.Machine

namespace State

/-! ### MACsec on transmit: which channel protects a frame, R294 -/

def macsecOn (s : State) (p : Nat) : Bool := s.regBits (prtBase p + 0x3C) 8 1 == 1
def secChan (s : State) (p k : Nat) : SecChan := Tab.get {} (s.port p).sec k

/-- The channel that protects a frame, or 0xFF for none, R294. -/
def txChan (s : State) (p sc : Nat) : Nat :=
  if !s.macsecOn p then 0xFF
  else
    let k := if sc = 0xFF then s.regBits (prtBase p + 0x3C) 16 8 else sc
    if k != 0xFF && (s.secChan p k).defined && (s.secChan p k).tx then k else 0xFF

/-! ### Flow control -/

/-- FC_MODE, RX_HONOUR, TX_GEN and PAUSE_QUANTA of PRT_FC_CFG. -/
def fcMode (s : State) (p : Nat) : Nat := s.regBits (prtBase p + 0xC) 0 2
def rxHonour (s : State) (p : Nat) : Bool := s.regBits (prtBase p + 0xC) 2 1 == 1
def txGen (s : State) (p : Nat) : Bool := s.regBits (prtBase p + 0xC) 3 1 == 1
def pauseQuanta (s : State) (p : Nat) : Nat := s.regBits (prtBase p + 0xC) 16 16

/-- Cells held by frames received on a port, of one priority or (key 8) of all, R307. -/
def rxHeld (s : State) (p key : Nat) : Nat :=
  s.frames.foldl (fun n e => match e.2 with
    | some f => if Frame.inHold f && f.origin == .rx p && (key == 8 || f.prio == key) then n + cellsOf f.size else n
    | none => n) 0

/-- Queue a MAC control frame on a port, R308. -/
def addCtrl (s : State) (p : Nat) (c : Ctrl) : State := s.modPort p (fun t => { t with ctrl := t.ctrl ++ [c] })

/-- Send a PAUSE or PFC request. -/
def sendPause (s : State) (p key quanta : Nat) : State :=
  s.addCtrl p (if key = 8 then .pause quanta else .pfc key quanta)

/-- One count of a port against XOFF and XON. -/
def pauseKey (s : State) (p key : Nat) : State :=
  let n := s.rxHeld p key
  match Tab.get none (s.port p).xoffAt key with
  | none =>
    if s.reg (prtBase p + 0x18) ≤ n then
      (s.modPort p (fun t => { t with xoffAt := Tab.set none t.xoffAt key (some s.time.ticks) })).sendPause p key
        (s.pauseQuanta p)
    else s
  | some _ =>
    if n ≤ s.reg (prtBase p + 0x1C) then
      (s.modPort p (fun t => { t with xoffAt := Tab.set none t.xoffAt key none })).sendPause p key 0
    else s

/-- The counts of a port after one of them changed, R307. -/
def pauseCheck (s : State) (p : Nat) : State :=
  if !s.txGen p then s
  else if s.fcMode p = 1 then s.pauseKey p 8
  else if s.fcMode p = 2 then (upto 0 8).foldl (fun s k => s.pauseKey p k) s
  else s

/-- A frame leaves the frame hold. -/
def freeFrame (s : State) (id : Nat) : State :=
  match s.frame id with
  | none => s
  | some f =>
    let s := s.setFrame id none
    match f.origin with
    | .rx p => s.pauseCheck p
    | _ => s

/-- Has every destination released the frame, R20? -/
def Frame.released (f : Frame) : Bool := f.egress.isEmpty && f.wq.isNone && !f.window && f.slot.isNone

/-- Free a steered frame that no destination holds any more. -/
def freeIfDone (s : State) (id : Nat) : State :=
  match s.frame id with
  | some f => if f.stage == .steered && Frame.released f then s.freeFrame id else s
  | none => s

/-- One egress port releases a frame. -/
def releaseEgress (s : State) (id p : Nat) : State :=
  (s.modFrame id (fun f => { f with egress := f.egress.filter (· != p) })).freeIfDone id

def releaseWq (s : State) (id : Nat) : State := (s.modFrame id (fun f => { f with wq := none })).freeIfDone id
def releaseWindow (s : State) (id : Nat) : State := (s.modFrame id (fun f => { f with window := false })).freeIfDone id
def releaseSlot (s : State) (id : Nat) : State := (s.modFrame id (fun f => { f with slot := none })).freeIfDone id

/-- A copy of a host frame has left or been refused; a frame from elsewhere has no completion. -/
def copyOf (s : State) (f : Frame) (p status : Nat) : State :=
  match f.origin with
  | .tx q sn => s.copyDone q sn p status
  | _ => s

end State

end Sys2Proof.Machine
end

