-- ==== Sys2Proof/Machine/Assay.lean ====
section
/-!
DEFINITION. The counter window and what happens at the Assay island (chapter "The Assay metrology island"): telegrams and
records, the island's own events, the read port, the ASY registers and the 0x0Cxx commands.
-/

namespace Sys2Proof.Machine

/-- A counter of the ASY block. -/
def asyCount (k : Nat) : Nat := asyBase + 0x100 + 8 * k

/-- Status of a command by the island's RESULT, R699. -/
def assayStatus (r : Nat) : Status :=
  match r with
  | 0 => .ok
  | 1 => .sealed
  | 3 => .noCapacity
  | 7 => .notActive
  | 8 => .notActive
  | _ => .inconsistent

namespace State

/-! ### The window -/

/-- Is the post half of the window on an -M part powered and clocked (R661)? -/
def windowOn (s : State) : Bool := s.glb.metrology && s.awake

/-- Records of the clerk cross the input port while the island has room, oldest first (DEDUCED, log entry 34). -/
def crossSender (s : State) : State :=
  s.assay.sender.foldl (fun (s : State) r =>
    let a := s.assay
    if a.running && a.room r && (a.sender.head?).any (fun h => h.inseq == r.inseq) then
      (s.setAssay { a with sender := a.sender.tail, fifo := a.fifo ++ [r] }).count (asyCount 2)
    else s) s

/-- The clerk sends a record: it takes the next INSEQ and crosses as soon as READY allows (R666, R668). -/
def sendRecord (s : State) (typ : Nat) (payload : List Byte) : BitVec 32 × State :=
  let n := s.assay.nextInseq
  let r : AsyRec := { typ := typ, inseq := n, payload := payload }
  (n, (s.setAssay { s.assay with nextInseq := n + 1, sender := s.assay.sender ++ [r] }).crossSender)

/-- Read n blocks of 64 bytes from an island address through the read port: each counts in READS, and one outside the
publication area reads zero and counts in READS_DENIED (R663). -/
def readPort (s : State) : Nat → Nat → List Byte × State
  | _, 0 => ([], s)
  | addr, n + 1 =>
    let b := if Assay.published addr then s.assay.pubBlock addr else zeros 64
    let s := s.count (asyCount 3)
    let s := if Assay.published addr then s else s.count (asyCount 4)
    let r := s.readPort (addr + 64) n
    (b ++ r.1, r.2)

/-! ### Results, R696 and R699 -/

/-- The next chunk of an image being sent, R694. -/
def fwChunk (s : State) (c : Cmd) (off : Nat) : List Byte :=
  let total := c.n 8 4
  leBytes 4 off ++ leBytes 4 total ++ s.readHost (s.cmdFn c) (c.n 0 8 + off) (min 4096 (total - off))

/-- The result of a record reaches the command that waits for it. -/
def answerRecord (s : State) (inseq : BitVec 32) (result detail : Nat) : State :=
  match s.clerk.waiting.find? (fun (w : Waiting) => match w.kind with
      | .assay i _ => i == inseq | .assayFw i _ _ => i == inseq | _ => false) with
  | none => s
  | some w =>
    match w.kind with
    | .assayFw _ by_ off =>
      if result = 0 && off + 4096 < w.cmd.n 8 4 then
        let r := s.sendRecord 0x12 (s.fwChunk w.cmd (off + 4096))
        { r.2 with clerk := { r.2.clerk with waiting := r.2.clerk.waiting.map (fun (v : Waiting) =>
          if v.no = w.no then { v with kind := .assayFw r.1 by_ (off + 4096) } else v) } }
      else s.finishWaiting w (assayStatus result) (some result)
    | _ =>
      if w.opcode = 0x0C04 && result = 0 then
        let r := s.readPort (0xB45000 + 128 * detail) 2
        r.2.finishWaiting w .ok (some result) r.1
      else s.finishWaiting w (assayStatus result) (some result)

/-- The island finishes a record of the clerk: it writes the result and raises RESULT_HEAD (R696). A DETAIL that the
spec does not state is a free value. -/
def giveResult (s : State) (r : AsyRec) (result : Nat) (detail : Option Nat) : State :=
  let v := s.detailWord detail
  let s := v.2
  let a := s.assay
  let bytes := leBytes 4 r.inseq.toNat ++ leBytes 4 (result + 256 * r.typ) ++ leBytes 4 v.1 ++ zeros 4
  let a := { a with results := Tab.set [] a.results (a.resultHead % 1024) bytes, resultHead := (a.resultHead + 1) % 2 ^ 32
                    lastInseq := r.inseq }
  let a := if result = 0 then a else a.countAt 6 1
  (s.setAssay a).answerRecord r.inseq result v.1

/-- The record at the head of the input FIFO, if the island may process it and it has a type (R669, R840). -/
def headRecord (s : State) (typ : Nat) : Option AsyRec :=
  if s.islandWrites then (s.assay.fifo.head?).filter (fun r => r.typ == typ) else none

/-- Process the head record of a type: the effect answers the island, the RESULT and its DETAIL. -/
def processRecord (s : State) (typ : Nat) (f : State → AsyRec → State × Nat × Option Nat) : State :=
  match s.headRecord typ with
  | none => s
  | some r =>
    let s := s.setAssay { s.assay with fifo := s.assay.fifo.tail }
    let x := f s r
    (x.1.giveResult r x.2.1 x.2.2).crossSender

/-- Refuse a record. -/
def refuseRecord (s : State) (result : Nat) : State × Nat × Option Nat := (s, result, none)

/-- Accept a record whose change is logged first: DETAIL is the SEQ of the entry. -/
def acceptLogged (s : State) (kind : Nat) (old new : BitVec 64) (source param target : Nat) (f : State → State) :
    State × Nat × Option Nat :=
  let seq := s.assay.logSeq
  (f (s.setAssay (s.assay.logEntry s.legal kind old new source param target)), 0, some seq)

/-! ### Registers -/

/-- The ASY word at an offset; the block reads zero on -N parts (DEDUCED, log entry 36). -/
def asyWord (s : State) (o : Nat) : Nat :=
  if !s.glb.metrology then 0
  else if o = 0 then
    1 + 2 * flag s.assay.alive + 4 * flag (s.assay.alive && !s.assay.sealOpen)
      + 8 * flag (s.assay.running && s.assay.room { typ := 1, inseq := 0, payload := [] })
  else if o = 4 then s.joinery.windowQueue.length
  else if o = 8 then s.assay.nextInseq.toNat
  else if o = 0xC then s.assay.resultHead
  else if 0x100 ≤ o ∧ o < 0x130 then (s.counter (asyBase + o / 8 * 8)).toNat / 2 ^ (32 * (o / 4 % 2)) % 2 ^ 32
  else 0

end State

/-- WINDOW_HANDOFF: the telegram at the head of the window queue crosses the input port, and its cells are released
(R666, R667, R670, R20). -/
def execWindowHandoff (s : State) : Result :=
  ok (match s.joinery.windowQueue with
    | [] => s
    | e :: rest =>
      let n := s.assay.nextInseq
      let r : AsyRec := { typ := 1, flag := e.rxFlag.code, inseq := n, point := e.point, path := e.path, account := e.account
                          seq := e.seq, time := toStamp e.rxTime, payload := e.telegram }
      if !s.windowOn || !s.assay.running || !s.assay.alive || !s.assay.sender.isEmpty || !s.assay.room r then s
      else
        let s := s.setAssay { s.assay with nextInseq := n + 1, fifo := s.assay.fifo ++ [r] }
        let s := { s with joinery := { s.joinery with windowQueue := rest } }.count (asyCount 0)
        (s.modFrame e.frame (fun f => { f with wq := none })).releaseWindow e.frame)

/-- TELEGRAM_RECORD: the island checks the telegram at the head of its FIFO, and integrates or refuses it (R673, R677). -/
def execTelegramRecord (s : State) : Result :=
  ok (match s.headRecord 1 with
    | none => s
    | some r =>
      (s.setAssay ({ s.assay with fifo := s.assay.fifo.tail, lastInseq := r.inseq }.telegram r.point r.payload
        s.legal)).crossSender)

/-- PARAM_RECORD, R675, R676, R687, R692 (DEDUCED, log entry 32). -/
def execParamRecord (s : State) : Result :=
  ok (s.processRecord 0x10 (fun s r =>
    let code := leAt r.payload 0 2
    let target := fieldAt r.payload 4 0 17
    let v := leAt r.payload 8 8
    let a := s.assay
    match a.param code target with
    | none => s.refuseRecord 6
    | some old =>
      if r.payload.length != 16 then s.refuseRecord 6
      else if code != 5 && !a.sealOpen then s.refuseRecord 1
      else if !Assay.paramRange code v || (code / 256 == 1 && (255 < target || !Assay.profOk (Assay.setProf (a.prof target) code v)))
        then s.refuseRecord 2
      else if a.logClosed then s.refuseRecord 3
      else s.acceptLogged 1 (BitVec.ofNat 64 old) (BitVec.ofNat 64 v) 0 code (if code / 256 = 0 then 0 else target)
        (fun s => s.setAssay (s.assay.setParam code target v s.legal))))

/-- KEY_RECORD, R695 (DEDUCED, log entry 32). -/
def execKeyRecord (s : State) : Result :=
  ok (s.processRecord 0x11 (fun s r =>
    let kind := fieldAt r.payload 0 0 2
    let n := fieldAt r.payload 4 0 17
    let a := s.assay
    if r.payload.length != 48 then s.refuseRecord 6
    else if 2 ≤ kind then s.refuseRecord 2
    else if kind = 1 then
      let key := slice r.payload 8 16
      if !a.sealOpen then s.refuseRecord 1
      else if a.logClosed then s.refuseRecord 3
      else s.acceptLogged 8 (Assay.keyCheck a.loadKey) (Assay.keyCheck key) 0 0 0
        (fun s => s.setAssay { s.assay with loadKey := key })
    else
      let key := Config.aesUnwrap a.loadKey (slice r.payload 8 24)
      if key.isEmpty then s.refuseRecord 4
      else if a.logClosed then s.refuseRecord 3
      else s.acceptLogged 8 (Assay.keyCheck (a.point n).key) (Assay.keyCheck key) 0 0 n
        (fun s => s.setAssay (s.assay.setPoint n { s.assay.point n with key := key, first := true, msgCtr := none }))))

/-- FW_CHUNK_RECORD: a chunk goes into the slot that does not run; the finished image is verified (R694)
(DEDUCED, log entry 32). -/
def execFwChunkRecord (s : State) : Result :=
  ok (s.processRecord 0x12 (fun s r =>
    let off := leAt r.payload 0 4
    let total := leAt r.payload 4 4
    let data := r.payload.drop 8
    let a := s.assay
    if r.payload.length < 8 || 4104 < r.payload.length then s.refuseRecord 6
    else if !a.sealOpen then s.refuseRecord 1
    else if total < off + data.length then s.refuseRecord 2
    else
      let had := match a.load with | some l => if off = 0 || l.total != total then [] else l.data | none => []
      let all := splice (had ++ zeros (off - had.length)) off data
      if off + data.length < total then (s.setAssay { a with load := some { total := total, data := all } }, 0, none)
      else
        let s := s.setAssay { a with load := none }
        if !Config.islandSigned all then s.refuseRecord 5
        else if Config.islandVersion all < a.minVersion then s.refuseRecord 9
        else (s.setAssay { s.assay with pendingImage := some all }, 0, none)))

/-- SNAPSHOT_FETCH_RECORD, R700. -/
def execSnapshotFetchRecord (s : State) : Result :=
  ok (s.processRecord 0x13 (fun s r =>
    let n := fieldAt r.payload 0 0 17
    let i := fieldAt r.payload 0 24 4
    let a := s.assay
    if r.payload.length != 4 then s.refuseRecord 6
    else
      match (Tab.get [] a.snaps n)[i]? with
      | none => s.refuseRecord 8
      | some x =>
        let slot := a.resultHead % 1024
        let bytes := leBytes 4 r.inseq.toNat ++ leBytes 4 (n + 2 ^ 24 * i) ++ leBytes 4 x.utc ++ leBytes 4 x.audit.toNat
          ++ leBytes 4 x.digest.toNat ++ leBytes 4 x.ver.toNat ++ zeros 40 ++ Assay.regsBytes x.regs
        (s.setAssay { a with readout := Tab.set [] a.readout slot bytes }, 0, some slot)))

/-- LEGAL_TIME_SET_RECORD, R685 (DEDUCED, log entry 32). -/
def execLegalTimeSetRecord (s : State) : Result :=
  ok (s.processRecord 0x14 (fun s r =>
    let ms := fieldAt r.payload 4 0 10
    let new := leAt r.payload 0 4 * 1000 + ms
    if r.payload.length != 8 then s.refuseRecord 6
    else if !s.assay.sealOpen then s.refuseRecord 1
    else if 999 < ms then s.refuseRecord 2
    else if s.assay.logClosed then s.refuseRecord 3
    else s.acceptLogged 5 (BitVec.ofNat 64 s.legal) (BitVec.ofNat 64 new) 2 0 0 (fun s => s.setLegal new)))

/-- LOG_ROLL_RECORD, R692: the log goes to an archive; the seal journal's entries head the new one, and LOG_ROLL follows. -/
def execLogRollRecord (s : State) : Result :=
  ok (s.processRecord 0x15 (fun s r =>
    let a := s.assay
    if r.payload.length != 0 then s.refuseRecord 6
    else if !a.sealOpen then s.refuseRecord 1
    else
      let digest := beAt (Config.sha256 (a.log.flatMap Assay.logBytes)) 0 4
      let rolled := a.log.length
      let s := s.setAssay { a with archives := (a.log :: a.archives).take 16, log := a.journal, journal := []
                                   logRolls := (a.logRolls + 1) % 2 ^ 32 }
      s.acceptLogged 9 (BitVec.ofNat 64 rolled) (BitVec.ofNat 64 digest) 0 0 0 id))

/-! ### The island's own events -/

/-- TIME_SAMPLE: at the next span-time second boundary the window sends a sample, unless the flag is INVALID, and the
island acts on it (R683, R684). -/
def execTimeSample (s : State) : Result :=
  ok (if !s.glb.metrology || s.timeOff then s else
    let sec := 1000000000 * 65536
    let s := s.advanceToU ((s.nowU / sec + 1) * sec)
    if s.time.flag == .invalid then s else
      let s := s.count (asyCount 1)
      if !s.assay.running || s.time.flag != .valid then s else
        let sample : Int := (s.nowU / 65536 / 1000000 : Nat) - (s.assay.utcTai : Int) * 1000
        let d := sample - (s.legal : Int)
        let a := { s.assay with samples := (d :: s.assay.samples).take 60, lastD := d }
        let a := if d.natAbs ≤ 1000 then { a with ltImplausible := false } else a
        (s.setAssay a).sampleActs sample d)

/-- POWER_PERIOD_CLOSE: local legal time reaches the next minute at which a point closes its power period (R679). -/
def execPowerPeriodClose (s : State) : Result :=
  ok (let a := s.assay
    if !a.running || !a.ltValid then s else
      match (upto (a.closedMin + 1) 60).find? (fun m => a.points.any (fun e =>
          let k := (a.prof e.2.profile).maxpMin; k != 0 && m % k == 0)) with
      | none => s
      | some m =>
        let off := (a.localOf s.legal - s.legal)
        let s := s.advanceLegal ((m : Int) * 60000 - off).toNat
        s.setAssay ({ s.assay with closedMin := m }.closePeriods m))

/-- BILLING_SNAPSHOT: legal time reaches the next billing instant of a profile (R682). -/
def execBillingSnapshot (profile : Nat) (s : State) : Result :=
  ok (let a := s.assay
    if !s.islandWrites || !a.ltValid || 256 ≤ profile then s else
      match a.nextBilling (a.prof profile) ((max a.stepAt (Tab.get 0 a.billed profile) : Nat) : Int) with
      | none => s
      | some u =>
        let s := s.advanceLegal u.toNat
        s.setAssay (s.assay.snapshot profile u))

/-- CHECKPOINT_ROTATION: every point's private record stands in the NOR (R689). -/
def execCheckpointRotation (s : State) : Result :=
  ok (if s.islandWrites then s.setAssay ({ s.assay with ckptPoints := s.assay.points, ckptMs := s.legal }.countAt 7 1) else s)

/-- SEAL_CHANGE: ASY_SEAL_N has stood at its new level for 50 ms (R686). -/
def execSealChange (open_ : Bool) (s : State) : Result :=
  ok (if !s.islandWrites || s.assay.sealOpen == open_ then s
    else s.setAssay (({ s.assay with sealOpen := open_ }.countAt 9 1).logEntry s.legal (if open_ then 2 else 3) 0 0))

/-- STATUS_PAGE_REWRITE: the page shows legal time now (R688). -/
def execStatusPageRewrite (s : State) : Result :=
  ok (if s.assay.running then s.setAssay { s.assay with pageMs := s.legal } else s)

/-- ISLAND_BOOT: the island starts its pending image if it passes the self-test, restores every point, and logs POWER_UP
with legal time not valid; legal time at boot is a free value (R690, R693, R694) (DESIGN CHOICE, log entry
33; DEDUCED, log entry 35) (DEDUCED, log entry 98). -/
def execIslandBoot (selfTest : Bool) (s : State) : Result :=
  ok (if !s.glb.metrology || s.assay.running || s.assay.pfail then s else
    let r := s.fresh
    let s := r.2
    let boot := r.1.toNat % (2 ^ 32 * 1000)
    let a := s.assay
    let old := a.image
    let a := { a with
      running := true, alive := s.awake || a.alive, ltValid := false, ltImplausible := false
      ltBase := boot * 1000000, ltTick := s.time.ticks, ltTrim := 0, stepAt := boot, pageMs := boot
      points := Tab.mapAll {} (fun _ (p : AsyPoint) => { p with diag := {
        restored := true, lastRx := BitVec.ofNat 32 p.lastRx, msgCtr := BitVec.ofNat 32 (p.msgCtr.getD 0) } }) a.ckptPoints }
    let a :=
      match a.pendingImage with
      | none => a
      | some img =>
        if selfTest then
          { a with image := img, pendingImage := none }.logEntry boot 7 (Assay.hallmark64 old) (Assay.hallmark64 img)
        else { a with pendingImage := none }.logEntry boot 0xB (Assay.hallmark64 img) (Assay.hallmark64 old)
    (s.setAssay (a.logEntry boot 0xA (BitVec.ofNat 64 a.ckptMs) (BitVec.ofNat 64 boot))).crossSender)

/-- PD152 loses power: island memory is lost; the NOR keeps the checkpoint, the log, the snapshots and the
images (DEDUCED, log entry 35). -/
def State.islandLost (s : State) : State :=
  s.setAssay { s.assay with
    running := false, load := none, points := [], fifo := [], lastInseq := 0, samples := [], lastD := 0, implausibleAt := none
    results := [], readout := [], resultHead := 0, ltValid := false, ltImplausible := false
    counts := s.assay.counts.filter (fun e => e.1 == 9) }

/-- ISLAND_POWER_LOSS: VDD_ASY or VDDIO_ASY is lost (R690). -/
def execIslandPowerLoss (s : State) : Result := ok s.islandLost

/-- ASY_RST_N_ASSERT: ASY_RST_N low for 10 µs acts as a power loss of PD152 (R844). -/
def execAsyRstNAssert (s : State) : Result := ok s.islandLost

/-- ASY_PFAIL: ASY_PFAIL_N falls (R840). -/
def execAsyPfail (s : State) : Result := ok (s.setAssay { s.assay with pfail := true })

/-- ASY_PFAIL_RELEASE: ASY_PFAIL_N rises (R840). -/
def execAsyPfailRelease (s : State) : Result := ok (s.setAssay { s.assay with pfail := false })

/-- ALIVE_LOST: the toggle has not changed for 250 ms while the island stands still (R697). -/
def execAliveLost (s : State) : Result :=
  ok (if s.assay.alive && !s.assay.running then
      ((s.setAssay { s.assay with alive := false }).count (asyCount 5)).raise 0x038 0x2C 1
    else s)

/-- HALLMARK_MIRROR_READ: the post reads the status page and mirrors the hallmark (R822). -/
def execHallmarkMirrorRead (s : State) : Result :=
  ok (if !s.windowOn || !s.assay.alive || !s.assay.running then s else
    let r := s.readPort 0xB40000 1
    { r.2 with glb := { r.2.glb with
      hallmark := BitVec.ofNat 32 (leAt r.1 0 4), hallmarkVer := BitVec.ofNat 16 (leAt r.1 4 2), hallmarkValid := true } })

/-- READ_PORT_ACCESS: n blocks of 64 bytes are read from an island address (R663, R665). -/
def execReadPortAccess (addr n : Nat) (s : State) : Result :=
  ok (if !s.windowOn then s else
    let r := s.readPort (addr % 2 ^ 26 / 64 * 64) n
    { r.2 with readData := r.1, readBad := false })

/-! ### The commands -/

/-- A command that sends one record and waits for its result for 1 s. -/
def State.sendAndWait (s : State) (typ : Nat) (payload : List Byte) : Eff :=
  let r := s.sendRecord typ payload
  .wait r.2 (.assay r.1 (s.time.ticks + secTicks 1)) 0

/-- ASY_STATUS, R688. -/
def execAsyStatus (c : Cmd) (s : State) : Result :=
  runStep 0x0C00 c s (fun s => let r := s.readPort 0xB40000 4; Eff.ok r.2 none r.1)

/-- ASY_PARAM. -/
def execAsyParam (c : Cmd) (s : State) : Result :=
  runStep 0x0C01 c s (fun s => s.sendAndWait 0x10 (slice c.params 0 16))

/-- ASY_KEY. -/
def execAsyKey (c : Cmd) (s : State) : Result :=
  runStep 0x0C02 c s (fun s => s.sendAndWait 0x11 (slice c.params 0 48))

/-- ASY_FIRMWARE: the image crosses chunk by chunk, each after the result of the one before (R699). -/
def execAsyFirmware (c : Cmd) (s : State) : Result :=
  runStep 0x0C03 c s (fun s =>
    if c.n 8 4 < 4096 || 8388608 < c.n 8 4 then Eff.refuse s .inconsistent
    else
      let r := s.sendRecord 0x12 (s.fwChunk c 0)
      .wait r.2 (.assayFw r.1 (s.time.ticks + secTicks 600) 0) 0)

/-- ASY_SNAPSHOT, R700. -/
def execAsySnapshot (c : Cmd) (s : State) : Result :=
  runStep 0x0C04 c s (fun s => s.sendAndWait 0x13 (slice c.params 0 4))

/-- ASY_LEGAL_TIME. -/
def execAsyLegalTime (c : Cmd) (s : State) : Result :=
  runStep 0x0C05 c s (fun s => s.sendAndWait 0x14 (slice c.params 0 8))

/-- ASY_LOG_ROLL. -/
def execAsyLogRoll (c : Cmd) (s : State) : Result :=
  runStep 0x0C06 c s (fun s => s.sendAndWait 0x15 [])

/-- ASY_READ, R701: the bytes of a range go to the named buffer and into the reply (DEDUCED, log entry 36). -/
def execAsyRead (c : Cmd) (s : State) : Result :=
  runStep 0x0C07 c s (fun s =>
    let a := c.n 0 4
    let n := c.n 4 4
    if a % 64 != 0 || n % 64 != 0 || n < 64 || 1048576 < n || a < 0xB40000 || 0x1800000 < a + n then
      Eff.refuse s .inconsistent
    else
      let r := s.readPort a (n / 64)
      Eff.ok (r.2.writeHost (s.cmdFn c) (c.n 8 8) r.1) none r.1)

/-- The deadline of a command that waits for the island. -/
def WaitKind.assayBy (k : WaitKind) : Option Nat :=
  match k with
  | .assay _ t => some t
  | .assayFw _ t _ => some t
  | _ => none

/-- ASY_RESULT_TIMEOUT: a command has waited its time for a result, the earliest deadline first (R699). -/
def execAsyResultTimeout (s : State) : Result :=
  ok (match s.clerk.waiting.foldl (fun (b : Option (Nat × Waiting)) w =>
      match WaitKind.assayBy w.kind, b with
      | some t, some x => if t < x.1 then some (t, w) else b
      | some t, none => some (t, w)
      | none, _ => b) none with
    | none => s
    | some x => (s.advanceTo x.1).finishWaiting x.2 .timeout)

end Sys2Proof.Machine
end

