-- ==== Sys2Proof/Machine/MemMap.lean ====
section
/-!
DEFINITION. The layout of bulk memory (R797), its plain bytes and its poisoned bursts (R800).
-/

namespace Sys2Proof.Machine

abbrev GiB : Nat := 2 ^ 30
abbrev MiB : Nat := 2 ^ 20

/-- The ledger and retention regions of R797, below the spill store. -/
abbrev strTableBase : Nat := 0
abbrev rcvyBase : Nat := 0x40000000
abbrev pathBase : Nat := 0x50000000
abbrev ledgerWq : Nat := 0x70000000
abbrev ledgerSettings : Nat := 0x74000000
abbrev retentionBase : Nat := 0x75000000
abbrev reservedBase : Nat := 0x79000000
abbrev journalBase : Nat := 0x80000000
abbrev accountBase : Nat := 0xC0000000
abbrev spillBase : Nat := 0x2C0000000

namespace State

/-- Total capacity C: eight channels of the population (R795). -/
def memCap (s : State) : Nat := 8 * s.mem.gibPerChannel * GiB
def poolBase (s : State) : Nat := spillBase + s.memCap / 16
def swBase (s : State) : Nat := s.poolBase + s.memCap / 32
/-- End of the software region: the end of bulk memory. -/
def swEnd (s : State) : Nat := s.memCap

/-- Does a range of n bytes at an offset lie in the software region, with no byte outside it? -/
def inSoftware (s : State) (a n : Nat) : Bool := n == 0 || (s.swBase ≤ a && a + n ≤ s.swEnd)

def readBulk (s : State) (a n : Nat) : List Byte := readBytes s.bulk a n

/-- A burst of 64 bytes written whole loses its poison (R800). -/
def writeBulk (s : State) (a : Nat) (bs : List Byte) : State :=
  let wholeBurst (p : Nat) : Bool := a ≤ p && p + 64 ≤ a + bs.length
  { s with bulk := writeBytes s.bulk a bs
           mem := { s.mem with poisoned := s.mem.poisoned.filter (fun p => !wholeBurst p) } }

end State

end Sys2Proof.Machine
end

