-- ==== Sys2Proof/Machine/Dray.lean ====
section
/-!
DEFINITION. The dray engines (chapter 12): chains of descriptors, pacing, sharing an engine, the FETCH channels, and
the 0x0Axx commands. Channel c of engine e has the number 32 * e + c.
-/

namespace Sys2Proof.Machine

/-! ### Names and registers -/

/-- Registers of a channel by its number. -/
def chanReg (k : Nat) : Nat := dryChan (k / 32) (k % 32)
/-- Source identifier of a channel, and of its engine, R705. -/
def chanSource (k : Nat) : Nat := 0x500 + 0x40 * (k / 32) + k % 32
def engineSource (k : Nat) : Nat := 0x520 + 0x40 * (k / 32)
def isChain (k : Nat) : Bool := 16 ≤ k % 32
/-- DST_WRITE and the other codes of R549. -/
abbrev codeSrcRead : Nat := 1
abbrev codeDstWrite : Nat := 2
abbrev codeLength : Nat := 3
abbrev codeSpace : Nat := 4
abbrev codeListRead : Nat := 5
abbrev codeListFormat : Nat := 6
abbrev codePermission : Nat := 7
abbrev codeFenceRead : Nat := 8
abbrev codeAborted : Nat := 9

namespace State

/-- The physical function that owns a chain channel, R534. -/
def fnOfChan (s : State) (k : Nat) : Nat := if s.glb.hostSplit && 24 ≤ k % 32 then 1 else 0

/-- The function that owns a channel for doorbells, R790, numbered as for queues: a virtual function while one of the bytes of its
HST_VF_C names the channel, else the physical function. -/
def requesterOfChan (s : State) (k : Nat) : Nat :=
  let f := s.fnOfChan k
  match (s.hostFn f).vfHeld.find? (fun n => (upto 0 4).any (fun i =>
      let b := bits (s.vfWord f n 8) (8 * i) 8
      bit b 7 && 32 * bits b 5 2 + bits b 0 5 == k)) with
  | some n => 2 + 64 * f + n
  | none => f

def chanPrio (s : State) (k : Nat) : Nat := s.regBits (chanReg k + 4) 0 2
def chanHi (s : State) (k : Nat) : Nat := s.regBits (chanReg k + 8) 0 25
def chanLo (s : State) (k : Nat) : Nat := s.regBits (chanReg k + 0xC) 0 25
def chanFlush (s : State) (k : Nat) : Nat := s.reg (chanReg k + 0x10)
def winBase (s : State) (k : Nat) : Nat := s.reg64 (chanReg k + 0x30)
def winLimit (s : State) (k : Nat) : Nat := s.reg64 (chanReg k + 0x38)

/-! ### Source queues, R555 -/

/-- The RX queues that a DELIVERY channel serves, R533. -/
def rxQueuesOf (s : State) (k : Nat) : List Nat :=
  (s.queues.filter (fun p => p.2.kind == .rx && deliveryChan p.1 == k && !s.isCommandQueue p.1)).map (·.1)

/-- Frames at the head of an RX queue's wait that have a startable RX_BUF entry: one for each prefetched buffer. -/
def rxSourced (s : State) (q : Nat) : List Nat :=
  let w := s.queue q
  w.rxWait.take (w.fetched.filter (fun f => hdrKind (entryHdr f.bytes) == 2)).length

/-- The source queue of a frame channel as bytes and waiting-since ticks: FETCH from its own list, DELIVERY from its RX
queues. -/
def sourceOf (s : State) (k : Nat) : List (Nat × Nat) :=
  if k % 32 < 8 then (s.chan k).source.map (fun i => (i.bytes, i.since))
  else (s.rxQueuesOf k).flatMap (fun q => (s.rxSourced q).filterMap (fun id =>
    (s.frame id).map (fun f => (f.bytes.length, f.since))))

/-- FILL of a channel, R555. -/
def chanFill (s : State) (k : Nat) : Nat := (s.sourceOf k).foldl (fun n p => n + p.1) 0

/-! ### Sharing the engine, R558 and R559 -/

/-- Has a channel a descriptor or a frame in progress, and so a beat ready? -/
def beatReady (s : State) (k : Nat) : Bool :=
  let c := s.chan k
  if isChain k then (match c.desc with | some d => !d.fence && !d.pairs.isEmpty | none => false)
  else c.moving && s.chanFill k != 0

def engineOwner (s : State) (e : Nat) : Nat := (Tab.get {} s.dray.engines e).owner
def setOwner (s : State) (e c : Nat) : State :=
  { s with dray := { s.dray with engines := Tab.set {} s.dray.engines e { owner := c } } }

/-- A channel asks for the engine: it takes it from a channel of lower priority, which counts PREEMPTED, or from one
that has nothing in progress. -/
def takeEngine (s : State) (k : Nat) : State :=
  let e := k / 32
  let o := 32 * e + s.engineOwner e
  if o != k && s.beatReady o then
    if s.chanPrio o < s.chanPrio k then (s.count (chanReg o + 0xA8)).setOwner e (k % 32) else s
  else s.setOwner e (k % 32)

/-- The channels of one engine in ascending number after c, wrapping from 31 to 0. -/
def afterChan (c : Nat) : List Nat := (upto 1 32).map (fun i => (c + i) % 32)

/-- A channel's descriptor or frame ends after n beats: the engine passes to the next ready channel of the highest
priority. -/
def endBeats (s : State) (k n : Nat) : State :=
  let e := k / 32
  let s := (s.countN (dryBase e + 0x100) n).setOwner e (k % 32)
  let ready := (afterChan (k % 32)).filter (fun c => s.beatReady (32 * e + c))
  let top := ready.foldl (fun m c => max m (s.chanPrio (32 * e + c))) 0
  match ready.find? (fun c => s.chanPrio (32 * e + c) == top) with
  | some c => s.setOwner e c
  | none => s

end State

/-- Beats of a write of n bytes at an address: one for each 64-byte block that it touches, R535. -/
def beatsOf (a n : Nat) : Nat := if n = 0 then 0 else (a + n - 1) / 64 - a / 64 + 1

/-! ### Descriptors, R539 to R544 -/

/-- One pair from its address and length word, R540. -/
def pairOf (addr word : Nat) : DescPair :=
  { addr := addr, len := bits word 0 24, dst := bit word 24, space := bits word 25 2 }

/-- The inline pairs of a descriptor, those of length 0 left out. -/
def inlinePairs (b : List Byte) : List DescPair :=
  [pairOf (leAt b 0x10 8) (leAt b 0x18 4), pairOf (leAt b 0x1C 8) (leAt b 0x24 4),
    pairOf (leAt b 0x28 8) (leAt b 0x30 4)].filter (fun p => p.len != 0)

/-- The pairs of a list of n entries, and whether LAST stands on the last one alone. -/
def listPairs (b : List Byte) (n : Nat) : List DescPair := (upto 0 n).map (fun i => pairOf (leAt b (16 * i) 8) (leAt b (16 * i + 8) 4))
def lastOk (b : List Byte) (n : Nat) : Bool :=
  (upto 0 n).all (fun i => i + 1 == n || !bit (leAt b (16 * i + 8) 4) 31)

def descEoc (b : List Byte) : Bool := fieldAt b 8 0 1 == 1
def descIrq (b : List Byte) : Bool := fieldAt b 8 1 1 == 1
def descFence (b : List Byte) : Bool := fieldAt b 8 2 1 == 1
def descList (b : List Byte) : Bool := fieldAt b 8 3 1 == 1
def descNext (b : List Byte) : Nat := leAt b 0 8

def srcBytes (ps : List DescPair) : Nat := (ps.filter (fun p => !p.dst)).foldl (fun n p => n + p.len) 0
def dstBytes (ps : List DescPair) : Nat := (ps.filter (fun p => p.dst)).foldl (fun n p => n + p.len) 0

namespace State

/-- Does a pair lie where its channel may reach, R541 and R543? -/
def pairAllowed (s : State) (k : Nat) (p : DescPair) : Bool :=
  if p.space = 1 then p.len == 0 || (s.winBase k ≤ p.addr && p.addr + p.len ≤ s.winLimit k)
  else p.addr + p.len ≤ 2 ^ 64

/-- The checks of R543 in their order: the code of the first that fails, or 0, and the pairs. -/
def descCheck (s : State) (k : Nat) (b : List Byte) (listBad : Bool) : Nat × List DescPair :=
  let n := fieldAt b 0x18 0 16
  let a := leAt b 0x10 8
  let shape := !descList b || (1 ≤ n && n ≤ 256 && a % 16 == 0)
  let l := if descList b && shape then s.readHost (s.fnOfChan k) a (16 * n) else []
  let ps := if !descList b then inlinePairs b else if shape && !listBad then listPairs l n else []
  (if ps.any (fun p => 2 ≤ p.space) then codeSpace
    else if ps.any (fun p => !s.pairAllowed k p) then codePermission
    else if !shape || (descList b && !listBad && !lastOk l n) then codeListFormat
    else if descList b && listBad then codeListRead
    else if srcBytes ps != dstBytes ps then codeLength
    else 0, ps)

/-- Bytes of the source pairs, in order. -/
def gather (s : State) (fn : Nat) : List DescPair → List Byte
  | [] => []
  | p :: ps =>
    (if p.dst then [] else if p.space = 1 then s.readBulk p.addr p.len else s.readHost fn p.addr p.len) ++ gather s fn ps

/-- Write bytes to the destination pairs, in order, as far as the bytes go. -/
def scatter (fn : Nat) : List DescPair → List Byte → State → State
  | [], _, s => s
  | p :: ps, bs, s =>
    if !p.dst then scatter fn ps bs s else
      let x := bs.take p.len
      scatter fn ps (bs.drop p.len) (if x.isEmpty then s else if p.space = 1 then s.writeBulk p.addr x
        else s.writeHost fn p.addr x)

end State

/-- Beats of the first n destination bytes. -/
def beatsUpto : List DescPair → Nat → Nat
  | [], _ => 0
  | p :: ps, n => if p.dst then beatsOf p.addr (min n p.len) + beatsUpto ps (n - p.len) else beatsUpto ps n

/-- The greatest beat boundary of the destination that n bytes reach. -/
def beatCut : List DescPair → Nat → Nat
  | [], _ => 0
  | p :: ps, n =>
    if !p.dst then beatCut ps n
    else if p.len ≤ n then p.len + beatCut ps (n - p.len)
    else (max p.addr ((p.addr + n) / 64 * 64)) - p.addr

/-- What was written since the previous fence: space and last address of each. -/
def noteWritten : List DescPair → Nat → List (Nat × Nat) → List (Nat × Nat)
  | [], _, l => l
  | p :: ps, n, l =>
    if p.dst && p.len != 0 && n != 0 then
      noteWritten ps (n - p.len) ((p.space, p.addr + min n p.len - 1) :: l.filter (fun x => x.1 != p.space))
    else noteWritten ps n l

namespace State

/-! ### Running a chain, R545 to R547 -/

/-- Fetch the descriptor at CUR; issuing the fetch clears DB_PENDING. -/
def issueFetch (s : State) (k : Nat) (again : Bool) : State :=
  let c := s.chan k
  s.setChan k { c with dbPending := false, fetching := some again }

/-- A channel enters ERROR with a code, R545. -/
def chainError (s : State) (k code : Nat) : State :=
  let c := s.chan k
  (s.setChan k { c with state := .error, errCode := code, fetching := none, desc := none }).raise
    (chanSource k) 0x29 1 c.cur.toNat 1 (chanSource k)

/-- Follow NEXT of the copy read, R545. -/
def followNext (s : State) (k : Nat) (b : List Byte) : State :=
  let c := s.chan k
  let s := s.setChan k { c with cur := BitVec.ofNat 64 (descNext b) }
  if descNext b % 64 != 0 then s.chainError k 0x11 else s.issueFetch k false

/-- A descriptor finished: the channel follows NEXT, fetches again, parks, or stays STOPPING. -/
def descEnd (s : State) (k : Nat) (b : List Byte) : State :=
  let s := s.count (chanReg k + 0x80)
  let c := s.chan k
  let s := s.setChan k { c with desc := none }
  match c.state with
  | .running =>
    if !descEoc b then s.followNext k b
    else if c.dbPending then s.issueFetch k true
    else (s.setChan k { c with desc := none, state := .parked }).count (chanReg k + 0xB0)
  | .stopping => s.setChan k { c with desc := none, stopCount := c.stopCount + 1 }
  | _ => s

/-- Write a descriptor's STATUS and send its message, R546. -/
def descStatus (s : State) (k : Nat) (d : Desc) (v : Nat) : State :=
  let s := s.writeHost (s.fnOfChan k) (d.addr + 0xC) (leBytes 4 v)
  if descIrq d.copy then s.sendMsix (s.fnOfChan k) (s.regBits (chanReg k + 4) 4 11) else s

/-- Write the first n destination bytes of a descriptor and count them. -/
def descMove (s : State) (k : Nat) (d : Desc) (n : Nat) : State :=
  let fn := s.fnOfChan k
  let s := scatter fn d.pairs ((s.gather fn d.pairs).take n) s
  let c := s.chan k
  let touched := d.pairs.any (fun p => p.dst && p.space == 1)
  (s.setChan k { c with written := noteWritten d.pairs n c.written
                        lateSeen := c.lateSeen.filter (fun a => a != d.addr)
                        bulkDone := if touched && n != 0 then d.addr :: c.bulkDone.filter (· != d.addr)
                          else c.bulkDone.filter (· != d.addr) }).countN (chanReg k + 0x88) n

/-- A descriptor ends BAD with a code after n destination bytes, R549 and R550. -/
def descBad (s : State) (k : Nat) (d : Desc) (code n addr access : Nat) : State :=
  let s := (s.descMove k d n).descStatus k d (2 + 256 * code)
  let s := (s.count (chanReg k + 0x90)).count (dryBase (k / 32) + 0x108)
  let s := s.raise (chanSource k) 0x28 1 addr access (chanSource k)
  (s.descEnd k d.copy).endBeats k (beatsUpto d.pairs n)

/-- A read of the descriptor at CUR returned, or failed, R542 to R547; `listBad` when the read of its list failed. -/
def descFetched (s : State) (k : Nat) (bad listBad : Bool) : State :=
  let c := s.chan k
  match c.state, c.fetching with
  | .running, some again =>
    if bad then s.chainError k 0x10 else
      let b := s.readHost (s.fnOfChan k) c.cur.toNat 64
      let s := s.setChan k { c with fetching := none }
      if again then (if descEoc b then s.descEnd k b else s.followNext k b)
      else if descFence b then
        s.setChan k { c with fetching := none, desc := some { addr := c.cur.toNat, copy := b, fence := true } }
      else
        let r := s.descCheck k b listBad
        let d : Desc := { addr := c.cur.toNat, copy := b, pairs := r.2 }
        let s := s.setChan k { c with fetching := none, desc := some d }
        if r.1 != 0 then s.descBad k { d with pairs := [] } r.1 0 c.cur.toNat 1
        else if dstBytes r.2 = 0 then (s.descStatus k d 1).descEnd k b
        else s.takeEngine k
  | _, _ => s

/-- The descriptor in progress of a channel has written its last byte, R545. -/
def descFinished (s : State) (k : Nat) : State :=
  match (s.chan k).desc with
  | none => s
  | some d =>
    if d.fence then s else
      let s := s.takeEngine k
      (((s.descMove k d (dstBytes d.pairs)).descStatus k d 1).descEnd k d.copy).endBeats k
        (beatsUpto d.pairs (dstBytes d.pairs))

/-- The read-backs of a fence have returned, one of them failing when `bad`, R551 and R553. -/
def descFenceDone (s : State) (k : Nat) (bad : Bool) (addr : Nat) : State :=
  let c := s.chan k
  match c.desc with
  | none => s
  | some d =>
    if !d.fence then s else
      let late := min c.lateSince 65535
      let s := s.setChan k { c with written := [], lateSince := 0, lateSeen := [], bulkDone := [] }
      if bad && !c.written.isEmpty then
        let s := s.setChan k { c with lateSince := c.lateSince }
        let s := s.descStatus k d (2 + 256 * codeFenceRead)
        let s := (s.count (chanReg k + 0x90)).count (dryBase (k / 32) + 0x108)
        (s.raise (chanSource k) 0x28 1 addr 1 (chanSource k)).descEnd k d.copy
      else ((s.descStatus k d (4 + 65536 * late)).count (chanReg k + 0xA0)).descEnd k d.copy

/-- A write error of a descriptor whose STATUS is written, R552. -/
def lateError (s : State) (k a beat : Nat) : State :=
  let c := s.chan k
  if !c.bulkDone.contains a then s else
    let first := !c.lateSeen.contains a
    let s := s.setChan k { c with lateSince := c.lateSince + 1, lateSeen := if first then a :: c.lateSeen else c.lateSeen }
    let s := if first then s.writeHost (s.fnOfChan k) (a + 0x34)
        (leBytes 4 (1 + 256 * codeDstWrite + 65536 * min beat 65535)) else s
    (s.count (chanReg k + 0x98)).raise (chanSource k) 0x2A 1 a 2 (chanSource k)

/-- A STOPPING channel with nothing in progress becomes DISABLED, R545. -/
def chainStopped (s : State) (k : Nat) : State :=
  let c := s.chan k
  if c.state != .stopping || c.desc.isSome then s else
    ((s.setChan k { c with state := .disabled }).finishKind (fun w => w == .drayStop (k / 32) (k % 32)) .ok
      (some c.stopCount)).maintCheck

/-- A write of DRY_CH_DB, R545 and R560. -/
def chainDoorbell (s : State) (fn k : Nat) : State :=
  let c := s.chan k
  if !isChain k || s.requesterOfChan k != fn then s
  else match c.state with
    | .running => s.setChan k { c with dbPending := true }
    | .parked => (s.setChan k { c with state := .running }).issueFetch k true
    | _ => s.count (chanReg k + 0xB8)

/-! ### Pacing, R556 -/

/-- FILL of a WAITING frame channel reaches HI. -/
def pacingHi (s : State) (k : Nat) : State :=
  let c := s.chan k
  if isChain k || c.moving || s.chanFill k < s.chanHi k || s.chanFill k = 0 then s
  else (s.setChan k { c with moving := true }).takeEngine k

/-- The oldest frame of a WAITING frame channel has waited FLUSH. -/
def pacingFlush (s : State) (k : Nat) : State :=
  let c := s.chan k
  let src := s.sourceOf k
  match src with
  | [] => s
  | (_, t) :: rest =>
    if isChain k || c.moving || s.chanFill k = 0 then s else
      let first := rest.foldl (fun m p => min m p.2) t
      let s := s.advanceTo (first + nsTicks (s.chanFlush k))
      ((s.setChan k { c with moving := true }).count (chanReg k + 0xC0)).takeEngine k

/-- At the end of a frame a channel with FILL at or below LO goes back to WAITING. -/
def pacingEnd (s : State) (k : Nat) : State :=
  if s.chanFill k ≤ s.chanLo k then s.setChan k { s.chan k with moving := false } else s

/-! ### FETCH channels, R536 and R538 -/

/-- A FETCH channel's oldest frame is moved into the frame hold, or its read fails. -/
def fetchMove (s : State) (k : Nat) (bad : Bool) : State :=
  let c := s.chan k
  match c.source with
  | [] => s
  | i :: rest =>
    if !c.moving then s else
      let s := s.takeEngine k
      let s := s.setChan k { s.chan k with source := rest, framesIn := c.framesIn - 1 }
      let s := match s.startedOf i.queue i.sn with
        | none => s.setFrame i.frame none
        | some _ =>
          let fn := s.fnOfQueue i.queue
          if bad then
            let s := (s.setFrame i.frame none).modStarted i.queue i.sn (fun e =>
              { e with failedMask := if e.slot.isSome then 0 else e.egress, statuses := [(0, 7)], seqValid := false
                       frame := none, waitMask := 0 })
            let s := match s.startedOf i.queue i.sn with
              | some e => s.completeTx i.queue e
              | none => s
            (s.count (dryBase (k / 32) + 0x108)).raise (engineSource k) 0x28 1 ((i.segs.head?.map Prod.fst).getD 0) 1 (chanSource k)
          else
            let data := i.segs.flatMap (fun (p : Nat × Nat) => s.readHost fn p.1 p.2)
            let s := { s with joinery := { s.joinery with
              order := Tab.set [] s.joinery.order (100 + i.queue) (Tab.get [] s.joinery.order (100 + i.queue) ++ [i.frame]) } }
            (((s.modFrame i.frame (fun f => { f with bytes := data, whole := true, stage := .dispatch
                                                     since := s.time.ticks })).count
              (chanReg k + 0xC8)).countN (chanReg k + 0x88) data.length)
      (s.pacingEnd k).endBeats k (if bad then 0 else beatsOf 0 i.bytes)

/-! ### Registers of a channel -/

def ChainState.code : ChainState → Nat
  | .disabled => 0
  | .running => 1
  | .parked => 2
  | .stopping => 3
  | .error => 4

/-- A word of a channel's registers, 0x000 to 0x0FF. -/
def chanWord (s : State) (k o : Nat) : Nat :=
  let c := s.chan k
  if o = 0 then
    (if isChain k then ChainState.code c.state else if c.moving then 6 else 5) + 8 * flag c.dbPending
      + 16 * s.chanPrio k + 256 * c.errCode + 65536 * min c.framesIn 31
  else if o = 0x18 then c.cur.toNat % 2 ^ 32
  else if o = 0x1C then c.cur.toNat / 2 ^ 32
  else if o = 0x20 then 0
  else if o = 0x28 then min (s.chanFill k) (2 ^ 32 - 1)
  else if 0x80 ≤ o ∧ o < 0xD0 then
    (s.counter (chanReg k + o / 8 * 8)).toNat / 2 ^ (32 * (o / 4 % 2)) % 2 ^ 32
  else if (regRow (chanReg k + o)).isSome then s.reg (chanReg k + o)
  else 0

/-- DRY_ENG_ACTIVE of an engine. -/
def engineActive (s : State) (e : Nat) : Nat :=
  (upto 0 32).foldl (fun n c => n + flag (s.beatReady (32 * e + c)) * 2 ^ c) 0

end State

/-! ### Meanings of the events -/

/-- FETCH_FRAME_MOVE. -/
def execFetchFrameMove (e ch : Nat) (bad : Bool) (s : State) : Result :=
  ok (if e < 4 && ch < 8 then s.fetchMove (32 * e + ch) bad else s)

/-- DRY_CHANNEL_DOORBELL: function fn writes DRY_CH_DB. -/
def execDryChannelDoorbell (fn e ch : Nat) (s : State) : Result :=
  let s := s.hostTouch
  ok (if e < 4 && ch < 32 then s.chainDoorbell fn (32 * e + ch) else s)

/-- DESC_FETCHED. -/
def execDescFetched (e ch : Nat) (bad listBad : Bool) (s : State) : Result :=
  ok (if e < 4 && ch < 32 then s.descFetched (32 * e + ch) bad listBad else s)

/-- DESC_FINISHED. -/
def execDescFinished (e ch : Nat) (s : State) : Result :=
  ok (if e < 4 && ch < 32 then s.descFinished (32 * e + ch) else s)

/-- DESC_MOVE_ERROR: a source read (or a bulk-memory write when `write`) at an address fails once the beats of n
destination bytes have left. -/
def execDescMoveError (e ch : Nat) (write : Bool) (addr n : Nat) (s : State) : Result :=
  ok (match (s.chan (32 * e + ch)).desc with
    | none => s
    | some d =>
      if d.fence || 4 ≤ e || 32 ≤ ch then s else
        (s.takeEngine (32 * e + ch)).descBad (32 * e + ch) d (if write then codeDstWrite else codeSrcRead)
          (beatCut d.pairs (min n (dstBytes d.pairs))) addr (if write then 2 else 1))

/-- DESC_FENCE_DONE: the read-backs have returned; with `bad` the one at an address failed. -/
def execDescFenceDone (e ch : Nat) (bad : Bool) (addr : Nat) (s : State) : Result :=
  ok (if e < 4 && ch < 32 then s.descFenceDone (32 * e + ch) bad addr else s)

/-- LATE_ERROR of the descriptor at an address: its failing beat. -/
def execLateError (e ch addr beat : Nat) (s : State) : Result :=
  ok (if e < 4 && ch < 32 then s.lateError (32 * e + ch) addr beat else s)

/-- CHAIN_STOPPED. -/
def execChainStopped (e ch : Nat) (s : State) : Result :=
  ok (if e < 4 && ch < 32 then s.chainStopped (32 * e + ch) else s)

/-- PACING_HI. -/
def execPacingHi (e ch : Nat) (s : State) : Result :=
  ok (if e < 4 && ch < 32 then s.pacingHi (32 * e + ch) else s)

/-- PACING_FLUSH. -/
def execPacingFlush (e ch : Nat) (s : State) : Result :=
  ok (if e < 4 && ch < 32 then s.pacingFlush (32 * e + ch) else s)

/-! ### 0x0Axx commands, R562 to R564 -/

/-- The channel number that a dray command names. -/
def Cmd.chan (c : Cmd) : Nat := 32 * c.f 0 0 2 + c.f 0 8 5

/-- DRAY_STATUS: a copy of the channel's registers. -/
def execDrayStatus (c : Cmd) (s : State) : Result :=
  runStep 0x0A00 c s (fun s =>
    .ok s none ((upto 0 64).flatMap (fun i => leBytes 4 (s.chanWord (Cmd.chan c) (4 * i)))))

/-- May the issuing function command this chain channel, R562? -/
def chanOwned (s : State) (c : Cmd) : Bool := isChain (Cmd.chan c) && s.fnOfChan (Cmd.chan c) == s.cmdFn c

/-- DRAY_START (DEDUCED, log entry 96). -/
def execDrayStart (c : Cmd) (s : State) : Result :=
  runStep 0x0A01 c s (fun s =>
    let k := Cmd.chan c
    let h := s.chan k
    if !chanOwned s c || h.state != .disabled || c.n 8 8 % 64 != 0 then .refuse s .inconsistent
    else .ok ((s.setChan k { h with state := .running, cur := BitVec.ofNat 64 (c.n 8 8), errCode := 0, stopCount := 0
                                    desc := none }).issueFetch k false))

/-- DRAY_STOP: the descriptor in progress finishes; a fetch that is out starts no descriptor. -/
def execDrayStop (c : Cmd) (s : State) : Result :=
  runStep 0x0A02 c s (fun s =>
    let k := Cmd.chan c
    let h := s.chan k
    if !chanOwned s c then .refuse s .inconsistent
    else match h.state with
      | .disabled => .ok s (some 0)
      | .error => .ok (s.setChan k { h with state := .disabled }) (some 0)
      | .stopping => .wait s (.drayStop (k / 32) (k % 32)) 0
      | _ => .wait (s.setChan k { h with state := .stopping, stopCount := 0, fetching := none })
          (.drayStop (k / 32) (k % 32)) 0)

/-- DRAY_ABORT: the descriptor in progress ends at the next beat boundary, marked BAD with ABORTED; which boundary that
is the spec does not say, so the bytes written by then are a free value (DEDUCED, log entry 96). -/
def execDrayAbort (c : Cmd) (s : State) : Result :=
  runStep 0x0A03 c s (fun s =>
    let k := Cmd.chan c
    let h := s.chan k
    if !chanOwned s c then .refuse s .inconsistent
    else match h.state with
      | .disabled => .ok s (some 0)
      | .error => .ok (s.setChan k { h with state := .disabled }) (some 0)
      | .stopping => .wait s (.drayStop (k / 32) (k % 32)) 0
      | _ =>
        let s := s.setChan k { h with state := .stopping, stopCount := 0, fetching := none }
        let s := match h.desc with
          | none => s
          | some d =>
            let r := s.fresh
            let n := beatCut d.pairs (r.1.toNat % (dstBytes d.pairs + 1))
            let s := r.2.takeEngine k
            let s := ((s.descMove k d n).descStatus k d (2 + 256 * codeAborted)).count (chanReg k + 0x90)
            (s.descEnd k d.copy).endBeats k (beatsUpto d.pairs n)
        .wait s (.drayStop (k / 32) (k % 32)) 0)

/-- Value fields of SET_DRAY_CHANNEL; HI, LO and FLUSH belong to frame channels, VECTOR and the window to chains. -/
def drayFields (k : Nat) : List FieldSpec :=
  if isChain k then [] else [urange 4 0 25 1 16777216, urange 8 0 25 0 16777215, urange 0xC 0 32 100 1000000]

/-- SET_DRAY_CHANNEL. -/
def execSetDrayChannel (c : Cmd) (s : State) : Result := benchSet 0x0A10 c s (drayFields (Cmd.chan c))

/-- Does a SET_DRAY_CHANNEL pass the dry fit, R563? -/
def State.fitDrayChannel (s : State) (x : Setting) : Bool :=
  let k := 32 * fieldAt x.params 0 0 2 + fieldAt x.params 0 8 5
  let b := leAt x.params 0x10 8
  let l := leAt x.params 0x18 8
  if isChain k then s.fnOfChan k == x.fn && b ≤ l && s.inSoftware b (l - b)
  else fieldAt x.params 8 0 25 < fieldAt x.params 4 0 25

/-- A pegged SET_DRAY_CHANNEL applies, R564. -/
def State.applyDrayChannel (s : State) (x : Setting) : State :=
  let p := x.params
  let k := 32 * fieldAt p 0 0 2 + fieldAt p 0 8 5
  let a := chanReg k
  let common := fieldAt p 0 16 2 + 4 * fieldAt p 0 18 1
  if isChain k then
    (((s.setReg (a + 4) (common + 16 * fieldAt p 0 20 11)).setReg64 (a + 0x30) (leAt p 0x10 8)).setReg64 (a + 0x38)
      (leAt p 0x18 8))
  else (((s.setReg (a + 4) common).setReg (a + 8) (fieldAt p 4 0 25)).setReg (a + 0xC) (fieldAt p 8 0 25)).setReg
    (a + 0x10) (leAt p 0xC 4)

end Sys2Proof.Machine
end

