-- ==== Sys2Proof/Machine/Parse.lean ====
section
/-!
DEFINITION. What the joinery's parser reads in a frame (chapter 9, "Parse"), sequence tags (R350 and R351) and the
recognition of DetNet over UDP (R368).
-/

namespace Sys2Proof.Machine

/-- A parsed frame. Addresses are numbers in network order; offsets count from the destination address. -/
structure View where
  dst : Nat := 0
  src : Nat := 0
  /-- VLAN tags, outer first: TPID and TCI. -/
  tags : List (Nat × Nat) := []
  /-- EtherType after VLAN and sequence tags, and the first byte after it. -/
  etype : Nat := 0
  l3 : Nat := 12
  /-- R-TAG (0) or HSR (1) tag: format, offset, PathId and number. -/
  tag : Option (Nat × Nat × Nat × Nat) := none
  /-- Valid PRP trailer: LanId and number. -/
  prp : Option (Nat × Nat) := none
  /-- 4, 6, or 0 when no IP header is recognised. -/
  ip : Nat := 0
  ipSrc : Nat := 0
  ipDst : Nat := 0
  proto : Nat := 0
  dscp : Nat := 0
  /-- First byte of the UDP or TCP header, or 0. -/
  l4 : Nat := 0
  sport : Nat := 0
  dport : Nat := 0
  labels : List Nat := []
  /-- Control word's 28-bit number when its first four bits are 0. -/
  dcw : Option Nat := none
  dcwAt : Nat := 0
  payload : Nat := 0
  detnet : Bool := false
  error : Bool := false
deriving DecidableEq, Repr

/-- VLAN TPIDs (PRESUMED, log entry 92). -/
def isVlan (t : Nat) : Bool := t == 0x8100 || t == 0x88A8

/-- At most n VLAN tags from an offset of the EtherType: the tags, the offset of the EtherType after them, and whether
the frame ended inside one. -/
def vlanTags (b : List Byte) : Nat → Nat → List (Nat × Nat) × Nat × Bool
  | 0, o => ([], o, false)
  | n + 1, o =>
    if isVlan (beAt b o 2) then
      if b.length < o + 6 then ([], o, true)
      else let r := vlanTags b n (o + 4); ((beAt b o 2, beAt b (o + 2) 2) :: r.1, r.2.1, r.2.2)
    else ([], o, false)

/-- Next-header values that are extension headers (PRESUMED: the IPv6 registry, log entry 8). -/
def isExtHeader (n : Nat) : Bool := [0, 43, 44, 50, 51, 60, 135, 139, 140, 253, 254].contains n

/-- LSDU length of R351: from the first byte after the source address to the end of the trailer, VLAN tags left out. -/
def lsduLen (total tags : Nat) : Nat := (total - 12 - 4 * tags) % 4096

/-- The PRP trailer of a frame, valid under R351. -/
def prpTrailer (b : List Byte) (tags : Nat) : Option (Nat × Nat) :=
  let n := b.length
  let w := beAt b (n - 4) 2
  if n < 20 || beAt b (n - 2) 2 != 0x88FB then none
  else if (w / 4096 == 0xA || w / 4096 == 0xB) && w % 4096 == lsduLen n tags then some (w / 4096, beAt b (n - 6) 2)
  else none

/-- A stack of at most two labels and a control word from an offset, R368. -/
def mplsStack (b : List Byte) (v : View) (o : Nat) : View :=
  let word (o : Nat) : Nat := beAt b o 4
  let after (ls : List Nat) (o : Nat) : View :=
    if b.length < o + 4 then { v with labels := ls, error := true }
    else if word o / 2 ^ 28 = 0 then
      { v with labels := ls, dcw := some (word o % 2 ^ 28), dcwAt := o, payload := o + 4 }
    else { v with labels := ls, payload := o }
  if b.length < o + 4 then { v with error := true }
  else if bit (word o) 8 then after [word o / 4096] (o + 4)
  else if b.length < o + 8 then { v with labels := [word o / 4096], error := true }
  else if bit (word (o + 4)) 8 then after [word o / 4096, word (o + 4) / 4096] (o + 8)
  else { v with labels := [word o / 4096, word (o + 4) / 4096] }

/-- The transport header at an offset. -/
def parseL4 (b : List Byte) (v : View) (o dcwPort : Nat) : View :=
  let v := { v with payload := o }
  let n := if v.proto = 17 then 8 else if v.proto = 6 then 20 else 0
  if n = 0 then v
  else if b.length < o + n then { v with error := true }
  else
    let v := { v with l4 := o, sport := beAt b o 2, dport := beAt b (o + 2) 2, payload := o + n }
    if v.proto = 17 && v.dport == dcwPort then
      let w := mplsStack b v (o + 8)
      { w with detnet := w.dcw.isSome && !w.error }
    else v

/-- The network header. -/
def parseL3 (b : List Byte) (v : View) (dcwPort : Nat) : View :=
  let o := v.l3
  if v.etype = 0x0800 then
    if b.length < o + 20 then { v with error := true }
    else if beAt b o 1 = 0x45 then
      parseL4 b { v with ip := 4, dscp := beAt b (o + 1) 1 / 4, proto := beAt b (o + 9) 1, ipSrc := beAt b (o + 12) 4
                         ipDst := beAt b (o + 16) 4 } (o + 20) dcwPort
    else v
  else if v.etype = 0x86DD then
    if b.length < o + 40 then { v with error := true }
    else if isExtHeader (beAt b (o + 6) 1) then v
    else parseL4 b { v with ip := 6, dscp := beAt b o 2 / 64 % 64, proto := beAt b (o + 6) 1
                            ipSrc := beAt b (o + 8) 16, ipDst := beAt b (o + 24) 16 } (o + 40) dcwPort
  else if v.etype = 0x8847 then mplsStack b v o
  else v

/-- Parse a frame; `prp` when the port asks for a PRP trailer (R406) (PRESUMED, log entry 8). -/
def parse (b : List Byte) (prp : Bool) (dcwPort : Nat) : View :=
  if b.length < 14 then { error := true }
  else
    let r := vlanTags b 2 12
    let v : View := { dst := beAt b 0 6, src := beAt b 6 6, tags := r.1 }
    if r.2.2 then { v with error := true }
    else
      let o := r.2.1
      let t := beAt b o 2
      let v := { v with prp := if prp then prpTrailer b r.1.length else none }
      if t = 0xF1C1 || t = 0x892F then
        if b.length < o + 8 then { v with error := true }
        else
          let f := if t = 0xF1C1 then 0 else 1
          parseL3 b { v with tag := some (f, o, if f = 1 then beAt b (o + 2) 2 / 4096 else 0, beAt b (o + 4) 2)
                             etype := beAt b (o + 6) 2, l3 := o + 8, payload := o + 8 } dcwPort
      else parseL3 b { v with etype := t, l3 := o + 2, payload := o + 2 } dcwPort

/-- Outer VID; 0 when untagged. -/
def View.vid (v : View) : Nat := match v.tags with | [] => 0 | (_, t) :: _ => t % 4096
/-- Untagged or priority-tagged. -/
def View.untagged (v : View) : Bool := v.vid == 0
def View.pcp (v : View) : Option Nat := v.tags.head?.map (fun t => t.2 / 8192 % 8)
def View.dei (v : View) : Bool := match v.tags with | [] => false | (_, t) :: _ => bit t 12

/-- Kinds of a frame, the table before R407; bit 7, SPAN_INNER, is the caller's. -/
def View.kinds (v : View) : Nat :=
  flag (v.ip == 0 && v.etype != 0x8847) + 2 * flag (v.ip == 4) + 4 * flag (v.ip == 6) + 8 * flag (v.etype == 0x8847)
    + 16 * flag v.detnet
    + 32 * flag (v.etype == 0x88F7 || (v.proto == 17 && v.l4 != 0 && (v.dport == 319 || v.dport == 320)))
    + 64 * flag (v.tag.isSome || v.prp.isSome)

/-- The sequence number of a valid tag of a FORMAT of R350 (0 R-TAG, 1 HSR, 2 PRP, 3 DCW). -/
def View.seqOf (v : View) (format : Nat) : Option Nat :=
  match format with
  | 2 => v.prp.map (·.2)
  | 3 => v.dcw
  | f => match v.tag with | some (g, _, _, n) => if f == g then some n else none | none => none

end Sys2Proof.Machine
end

