-- ==== Sys2Proof/Machine/Edits.lean ====
section
/-!
DEFINITION. Edit lists (R417, R455, R456): how a port or a dray applies a frame's edits. A frame under edit is a list of
bytes each of which remembers its place in the frame as received; inserted bytes have none.
-/

namespace Sys2Proof.Machine

/-- A byte of a frame under edit with its place in the frame as received. -/
abbrev Cell := Option Nat × Byte

/-- Cells of a frame from a place on. -/
def cellsFrom : Nat → List Byte → List Cell
  | _, [] => []
  | i, b :: bs => (some i, b) :: cellsFrom (i + 1) bs

def newCells (bs : List Byte) : List Cell := bs.map (fun b => (none, b))
def cellBytes (cs : List Cell) : List Byte := cs.map (·.2)

/-- Write bytes at places of the frame as received; a byte that is no longer there is not written. -/
def setAt (cs : List Cell) (at_ : Nat) (bs : List Byte) : List Cell :=
  cs.map (fun c => match c.1 with
    | some i => if at_ ≤ i && i < at_ + bs.length then (c.1, bs.getD (i - at_) 0) else c
    | none => c)

/-- Remove the bytes of places a to a + n - 1. -/
def dropPlaces (cs : List Cell) (a n : Nat) : List Cell :=
  cs.filter (fun c => match c.1 with | some i => i < a || a + n ≤ i | none => true)

/-- Replace n cells at a position by bytes, as new ones. -/
def putAt (cs : List Cell) (pos : Nat) (bs : List Byte) : List Cell :=
  cs.take pos ++ newCells bs ++ cs.drop (pos + bs.length)

def insertAt (cs : List Cell) (pos : Nat) (bs : List Byte) : List Cell := cs.take pos ++ newCells bs ++ cs.drop pos

/-- Has the frame an outer tag as the edits so far left it? -/
def tagged (cs : List Cell) : Bool := isVlan (beAt (cellBytes cs) 12 2)

/-- What an egress port gives its copy: LanId, PathId, and whether edits made at egress alone apply. -/
structure EditAt where
  egress : Bool := false
  prpLan : Nat := 0
  hsrPath : Nat := 0
deriving DecidableEq, Repr

/-- Ones' complement sum of the 16-bit words of a string. -/
def onesSum (bs : List Byte) : Nat :=
  let n := (upto 0 ((bs.length + 1) / 2)).foldl (fun n i => n + beAt bs (2 * i) 2) 0
  (n % 65536 + n / 65536) % 65536 + (n % 65536 + n / 65536) / 65536

/-- The six bytes of an R-TAG or HSR tag before the EtherType that follows (R350); HSR counts LSDUsize as R351 does
(DEDUCED, log entry 14). -/
def tagBytes (format seq path lsdu : Nat) : List Byte :=
  if format = 1 then beBytes 2 0x892F ++ beBytes 2 (path % 16 * 4096 + lsdu % 4096) ++ beBytes 2 seq
  else beBytes 2 0xF1C1 ++ beBytes 2 0 ++ beBytes 2 seq

/-- Apply one edit of a frame parsed as v (PRESUMED, log entry 92). -/
def applyEdit (v : View) (n : Nat) (w : EditAt) (cs : List Cell) (e : Edit) : List Cell :=
  match e with
  | .vlanPush tpid tci => insertAt cs 12 (beBytes 2 tpid ++ beBytes 2 tci)
  | .vlanPop => if tagged cs then cs.take 12 ++ cs.drop 16 else cs
  | .vlanRewrite tci keepPcp =>
    if !tagged cs then cs else
      let old := beAt (cellBytes cs) 14 2
      putAt cs 14 (beBytes 2 (if keepPcp then old / 8192 * 8192 + old / 4096 % 2 * 4096 + tci % 4096
        else tci / 8192 * 8192 + old / 4096 % 2 * 4096 + tci % 4096))
  | .setTci tci => if tagged cs then putAt cs 14 (beBytes 2 tci) else cs
  | .setBytes at_ bytes => setAt cs at_ bytes
  | .dscp value =>
    if v.ip = 4 then
      let tos := beAt (cellBytes (cs.filter (fun c => c.1 == some (v.l3 + 1)))) 0 1
      let cs := setAt cs (v.l3 + 1) [BitVec.ofNat 8 (value % 64 * 4 + tos % 4)]
      let hdr := cellBytes (cs.filter (fun c => match c.1 with
        | some i => v.l3 ≤ i && i < v.l3 + 20 && i != v.l3 + 10 && i != v.l3 + 11 | none => false))
      setAt cs (v.l3 + 10) (beBytes 2 (65535 - onesSum hdr))
    else if v.ip = 6 then
      let w := beAt (cellBytes (cs.filter (fun c => c.1 == some v.l3 || c.1 == some (v.l3 + 1)))) 0 2
      setAt cs v.l3 (beBytes 2 (setBits w 6 6 value))
    else cs
  | .seqInsert format seq =>
    if !w.egress then cs
    else if format = 2 then
      let tags := (vlanTags (cellBytes cs) 2 12).1.length
      cs ++ newCells (beBytes 2 seq ++ beBytes 2 ((0xA + w.prpLan % 2) * 4096 + lsduLen (cs.length + 6) tags)
        ++ beBytes 2 0x88FB)
    else
      let r := vlanTags (cellBytes cs) 2 12
      insertAt cs r.2.1 (tagBytes format seq w.hsrPath (lsduLen (cs.length + 6) r.1.length))
  | .seqRemove =>
    match v.tag with
    | some (_, o, _, _) => dropPlaces cs o 6
    | none => if v.prp.isSome then dropPlaces cs (n - 6) 6 else cs
  | .dcwWrite seq => if w.egress then setAt cs v.dcwAt (beBytes 4 (seq % 2 ^ 28)) else cs
  | .destRewrite mac vid =>
    if !w.egress then cs else
      let cs := setAt cs 0 mac
      if tagged cs then
        let old := beAt (cellBytes cs) 14 2
        putAt cs 14 (beBytes 2 (old / 4096 * 4096 + vid % 4096)) else cs
  | .dei => if tagged cs then putAt cs 14 (beBytes 2 (setBits (beAt (cellBytes cs) 14 2) 12 1 1)) else cs
  | .residence _ => cs
  | .followUp => cs

/-- A frame's bytes after its edits at one destination. -/
def applyEdits (b : List Byte) (prp : Bool) (dcwPort : Nat) (edits : List Edit) (w : EditAt) : List Byte :=
  let v := parse b prp dcwPort
  cellBytes (edits.foldl (applyEdit v b.length w) (cellsFrom 0 b))

end Sys2Proof.Machine
end

