-- ==== Sys2Proof/Machine/Microcode.lean ====
section
/-!
DEFINITION. Joinery microcode (chapter 10): the microword, its ECC, the checks of the seal mask, and the issue of one
customer word.
-/

namespace Sys2Proof.Machine

/-! ### ECC, R436 -/

/-- Is a codeword position a check-bit position? -/
def isCheckPos (p : Nat) : Bool := [1, 2, 4, 8, 16, 32, 64, 128].contains p

/-- The codeword positions 1 to 159 that hold data, ascending. -/
def dataPositions : List Nat := (upto 1 159).filter (fun p => !isCheckPos p)

/-- Check bit Ci of 151 data bits. -/
def checkBit (d i : Nat) : Bool :=
  ((upto 0 151).zip dataPositions).foldl (fun x (k, p) => Bool.xor x (bit p i && bit d k)) false

/-- Parity of the low n bits of a number. -/
def parity (n v : Nat) : Bool := (upto 0 n).foldl (fun x i => Bool.xor x (bit v i)) false

/-- ECC[8:0] over bits [150:0]. -/
def eccOf (d : Nat) : Nat :=
  let c := (upto 0 8).foldl (fun n i => n + flag (checkBit d i) * 2 ^ i) 0
  c + 256 * flag (Bool.xor (parity 151 d) (parity 8 c))

/-- A word of 160 bits with its ECC. -/
def withEcc (d : Nat) : Nat := d % 2 ^ 151 + eccOf (d % 2 ^ 151) * 2 ^ 151

/-- What the ECC says of a word as read: good, one bit wrong (and the corrected word), or more. -/
inductive EccResult where
  | good | corrected (w : Nat) | double
deriving DecidableEq, Repr

/-- Check a word as read from a copy. -/
def eccCheck (w : Nat) : EccResult :=
  let d := w % 2 ^ 151
  let c := w / 2 ^ 151 % 256
  let syn := Nat.xor (eccOf d % 256) c
  let odd := Bool.xor (Bool.xor (parity 151 d) (parity 8 c)) (bit w 159)
  if syn = 0 then (if odd then .corrected (withEcc d) else .good)
  else if !odd then .double
  else if isCheckPos syn then .corrected (withEcc d)
  else if 159 < syn then .double
  else
    match ((upto 0 151).zip dataPositions).find? (fun p => p.2 == syn) with
    | some (k, _) => .corrected (withEcc (Nat.xor d (2 ^ k)))
    | none => .double

/-- The HRET word of R435: SEQ HRET, COND ALWAYS, every other field zero. -/
def hretWord : Nat := withEcc (0x10 * 2 ^ 145)

/-! ### Fields, R439 -/

def wSeq (w : Nat) : Nat := bits w 145 6
def wCond (w : Nat) : Nat := bits w 139 6
def wTarget (w : Nat) : Nat := bits w 125 14
def wAluA (w : Nat) : Nat := bits w 101 24
def wAluB (w : Nat) : Nat := bits w 77 24
def wImm (w : Nat) : Nat := bits w 61 16
def wXoff (w : Nat) : Nat := bits w 51 10
def wXwidth (w : Nat) : Nat := bits w 45 6
def wLkOp (w : Nat) : Nat := bits w 41 4
def wLkTable (w : Nat) : Nat := bits w 37 4
def wEdOp (w : Nat) : Nat := bits w 33 4
def wEdPar (w : Nat) : Nat := bits w 25 8
def wTs (w : Nat) : Nat := bits w 21 4
def wSteer (w : Nat) : Nat := bits w 17 4
def wCount (w : Nat) : Nat := bits w 13 4
def wWindow (w : Nat) : Nat := bits w 5 8
def wFlags (w : Nat) : Nat := bits w 0 5
def aOp (f : Nat) : Nat := bits f 18 6
def aA (f : Nat) : Nat := bits f 12 6
def aB (f : Nat) : Nat := bits f 6 6
def aDst (f : Nat) : Nat := bits f 0 6

/-- Is an address in the customer region, R433? -/
def isCustomer (a : Nat) : Bool := 0x3000 ≤ a && a ≤ 0x3FFF

/-- Does a SEQ op use TARGET? -/
def usesTarget (op : Nat) : Bool := op == 1 || op == 2 || op == 4
/-- Does a LOOKUP op name a table? -/
def usesTable (op : Nat) : Bool := op == 3 || op == 4 || op == 5

/-- A TS op 3 to 6 or STEER op 8, R465. -/
def wordSealed (w : Nat) : Bool := (3 ≤ wTs w && wTs w ≤ 6) || wSteer w == 8

def aluReserved (f : Nat) : Bool := 0x15 ≤ aOp f || 0x3A ≤ aA f || 0x3A ≤ aB f || 0x20 < aDst f

/-- A vendor op that the seal mask does not cover, or a reserved encoding: a word that is cut off if issued. -/
def wordFaulty (w : Nat) : Bool :=
  !(wSeq w ≤ 4 || wSeq w == 0x10 || wSeq w == 0x11) || (0x1B ≤ wCond w && wCond w ≤ 0x1F)
    || aluReserved (wAluA w) || aluReserved (wAluB w) || 32 < wXwidth w || 5 < wLkOp w || 5 < wEdOp w
    || wTs w == 7 || 7 < wTs w || wSteer w == 7 || 8 < wSteer w || 3 < wCount w || 8 ≤ wFlags w

/-- What the loader makes of a word, R465 and R467. -/
def loaderRefuses (w : Nat) : Option Status :=
  if wordSealed w then some .sealed
  else if wordFaulty w
      || (aDst (wAluA w) == aDst (wAluB w) && aDst (wAluA w) < 32)
      || (usesTable (wLkOp w) && !(8 ≤ wLkTable w && wLkTable w ≤ 11))
      || (usesTarget (wSeq w) && !isCustomer (wTarget w)) then some .inconsistent
  else none

/-! ### Issue, R440 to R464 -/

/-- What a thread's frame and settings show to a customer word. -/
structure HookCtx where
  /-- Bytes of the frame as they will be, how many are in the frame hold, and whether it is whole. -/
  bytes : List Byte
  arrived : Nat
  whole : Bool
  kinds : Nat
  port : Nat
  l4off : Nat
  etype : Nat
  tci : Nat
  handle : Nat
  acct : Nat
  steerIx : Nat
  harg : Nat
  flowTag : Nat
  tc : Nat
  rxns : Nat
  rxsec : Nat
  cycle : Nat
  thread : Nat
  tables : List (List HookEntry)

/-- How the issue of a word ends. -/
inductive IssueEnd where
  | next (pc : Nat)
  | commit
  | discard
  | cut
  | waitBytes (upto : Nat)
  | waitEnd
  | waitLookup
deriving DecidableEq, Repr

/-- Rotate left on 32 bits. -/
def rol32 (a n : Nat) : Nat := (a * 2 ^ n) % 2 ^ 32 + a / 2 ^ (32 - n)

/-- Leading zeros among n bits below bit n. -/
def leadZeros (a : Nat) : Nat → Nat
  | 0 => 0
  | n + 1 => if bit a n then 0 else leadZeros a n + 1

/-- One ALU operation of R442: result, C flag, and whether a register is written. The C flag of a shift by 0 shifts no
bit out, so it is the free bit `x`. -/
def aluResult (op a b : Nat) (x : Bool) : Nat × Bool × Bool :=
  let m := 2 ^ 32
  let n := b % 32
  match op with
  | 0x01 => (a, false, true)
  | 0x02 => ((a + b) % m, m ≤ a + b, true)
  | 0x03 => ((a + m - b) % m, b ≤ a, true)
  | 0x04 => (Nat.land a b, false, true)
  | 0x05 => (Nat.lor a b, false, true)
  | 0x06 => (Nat.xor a b, false, true)
  | 0x07 => (Nat.land a (m - 1 - b), false, true)
  | 0x08 => (a * 2 ^ n % m, if n = 0 then x else bit a (32 - n), true)
  | 0x09 => (a / 2 ^ n, if n = 0 then x else bit a (n - 1), true)
  | 0x0A => (ofSigned 32 (toSigned 32 a / (2 ^ n : Nat)), if n = 0 then x else bit a (n - 1), true)
  | 0x0B => (rol32 a n, false, true)
  | 0x0C => (min a b, a ≤ b, true)
  | 0x0D => (max a b, b ≤ a, true)
  | 0x0E => ((a + m - b) % m, b ≤ a, false)
  | 0x0F => (Nat.land a b, false, false)
  | 0x10 => (a % 256 * 256 + a / 256 % 256, false, true)
  | 0x11 => (ofBe (leBytes 4 a), false, true)
  | 0x12 => (Nat.xor (crcFold (Nat.xor a (m - 1)) (leBytes 4 b)) (m - 1), false, true)
  | 0x13 => ((upto 0 32).foldl (fun k i => k + flag (bit a i)) 0, false, true)
  | 0x14 => (leadZeros a 32, false, true)
  | _ => (0, false, false)

/-- The value of an operand code, R441. -/
def operand (c : HookCtx) (h : HookRun) (wbase imm xf code : Nat) : Nat :=
  if code < 32 then (Tab.get 0 h.regs code).toNat
  else match code with
    | 0x20 => imm
    | 0x21 => imm * 65536
    | 0x22 => xf
    | 0x23 => (h.lk.getD 0 0).toNat
    | 0x24 => (h.lk.getD 1 0).toNat
    | 0x25 => (h.lk.getD 2 0).toNat
    | 0x26 => (h.lk.getD 3 0).toNat
    | 0x27 => h.lkst.toNat
    | 0x28 => c.kinds % 256
    | 0x29 => c.port
    | 0x2A => c.bytes.length + 4
    | 0x2B => wbase
    | 0x2C => c.l4off
    | 0x2D => c.etype
    | 0x2E => c.tci
    | 0x2F => c.handle
    | 0x30 => c.acct
    | 0x31 => c.steerIx
    | 0x32 => c.harg
    | 0x33 => c.flowTag
    | 0x34 => c.tc
    | 0x35 => c.rxns
    | 0x36 => c.rxsec
    | 0x37 => c.cycle
    | 0x39 => c.thread
    | _ => 0

/-- The condition of a word, R445. -/
def condHolds (c : HookCtx) (h : HookRun) (wbase code : Nat) : Bool :=
  match code with
  | 0x00 => true
  | 0x01 => false
  | 0x02 => h.za
  | 0x03 => !h.za
  | 0x04 => h.na
  | 0x05 => !h.na
  | 0x06 => h.ca
  | 0x07 => !h.ca
  | 0x08 => h.zb
  | 0x09 => !h.zb
  | 0x0A => h.nb
  | 0x0B => !h.nb
  | 0x0C => h.cb
  | 0x0D => !h.cb
  | 0x0E => c.bytes.length ≤ wbase
  | 0x0F => wbase < c.bytes.length
  | 0x10 => bit h.lkst.toNat 0
  | 0x11 => !bit h.lkst.toNat 0
  | 0x1A => h.point == 2
  | k => if 0x12 ≤ k && k ≤ 0x19 then bit c.kinds (k - 0x12)
    else if 0x20 ≤ k then bit (Tab.get 0 h.regs 31).toNat (k - 0x20) else false

/-- Extract width bits from a bit position of the frame in network order, R449. -/
def extract (b : List Byte) (bitPos width : Nat) (signed : Bool) : Nat :=
  if width = 0 then 0 else
    let v := beAt b (bitPos / 8) 5 / 2 ^ (40 - bitPos % 8 - width) % 2 ^ width
    if signed then ofSigned 32 (toSigned width v) else v

/-- Codes an operand field of either ALU names as a source. -/
def sources (w : Nat) : List Nat :=
  let srcs (f : Nat) : List Nat := if aOp f = 0 then [] else [aA f, aB f]
  srcs (wAluA w) ++ srcs (wAluB w)

/-- Key of 16 bytes, zero-padded. -/
def padKey (k : List Byte) : List Byte := slice k 0 16

/-- The answer of a lookup, R452 and R453: result words and status. -/
def lookupAnswer (c : HookCtx) (op table : Nat) (key : List Byte) (b : Nat) : List Word × Word :=
  let t := c.tables.getD (table - 8) []
  let miss : List Word × Word := ([0, 0, 0, 0], 0)
  let at_ (i : Nat) : List Word × Word :=
    match t[i]? with
    | some e => (e.lk, BitVec.ofNat 32 (1 + 65536 * i))
    | none => miss
  if !(8 ≤ table && table ≤ 11) then ([0, 0, 0, 0], 2)
  else if op = 5 then at_ (b % 65536)
  else
    let k := padKey (if op = 4 then leBytes 4 b else key)
    match t.findIdx? (fun e => e.key == k) with
    | some i => at_ i
    | none => miss

/-- The staged effects of one word: edit, timestamp, steer and counter ops with this word's ALU results. -/
def stagedOf (w wbase ra rb len : Nat) : List Staged :=
  let e : List Staged := match wEdOp w with
    | 1 => [.edit (.vlanPush (if bit (wEdPar w) 0 then 0x88A8 else 0x8100) (rb % 65536))]
    | 2 => [.edit .vlanPop]
    | 3 => [.edit (.setTci (rb % 65536))]
    | 4 => [.edit (.setBytes (wbase + wEdPar w % 128) (if bit (wEdPar w) 7 then beBytes 4 rb else beBytes 2 rb))]
    | 5 => [.edit (.dscp (wEdPar w % 64))]
    | _ => []
  let t : List Staged := match wTs w with
    | 1 => [.record true]
    | 2 => [.record false]
    | _ => []
  let st : List Staged := if 1 ≤ wSteer w && wSteer w ≤ 6 then
      (if wSteer w = 6 && 25 ≤ rb % 32 then [] else [.steer (wSteer w) rb]) else []
  let k : List Staged := match wCount w with
    | 1 => [.count (wImm w % 1024) 1]
    | 2 => [.count (wImm w % 1024) len]
    | 3 => [.count (ra % 1024) 1]
    | _ => []
  e ++ t ++ st ++ k

/-- Write a register unless the code is NULL. -/
def writeReg (regs : Tab Word) (dst v : Nat) : Tab Word :=
  if dst < 32 then Tab.set 0 regs dst (BitVec.ofNat 32 v) else regs

/-- Issue one word. `x` is a free value for what the spec leaves open in it. Answers the hook context, the window base
and how the issue ends; a word that must wait is not issued. -/
def issueWord (c : HookCtx) (h : HookRun) (wbase w x : Nat) : HookRun × Nat × IssueEnd :=
  let pos := (if bit (wFlags w) 0 then 0 else 8 * wbase) + wXoff w
  let need := if wXwidth w = 0 then 0 else (pos + wXwidth w + 7) / 8
  let src := sources w
  let lkUse := src.any (fun k => 0x23 ≤ k && k ≤ 0x27) || wCond w == 0x10 || wCond w == 0x11 || usesTable (wLkOp w)
  if wordFaulty w then (h, wbase, .cut)
  else if h.coming.isSome && lkUse then (h, wbase, .waitLookup)
  else if !c.whole && src.contains 0x2A then (h, wbase, .waitEnd)
  else if !c.whole && c.arrived < min need c.bytes.length then (h, wbase, .waitBytes (min need c.bytes.length))
  else
    let cond := condHolds c h wbase (wCond w)
    let xf := extract c.bytes pos (wXwidth w) (bit (wFlags w) 1)
    let val (k : Nat) : Nat := operand c h wbase (wImm w) xf k
    let fa := wAluA w
    let fb := wAluB w
    let ra := if aOp fa = 0 then (x % 2 ^ 32, false, false) else aluResult (aOp fa) (val (aA fa)) (val (aB fa)) (bit x 0)
    let rb := if aOp fb = 0 then (x / 2 ^ 32 % 2 ^ 32, false, false)
      else aluResult (aOp fb) (val (aA fb)) (val (aB fb)) (bit x 1)
    let regs := if ra.2.2 then writeReg h.regs (aDst fa) ra.1 else h.regs
    let regs := if rb.2.2 then writeReg regs (aDst fb) rb.1 else regs
    let keep := bit (wFlags w) 2
    let setA := aOp fa != 0 && !keep
    let setB := aOp fb != 0 && !keep
    let key := match wLkOp w with
      | 1 => []
      | 2 => if 16 ≤ h.key.length then h.key else h.key ++ leBytes 4 rb.1
      | _ => h.key
    let denied := !(8 ≤ wLkTable w && wLkTable w ≤ 11)
    let ans := lookupAnswer c (wLkOp w) (wLkTable w) h.key rb.1
    let issued := h.issued + 1
    let len := c.bytes.length + 4
    let h' : HookRun := { h with
      regs := regs, key := key, issued := issued
      za := if setA then ra.1 == 0 else h.za, na := if setA then bit ra.1 31 else h.na, ca := if setA then ra.2.1 else h.ca
      zb := if setB then rb.1 == 0 else h.zb, nb := if setB then bit rb.1 31 else h.nb, cb := if setB then rb.2.1 else h.cb
      lk := if usesTable (wLkOp w) && denied then ans.1 else h.lk
      lkst := if usesTable (wLkOp w) && denied then ans.2 else h.lkst
      coming := if usesTable (wLkOp w) && !denied then some ans else h.coming
      staged := h.staged ++ stagedOf w wbase ra.1 rb.1 len }
    let base := wbase + wWindow w
    let goto_ (a : Nat) (h : HookRun) : HookRun × Nat × IssueEnd :=
      if isCustomer a then ({ h with pc := a }, base, .next a) else (h, base, .cut)
    let next := h.pc + 1
    if !cond then goto_ next h'
    else match wSeq w with
      | 1 => goto_ (wTarget w) h'
      | 2 => if 4 ≤ h.stack.length then (h', base, .cut) else goto_ (wTarget w) { h' with stack := next :: h.stack }
      | 3 => match h.stack with
        | [] => (h', base, .cut)
        | a :: t => goto_ a { h' with stack := t }
      | 4 => goto_ (wTarget w + xf % 16) h'
      | 0x10 => (h', base, .commit)
      | 0x11 => (h', base, .discard)
      | _ => goto_ next h'

end Sys2Proof.Machine
end

