-- ==== Sys2Proof/Machine/Stamp.lean ====
section
/-!
DEFINITION. The timestamp queues (R85 to R89) and their records.
-/

namespace Sys2Proof.Machine

/-- Timing registers of a port index. -/
def timPort (p : Nat) : Nat := timBase + 0x1000 + 0x100 * p

/-- Bytes 0x04 to 0x1F of a timestamp record; `at_` in 2^-16 ns. -/
def stampBody (p : Nat) (dir oneStep : Bool) (flagCode epoch q index seq at_ uncert : Nat) : List Byte :=
  leBytes 4 (p % 256 + 256 * flag dir + 512 * flag oneStep + 1024 * flagCode + 4096 * (epoch % 256) + 2 ^ 20 * (q % 4096))
    ++ leBytes 4 (index % 65536) ++ leBytes 4 seq ++ leBytes 12 (toStamp at_) ++ leBytes 4 uncert

namespace State

/-- Queue a timestamp record of a port, R86 and R88; answers whether it was lost. `sn` is the work that asked
for it (DEDUCED, log entry 29). -/
def queueStamp (s : State) (p : Nat) (dir oneStep : Bool) (flagCode epoch q index at_ uncert : Nat) (sn : Option Nat) :
    Bool × State :=
  let t := s.ptime p
  if 4096 ≤ t.tsq.length then (true, (s.setPtime p { t with tsqSeq := t.tsqSeq + 1 }).count (timPort p + 0x30))
  else
    let r : TsRec := { body := stampBody p dir oneStep flagCode epoch q index t.tsqSeq.toNat at_ uncert, sn := sn }
    (false, s.setPtime p { t with tsqSeq := t.tsqSeq + 1, tsq := t.tsq ++ [r] })

/-- A record of a frame sent now. -/
def queueTxStamp (s : State) (p : Nat) (oneStep : Bool) (q index at_ : Nat) (sn : Option Nat) : Bool × State :=
  s.queueStamp p true oneStep s.time.flag.code s.time.epoch.toNat q index at_ s.uncert sn

/-- The receive record of a frame. -/
def queueRxStamp (s : State) (f : Frame) (p q index : Nat) (sn : Option Nat) : Bool × State :=
  s.queueStamp p false false f.rxFlag.code f.rxEpoch.toNat q index f.rxTime f.rxUncert sn

/-- The oldest record of a port leaves for its daybook once the daybook has room, R86 and R87. -/
def stampWrite (s : State) (p : Nat) : State :=
  let t := s.ptime p
  let b := s.regBits (timPort p + 0x28) 0 8
  match t.tsq with
  | [] => s
  | r :: rest =>
    if (s.book b).state != .running || bookFull (s.book b) || s.bent.awaitBci.contains b then s
    else
      let s := s.overflow b
      if bookFull (s.book b) then s
      else (s.setPtime p { t with tsq := rest }).putRecord b 2 r.body

end State

/-- TS_RECORD_WRITE of a port. -/
def execTsRecordWrite (p : Nat) (s : State) : Result := ok (if p ≤ 24 then s.stampWrite p else s)

end Sys2Proof.Machine
end

