-- ==== Sys2Proof/Machine/Stream.lean ====
section
/-!
DEFINITION. The stream engine (chapter 8 and "Policing" of chapter 5): records, identification, stream filters and flow
meters, recovery functions and accounts.
-/

namespace Sys2Proof.Machine

/-! ### Tables -/

def stmCount (k : Nat) : Nat := stmBase + 0x200 + 8 * k
abbrev maxStreams : Nat := 2 ^ 24
abbrev maxRcvy : Nat := 2 ^ 20
abbrev maxAccounts : Nat := 2 ^ 22
abbrev seqQ28 : Nat := 2 ^ 28

namespace State

def entry (s : State) (h : Nat) : StreamEntry := Tab.get {} s.stream.entries h
def setEntry (s : State) (h : Nat) (e : StreamEntry) : State :=
  { s with stream := { s.stream with entries := Tab.set {} s.stream.entries h e } }
def rcvy (s : State) (r : Nat) : Recovery := Tab.get {} s.stream.rcvy r
def setRcvy (s : State) (r : Nat) (v : Recovery) : State :=
  { s with stream := { s.stream with rcvy := Tab.set {} s.stream.rcvy r v } }
def account (s : State) (a : Nat) : Account := Tab.get {} s.stream.accounts a
def setAccount (s : State) (a : Nat) (v : Account) : State :=
  { s with stream := { s.stream with accounts := Tab.set {} s.stream.accounts a v } }

end State

/-! ### Records in bulk-memory layout, R341, R358 and R370 -/

/-- The 64 bytes of a stream-table entry. -/
def entryBytes (e : StreamEntry) : List Byte :=
  leBytes 4 (e.state % 4 + 4 * (e.method % 8) + 32 * (e.tagging % 4) + 256 * (e.port % 256) + 2 ^ 16 * flag e.rcvyEn
    + 2 ^ 17 * flag e.unrecovered + 2 ^ 18 * flag e.genEn + 2 ^ 19 * (e.format % 4) + 2 ^ 21 * flag e.skipZero
    + 2 ^ 22 * (e.path % 4) + 2 ^ 24 * flag e.primary + 2 ^ 25 * (e.rule % 16))
    ++ leBytes 4 (e.rcvy % maxRcvy) ++ leBytes 4 (e.genSeq % seqQ28) ++ leBytes 4 (e.steer % 65536) ++ slice e.key 0 40
    ++ leBytes 4 e.lastSeen ++ zeros 4

/-- A stream-table entry from its 64 bytes. -/
def entryOf (b : List Byte) : StreamEntry :=
  { state := fieldAt b 0 0 2, method := fieldAt b 0 2 3, tagging := fieldAt b 0 5 2, port := fieldAt b 0 8 8
    rcvyEn := fieldAt b 0 16 1 == 1, unrecovered := fieldAt b 0 17 1 == 1, genEn := fieldAt b 0 18 1 == 1
    format := fieldAt b 0 19 2, skipZero := fieldAt b 0 21 1 == 1, path := fieldAt b 0 22 2
    primary := fieldAt b 0 24 1 == 1, rule := fieldAt b 0 25 4, rcvy := fieldAt b 4 0 20, genSeq := fieldAt b 8 0 28
    steer := fieldAt b 0xC 0 16, key := slice b 0x10 40, lastSeen := leAt b 0x38 4 }

/-- A number as it stands on the wire, R352: the device handles s as s - 1 with SKIP_ZERO. -/
def wireSeq (skip : Bool) (n : Nat) : Nat := if skip then n + 1 else n

/-- Modulus of a function or entry, R350 and R352. -/
def seqMod (format : Nat) (skip : Bool) : Nat := if format = 3 then (if skip then seqQ28 - 1 else seqQ28) else 65536

/-- A received number as the device handles it; a received 0 with SKIP_ZERO is tagless. SKIP_ZERO is DCW only (R341). -/
def ownSeq (format : Nat) (skip : Bool) (n : Nat) : Option Nat :=
  if format = 3 && skip then (if n = 0 then none else some (n - 1)) else some n

def rcvySkip (r : Recovery) : Bool := r.skipZero && r.format == 3

/-- Words 0x04 to 0x0C of a recovery record, R358. -/
def rcvyParams (r : Recovery) : List Byte :=
  leBytes 4 (r.alg % 2 + 2 * (r.format % 4) + 8 * flag r.skipZero + 16 * flag r.leEn + 32 * (r.paths % 4)
    + 65536 * (r.histLen % 2048)) ++ leBytes 4 (r.resetMs % 65536 + 65536 * r.lePeriod) ++ leBytes 4 r.leDiff

/-- The 256 bytes of a recovery record. -/
def rcvyBytes (r : Recovery) : List Byte :=
  leBytes 4 (r.state % 4 + 4 * flag r.takeAny) ++ rcvyParams r ++ leBytes 8 (wireSeq (rcvySkip r) r.recovSeq)
    ++ leBytes 8 r.lastPass ++ leBytes 8 r.leStart ++ leBytes 8 r.leBasePassed ++ leBytes 8 r.leBaseDiscarded ++ zeros 8
    ++ leBytes 128 r.history
    ++ [r.passed, r.discarded, r.outOfOrder, r.lost, r.rogue, r.tagless, r.resets, r.latentErrors].flatMap
      (fun x => leBytes 8 x.toNat)

/-- The parameters of a record, words 0x04 to 0x0C of a byte string, written into a function. -/
def rcvyWith (r : Recovery) (b : List Byte) : Recovery :=
  { r with alg := fieldAt b 4 0 1, format := fieldAt b 4 1 2, skipZero := fieldAt b 4 3 1 == 1
           leEn := fieldAt b 4 4 1 == 1, paths := fieldAt b 4 5 2, histLen := fieldAt b 4 16 11
           resetMs := fieldAt b 8 0 16, lePeriod := fieldAt b 8 16 16, leDiff := fieldAt b 0xC 0 16 }

/-- A recovery function from its 256 bytes. -/
def rcvyOf (b : List Byte) : Recovery :=
  let r := rcvyWith {} b
  { r with state := fieldAt b 0 0 2, takeAny := fieldAt b 0 2 1 == 1
           recovSeq := fieldAt b 0x10 0 28 - flag (rcvySkip r)
           lastPass := leAt b 0x18 8, leStart := leAt b 0x20 8, leBasePassed := leAt b 0x28 8
           leBaseDiscarded := leAt b 0x30 8, history := leAt b 0x40 128
           passed := BitVec.ofNat 64 (leAt b 0xC0 8), discarded := BitVec.ofNat 64 (leAt b 0xC8 8)
           outOfOrder := BitVec.ofNat 64 (leAt b 0xD0 8), lost := BitVec.ofNat 64 (leAt b 0xD8 8)
           rogue := BitVec.ofNat 64 (leAt b 0xE0 8), tagless := BitVec.ofNat 64 (leAt b 0xE8 8)
           resets := BitVec.ofNat 64 (leAt b 0xF0 8), latentErrors := BitVec.ofNat 64 (leAt b 0xF8 8) }

def accountQ (a : Account) : Nat := if a.skipZero then seqQ28 - 1 else seqQ28

/-- Member path p of an account. -/
def pathBytes (p : AccountPath) : List Byte :=
  leBytes 16 p.src ++ leBytes 4 (p.label % 2 ^ 20 + 2 ^ 20 * flag p.valid + 2 ^ 21 * flag p.ipv6) ++ zeros 4

/-- The 128-byte entry of an account, R370. -/
def accountEntryBytes (id : Nat) (a : Account) : List Byte :=
  leBytes 4 (id % maxAccounts + 2 ^ 24 * flag a.metering + 2 ^ 25 * flag a.leEn + 2 ^ 26 * flag a.skipZero)
    ++ leBytes 4 (a.window % 512 + 65536 * a.resetMs) ++ leBytes 4 a.holdMax
    ++ leBytes 4 (a.meterPoint % 2 ^ 17 + 2 ^ 20 * a.wq) ++ leBytes 4 (a.lePeriod % 65536 + 65536 * a.leDiff) ++ zeros 12
    ++ (upto 0 4).flatMap (fun p => pathBytes (a.paths.getD p {}))

/-- The settings of a 128-byte entry written into an account. -/
def accountWith (a : Account) (b : List Byte) : Account :=
  { a with defined := true, metering := fieldAt b 0 24 1 == 1, leEn := fieldAt b 0 25 1 == 1
           skipZero := fieldAt b 0 26 1 == 1, window := fieldAt b 4 0 9, resetMs := fieldAt b 4 16 16
           holdMax := leAt b 8 4, meterPoint := fieldAt b 0xC 0 17, wq := fieldAt b 0xC 20 12
           lePeriod := fieldAt b 0x10 0 16, leDiff := fieldAt b 0x10 16 16
           paths := (upto 0 4).map (fun p => let o := 0x20 + 0x18 * p
             { src := leAt b o 16, label := fieldAt b (o + 0x10) 0 20, valid := fieldAt b (o + 0x10) 20 1 == 1
               ipv6 := fieldAt b (o + 0x10) 21 1 == 1 }) }

/-- HELD as a number, bit q mod 256 for each held number q. -/
def heldBits (a : Account) : Nat :=
  (upto 0 256).foldl (fun n i => n + flag (a.held.any (fun h => wireSeq a.skipZero h.seq % 256 == i)) * 2 ^ i) 0

/-- Bytes 0x000 to 0x1FF of an account record. -/
def accountBytes (id : Nat) (a : Account) : List Byte :=
  accountEntryBytes id a ++ leBytes 4 (wireSeq a.skipZero a.next % seqQ28 + seqQ28 * flag a.takeAny)
    ++ leBytes 4 a.held.length ++ leBytes 8 a.holdStart ++ leBytes 8 a.lastPass ++ leBytes 8 a.leStart
    ++ leBytes 32 (heldBits a) ++ leBytes 128 a.delivered
    ++ [a.passed, a.duplicate, a.late, a.rogue, a.tagless, a.heldTotal, a.gapReleased, a.gapSeqs, a.poolFull, a.resets,
      a.latentErrors].flatMap (fun x => leBytes 8 x.toNat) ++ zeros 8
    ++ leBytes 8 a.leBasePassed ++ leBytes 8 a.leBaseDuplicate
    ++ (upto 0 4).flatMap (fun p => leBytes 8 (Tab.get 0 a.rx p).toNat ++ leBytes 8 (Tab.get 0 a.won p).toNat) ++ zeros 16

/-- An account from bytes 0x000 to 0x1FF of its record; the packets held are not among them. -/
def accountOf (b : List Byte) : Account :=
  let a := accountWith {} b
  let n (o : Nat) : DWord := BitVec.ofNat 64 (leAt b o 8)
  { a with next := fieldAt b 0x80 0 28 - flag a.skipZero, takeAny := fieldAt b 0x80 28 1 == 1
           holdStart := leAt b 0x88 8, lastPass := leAt b 0x90 8, leStart := leAt b 0x98 8
           delivered := leAt b 0xC0 128, passed := n 0x140, duplicate := n 0x148, late := n 0x150, rogue := n 0x158
           tagless := n 0x160, heldTotal := n 0x168, gapReleased := n 0x170, gapSeqs := n 0x178, poolFull := n 0x180
           resets := n 0x188, latentErrors := n 0x190, leBasePassed := leAt b 0x1A0 8
           leBaseDuplicate := leAt b 0x1A8 8
           rx := (upto 0 4).foldl (fun t p => Tab.set 0 t p (n (0x1B0 + 16 * p))) []
           won := (upto 0 4).foldl (fun t p => Tab.set 0 t p (n (0x1B8 + 16 * p))) [] }

namespace State

/-! ### Notices and mirror items -/

/-- A STREAM notice, R384: kind 1 LATENT_ERROR, 2 UNRECOVERED, 3 RECOVERED, 4 ACCOUNT_RESET. -/
def streamNotice (s : State) (kind : Nat) (isAccount : Bool) (index r : Nat) : State :=
  s.notify { book := s.regBits (stmBase + 0x48) 0 8, kind := 4, source := 4097, timed := false
             body := leBytes 4 (kind + 16 * flag isAccount) ++ leBytes 4 (index % 2 ^ 24) ++ leBytes 4 (r % maxRcvy)
               ++ s.timeTail }

def mirrorEntryOf (s : State) (h : Nat) : State := s.mirror (.state (.stream h (entryBytes (s.entry h))))
def mirrorRcvyOf (s : State) (r : Nat) : State := s.mirror (.state (.rcvy r (rcvyBytes (s.rcvy r))))
def mirrorAccountOf (s : State) (a : Nat) : State := s.mirror (.state (.account a (accountBytes a (s.account a))))

/-- The lowest handle bound to a recovery function: INDEX of its notices (DEDUCED, log entry 9). -/
def handleOfRcvy (s : State) (r : Nat) : Nat :=
  (Tab.findKey (fun _ e => e.state != 0 && e.rcvyEn && e.rcvy == r) s.stream.entries).getD 0

/-! ### Free entries and functions -/

def rcvyInUse (s : State) : Nat := (s.stream.rcvy.filter (fun p => p.2.state != 0)).length
def streamsInUse (s : State) : Nat := (s.stream.entries.filter (fun p => p.2.state != 0)).length
def accountsInUse (s : State) : Nat := (s.stream.accounts.filter (fun p => p.2.defined)).length

end State

/-- The first index at or after i, modulo m, at which a test holds; at most n are tried. -/
def seekFree (free : Nat → Bool) (m : Nat) : Nat → Nat → Nat
  | 0, i => i % m
  | n + 1, i => if free (i % m) then i % m else seekFree free m n (i + 1)

namespace State

/-- Bind a free recovery function; which one the spec does not say. -/
def bindRcvy (s : State) (params : List Byte) (format : Nat) : Nat × State :=
  let f := s.fresh
  let r := seekFree (fun i => (s.rcvy i).state == 0) maxRcvy (s.stream.rcvy.length + 1) f.1.toNat
  let v := { rcvyWith {} params with state := 2, takeAny := true, format := format, paths := 1
                                     leStart := s.time.ticks }
  (r, (f.2.setRcvy r v).mirrorRcvyOf r)

/-- Set or clear RCVY_EXHAUSTED as functions run out and become free, R364 and R366. -/
def exhausted (s : State) : State :=
  let s := { s with stream := { s.stream with rcvyExhausted := true } }
  (s.count (stmBase + 0x270))

/-- Free a recovery function. -/
def freeRcvy (s : State) (r : Nat) : State :=
  if (s.rcvy r).state = 0 then s else
    let s := (s.setRcvy r {}).mirrorRcvyOf r
    { s with stream := { s.stream with rcvyExhausted := false } }

/-- Free a stream entry. -/
def freeEntry (s : State) (h : Nat) : State :=
  if (s.entry h).state = 0 then s else
    let s := (s.setEntry h {}).mirrorEntryOf h
    { s with stream := { s.stream with streamsFull := false } }

/-- Free a LEARNED entry and the function bound to it, R347 and R389. -/
def forget (s : State) (h : Nat) : State :=
  let e := s.entry h
  let s := s.freeEntry h
  if e.rcvyEn && !e.unrecovered then s.freeRcvy e.rcvy else s

/-! ### Identification, R331 to R348 -/

/-- Does TAGGING select a frame for a key's VID, R340? -/
def tagFits (tagging vid : Nat) (v : View) : Bool :=
  let tagged := !v.tags.isEmpty && v.vid == vid
  match tagging with
  | 0 => tagged
  | 1 => v.untagged && vid == 0
  | _ => tagged || v.untagged

/-- Does an entry's key fit a frame, R337 and R341? (DEDUCED, log entry 102). -/
def keyFits (e : StreamEntry) (v : View) : Bool :=
  let mac := beAt e.key 0 6
  match e.method with
  | 0 => mac == v.dst && tagFits e.tagging (leAt e.key 6 2 % 4096) v
  | 1 => mac == v.src && tagFits e.tagging (leAt e.key 6 2 % 4096) v
  | 2 => mac == v.dst && tagFits e.tagging (leAt e.key 6 2 % 4096) v
  | 3 =>
    let w := leAt e.key 0x21 1
    v.ip != 0 && bit w 7 == (v.ip == 6) && leAt e.key 0 16 == v.ipSrc && leAt e.key 0x10 16 == v.ipDst
      && leAt e.key 0x20 1 == v.proto && (bit w 6 || w % 64 == v.dscp)
      && (leAt e.key 0x22 2 == 0 || (v.l4 != 0 && leAt e.key 0x22 2 == v.sport))
      && (leAt e.key 0x24 2 == 0 || (v.l4 != 0 && leAt e.key 0x24 2 == v.dport))
      && tagFits e.tagging (leAt e.key 0x26 2 % 4096) v
  | _ => false

/-- The handles of one method that fit, those whose PORT names the ingress port before those for any port
(R339) (DEDUCED, log entry 102). -/
def fits (s : State) (method port : Nat) (v : View) : List Nat :=
  let all := s.stream.entries.filter (fun p => p.2.state != 0 && p.2.method == method && keyFits p.2 v)
  let own := all.filter (fun p => p.2.port == port)
  (if own.isEmpty then all.filter (fun p => p.2.port == 0xFF) else own).map (·.1)

/-- One of several entries that fit equally; the spec does not say which. -/
def pick (s : State) (l : List Nat) : Option Nat × State :=
  match l with
  | [] => (none, s)
  | [h] => (some h, s)
  | _ => let f := s.fresh; (some (l.getD (f.1.toNat % l.length) 0), f.2)

/-- Does a mask rule match a frame that arrived on a port, R343? -/
def maskFits (r : MaskRule) (port : Nat) (b : List Byte) : Bool :=
  bit r.portMask port && (upto 0 64).all (fun i => (b.getD i 0 &&& r.mask.getD i 0) == r.value.getD i 0)

/-- The first mask rule that matches and whose handle holds the MASK entry that names it. -/
def maskHandle (s : State) (port : Nat) (b : List Byte) : Option Nat :=
  (s.stream.rules.filterMap (fun p => p.2.map (fun r => (p.1, r)))).findSome? (fun (n, r) =>
    let e := s.entry r.handle
    if maskFits r port b && e.state != 0 && e.method == 4 && leAt e.key 0 2 % 1024 == n then some r.handle else none)

/-- The account path of a recognised frame, R369. -/
def accountPath (s : State) (v : View) : Option (Nat × Nat) :=
  let label := v.labels.getLast?.getD 0
  let hit (a : Account) (p : Nat) : Bool :=
    let x := a.paths.getD p {}
    x.valid && x.label == label && x.src == v.ipSrc && x.ipv6 == (v.ip == 6)
  s.stream.accounts.findSome? (fun (id, a) =>
    if !a.defined then none else ((upto 0 4).find? (fun p => hit a p)).map (fun p => (id, p)))

/-- Words of a learning rule, R344. -/
def learnWord (s : State) (r k : Nat) : Nat := s.reg (stmBase + 0x100 + 0x20 * r + 4 * k)
def learnPortA (s : State) (r : Nat) : Nat := bits (s.learnWord r 0) 8 8
def learnPortB (s : State) (r : Nat) : Nat := bits (s.learnWord r 0) 16 8
def learnFormat (s : State) (r : Nat) : Nat := bits (s.learnWord r 0) 5 2

/-- Does a learning rule apply to a frame, R344? -/
def learnApplies (s : State) (r port : Nat) (v : View) : Bool :=
  s.regBits (stmBase + 0x40) 16 1 == 1 && bit (s.learnWord r 0) 4
    && (s.learnPortA r == port || s.learnPortB r == port) && s.learnFormat r < 3 && (v.seqOf (s.learnFormat r)).isSome

/-- Is a port the primary one of a learning rule, R346? -/
def learnPrimary (s : State) (r port : Nat) : Bool :=
  port == (if bit (s.learnWord r 0) 7 then s.learnPortB r else s.learnPortA r)

/-- Has the table an SMAC_VLAN entry with PORT 0xFF for a frame's source and VID, R345? -/
def learnedAlready (s : State) (v : View) : Bool :=
  s.stream.entries.any (fun p => p.2.state != 0 && p.2.method == 1 && p.2.port == 0xFF && beAt p.2.key 0 6 == v.src
    && leAt p.2.key 6 2 % 4096 == v.vid)

/-- Words 0x04 to 0x0C of a learning rule as the recovery parameters of R358. -/
def learnParams (s : State) (r : Nat) : List Byte :=
  zeros 4 ++ leBytes 4 (s.learnWord r 1) ++ leBytes 4 (s.learnWord r 2) ++ leBytes 4 (s.learnWord r 3 % 65536)

/-- A learning rule creates an entry, R345 and R364; which free handle it takes the spec does not say. -/
def learn (s : State) (r : Nat) (v : View) : Nat × State :=
  let f := s.fresh
  let h := seekFree (fun i => (s.entry i).state == 0) maxStreams (s.stream.entries.length + 1) f.1.toNat
  let s := f.2.count (stmBase + 0x210)
  let e : StreamEntry :=
    { state := 2, method := 1, tagging := 2, port := 0xFF, rcvyEn := true, format := s.learnFormat r, rule := r
      skipZero := fieldAt (s.learnParams r) 4 3 1 == 1, steer := s.learnWord r 3 / 65536
      key := beBytes 6 v.src ++ leBytes 2 v.vid ++ zeros 32 }
  if s.rcvyInUse < maxRcvy then
    let b := s.bindRcvy (s.learnParams r) (s.learnFormat r)
    (h, (b.2.setEntry h { e with rcvy := b.1 }).mirrorEntryOf h)
  else
    let s := (s.setEntry h { e with unrecovered := true }).mirrorEntryOf h
    let first := !s.stream.rcvyExhausted
    let s := (s.exhausted).streamNotice 2 false h 0
    (h, if first then s.raise 0x0A0 0x24 1 else s)

/-- What identification and policing make of a frame. -/
inductive Ident where
  | none
  | stream (h : Nat)
  | account (a p : Nat)
  /-- LEARN_FULL: passes or is discarded without elimination. -/
  | full (pass : Bool)
deriving DecidableEq, Repr

/-- The learning rules in ascending number. -/
def learnTry (s : State) (port : Nat) (v : View) : List Nat → Ident × State
  | [] => (.none, s)
  | r :: rs =>
    if s.learnApplies r port v && !s.learnedAlready v then
      if maxStreams ≤ s.streamsInUse then
        (.full (s.learnPrimary r port), { s with stream := { s.stream with streamsFull := true } }.count (stmBase + 0x220))
      else let l := s.learn r v; (.stream l.1, l.2)
    else learnTry s port v rs

/-- The methods of R338 in their order after ACCOUNT. -/
def identifyStream (s : State) (port : Nat) (v : View) (b : List Byte) : Ident × State :=
  let a := s.pick (s.fits 3 port v)
  let p := match a.1 with
    | some h => (some h, a.2)
    | none =>
      let a := s.pick (s.fits 2 port v)
      match a.1 with
      | some h => (some h, a.2)
      | none =>
        let a := s.pick (s.fits 0 port v)
        match a.1 with
        | some h => (some h, a.2)
        | none => s.pick (s.fits 1 port v)
  match p.1 with
  | some h => (.stream h, p.2)
  | none =>
    match s.maskHandle port b with
    | some h => (.stream h, s)
    | none => s.learnTry port v (upto 0 16)

/-- Identify a frame that arrived on a port, R338, R369, R332, with its counters and LAST_SEEN. -/
def identify (s : State) (port : Nat) (v : View) (b : List Byte) : Ident × State :=
  let r := if !v.detnet then s.identifyStream port v b else
    match s.accountPath v with
    | some (a, p) => (Ident.account a p, s)
    | none => (s.count (stmBase + 0x2C0)).identifyStream port v b
  match r.1 with
  | .none => (.none, r.2.count (stmBase + 0x208))
  | .full p => (.full p, r.2.count (stmBase + 0x208))
  | .stream h =>
    (.stream h, (r.2.setEntry h { r.2.entry h with lastSeen := s.time.ticks / 781250 % 2 ^ 32 }).count (stmBase + 0x200))
  | .account a p => (.account a p, r.2.count (stmBase + 0x200))

/-! ### Policing, R230 to R235 -/

def filter (s : State) (n : Nat) : StreamFilter := Tab.get {} s.stream.filters n
def setFilter (s : State) (n : Nat) (f : StreamFilter) : State :=
  { s with stream := { s.stream with filters := Tab.set {} s.stream.filters n f } }
def meter (s : State) (n : Nat) : FlowMeter := Tab.get {} s.stream.meters n
def setMeter (s : State) (n : Nat) (m : FlowMeter) : State :=
  { s with stream := { s.stream with meters := Tab.set {} s.stream.meters n m } }

/-- The filter that takes a frame, in the order of R230. -/
def filterFor (s : State) (handle : Option Nat) (prio : Nat) : Option Nat :=
  let has (f : StreamFilter) : Bool := !f.anyHandle && handle == some f.handle
  let find (p : StreamFilter → Bool) : Option Nat := Tab.findKey (fun _ f => f.enabled && p f) s.stream.filters
  (find (fun f => has f && !f.anyPrio && f.prio == prio)).or <|
  (find (fun f => has f && f.anyPrio)).or <|
  (find (fun f => f.anyHandle && !f.anyPrio && f.prio == prio)).or
  (find (fun f => f.anyHandle && f.anyPrio))

end State

/-- Units of a meter's tokens in one byte, and what a rate in kb/s gives in 2^-16 ns. -/
abbrev meterByte : Nat := 2 ^ 20 * 500000
def meterGain (kbps dt : Nat) : Int := (kbps * dt : Nat)

/-- Bring a meter's buckets up to an instant, R233. -/
def meterUpdate (m : FlowMeter) (t : Nat) : FlowMeter :=
  let t := max t m.last
  let dt := t - m.last
  let c := m.c + meterGain m.cir dt
  let spill := max 0 (c - m.cbs * meterByte)
  let e := m.e + meterGain m.eir dt + (if m.couple then spill else 0)
  { m with last := t, c := min c (m.cbs * meterByte), e := min e (m.ebs * meterByte) }

/-- The colours of R233. -/
inductive Colour where
  | green | yellow | red
deriving DecidableEq, Repr

/-- Colour a frame of b bytes received at t, R233 and R234. -/
def meterColour (m : FlowMeter) (b t : Nat) (dei : Bool) : Colour × FlowMeter :=
  let m := meterUpdate m t
  if m.markRed then (.red, { m with red := m.red + 1 })
  else if !(m.aware && dei) && 0 ≤ m.c then (.green, { m with c := m.c - b * meterByte, green := m.green + 1 })
  else if 0 ≤ m.e then (.yellow, { m with e := m.e - b * meterByte, yellow := m.yellow + 1 })
  else (.red, { m with red := m.red + 1, markRed := m.markRed || m.markEn })

namespace State

/-- Police a frame: whether it goes on, and whether its DEI is to be set. -/
def police (s : State) (handle : Option Nat) (prio len t : Nat) (dei : Bool) : Bool × Bool × State :=
  match s.filterFor handle prio with
  | none => (true, false, s)
  | some n =>
    let f := { s.filter n with matched := (s.filter n).matched + 1 }
    if f.blocked then (false, false, s.setFilter n { f with blockedCount := f.blockedCount + 1 })
    else
      let f := { f with passed := f.passed + 1 }
      if f.maxSdu != 0 && f.maxSdu < len then
        (false, false, s.setFilter n { f with tooLong := f.tooLong + 1, blocked := f.blockEn })
      else
        let f := { f with sduPassed := f.sduPassed + 1 }
        if f.noMeter then (true, false, s.setFilter n f)
        else
          let m := meterColour (s.meter f.meter) len t dei
          let s := s.setMeter f.meter m.2
          match m.1 with
          | .green => (true, false, s.setFilter n f)
          | .red => (false, false, s.setFilter n { f with red := f.red + 1 })
          | .yellow =>
            if m.2.dropYellow then (false, false, s.setFilter n { f with yellowDropped := f.yellowDropped + 1 })
            else (true, true, s.setFilter n f)

end State

/-! ### Recovery functions, R359 to R363 -/

/-- Outcomes of the second domain. -/
inductive Verdict where
  | pass | discard | held
deriving DecidableEq, Repr

/-- Zeros among n history bits from bit lo. -/
def zerosIn (h lo : Nat) : Nat → Nat
  | 0 => 0
  | n + 1 => zerosIn h (lo + 1) n + (if bit h lo then 0 else 1)

/-- vector_recovery of R359 at a tick; the counts are those of the function (DEDUCED, log entry 102). -/
def vectorRecovery (r : Recovery) (q seq now : Nat) : Bool × Recovery :=
  let pass (r : Recovery) : Bool × Recovery := (true, { r with passed := r.passed + 1, lastPass := now })
  if r.takeAny then pass { r with recovSeq := seq, history := 2 ^ 1024 - 1, takeAny := false }
  else
    let d : Nat := (seq + q - r.recovSeq % q) % q
    let ahead := d < q / 2
    let n := if ahead then d else q - d
    if r.histLen ≤ n then (false, { r with rogue := r.rogue + 1 })
    else if !ahead || d = 0 then
      if bit r.history n then (false, { r with discarded := r.discarded + 1 })
      else pass { r with history := r.history + 2 ^ n, outOfOrder := r.outOfOrder + 1 }
    else
      let lost := zerosIn r.history (r.histLen - d) d
      pass { r with outOfOrder := if 1 < d then r.outOfOrder + 1 else r.outOfOrder
                    lost := r.lost + BitVec.ofNat 64 lost
                    history := (r.history * 2 ^ d) % 2 ^ r.histLen + 1, recovSeq := seq }

/-- match_recovery of R360. -/
def matchRecovery (r : Recovery) (q seq now : Nat) : Bool × Recovery :=
  let pass (r : Recovery) : Bool × Recovery := (true, { r with passed := r.passed + 1, lastPass := now })
  if r.takeAny then pass { r with recovSeq := seq, takeAny := false }
  else if seq = r.recovSeq then (false, { r with discarded := r.discarded + 1 })
  else pass { r with recovSeq := seq, outOfOrder := if seq != (r.recovSeq + 1) % q then r.outOfOrder + 1 else r.outOfOrder }

namespace State

/-- Add to the aggregates what a function's counters gained. -/
def rcvyTotals (s : State) (a b : Recovery) : State :=
  ((((s.countN (stmBase + 0x228) (b.passed - a.passed).toNat).countN (stmBase + 0x230) (b.discarded - a.discarded).toNat).countN
    (stmBase + 0x238) (b.outOfOrder - a.outOfOrder).toNat).countN (stmBase + 0x240) (b.lost - a.lost).toNat).countN
    (stmBase + 0x248) (b.rogue - a.rogue).toNat

/-- A standby, and a post in copy, runs on mirrored delivery points and keeps what it would deliver, R623. -/
def mirrored (s : State) : Bool := s.bent.role == .standby || s.bent.role == .resync

/-- Keep a frame under its function or account and number, R623. -/
def keep (s : State) (id : Nat) (isAccount : Bool) (target path seq : Nat) : State :=
  let until_ := s.time.ticks + usTicks (s.reg (bntBase + 0xC))
  { s.modFrame id (fun f => { f with stage := .kept }) with
    bent := { s.bent with kept := s.bent.kept ++
      [{ frame := id, isAccount := isAccount, target := target, path := path, seq := seq, until_ := until_ }] } }

/-- A frame passes a recovery function. -/
def recover (s : State) (id r : Nat) (v : View) : Verdict × State :=
  let f := s.rcvy r
  match (v.seqOf f.format).bind (ownSeq f.format f.skipZero) with
  | none => (.discard, (s.setRcvy r { f with tagless := f.tagless + 1 }).count (stmBase + 0x250))
  | some n =>
    let q := seqMod f.format f.skipZero
    let x := if f.alg = 0 then vectorRecovery f q n s.time.ticks else matchRecovery f q n s.time.ticks
    if x.1 && s.mirrored then (.held, s.keep id false r 0 n)
    else
      let s := (s.setRcvy r x.2).rcvyTotals f x.2
      if x.1 then (.pass, s.modFrame id (fun g => { g with seq := wireSeq (rcvySkip f) n, seqValid := true }))
      else (.discard, s)

/-- A frame of a stream entry reaches the second domain, R331, R365 and R366. -/
def recoverEntry (s : State) (id h port : Nat) (v : View) : Verdict × State :=
  let e := s.entry h
  if !e.rcvyEn then (.pass, s)
  else if !e.unrecovered then s.recover id e.rcvy v
  else if s.rcvyInUse < maxRcvy then
    let b := s.bindRcvy (s.learnParams e.rule) e.format
    let s := (b.2.setEntry h { b.2.entry h with unrecovered := false, rcvy := b.1 }).mirrorEntryOf h
    (s.streamNotice 3 false h b.1).recover id b.1 v
  else if s.learnPrimary e.rule port then (.pass, s)
  else (.discard, s.count (stmBase + 0x268))

/-! ### Accounts, R372 to R376 -/

/-- Cells of the ordering pool, R798. -/
def poolCells (s : State) : Nat := s.memCap / 32 / 256
def poolUsed (s : State) : Nat :=
  s.stream.accounts.foldl (fun n p => p.2.held.foldl (fun n h => n + h.cells) n) 0

/-- POOL_FULL clears when a quarter of the pool is free, R375. -/
def poolDrained (s : State) : State :=
  if s.stream.poolFull && s.poolUsed * 4 ≤ s.poolCells * 3 then
    { s with stream := { s.stream with poolFull := false } } else s

/-- deliver of R372: a frame of an account goes to the steer as number NEXT from a path. -/
def deliver (s : State) (a id path : Nat) : State :=
  let x := s.account a
  let s := s.modFrame id (fun f => { f with seq := wireSeq x.skipZero x.next, seqValid := true, account := some a, path := path
                                            wq := some x.wq, meterPoint := x.meterPoint
                                            legal := x.metering && s.glb.metrology
                                            gap := if x.gap = 0 then none else some (min x.gap 65535) })
  (s.setAccount a { x with delivered := (2 * x.delivered + 1) % 2 ^ 1024, next := (x.next + 1) % accountQ x, gap := 0
                           passed := x.passed + 1, lastPass := s.time.ticks
                           won := Tab.set 0 x.won path (Tab.get 0 x.won path + 1) }).count (stmBase + 0x280)

/-- A held frame leaves the pool for a new thread, R397. -/
def release (s : State) (id : Nat) : State :=
  { s.modFrame id (fun f => { f with stage := .dispatch, place := .hold }) with
    joinery := { s.joinery with released := s.joinery.released ++ [id] } }

/-- Deliver the held packet of NEXT. -/
def deliverOneHeld (s : State) (a : Nat) (h : HeldPacket) : State :=
  let x := s.account a
  let s := s.setAccount a { x with held := x.held.filter (fun y => y.seq != h.seq) }
  ((s.deliver a h.frame h.path).release h.frame).poolDrained

/-- deliver_held of R372; at most n packets are held. -/
def deliverHeld (s : State) (a : Nat) : Nat → State
  | 0 => s
  | n + 1 =>
    let x := s.account a
    match x.held.find? (fun h => h.seq == x.next) with
    | none => s
    | some h => (s.deliverOneHeld a h).deliverHeld a n

/-- The loop of release_through over n numbers; `run` while numbers are being skipped. A number of the skip set is
passed over without counting a gap (R637). -/
def releaseLoop (s : State) (a : Nat) (run : Bool) : Nat → State
  | 0 => s
  | n + 1 =>
    let x := s.account a
    match x.held.find? (fun h => h.seq == x.next) with
    | some h => (s.deliverOneHeld a h).releaseLoop a false n
    | none =>
      let skip : Account := { x with delivered := 2 * x.delivered % 2 ^ 1024, next := (x.next + 1) % accountQ x }
      if x.skipSet.contains x.next then
        (s.setAccount a { skip with delivered := (2 * x.delivered + 1) % 2 ^ 1024
                                    skipSet := x.skipSet.filter (· != x.next) }).releaseLoop a false n
      else
        let s := if run then s else s.count (stmBase + 0x2A8)
        ((s.count (stmBase + 0x2B0)).setAccount a
          { skip with gapSeqs := x.gapSeqs + 1, gap := x.gap + 1
                      gapReleased := if run then x.gapReleased else x.gapReleased + 1 }).releaseLoop a true n

/-- release_through of R372: deliver or skip every number up to t. -/
def releaseThrough (s : State) (a t : Nat) : State :=
  let x := s.account a
  let q := accountQ x
  let s := s.releaseLoop a false ((t + 1 + q - x.next % q) % q)
  (s.deliverHeld a (s.account a).held.length).mirrorAccountOf a

/-- The highest number held, counted from NEXT. -/
def highestHeld (x : Account) : Nat :=
  let q := accountQ x
  let d := x.held.foldl (fun m h => max m ((h.seq + q - x.next % q) % q)) 0
  (x.next + d) % q

/-- account_packet of R372 for a frame received on a path, with the number of its control word. -/
def accountPacket (s : State) (a path id : Nat) (num : Nat) : Verdict × State :=
  let x0 := s.account a
  let s := s.setAccount a { x0 with rx := Tab.set 0 x0.rx path (Tab.get 0 x0.rx path + 1) }
  let x := s.account a
  let q := accountQ x
  match ownSeq 3 x.skipZero num with
  | none => (.discard, (s.setAccount a { x with tagless := x.tagless + 1 }).count (stmBase + 0x250))
  | some n =>
    let x := if x.takeAny then { x with next := n, delivered := 0, takeAny := false } else x
    let d := (n + q - x.next % q) % q
    if q - 1024 ≤ d then
      if bit x.delivered (q - 1 - d) || x.skipSet.contains n then
        (.discard, (s.setAccount a { x with duplicate := x.duplicate + 1 }).count (stmBase + 0x288))
      else (.discard, (s.setAccount a { x with late := x.late + 1 }).count (stmBase + 0x290))
    else if 1024 ≤ d then (.discard, (s.setAccount a { x with rogue := x.rogue + 1 }).count (stmBase + 0x298))
    else if x.skipSet.contains n || (0 < d && x.held.any (fun h => h.seq == n)) then
      (.discard, (s.setAccount a { x with duplicate := x.duplicate + 1 }).count (stmBase + 0x288))
    else if s.mirrored then (.held, s.keep id true a path n)
    else
      let s := s.setAccount a x
      let s := if x.window ≤ d then s.releaseThrough a ((n + q - x.window) % q) else s
      let x := s.account a
      let d := (n + q - x.next % q) % q
      let cells := cellsOf ((s.frame id).map (·.bytes.length) |>.getD 0)
      let full := 0 < d && s.poolCells < s.poolUsed + cells
      let s := if !full then s else
        let s := (s.setAccount a { x with poolFull := x.poolFull + 1 }).count (stmBase + 0x2B8)
        let first := !s.stream.poolFull
        let s := { s with stream := { s.stream with poolFull := true } }
        let s := if first then s.raise 0x0B0 0x25 1 else s
        s.releaseThrough a ((n + q - 1) % q)
      let x := s.account a
      if 0 < d && !full then
        let s := s.setAccount a { x with holdStart := if x.held.isEmpty then s.time.ticks else x.holdStart
                                         heldTotal := x.heldTotal + 1
                                         held := x.held ++ [{ seq := n, path := path, frame := id, cells := cells }] }
        (.held, ((s.modFrame id (fun f => { f with stage := .ordered })).count (stmBase + 0x2A0)).mirrorAccountOf a)
      else
        let s := s.deliver a id path
        (.pass, s.deliverHeld a (s.account a).held.length)

/-! ### Timers, R335 -/

/-- A recovery function's RESET_MS has passed since LAST_PASS, R362. -/
def rcvyReset (s : State) (r : Nat) : State :=
  let f := s.rcvy r
  if f.state = 0 || f.takeAny then s else
    let s := s.advanceTo (f.lastPass + msTicks f.resetMs)
    ((s.setRcvy r { f with takeAny := true, resets := f.resets + 1 }).count (stmBase + 0x258)).mirrorRcvyOf r

/-- Has a test period a latent error, R363? -/
def latent (paths passed discarded diff : Nat) : Bool :=
  let d : Int := (paths * passed : Nat) - (discarded : Nat)
  (diff : Int) < d.natAbs

/-- The latent-error test of a function at the end of a period, R363. -/
def rcvyLatent (s : State) (r : Nat) : State :=
  let f := s.rcvy r
  if f.state = 0 || !f.leEn then s else
    let s := s.advanceTo (f.leStart + msTicks f.lePeriod)
    let bad := latent f.paths (modSub 64 f.passed.toNat f.leBasePassed) (modSub 64 f.discarded.toNat f.leBaseDiscarded) f.leDiff
    let s := s.setRcvy r { f with leStart := s.time.ticks, leBasePassed := f.passed.toNat
                                  leBaseDiscarded := f.discarded.toNat
                                  latentErrors := if bad then f.latentErrors + 1 else f.latentErrors }
    if bad then (s.count (stmBase + 0x260)).streamNotice 1 false (s.handleOfRcvy r) r else s

/-- The same for an account, R378. -/
def accountLatent (s : State) (a : Nat) : State :=
  let x := s.account a
  if !x.defined || !x.leEn then s else
    let s := s.advanceTo (x.leStart + msTicks x.lePeriod)
    let paths := (x.paths.filter (·.valid)).length - 1
    let bad := latent paths (modSub 64 x.passed.toNat x.leBasePassed) (modSub 64 x.duplicate.toNat x.leBaseDuplicate) x.leDiff
    let s := s.setAccount a { x with leStart := s.time.ticks, leBasePassed := x.passed.toNat
                                     leBaseDuplicate := x.duplicate.toNat
                                     latentErrors := if bad then x.latentErrors + 1 else x.latentErrors }
    if bad then (s.count (stmBase + 0x260)).streamNotice 1 true a 0 else s

/-- HOLD_MAX has passed since HOLD_START, R373. -/
def holdExpire (s : State) (a : Nat) : State :=
  let x := s.account a
  if x.held.isEmpty then s else
    let s := s.advanceTo (x.holdStart + usTicks x.holdMax)
    s.releaseThrough a (highestHeld x)

/-- RESET_MS has passed since an account's last delivery with nothing held, R374. -/
def accountReset (s : State) (a : Nat) : State :=
  let x := s.account a
  if !x.defined || x.takeAny || !x.held.isEmpty then s else
    let s := s.advanceTo (x.lastPass + msTicks x.resetMs)
    (((s.setAccount a { x with takeAny := true, resets := x.resets + 1 }).count (stmBase + 0x2C8)).streamNotice
      4 true a 0).mirrorAccountOf a

/-- A learned entry without a frame for LEARN_AGE, R347. -/
def learnAge (s : State) (h : Nat) : State :=
  let e := s.entry h
  if e.state != 2 then s else
    let s := s.advanceTo ((e.lastSeen + s.reg (stmBase + 0x44)) * 781250)
    (s.forget h).count (stmBase + 0x218)

end State

/-! ### Meanings of the timers -/

/-- LEARN_AGE_EXPIRE of the entry with a handle. -/
def execLearnAgeExpire (h : Nat) (s : State) : Result := ok (if s.mirrored then s else s.learnAge h)

/-- RCVY_RESET_TIMEOUT of a recovery function. -/
def execRcvyResetTimeout (r : Nat) (s : State) : Result := ok (if s.mirrored then s else s.rcvyReset r)

/-- LATENT_ERROR_TEST of a recovery function or an account. -/
def execLatentErrorTest (isAccount : Bool) (i : Nat) (s : State) : Result :=
  ok (if s.mirrored then s else if isAccount then s.accountLatent i else s.rcvyLatent i)

/-- ACCOUNT_HOLD_EXPIRE of an account. -/
def execAccountHoldExpire (a : Nat) (s : State) : Result := ok (if s.mirrored then s else s.holdExpire a)

/-- ACCOUNT_RESET_TIMEOUT of an account. -/
def execAccountResetTimeout (a : Nat) (s : State) : Result := ok (if s.mirrored then s else s.accountReset a)

end Sys2Proof.Machine
end

