-- ==== Sys2Proof/Machine/Joinery.lean ====
section
/-!
DEFINITION. The joinery (chapter 9): dispatch, the vendor path on receive and on transmit, hooks, the destination set,
order, edits, fencing and rotation, and the events of chapter 10 that load and scrub the control store.
-/

namespace Sys2Proof.Machine

/-- Was the frame received at a port? -/
def FrameOrigin.isRx : FrameOrigin → Bool
  | .rx _ => true
  | _ => false

def jnrCount (k : Nat) : Nat := jnrBase + 0x100 + 8 * k
def hookCounter (i : Nat) : Nat := jnrBase + 0x10000 + 8 * i
/-- Six hook-setting words: CFG, PORTS and KINDS of HK1, then of HK2. -/
def hookOffsets : List Nat := [0x20, 0x24, 0x28, 0x30, 0x34, 0x38]
/-- Source identifier of a cluster's control-store copy, and of a joiner's threads, R705. -/
def copySource (c : Nat) : Nat := 0x2C0 + 2 * c
def joinerSource (j : Nat) : Nat := 0x201 + 4 * j

namespace State

def thread (s : State) (k : Nat) : Option Thread := Tab.get none s.joinery.threads k
def setThread (s : State) (k : Nat) (t : Option Thread) : State :=
  { s with joinery := { s.joinery with threads := Tab.set none s.joinery.threads k t } }
def modThread (s : State) (k : Nat) (f : Thread → Thread) : State := s.setThread k ((s.thread k).map f)

/-- The thread that holds a frame. -/
def threadOf (s : State) (id : Nat) : Option Nat :=
  Tab.findKey (fun _ t => match t with | some t => t.frame == id | none => false) s.joinery.threads

def joinerFence (s : State) (j : Nat) : JoinerFence := Tab.get JoinerFence.none s.joinery.fences j
def setJoinerFence (s : State) (j : Nat) (f : JoinerFence) : State :=
  { s with joinery := { s.joinery with fences := Tab.set JoinerFence.none s.joinery.fences j f } }

/-- May a joiner receive frames, R398? -/
def joinerOpen (s : State) (j : Nat) : Bool :=
  s.joinerFence j == .none && !s.joinery.gated.contains (j / 8) && !s.fenced (0x200 + 4 * j)
    && !s.fenced (0x2C0 + 2 * (j / 8))

def freeThreads (s : State) (j : Nat) : Nat :=
  if s.joinerOpen j then ((upto (4 * j) 4).filter (fun k => (s.thread k).isNone)).length else 0
def clusterFree (s : State) (c : Nat) : Nat := (upto (8 * c) 8).foldl (fun n j => n + s.freeThreads j) 0

end State

/-- The lowest number of a list with the greatest value of a measure, if that is not 0. -/
def mostOf (l : List Nat) (f : Nat → Nat) : Option Nat :=
  let m := l.foldl (fun m x => max m (f x)) 0
  if m = 0 then none else l.find? (fun x => f x == m)

namespace State

/-- The joiner that gets the next frame, R398. -/
def chooseJoiner (s : State) : Option Nat :=
  (mostOf (upto 0 6) s.clusterFree).bind (fun c => mostOf (upto (8 * c) 8) s.freeThreads)

/-! ### Order, R401 to R403 -/

def orderAdd (s : State) (key id : Nat) : State :=
  { s with joinery := { s.joinery with order := Tab.set [] s.joinery.order key (Tab.get [] s.joinery.order key ++ [id]) } }

/-- A frame leaves every order list. -/
def orderDrop (s : State) (id : Nat) : State :=
  { s with joinery := { s.joinery with order := Tab.mapAll [] (fun _ l => l.filter (· != id)) s.joinery.order } }

/-- Is a frame at the head of every list that holds it? -/
def orderHead (s : State) (id : Nat) : Bool := s.joinery.order.all (fun p => !p.2.contains id || p.2.head? == some id)

/-- Discard a frame: it reaches no destination. -/
def dropFrame (s : State) (id : Nat) : State := (s.orderDrop id).freeFrame id

/-! ### What a port's copy gets -/

def editAt (s : State) (p : Nat) : EditAt :=
  let w := s.reg (stmBase + 0x80 + 4 * p)
  { egress := true, prpLan := w % 2, hsrPath := bits w 4 4 }

/-- Ingress port of a frame; PRP trailers were read under the rules of that port. -/
def inPort (f : Frame) : Nat := match f.origin with | .rx p => p | _ => 25

/-- Does the parser read a PRP trailer in this frame? -/
def readsPrp (s : State) (f : Frame) : Bool := match f.origin with | .rx p => s.prpPort p | _ => false

def viewOf (s : State) (f : Frame) : View := parse f.bytes (s.readsPrp f) s.dcwPort

/-- A frame's bytes as they leave on an egress port, as a slot payload (LanId A, DEDUCED, log entry 15), and as the dray
writes them (R417). -/
def egressBytes (s : State) (f : Frame) (p : Nat) : List Byte :=
  applyEdits f.bytes (s.readsPrp f) s.dcwPort f.edits (s.editAt p)
/-- DEDUCED, log entry 15. -/
def slotBytes (s : State) (f : Frame) : List Byte :=
  applyEdits f.bytes (s.readsPrp f) s.dcwPort f.edits { egress := true }
def hostBytes (s : State) (f : Frame) : List Byte := applyEdits f.bytes (s.readsPrp f) s.dcwPort f.edits {}

/-! ### Destinations, R19, R403, R415 -/

/-- A frame reaches an RX queue, R492. -/
def arriveWq (s : State) (id q : Nat) : State :=
  let w := s.queue q
  if w.state != .running || w.kind != .rx then
    (s.modQueue q (fun w => { w with cDeliveryDiscarded := w.cDeliveryDiscarded + 1 })).releaseWq id
  else
    let buffers := (w.fetched.filter (fun f => hdrKind (entryHdr f.bytes) == 2)).length
    let waits := buffers ≤ w.rxWait.length
    (s.setQueue q { w with rxWait := w.rxWait ++ [id], cNoBuffer := if waits then w.cNoBuffer + 1 else w.cNoBuffer }).modFrame
      id (fun f => { f with noBuf := waits, since := s.time.ticks })

/-- A frame reaches a slot source, R124 and R125: its payload is the frame as it will ride. -/
def arriveSlot (s : State) (id n : Nat) : State :=
  match s.frame id with
  | none => s
  | some f =>
    let refuse (st : Nat) : State := (s.copyOf f 25 st).releaseSlot id
    match s.slotLimit n with
    | none => refuse 1
    | some m =>
      if m < (s.slotBytes f).length then refuse 1
      else if 4 ≤ (s.source_ n).length then refuse 2
      else s.setSource_ n (s.source_ n ++ [id])

/-- A telegram reaches the window queue, or WQ with WINDOW_FULL, R34 and R415. -/
def arriveWindow (s : State) (id : Nat) : State :=
  match s.frame id with
  | none => s
  | some f =>
    let v := s.viewOf f
    if s.joinery.windowQueue.length < 65536 then
      let e : WindowEntry := { account := f.account.getD 0, point := f.meterPoint, path := f.path, seq := f.seq
                               rxTime := f.rxTime, rxFlag := f.rxFlag, telegram := f.bytes.drop v.payload, frame := id }
      { s with joinery := { s.joinery with windowQueue := s.joinery.windowQueue ++ [e] } }.count (jnrCount 16)
    else
      let s := s.count (jnrCount 17)
      let s := s.modFrame id (fun f => { f with window := false, windowFull := true })
      match f.wq with
      | some q => s.arriveWq id q
      | none => s.freeIfDone id

/-- A frame with its destination set fixed reaches its destinations. A port out of service is passed over for a frame
from elsewhere (DEDUCED, log entry 16) and refuses a host frame's copy with NO_TARGET. -/
def arrive (s : State) (id : Nat) : State :=
  match s.frame id with
  | none => s
  | some f =>
    let s := (s.orderDrop id).modFrame id (fun f => { f with stage := .steered, since := s.time.ticks })
    let live := f.egress.filter s.inService
    let dead := f.egress.filter (fun p => !s.inService p)
    let s := s.modFrame id (fun f => { f with egress := live })
    let s := dead.foldl (fun s p => s.copyOf f p 8) s
    let s := live.foldl (fun s p => s.modPort p (fun t => { t with arriving := t.arriving ++ [id] })) s
    let s := match f.wq with | some q => if f.window then s else s.arriveWq id q | none => s
    let s := match f.slot with | some n => s.arriveSlot id n | none => s
    let s := if f.window then s.arriveWindow id else s
    s.freeIfDone id

/-- Frames that are fixed and at the head of their order reach their destinations; at most n do. -/
def flushOrder (s : State) : Nat → State
  | 0 => s
  | n + 1 =>
    match Tab.findKey (fun id f => match f with
        | some f => f.handled && f.stage == .joinery && s.orderHead id | none => false) s.frames with
    | none => s
    | some id => (s.arrive id).flushOrder n

/-- A frame's thread retires with the destination set fixed. -/
def fixFrame (s : State) (k id : Nat) : State :=
  let s := (s.setThread k none).modFrame id (fun f => { f with handled := true })
  s.flushOrder s.frames.length

/-- A frame's thread retires and the frame is discarded; the frames behind it go on. -/
def retireDrop (s : State) (k id : Nat) : State :=
  let s := (s.setThread k none).dropFrame id
  s.flushOrder s.frames.length

/-! ### Classification, R409 -/

def classRule (s : State) (n : Nat) : List Byte := Tab.get [] s.joinery.rules n
def steerEntry (s : State) (n : Nat) : List Byte := Tab.get [] s.joinery.steers n

/-- Does a classification rule match a frame that arrived on a port? -/
def ruleMatches (b : List Byte) (port : Nat) (v : View) (kinds : Nat) : Bool :=
  fieldAt b 0 31 1 == 1 && bit (leAt b 0 4) port
    && (leAt b 4 2 == 0 || leAt b 4 2 == v.etype)
    && (fieldAt b 4 28 1 == 1 || fieldAt b 4 16 12 == v.vid)
    && (fieldAt b 8 8 1 == 1 || (v.ip != 0 && fieldAt b 8 0 8 == v.proto))
    && ((leAt b 0xA 2 == 0 && leAt b 0xC 2 == 0)
      || (v.l4 != 0 && leAt b 0xA 2 ≤ v.dport && v.dport ≤ leAt b 0xC 2))
    && (fieldAt b 0xC 16 8 == 0 || Nat.land (fieldAt b 0xC 16 8) kinds != 0)

/-- Steer entry and TS_RECORD of the first rule that matches; entry 0 and no record when none does. -/
def classify (s : State) (port : Nat) (v : View) (kinds : Nat) : Nat × Bool :=
  match s.joinery.rules.find? (fun p => ruleMatches p.2 port v kinds) with
  | some p => (fieldAt p.2 0x10 0 12, fieldAt p.2 0x10 16 1 == 1)
  | none => (0, false)

/-! ### Control store -/

/-- The customer words and hook settings of a load, R468. -/
def codeOf (s : State) (gen : Nat) : Tab Nat × List Nat :=
  match s.joinery.past.find? (fun g => g.gen == gen) with
  | some g => (g.words, g.hooks)
  | none => (s.joinery.words, hookOffsets.map (fun o => s.reg (jnrBase + o)))

def upset (s : State) (c a : Nat) : Nat := Tab.get 0 s.joinery.upsets (16384 * c + a)
def setUpset (s : State) (c a v : Nat) : State :=
  { s with joinery := { s.joinery with upsets := Tab.set 0 s.joinery.upsets (16384 * c + a) v } }

/-- A double-bit error: the first good copy of the other clusters is written back, R437. -/
def repairWord (s : State) (c a w : Nat) : Option Nat × State :=
  let good (j : Nat) : Bool := eccCheck (Nat.xor w (s.upset j a)) != .double
  match ((upto 1 5).map (fun i => (c + i) % 6)).find? good with
  | some _ => (some w, (s.setUpset c a 0).count (jnrCount 20))
  | none => (none, (s.count (jnrCount 21)).raise (copySource c) 0x06 1 a)

/-- A cluster fetches a customer word that should be w, R437. -/
def fetchWord (s : State) (c a w : Nat) : Option Nat × State :=
  match eccCheck (Nat.xor w (s.upset c a)) with
  | .good => (some (Nat.xor w (s.upset c a)), s)
  | .corrected x => (some x, (s.count (jnrCount 19)).raise (copySource c) 0x05 0 a)
  | .double => s.repairWord c a w

/-- The scrub reads one word of a cluster's copy, R438; the counts and messages are those of R437. -/
def scrubWord (s : State) (c a : Nat) : State :=
  if !isCustomer a then s else
    let w := Tab.get hretWord (s.codeOf (Tab.get 0 s.joinery.loaded c)).1 a
    match eccCheck (Nat.xor w (s.upset c a)) with
    | .good => s
    | .corrected _ => ((s.setUpset c a 0).count (jnrCount 19)).raise (copySource c) 0x05 0 a
    | .double => (s.repairWord c a w).2

/-! ### Hooks, R425 to R427 and R461 to R464 -/

/-- Settings of a hook point in a load: CFG, PORTS, KINDS. -/
def hookSet (hooks : List Nat) (point : Nat) : Nat × Nat × Nat :=
  let o := if point = 1 then 0 else 3
  (hooks.getD o 0, hooks.getD (o + 1) 0, hooks.getD (o + 2) 0)

/-- What a frame shows to customer words, R441. -/
def hookCtx (s : State) (k : Nat) (t : Thread) (f : Frame) (point : Nat) : HookCtx :=
  let v := s.viewOf f
  let e := if point = 2 && f.account.isNone then s.steerEntry t.steerIx else []
  { bytes := f.bytes, arrived := if f.whole then f.bytes.length else f.arrived, whole := f.whole, kinds := f.kind
    port := inPort f, l4off := if v.l4 = 0 then 0xFFFF else v.l4, etype := v.etype
    tci := match v.tags with | [] => 0 | (_, x) :: _ => x + 65536
    handle := if point = 1 then 0xFFFFFFFF else f.handle.getD 0xFFFFFFFF
    acct := f.account.getD 0xFFFFFFFF, steerIx := t.steerIx
    harg := leAt e 0x10 4, flowTag := if point = 2 then f.ftag.toNat else 0, tc := if point = 2 then f.cls else 0
    rxns := bits (toStamp f.rxTime) 16 32, rxsec := bits (toStamp f.rxTime) 48 32, cycle := s.nowCycle.toNat, thread := k
    tables := (upto 0 4).map (fun i => Tab.get [] s.joinery.hookTables i) }

/-- How a hook stands after running. -/
inductive HookEnd where
  | done | waits | dropped
deriving DecidableEq, Repr

/-- Apply committed effects in the order staged, R419, R460 and R463. -/
def commitStaged (s : State) (k id : Nat) (l : List Staged) : State :=
  l.foldl (fun s e =>
    match e with
    | .edit x => s.modFrame id (fun f => { f with edits := f.edits ++ [x] })
    | .record on => s.modFrame id (fun f => { f with tsRecord := on })
    | .steer op v => s.modThread k (fun t => { t with overrides := t.overrides ++ [(op, v)] })
    | .count i n => s.countN (hookCounter i) n) s

/-- A hook ends: its staged effects commit, unless a ninth edit would be recorded, or are discarded. -/
def endHook (s : State) (k id : Nat) (h : HookRun) (how : IssueEnd) : State :=
  let edits := (h.staged.filter (fun e => match e with | .edit _ => true | _ => false)).length
  let have_ := ((s.frame id).map (·.edits.length)).getD 0
  let s := match how with
    | .commit => if 8 < edits + have_ then s.count (jnrCount 12) else s.commitStaged k id h.staged
    | .discard => s
    | _ => s.count (jnrCount 9)
  s.modThread k (fun t => { t with hook := none })

/-- Run the hook of a thread: at most n more words, R464. -/
def runHook (s : State) (k : Nat) (budget : Nat) : Nat → HookEnd × State
  | 0 => (.done, s)
  | n + 1 =>
    match s.thread k with
    | none => (.done, s)
    | some t =>
      match t.hook, s.frame t.frame with
      | some h, some f =>
        let w := Tab.get hretWord (s.codeOf t.gen).1 h.pc
        let r := s.fetchWord (k / 32) h.pc w
        match r.1 with
        | none => (.dropped, r.2.retireDrop k t.frame)
        | some w =>
          let x := r.2.fresh
          let i := issueWord (x.2.hookCtx k t f h.point) h t.wbase w x.1.toNat
          let s := if wordSealed w && i.1.issued != h.issued then x.2.countN (jnrCount 11)
              (flag (3 ≤ wTs w && wTs w ≤ 6) + flag (wSteer w == 8)) else x.2
          let s := s.modThread k (fun t => { t with hook := some i.1, wbase := i.2.1 })
          match i.2.2 with
          | .next _ => if budget ≤ i.1.issued then (.done, s.endHook k t.frame i.1 .cut) else s.runHook k budget n
          | .waitBytes o =>
            (.waits, (s.count (jnrCount 5)).modThread k (fun t => { t with wait := .bytes o, since := s.time.ticks }))
          | .waitEnd => (.waits, s.modThread k (fun t => { t with wait := .frameEnd, since := s.time.ticks }))
          | .waitLookup => (.waits, s.modThread k (fun t => { t with wait := .lookup, since := s.time.ticks }))
          | e => (.done, s.endHook k t.frame i.1 e)
      | _, _ => (.done, s)

/-- Register contents at hook entry: what the vendor path left, which no rule fixes (R462). -/
def freshRegs : Nat → State → Tab Word × State
  | 0, s => ([], s)
  | n + 1, s =>
    let r := freshRegs n s
    let x := r.2.fresh
    (Tab.set 0 r.1 n (x.1.setWidth 32), x.2)

/-- Enter a hook at a point. -/
def enterHook (s : State) (k point entry : Nat) : State :=
  let r := freshRegs 32 s
  let x := r.2.fresh
  let y := x.2.fresh
  let z := y.2.fresh
  let u := z.2.fresh
  let n := x.1.toNat
  let h : HookRun :=
    { point := point, pc := entry, regs := r.1, za := bit n 0, na := bit n 1, ca := bit n 2, zb := bit n 3, nb := bit n 4
      cb := bit n 5, key := (leBytes 8 y.1.toNat ++ leBytes 8 z.1.toNat).take (4 * (bits n 8 8 % 5))
      lk := [z.1.setWidth 32, y.1.setWidth 32, u.1.setWidth 32, (u.1 >>> 32).setWidth 32] }
  (u.2.modThread k (fun t => { t with hook := some h, hooked := true })).count (jnrCount (if point = 1 then 7 else 8))

/-- Do the conditions of R461 but for the bypass hold? -/
def hookWanted (s : State) (t : Thread) (f : Frame) (point : Nat) : Bool :=
  let c := hookSet (s.codeOf t.gen).2 point
  bit c.1 15 && f.origin.isRx && (point == 2 || f.account.isNone)
    && bit c.2.1 (inPort f) && (c.2.2 % 256 == 0 || Nat.land (c.2.2 % 256) f.kind != 0)

/-- Reach a hook point: answers whether the thread goes on at once. -/
def hookPoint (s : State) (k point : Nat) : HookEnd × State :=
  match s.thread k with
  | none => (.dropped, s)
  | some t =>
    match s.frame t.frame with
    | none => (.dropped, s)
    | some f =>
      if t.hook.isSome then s.runHook k (bits (hookSet (s.codeOf t.gen).2 point).1 16 13) 8192
      else if Tab.get 0 s.joinery.loaded (k / 32) < t.gen then
        (.waits, s.modThread k (fun t => { t with wait := .load, since := s.time.ticks }))
      else if !s.hookWanted t f point then (.done, s)
      else if f.legal || f.legalPending then (.done, s.count (jnrCount 10))
      else
        let c := hookSet (s.codeOf t.gen).2 point
        (s.enterHook k point (c.1 % 16384)).runHook k (bits c.1 16 13) 8192

/-! ### Steer, R410 to R414, R459 -/

/-- The last value that a steer op of the overrides gives. -/
def lastSteer (t : Thread) (op : Nat) : Option Nat := ((t.overrides.filter (fun p => p.1 == op)).getLast?).map (·.2)

/-- CRC-32 of the IP 5-tuple, or of the MAC addresses and VID, R412, over their bytes in wire order (DEDUCED, log
entry 17) (DEDUCED, log entry 17). -/
def tupleCrc (v : View) : Nat :=
  if v.ip = 0 then crc32 (beBytes 6 v.dst ++ beBytes 6 v.src ++ beBytes 2 v.vid)
  else
    let n := if v.ip = 4 then 4 else 16
    crc32 (beBytes n v.ipSrc ++ beBytes n v.ipDst ++ beBytes 1 v.proto ++ beBytes 2 v.sport ++ beBytes 2 v.dport)

/-- The flow tag that an entry gives; a frame without a stream handle has none in mode 1, so it is free there. -/
def entryFlowTag (s : State) (e : List Byte) (f : Frame) (v : View) : Nat × State :=
  match fieldAt e 0 8 2 with
  | 1 => match f.handle with
    | some h => (h, s)
    | none => (s.fresh.1.toNat % 2 ^ 32, s.fresh.2)
  | 2 => (tupleCrc v, s)
  | _ => (leAt e 8 4, s)

/-- The class that an entry gives. -/
def entryClass (e : List Byte) (f : Frame) : Nat := if fieldAt e 0 13 1 = 1 then f.prio % 8 else fieldAt e 0 10 3

/-- The edits of a steer entry, R412 and R417. -/
def entryEdits (e : List Byte) (v : View) : List Edit :=
  let tci := fieldAt e 0xC 0 12 + 8192 * fieldAt e 0xC 12 3
  let vlan : List Edit := match fieldAt e 0 14 2 with
    | 1 => [.vlanPush 0x8100 tci]
    | 2 => [.vlanPop]
    | 3 => [.vlanRewrite tci (fieldAt e 0xC 15 1 == 1)]
    | _ => []
  let num := match v.tag with | some (_, _, _, n) => some n | none => v.prp.map (·.2)
  let tag : List Edit := match fieldAt e 0 4 2, num with
    | 1, some _ => [.seqRemove]
    | 2, some n => [.seqRemove, .seqInsert (fieldAt e 0 6 2) n]
    | _, _ => []
  tag ++ vlan

/-- PTP message type of a frame and the offset of its header: over Ethernet, or over UDP port 319 or 320. -/
def ptpAt (v : View) (b : List Byte) : Option (Nat × Nat) :=
  if v.etype = 0x88F7 then some (beAt b v.l3 1 % 16, v.l3)
  else if v.proto = 17 && v.l4 != 0 && (v.dport == 319 || v.dport == 320) then some (beAt b v.payload 1 % 16, v.payload)
  else none

/-- The twoStepFlag of a PTP message. -/
def twoStepSync (b : List Byte) (o : Nat) : Bool := bit (beAt b (o + 6) 1) 1

/-- Does a port belong to an instance, and which domain has it, R408? -/
def portDomain (s : State) (p : Nat) : Option Nat := (s.ptime p).joined.map (fun i => (s.ptpInst i).domain)

/-- Keep or use the residence time of a two-step Sync per egress port, R421; the residence is fixed when the copy leaves,
so the entry holds the receive time, and the Follow_Up takes what the port has put in its place. -/
def syncKey (b : List Byte) (o : Nat) : Nat × Nat × Nat × Nat := (beAt b (o + 4) 1, beAt b (o + 20) 8, beAt b (o + 28) 2, beAt b (o + 30) 2)

/-- The correctionField rules of R420 to R422 for a frame that leaves on egress ports; a copy that leaves protected is
forwarded unchanged, and counted in CF_SKIPPED once for the message (DEDUCED, log entry 93). -/
def ptpEdit (s : State) (id : Nat) (f : Frame) (v : View) : State :=
  match ptpAt v f.bytes with
  | none => s
  | some (m, o) =>
    if f.egress.isEmpty then s else
      let sealed := (f.egress.filter (fun p => s.txChan p f.sc != 0xFF))
      let short := v.ip == 6 && f.bytes.length < v.payload + beAt f.bytes (o + 2) 2 + 2
      let skip := short || sealed.length == f.egress.length
      let s := if m = 0 && twoStepSync f.bytes o then s
        else if (m = 0 || m = 1 || m = 8) && !skip && !sealed.isEmpty then s.count (jnrCount 15) else s
      let p2p := (s.ptime (inPort f)).joined.isSome && !(s.ptime (inPort f)).e2e
      if m = 0 && twoStepSync f.bytes o then
        let x := syncKey f.bytes o
        let add (s : State) (p : Nat) : State :=
          let l := Tab.get [] s.joinery.sync p
          let l := if 256 ≤ l.length then l.drop 1 else l
          let e : SyncEntry := { domain := x.1, senderId := BitVec.ofNat 64 x.2.1, senderPort := x.2.2.1
                                 seq := BitVec.ofNat 16 x.2.2.2, residence := f.rxTime, until_ := s.time.ticks + secTicks 1 }
          { s with joinery := { s.joinery with sync := Tab.set [] s.joinery.sync p (l ++ [e]) } }
        f.egress.foldl add s
      else if m = 0 || m = 1 then
        if skip then s.count (jnrCount 15)
        else (s.modFrame id (fun f => { f with edits := f.edits ++ [.residence (m == 0 && p2p)] })).count (jnrCount 13)
      else if m = 8 then
        let x := syncKey f.bytes o
        let known := (f.egress.filter (fun p => !sealed.contains p)).any (fun p => (Tab.get [] s.joinery.sync p).any (fun e =>
          e.domain == x.1 && e.senderId.toNat == x.2.1 && e.senderPort == x.2.2.1 && e.seq.toNat == x.2.2.2))
        if skip then s.count (jnrCount 15)
        else if known then (s.modFrame id (fun f => { f with edits := f.edits ++ [.followUp] })).count (jnrCount 13)
        else s.count (jnrCount 14)
      else s

/-- The account keeps its frames in the order of R372 to each destination, R403. -/
def accountKey (a : Nat) : Nat := 65536 + a

/-- The destination set of a received frame once its hooks are over. -/
def fixDestinations (s : State) (k : Nat) (t : Thread) (f : Frame) : State :=
  let id := t.frame
  let e := s.steerEntry t.steerIx
  let byEntry := f.account.isNone || f.acctEntry
  let base := if byEntry then
      { f with wq := if fieldAt e 0 0 1 = 1 then some (fieldAt e 0 16 12) else none
               egress := if fieldAt e 0 1 1 = 1 then (upto 0 25).filter (bit (leAt e 4 4)) else []
               slot := if fieldAt e 0 2 1 = 1 then some (fieldAt e 0xC 16 8) else none
               window := false, steer := t.steerIx }
    else { f with egress := [], slot := none, window := f.legal, steer := 0 }
  let base := match lastSteer t 5 with
    | some q => if base.wq.isSome then { base with wq := some (q % 4096) } else base
    | none => base
  let added := (t.overrides.filter (fun p => p.1 == 6)).map (fun p => p.2 % 32)
  let egress := (upto 0 25).filter (fun p => (base.egress.contains p || added.contains p) && p != inPort f)
  let base := { base with egress := egress, cls := ((lastSteer t 3).map (· % 8)).getD base.cls
                          ftag := ((lastSteer t 4).map (BitVec.ofNat 32)).getD base.ftag }
  if (lastSteer t 2).isSome || (base.wq.isNone && base.egress.isEmpty && base.slot.isNone && !base.window) then
    (s.count (jnrCount 4)).retireDrop k id
  else
    let s := s.setFrame id (some base)
    let s := s.ptpEdit id base (s.viewOf base)
    let s := if base.tsRecord && base.wq.isNone then (s.queueRxStamp base (inPort base) 0 0 none).2 else s
    s.fixFrame k id

/-- HK2 and what follows it. -/
def steerTail (s : State) (k : Nat) : State :=
  let r := s.hookPoint k 2
  match r.1 with
  | .done =>
    match r.2.thread k with
    | none => r.2
    | some t =>
      match r.2.frame t.frame with
      | none => r.2.setThread k none
      | some f =>
        match lastSteer t 1 with
        | some n =>
          if t.at_ == .hook2 && n % 4096 != t.steerIx then
            let s := r.2.modThread k (fun t => { t with steerIx := n % 4096 })
            let e := s.steerEntry (n % 4096)
            let v := s.viewOf f
            let g := s.entryFlowTag e f v
            let f := { f with cls := entryClass e f, ftag := BitVec.ofNat 32 g.1, acctEntry := true }
            (g.2.setFrame t.frame (some f)).fixDestinations k { t with steerIx := n % 4096 } f
          else r.2.fixDestinations k t { f with acctEntry := f.acctEntry || (f.account.isSome && t.at_ == .hook2) }
        | none => r.2.fixDestinations k t f
  | _ => r.2

/-- The steer step of a frame: its entry, its edits, then HK2. Overrides of HK1 but SET_ENTRY stand; the entry that HK1
set is the thread's already. -/
def steerStep (s : State) (k : Nat) : State :=
  match s.thread k with
  | none => s
  | some t =>
    match s.frame t.frame with
    | none => s.setThread k none
    | some f =>
      let v := s.viewOf f
      let own := match f.handle with | some h => (s.entry h).steer | none => 0
      let ix := if f.account.isSome then 0 else if own != 0 then own % 4096 else t.steerIx
      let e := if f.account.isSome then [] else s.steerEntry ix
      let g := if f.account.isSome then (0, s) else s.entryFlowTag e f v
      let s := g.2.modFrame t.frame (fun f => { f with
        cls := if f.account.isSome then f.cls else entryClass e f, ftag := BitVec.ofNat 32 g.1
        legalPending := false, edits := f.edits ++ (if f.account.isSome then [] else entryEdits e v) })
      (s.modThread k (fun t => { t with steerIx := ix, at_ := .hook2
                                        overrides := t.overrides.filter (fun p => p.1 != 1) })).steerTail k

/-! ### Receive: parse, classify, HK1, identification request -/

/-- After HK1: a discard by the hook passes the ticket; otherwise the thread asks for identification and waits. -/
def afterHook1 (s : State) (k : Nat) : State :=
  match s.thread k with
  | none => s
  | some t =>
    if (lastSteer t 2).isSome then (s.count (jnrCount 4)).retireDrop k t.frame
    else s.modThread k (fun t => { t with at_ := .request, wait := .verdict, since := s.time.ticks
                                          steerIx := ((lastSteer t 1).map (· % 4096)).getD t.steerIx })

def hook1Step (s : State) (k : Nat) : State :=
  let r := s.hookPoint k 1
  match r.1 with
  | .done => r.2.afterHook1 k
  | _ => r.2

/-- Parse and classify a received frame, R407 to R409. A span control frame, and a PTP message of the port's instance, go
to their own blocks, whose events carry what they say; the frame itself ends here (DEDUCED, log entry 18). -/
def parseStep (s : State) (k : Nat) : State :=
  match s.thread k with
  | none => s
  | some t =>
    match s.frame t.frame with
    | none => s.setThread k none
    | some f =>
      if s.readsPrp f && !f.whole then s.modThread k (fun t => { t with wait := .frameEnd, since := s.time.ticks })
      else
        let v := s.viewOf f
        if v.error then (s.count (jnrCount 3)).retireDrop k t.frame
        else if !f.span && s.span.imageValid && v.tags.isEmpty && v.etype == imgEtype s.span.image then s.retireDrop k t.frame
        else
          let ours := match ptpAt v f.bytes with
            | some (_, o) => s.portDomain (inPort f) == some (beAt f.bytes (o + 4) 1)
            | none => false
          if ours then s.retireDrop k t.frame
          else
            let kinds := v.kinds + 128 * flag f.span
            let r := s.classify (inPort f) v kinds
            let s := s.modFrame t.frame (fun f => { f with
              kind := kinds, tsRecord := r.2, steer := r.1, prio := (v.pcp).getD (s.regBits (prtBase (inPort f) + 8) 16 3)
              dei := v.dei, legalPending := v.detnet && s.glb.metrology })
            (s.modThread k (fun t => { t with steerIx := r.1, at_ := .hook1, wbase := v.l3 })).hook1Step k

/-! ### Transmit from the host, R353, R354, R342 -/

/-- The edits of a host frame of a stream. -/
def hostEdits (s : State) (f : Frame) : List Edit :=
  match f.handle with
  | none => []
  | some h =>
    let e := s.entry h
    let num : List Edit := if !f.seqValid then [] else if e.format = 3 then [.dcwWrite f.seq] else [.seqInsert e.format f.seq]
    let dest : List Edit := if e.method = 2 && bit (leAt e.key 0xE 2) 15 then
        [.destRewrite (slice e.key 8 6) (leAt e.key 0xE 2 % 4096)] else []
    num ++ dest

/-- A frame from the host: numbered, tagged and enqueued, R401. -/
def hostStep (s : State) (k id : Nat) (f : Frame) : State :=
  let s := s.count (jnrCount 2)
  let f := { f with edits := s.hostEdits f }
  let s := s.setFrame id (some f)
  let s := s.ptpEdit id f (s.viewOf f)
  s.fixFrame k id

/-! ### Dispatch, R397 to R400 -/

/-- May a frame be offered to a thread, R18 and "Dispatch"? -/
def offerable (f : Frame) : Bool :=
  f.stage == .dispatch && f.place == .hold && (f.whole || (256 ≤ f.arrived && f.origin.isRx))

/-- The next frame of a source in ticket order: source 25 is the host. -/
def nextOf (s : State) (src : Nat) : Option Nat :=
  let isSrc (f : Frame) : Bool := match f.origin with
    | .rx p => src == p && !f.span && f.account.isNone && !f.judged
    | .tx _ _ => src == 25
    | .clerk => false
  let waits (f : Frame) : Bool := isSrc f && f.stage == .dispatch && (src != 25 || offerable f)
  match Tab.findKey (fun _ f => (f.map waits).getD false) s.frames with
  | some id => if ((s.frame id).map offerable).getD false then some id else none
  | none => none

/-- The frame that the dispatcher offers next, R397: released packets and inner frames first, then the 26 sources in
round-robin order. -/
def nextOffer (s : State) : Option (Nat × Bool × Nat) :=
  match s.joinery.released with
  | id :: _ => some (id, true, s.joinery.turn)
  | [] => ((upto 1 26).map (fun i => (s.joinery.turn + i) % 26)).findSome? (fun src =>
      (s.nextOf src).map (fun id => (id, false, src)))

/-- Give a frame to a thread of a joiner and run the thread to its first wait or to its end (DEDUCED, log
entry 94). -/
def startThread (s : State) (j id : Nat) (released : Bool) : State :=
  let k := ((upto (4 * j) 4).find? (fun k => (s.thread k).isNone)).getD (4 * j)
  match s.frame id with
  | none => s
  | some f =>
    let t : Thread := { frame := id, gen := s.joinery.gen, since := s.time.ticks }
    let s := (s.modFrame id (fun f => { f with stage := .joinery, handled := false })).setThread k (some t)
    let s := (s.count (jnrCount 0)).countN (jnrCount 1) (flag released)
    match f.origin with
    | .tx _ _ => s.hostStep k id f
    | _ =>
      if f.account.isSome || f.judged then
        (s.modThread k (fun t => { t with wbase := (s.viewOf f).l3, steerIx := f.steer })).steerStep k
      else s.parseStep k

/-- Does the dispatcher offer its frame to a cluster that is in the three cycles at the start of its gating: the offer is
lost (R771, R772)? -/
def offerLost (s : State) : Bool :=
  match s.joinery.gateWin with
  | none => false
  | some (c, t) =>
    let open_ := { s with joinery := { s.joinery with gated := s.joinery.gated.filter (· != c) } }
    s.time.ticks < t + 3 && s.joinery.gated.contains c && (match open_.chooseJoiner with | some j => j / 8 == c | none => false)

/-- One frame is dispatched in Run; with no thread free the lowest gated cluster is ungated, R770 (DEDUCED,
log entry 18). -/
def dispatch (s : State) : State :=
  match s.nextOffer with
  | none => s
  | some (id, released, src) =>
    if !s.inRun then s
    else if s.offerLost then s.count (pwrBase + 0xC8)
    else match s.chooseJoiner with
    | none =>
      match (upto 0 6).find? (fun c => s.joinery.gated.contains c) with
      | some c => { s with joinery := { s.joinery with gated := s.joinery.gated.filter (· != c) } }
      | none => s
    | some j =>
      let s := { s with joinery := { s.joinery with
        released := if released then s.joinery.released.drop 1 else s.joinery.released
        turn := if released then s.joinery.turn else src } }
      s.startThread j id released

/-! ### Waits -/

/-- A thread that was waiting goes on where it stopped. -/
def resume (s : State) (k : Nat) : State :=
  let s := s.modThread k (fun t => { t with wait := .ready, since := s.time.ticks })
  match s.thread k with
  | none => s
  | some t =>
    match t.at_ with
    | .parse => s.parseStep k
    | .hook1 => s.hook1Step k
    | .hook2 => s.steerTail k
    | _ => s

/-- Bytes of a frame arrive in the frame hold, R405; with the last one the frame is whole. -/
def dataArrives (s : State) (id n : Nat) : State :=
  match s.frame id with
  | none => s
  | some f =>
    let a := min (f.arrived + n) f.bytes.length
    let whole := f.whole || f.bytes.length ≤ a
    let s := s.setFrame id (some { f with arrived := a, whole := whole })
    match s.threadOf id with
    | none => s
    | some k =>
      match s.thread k with
      | none => s
      | some t => match t.wait with
        | .bytes o => if o ≤ a || whole then s.resume k else s
        | .frameEnd => if whole then s.resume k else s
        | _ => s

/-- A lookup of a thread's hook answers, R448. -/
def lookupAnswers (s : State) (k : Nat) : State :=
  match s.thread k with
  | none => s
  | some t =>
    match t.hook with
    | none => s
    | some h =>
      match h.coming with
      | none => s
      | some (lk, st) =>
        let s := s.modThread k (fun t => { t with hook := some { h with lk := lk, lkst := st, coming := none } })
        if t.wait == .lookup then s.resume k else s

/-! ### The stream engine's verdict, R331 to R334 and R379 -/

/-- What the stream engine has still to do with a frame whose function or account is fetched, and the thread's step. -/
def secondDomain (s : State) (id : Nat) : State :=
  match s.frame id with
  | none => s
  | some f =>
    let v := s.viewOf f
    let r := match f.account with
      | some a => s.accountPacket a f.path id (v.dcw.getD 0)
      | none => match f.handle with
        | some h => s.recoverEntry id h (inPort f) v
        | none => (.pass, s)
    match r.1 with
    | .discard =>
      match r.2.threadOf id with
      | some k => r.2.retireDrop k id
      | none => r.2.dropFrame id
    | .held =>
      let s := r.2.orderDrop id
      let s := match s.threadOf id with | some k => s.setThread k none | none => s
      s.flushOrder s.frames.length
    | .pass =>
      let s := r.2.modFrame id (fun f => { f with legalPending := false })
      match s.threadOf id with
      | some k => (s.modThread k (fun t => { t with wait := .ready, at_ := .steer, since := s.time.ticks })).steerStep k
      | none => s

/-- The key under which frames of one function or account wait, R334. -/
def domainKey (s : State) (id : Nat) : Option (Bool × Nat) :=
  (s.frame id).bind (fun f => match f.account with
    | some a => some (true, a)
    | none => f.handle.bind (fun h => if (s.entry h).rcvyEn && !(s.entry h).unrecovered then some (false, (s.entry h).rcvy)
      else none))

/-- A frame reaches the second domain: it waits for a fetch when it misses, or behind a frame of its function or account
that waits. -/
def reachSecond (s : State) (id : Nat) (miss : Bool) : State :=
  let key := s.domainKey id
  let behind := key.isSome && s.stream.waiting.any (fun w => s.domainKey w == key)
  if key.isSome && (miss || behind) then
    let s := if miss then s.count (match key with | some (true, _) => stmBase + 0x2D0 | _ => stmBase + 0x278) else s
    { s with stream := { s.stream with waiting := s.stream.waiting ++ [id] } }
  else s.secondDomain id

/-- First domain and policing of a frame whose thread waits for the verdict. -/
def engineFrame (s : State) (id : Nat) (miss : Bool) : State :=
  match s.frame id, s.threadOf id with
  | some f, some k =>
    let v := s.viewOf f
    let r := s.identify (inPort f) v f.bytes
    let handle := match r.1 with | .stream h => some h | _ => none
    let s := r.2.modFrame id (fun f => { f with
      handle := handle, account := match r.1 with | .account a _ => some a | _ => none
      path := match r.1 with
        | .account _ p => p
        | .stream h =>
          let e := r.2.entry h
          if e.state = 2 then (if inPort f == r.2.learnPortA e.rule then 0 else 1) else e.path
        | _ => 0
      legal := match r.1 with | .account a _ => (r.2.account a).metering && s.glb.metrology | _ => false })
    let p := s.police handle f.prio (f.bytes.length + 4) f.rxTime v.dei
    if !p.1 then p.2.2.retireDrop k id
    else
      let s := if p.2.1 && !v.tags.isEmpty then p.2.2.modFrame id (fun f => { f with edits := f.edits ++ [.dei] }) else p.2.2
      match r.1 with
      | .full pass =>
        if pass then (s.modThread k (fun t => { t with wait := .ready, at_ := .steer })).steerStep k else s.retireDrop k id
      | _ => s.reachSecond id miss
  | _, _ => s

/-- Is a frame the next of its port whose identification request the stream engine takes, R402? -/
def engineTurn (s : State) (id : Nat) : Bool :=
  let waits (x : Nat) : Bool := match s.threadOf x with
    | some k => ((s.thread k).map (fun t => t.wait == .verdict && !s.stream.waiting.contains x)).getD false
    | none => false
  waits id && s.joinery.order.all (fun p => !p.2.contains id ||
    (p.2.takeWhile (· != id)).all (fun x => match s.frame x with
      | some f => f.handled || f.account.isSome || f.handle.isSome || s.stream.waiting.contains x
        || (match (s.threadOf x).bind s.thread with | some t => t.at_ == .steer || t.at_ == .hook2 | none => false)
      | none => true))

/-- A fetched function or account: its waiting frames are handled in order, R379. -/
def fetchDone (s : State) (id : Nat) : State :=
  if !s.stream.waiting.contains id then s else
    let key := s.domainKey id
    let mine := s.stream.waiting.filter (fun w => s.domainKey w == key)
    let s := { s with stream := { s.stream with waiting := s.stream.waiting.filter (fun w => !mine.contains w) } }
    mine.foldl (fun s w => s.secondDomain w) s

/-! ### Fencing, rotation, gating, loading -/

/-- Has a joiner no thread at work? -/
def joinerIdle (s : State) (j : Nat) : Bool := (upto (4 * j) 4).all (fun k => (s.thread k).isNone)

/-- A joiner fenced for a test begins it once its last thread is gone, R429. -/
def testsBegin (s : State) : State :=
  { s with joinery := { s.joinery with fences := s.joinery.fences.map (fun p => (p.1, match p.2 with
    | .test none => if s.joinerIdle p.1 then .test (some (s.time.ticks + usTicks 500)) else .test none
    | f => f)) } }

/-- The rotation fences the next joiner, once the gap after the test before is over (R429, R731). -/
def rotationFence (s : State) : State :=
  let any := (upto 0 48).any (fun j => s.joinerFence j != .none || s.fenced (0x200 + 4 * j))
  if s.reg (jnrBase + 0xC) % 2 = 0 || any || s.flt.gapJn.isSome || !s.inRun then s
  else
    let j := s.joinery.rotNext
    let s := s.setJoinerFence j (.test none)
    { s with joinery := { s.joinery with rotNext := (j + 1) % 48 } }.testsBegin

/-- The joiner under the rotation's test: its test has begun, and no SELFTEST asked for it. -/
def rotationJoiner (s : State) : Option Nat :=
  Tab.findKey (fun j f => match f with
    | .test (some _) => !(s.flt.tests.any (fun t => t.unit_ == 0x200 + 4 * j)) | _ => false) s.joinery.fences

/-- A joiner's test ends, R429, R731 and R735: it lasts 500 us from the instant its last thread finished, its result is
counted, and the gap begins. -/
def rotationEnd (s : State) (fail : Bool) : State :=
  let s := s.testsBegin
  match s.rotationJoiner with
  | none => s
  | some j =>
    match s.joinerFence j with
    | .test (some t) =>
      let s := (s.advanceTo t).setJoinerFence j .none
      let s := { s with flt := { s.flt with gapJn := some (s.time.ticks + msTicks (s.regBits (fltBase + 0x14) 16 16)) } }
      if fail then (s.count (fltBase + 0x160)).raise (0x200 + 4 * j) 0x1A 1 else s.count (fltBase + 0x158)
    | _ => s

/-- A thread that neither issued nor got an answer for 65,536 cycles of 1.1 GHz, R430. -/
def threadTimeout (s : State) (k : Nat) : State :=
  match s.thread k with
  | none => s
  | some t =>
    if t.wait == .ready then s else
      let s := s.advanceTo (t.since + ceilDiv (65536 * 100000) (1100 * 128))
      let s := { s with stream := { s.stream with waiting := s.stream.waiting.filter (· != t.frame) } }
      ((s.count (jnrCount 18)).raise (joinerSource (k / 4)) 0x07 1).retireDrop k t.frame

/-- A cluster whose threads have all been free is gated, R770: MIN_CLUSTERS stay ungated. -/
def clusterGate (s : State) (c : Nat) : State :=
  let open_ := 6 - s.joinery.gated.length
  let least := s.regBits (pwrBase + 0x18) 16 3
  if 6 ≤ c || s.joinery.gated.contains c || open_ ≤ least || s.pwr.state != .run
      || !(upto (8 * c) 8).all s.joinerIdle then s
  else { s with joinery := { s.joinery with gated := addBit c s.joinery.gated, gateWin := some (c, s.time.ticks) } }.count
    (pwrBase + 0xD0)

/-- A cluster rewrites its copy once no thread that started before the load remains in it, R468. -/
def csRewrite (s : State) (c : Nat) : State :=
  let g := Tab.get 0 s.joinery.loaded c
  let old := (upto (32 * c) 32).any (fun k => ((s.thread k).map (fun t => decide (t.gen ≤ g))).getD false)
  if 6 ≤ c || s.joinery.gen ≤ g || old then s
  else
    let s := { s with joinery := { s.joinery with
      loaded := Tab.set 0 s.joinery.loaded c (g + 1)
      upsets := s.joinery.upsets.filter (fun p => p.1 / 16384 != c) } }
    let least := (upto 0 6).foldl (fun m c => min m (Tab.get 0 s.joinery.loaded c)) s.joinery.gen
    let s := { s with joinery := { s.joinery with past := s.joinery.past.filter (fun g => least ≤ g.gen) } }
    (upto (32 * c) 32).foldl (fun s k =>
      match s.thread k with
      | some t => if t.wait == .load && t.gen ≤ g + 1 then s.resume k else s
      | none => s) s

end State

/-! ### Meanings -/

/-- FRAME_DISPATCH; `upsets` lists bit errors that have come about in control-store copies since the last event: cluster,
word address and the bits that differ. -/
def execFrameDispatch (upsets : List (Nat × Nat × Nat)) (s : State) : Result :=
  ok ((upsets.foldl (fun s (c, a, m) => if c < 6 && isCustomer a then s.setUpset c a (Nat.xor (s.upset c a) (m % 2 ^ 160))
    else s) s).dispatch).testsBegin

/-- LOOKUP_ANSWER to thread k (4 * joiner + thread). -/
def execLookupAnswer (k : Nat) (s : State) : Result := ok (s.lookupAnswers k).testsBegin

/-- STREAM_ENGINE_FRAME: the stream engine handles the identification request of a frame; `miss` when its function or
account is not in the cache. -/
def execStreamEngineFrame (id : Nat) (miss : Bool) (s : State) : Result :=
  ok (if s.engineTurn id then (s.engineFrame id miss).testsBegin else s)

/-- CACHE_FETCH_DONE for the function or account of a waiting frame. -/
def execCacheFetchDone (id : Nat) (s : State) : Result := ok (s.fetchDone id).testsBegin

/-- THREAD_TIMEOUT of thread k. -/
def execThreadTimeout (k : Nat) (s : State) : Result := ok (s.threadTimeout k).testsBegin

/-- CS_SCRUB of a word of a cluster's copy, with the bits found in error. -/
def execCsScrub (c a m : Nat) (s : State) : Result :=
  ok (if c < 6 && isCustomer a then (s.setUpset c a (Nat.xor (s.upset c a) (m % 2 ^ 160))).scrubWord c a else s)

/-- CS_REWRITE of a cluster. -/
def execCsRewrite (c : Nat) (s : State) : Result := ok (s.csRewrite c).testsBegin

/-- ROTATION_FENCE. -/
def execRotationFence (s : State) : Result := ok s.rotationFence

/-- ROTATION_TEST_END. -/
def execRotationTestEnd (fail : Bool) (s : State) : Result := ok (s.rotationEnd fail)

/-- CLUSTER_GATE of a cluster. -/
def execClusterGate (c : Nat) (s : State) : Result := ok (s.clusterGate c)

/-- SYNC_TABLE_EXPIRE: the residence entries of a port older than 1 s go, R421. -/
def execSyncTableExpire (p : Nat) (s : State) : Result :=
  ok (match Tab.get [] s.joinery.sync p with
    | [] => s
    | e :: _ =>
      let s := s.advanceTo e.until_
      let rest := (Tab.get [] s.joinery.sync p).filter (fun x => decide (s.time.ticks < x.until_))
      { s with joinery := { s.joinery with sync := Tab.set [] s.joinery.sync p rest } })

end Sys2Proof.Machine
end

