-- ==== Sys2Proof/Machine/Delivery.lean ====
section
/-!
DEFINITION. Delivering received frames to RX queues (R490 to R496, R537): the entries that a frame takes, the mirrored
delivery of a braced bent (R620), and the writes in the order of R491.
-/

namespace Sys2Proof.Machine

/-- What the prefetched entries of a queue offer a frame of n bytes. -/
inductive RxPlan where
  /-- Some entry that it needs is not startable yet. -/
  | short
  /-- An entry that it needs is malformed: the cause and the entry's index. -/
  | bad (cause : Nat) (index : BitVec 16)
  /-- The entries that it takes with the fillers between them, in ring order. -/
  | take (entries : List Fetched)
deriving DecidableEq, Repr

/-- Take entries in ring order until their buffers hold n bytes, R491. -/
def rxPlan (w : WorkQueue) : List Fetched → Nat → List Fetched → RxPlan
  | [], _, _ => .short
  | f :: fs, n, acc =>
    if !w.covered f.index 1 then .short
    else if malformedCause w f != 0 then .bad (malformedCause w f) f.index
    else if !w.covered f.index f.units then .short
    else if hdrKind (entryHdr f.bytes) == 0 then rxPlan w fs n (acc ++ [f])
    else
      let b := fieldAt f.bytes 0x10 0 15
      if n ≤ b then .take (acc ++ [f]) else rxPlan w fs (n - b) (acc ++ [f])

/-- The first word after the header of an RX_FRAME or RX_CONT record, R496. -/
def rxFlags (f : Frame) (more : Bool) : Nat :=
  (if f.windowFull then 6 else 0) + 256 * flag more + 512 * flag f.gap.isSome + 1024 * flag f.span + 2048 * flag f.edge
    + 4096 * flag f.handle.isSome + 8192 * flag f.account.isSome + 65536 * (f.gap.getD 0)

/-- The 32-byte result area of the first entry, R496. -/
def rxResult (f : Frame) : List Byte :=
  leBytes 12 (toStamp f.rxTime) ++ leBytes 4 (f.rxFlag.code + 4 * f.rxEpoch.toNat) ++ leBytes 4 (f.handle.getD 0)
    ++ leBytes 4 (if f.account.isSome then f.account.getD 0 + 2 ^ 22 * (f.path % 4) else 0)
    ++ leBytes 4 (if f.account.isSome then f.seq % 2 ^ 28 else 0)
    ++ leBytes 4 (if f.account.isSome && !f.acctEntry then 0 else f.steer % 4096)

namespace State

/-- Start the entries of a frame: CI passes them, fillers included (R483, R484). -/
def startRx (s : State) (q id : Nat) : List Fetched → State
  | [] => s
  | f :: fs =>
    let r := (s.passHead q).nextStart
    let e : Started := { sn := r.1, index := f.index, header := BitVec.ofNat 32 (entryHdr f.bytes), kind := 2
                         frame := some id, bufAddr := leAt f.bytes 8 8, bufLen := fieldAt f.bytes 0x10 0 15 }
    (if hdrKind (entryHdr f.bytes) == 0 then r.2
      else r.2.modQueue q (fun w => { w with started := w.started ++ [e] })).startRx q id fs

/-- Write a frame's data into its buffers, in order. -/
def writeBuffers (s : State) (q : Nat) : List Started → List Byte → State
  | [], _ => s
  | e :: es, bs => (s.writeRing q e.bufAddr (bs.take e.bufLen)).writeBuffers q es (bs.drop e.bufLen)

/-- Bytes that each entry takes. -/
def bufferBytes : List Started → Nat → List (Started × Nat)
  | [], _ => []
  | e :: es, n => (e, min n e.bufLen) :: bufferBytes es (n - e.bufLen)

/-- Write a started frame, R491: data, the first result area, RX_CONT completions, and last RX_FRAME. -/
def writeDelivery (s : State) (q id : Nat) : State :=
  match s.frame id with
  | none => s
  | some f =>
    let k := deliveryChan q
    let data := s.hostBytes f
    let es := (s.queue q).started.filter (fun e => e.frame == some id)
    match bufferBytes es data.length with
    | [] => s
    | (e0, n0) :: rest =>
      let stamp := if f.tsRecord then s.queueRxStamp f (inPort f) q e0.index.toNat (some e0.sn) else (true, s)
      let s := stamp.2
      let queued := f.tsRecord && !stamp.1
      let w := s.queue q
      let area (e : Started) : Nat := w.addr e.index + 32
      let s := s.writeBuffers q es data
      let s := s.writeRing q (area e0) (rxResult f)
      let last := (es.getLast?.map (·.sn)).getD 0
      let s := rest.foldl (fun s p =>
        (s.writeRing q (area p.1) (zeros 32)).complete q p.1 0x83 (if f.windowFull then 6 else 0)
          (leBytes 4 ((if f.windowFull then 6 else 0) + 256 * flag (p.1.sn != last)) ++ leBytes 4 p.2 ++ leBytes 4 0)) s
      let s := s.complete q e0 0x82 (if f.windowFull then 6 else 0)
        (leBytes 4 (rxFlags f (!rest.isEmpty) + 16384 * flag queued) ++ leBytes 4 (n0 + 65536 * (f.bytes.length % 16384))
          ++ leBytes 4 (inPort f + 256 * es.length))
      let beats := (bufferBytes es data.length).foldl (fun n p => n + beatsOf p.1.bufAddr p.2 + 2) 0
      let s := { s with deliveries := s.deliveries.filter (· != e0.sn) }
      let s := s.modQueue q (fun w => { w with rxWait := w.rxWait.filter (· != id) })
      let s := (s.count (chanReg k + 0xC8)).countN (chanReg k + 0x88) data.length
      ((s.releaseWq id).pacingEnd k).endBeats k beats

/-- Is a delivery a mirror point: a frame from a recovery function or an account (R620)? The entry for it. -/
def deliverEntry (s : State) (q _id : Nat) (index : BitVec 16) (count : Nat) (f : Frame) : Option MirrorEntry :=
  match f.account with
  | some a => some (.rxDeliver q index count true f.path false a f.seq)
  | none =>
    match f.handle with
    | none => none
    | some h =>
      let e := s.entry h
      if e.rcvyEn && f.origin.isRx then
        some (.rxDeliver q index count false f.path ((s.rcvy e.rcvy).alg == 1) e.rcvy f.seq)
      else none

/-- The fillers among the entries that a frame takes: CI passes them, which is a mirror point of its own (R620). -/
def mirrorFillers (s : State) (q : Nat) (es : List Fetched) : State :=
  (es.filter (fun e => hdrKind (entryHdr e.bytes) == 0)).foldl (fun s e => s.mirror (.wqAccept q e.index e.units false 0 0)) s

/-- The oldest frame of an RX queue is delivered, waits for its buffers, or is discarded, R491, R492 and R537. -/
def rxDeliver (s : State) (q : Nat) : State :=
  let w := s.queue q
  match w.rxWait with
  | [] => s
  | id :: rest =>
    match s.frame id with
    | none => s.modQueue q (fun w => { w with rxWait := rest })
    | some f =>
      let discard (s : State) : State :=
        (s.modQueue q (fun w => { w with rxWait := rest, cDeliveryDiscarded := w.cDeliveryDiscarded + 1 })).releaseWq id
      if w.state != .running || w.kind != .rx then discard s
      else if f.place != .hold || !(s.chan (deliveryChan q)).moving || w.started.any (fun e => e.frame == some id) then s
      else
        match rxPlan w w.fetched (s.hostBytes f).length [] with
        | .short => if f.noBuf then s else
          (s.modQueue q (fun w => { w with cNoBuffer := w.cNoBuffer + 1 })).modFrame id (fun f => { f with noBuf := true })
        | .bad cause index => discard (s.queueError q cause index)
        | .take es =>
          let buffers := es.filter (fun e => hdrKind (entryHdr e.bytes) == 2)
          let entry := s.deliverEntry q id ((buffers.head?.map (·.index)).getD 0) buffers.length f
          if s.braced && entry.isSome && !s.mirrorCredit then s.stall q else
            let s := (s.modQueue q (fun w => { w with stalled := false })).mirrorFillers q es
            let first := s.nextSn
            let s := (s.takeEngine (deliveryChan q)).startRx q id es
            let sn := (((s.queue q).started.find? (fun e => e.frame == some id)).map (·.sn)).getD first
            let s := { s with deliveries := s.deliveries ++ [sn] }
            match entry with
            | none => s.writeDelivery q id
            | some e =>
              if s.braced then s.mirror e (.deliver id) else (s.mirror e).writeDelivery q id

end State

/-- RX_DELIVERY: a dray delivers the oldest frame of an RX queue. -/
def execRxDelivery (q : Nat) (s : State) : Result := ok (if s.serves then s.rxDeliver q else s)

end Sys2Proof.Machine
end

