-- ==== Sys2Proof/Machine/GatesCore.lean ====
section
/-!
DEFINITION. Cutting lists laid against the span cycle, the gate state of a port at an instant, closing instants, and
MAXWIN and RESUMABLE (chapter 4). Instants are span time in 2^-16 ns.
-/

namespace Sys2Proof.Machine

/-- A stretch of gate state of a port. -/
structure Seg where
  start : Nat
  stop : Nat
  gates : Nat
  hold : Bool := false
  span : Bool := false
  pattern : Nat := 0
  entry : Nat := 0
  /-- Position in the list at `start`, in 2^-16 ns. -/
  pos : Nat := 0
  /-- The port holds a list of the pattern. -/
  listed : Bool := true
  /-- It continues the entry, or the stretch without a list, of the segment before. -/
  cont : Bool := false
deriving DecidableEq, Repr

/-- The segments of a run of a list over a stretch that begins at list position `pos`: `idx` and `st` are the index
and the start position of the next entry. -/
def cutSegs (pattern start stop pos : Nat) : Nat → Nat → List GateEntry → List Seg
  | _, _, [] => []
  | idx, st, e :: es =>
    let en := st + e.interval * 65536
    let f := start + (max st pos - pos)
    let u := if es.isEmpty then stop else min stop (start + (en - pos))
    let rest := cutSegs pattern start stop pos (idx + 1) en es
    if (en ≤ pos && !es.isEmpty) || u ≤ f then rest
    else
      { start := f, stop := u, gates := e.gates.toNat, hold := e.hold, span := e.span, pattern := pattern, entry := idx
        pos := max st pos, cont := decide (st < pos) } :: rest

/-- Join each segment with the one before whose entry or stretch it continues. -/
def joinSegs : List Seg → List Seg
  | [] => []
  | a :: t =>
    match joinSegs t with
    | [] => [a]
    | b :: r =>
      if b.cont && b.listed == a.listed && (!a.listed || (a.pattern == b.pattern && a.entry == b.entry)) then
        { a with stop := b.stop } :: r
      else a :: b :: r

/-- Least of two instants, none standing for no bound. -/
def minOpt (a b : Option Nat) : Option Nat :=
  match a, b with
  | none, x => x
  | x, none => x
  | some x, some y => some (min x y)

/-- The longest run of open time of a list read twice over; `cur` is the run being counted. -/
def openRun (c : Nat) (cur best : Nat) : List GateEntry → Nat
  | [] => max cur best
  | e :: es => if bit e.gates.toNat c then openRun c (cur + e.interval) best es else openRun c 0 (max cur best) es

/-- Lengths of the closed runs of a list between two open entries; `cur` is none before the first open entry. -/
def closedRuns (c : Nat) (cur : Option Nat) : List GateEntry → List Nat
  | [] => []
  | e :: es =>
    if bit e.gates.toNat c then
      match cur with
      | some n => if n = 0 then closedRuns c (some 0) es else n :: closedRuns c (some 0) es
      | none => closedRuns c (some 0) es
    else closedRuns c (cur.map (· + e.interval)) es

/-- MAXWIN(p, c) of a list in ns, R179. -/
def maxWin (l : GateList) (c : Nat) : Nat :=
  if l.entries.all (fun e => bit e.gates.toNat c) then 2 * l.cycleNs else openRun c 0 0 (l.entries ++ l.entries)

/-- RESUMABLE(p, c) of a list, R180. -/
def resumable (l : GateList) (c limit : Nat) : Bool := (closedRuns c none (l.entries ++ l.entries)).any (· ≤ limit)

namespace State

/-! ### Settings -/

def gateScheduled (s : State) (p : Nat) : Bool := s.regBits (gatBase p + 4) 0 1 == 1
def unschedMask (s : State) (p : Nat) : Nat := s.regBits (gatBase p + 4) 8 8
def fragFitMask (s : State) (p : Nat) : Nat := s.regBits (gatBase p + 4) 16 8
def gateOffset (s : State) (p : Nat) : Nat := s.reg (gatBase p + 8)
def gateGuard (s : State) (p : Nat) : Nat := s.regBits (gatBase p + 0xC) 0 16
def fitOverhead (s : State) (p : Nat) : Nat := s.regBits (gatBase p + 0x10) 0 8
def resumeLimit (s : State) (p : Nat) : Nat := s.reg (gatBase p + 0x14)
/-- Counter k of a class, and of the port, of chapter 4. -/
def gateCount (p c k : Nat) : Nat := gatBase p + 0x400 + 0x40 * c + 8 * k

def gateList (s : State) (p pat : Nat) : GateList := Tab.get {} (s.port p).lists pat
def hasList (s : State) (p pat : Nat) : Bool := !(s.gateList p pat).entries.isEmpty

/-- Length of a cycle under a pattern of the stored image, in 2^-16 ns. -/
def lcU (s : State) (pat : Nat) : Nat := imgLc s.span.image pat * 65536
def lbU (s : State) : Nat := imgLb s.span.image * 65536

/-- Do the lists of a port run, R165 and R166? -/
def listsRun (s : State) (p : Nat) : Bool :=
  s.gateScheduled p && s.inService p && s.span.cycValid && s.span.tn ≤ s.nowU

/-! ### Laying lists against cycles, R164 -/

/-- The part of a list run over one stretch; without a list the unscheduled settings hold (R166). -/
def runSegs (s : State) (p pat start stop pos : Nat) : List Seg :=
  if stop ≤ start then []
  else if s.hasList p pat then cutSegs pat start stop pos 0 0 (s.gateList p pat).entries
  else [{ start := start, stop := stop, gates := s.unschedMask p, pattern := pat, listed := false, cont := true }]

/-- Gate state over the bell interval of the cycle at t, after a cycle of pattern prev. -/
def bellSegs (s : State) (p prev t : Nat) : List Seg :=
  let off := s.gateOffset p * 65536
  s.runSegs p prev t (min (t + off) (t + s.lbU)) (s.lcU prev - off) ++ s.runSegs p prev (t + off) (t + s.lbU) 0

/-- Gate state over the cycle at t and those after it, whose patterns are listed, to the end of the bell interval of
the cycle that follows them. -/
def cycleSegs (s : State) (p prev t : Nat) : List Nat → List Seg
  | [] => s.bellSegs p prev t
  | cur :: rest =>
    s.bellSegs p prev t ++ s.runSegs p cur (t + s.lbU) (t + s.lcU cur) (s.lbU - s.gateOffset p * 65536)
      ++ s.cycleSegs p cur (t + s.lcU cur) rest

/-- The end of the bell interval of the cycle that follows the listed ones: the horizon H, R175. -/
def cycleEnd (s : State) (t : Nat) : List Nat → Nat
  | [] => t + s.lbU
  | cur :: rest => s.cycleEnd (t + s.lcU cur) rest

/-- Number of cycles from the current one to a + 2, where a is the last cycle whose bell was received, R175. -/
def knownCycles (s : State) : Nat :=
  let d := modSub 32 s.span.bellCycle.toNat s.span.cycle.toNat
  if d < 2 ^ 31 then d + 3 else d + 3 - 2 ^ 32

/-- The candidate sequences of patterns, R176. -/
def candidates (s : State) : List (List Nat) :=
  let n := s.knownCycles
  let stay := List.replicate n s.span.pattern
  match s.span.change with
  | some ch =>
    let k := modSub 32 ch.target.toNat s.span.cycle.toNat
    [stay, (upto 0 n).map (fun i => if k ≤ i then ch.pattern else s.span.pattern)]
  | none => [stay]

/-- A candidate's segments and horizon. -/
def candidateSegs (s : State) (p : Nat) (c : List Nat) : List Seg × Nat :=
  (s.cycleSegs p s.span.prevPattern s.span.tn c, s.cycleEnd s.span.tn c)

/-- The gate state of a port at an instant, R158 and R164. -/
def gateAt (s : State) (p t : Nat) : Seg :=
  let off : Seg := { start := 0, stop := 0, gates := s.unschedMask p, listed := false }
  if !s.listsRun p then off
  else
    let segs := joinSegs (s.candidateSegs p (List.replicate (max 1 s.knownCycles) s.span.pattern)).1
    ((segs.find? (fun g => g.start ≤ t && t < g.stop)).orElse (fun _ => segs.getLast?)).getD off

end State

/-- The closing instant of class c after an instant in a candidate's segments, at the latest its horizon. -/
def closeIn (c t h : Nat) : List Seg → Nat
  | [] => h
  | g :: gs =>
    if g.stop ≤ t then closeIn c t h gs
    else if !bit g.gates c then max g.start t
    else if !g.listed && (gs.head?.map (·.listed)).getD true then (if gs.isEmpty then h else g.stop)
    else closeIn c t h gs

/-- Is the gate of class c open at an instant of a candidate? -/
def openIn (c t : Nat) (l : List Seg) : Bool := l.any (fun g => g.start ≤ t && t < g.stop && bit g.gates c)

namespace State

/-- The closing instant C(c, s), R176; none while it has no bound. -/
def closing (s : State) (p c t : Nat) : Option Nat :=
  if !s.listsRun p then none
  else (s.candidates.map (fun k => let r := s.candidateSegs p k; closeIn c t r.2 r.1)).foldl (fun m x => minOpt m (some x)) none

/-- The first instant after t at which the gate of c opens in every candidate sequence, none beyond a horizon. -/
def opening (s : State) (p c t : Nat) : Option Nat :=
  let all := s.candidates.map (s.candidateSegs p)
  let starts := all.flatMap (fun r => (r.1.filter (fun g => t < g.start && bit g.gates c)).map (·.start))
  (starts.filter (fun x => all.all (fun r => openIn c x r.1 && x ≤ r.2))).foldl (fun m x => minOpt m (some x)) none

/-- The next instant at which a port's entry in force changes, or its lists start. -/
def nextGateChange (s : State) (p : Nat) : Option Nat :=
  if s.listsRun p then some (s.gateAt p s.nowU).stop
  else if s.gateScheduled p && s.inService p && s.span.cycValid then some s.span.tn
  else none

/-- Note the list in force: count LIST_SWITCHES and NO_LIST, R166 and R195. -/
def noteGates (s : State) (p : Nat) : State :=
  let t := s.port p
  let run := s.listsRun p
  let g := s.gateAt p s.nowU
  let none_ := run && !g.listed
  let s := s.setPort p { t with running := run, listPattern := if run then g.pattern else t.listPattern, noListNow := none_ }
  let s := if run && t.running && g.pattern != t.listPattern then s.count (gatBase p + 0x608) else s
  if none_ && !t.noListNow then s.count (gatBase p + 0x610) else s

/-- Does one SPAN entry of a port cover an interval, R172? -/
def spanCovers (s : State) (p f u : Nat) : Bool :=
  s.listsRun p &&
    (joinSegs (s.candidateSegs p (List.replicate (max 1 s.knownCycles) s.span.pattern)).1).any
      (fun g => g.span && g.start ≤ f && u ≤ g.stop)

/-- GAT_STATUS, GAT_POSITION and the instant of the next change of entry. -/
def gatStatus (s : State) (p : Nat) : Nat :=
  let run := s.listsRun p
  let g := s.gateAt p s.nowU
  flag run + 2 * (if run then g.pattern else 0) + 16 * g.gates + 4096 * flag g.hold + 8192 * flag g.span
    + 65536 * (if run && g.listed then g.entry else 0)
def gatPosition (s : State) (p : Nat) : Nat :=
  if s.listsRun p then let g := s.gateAt p s.nowU; if g.listed then (g.pos + (s.nowU - g.start)) / 65536 else 0 else 0

/-- A word of the GAT sub-block of a port in service. -/
def gatWord (s : State) (p o : Nat) : Nat :=
  let half (v : Nat) : Nat := v / 2 ^ (32 * (o / 4 % 2)) % 2 ^ 32
  if o = 0 then s.gatStatus p
  else if o = 0x18 then s.gatPosition p
  else if 0x20 ≤ o ∧ o < 0x40 then (s.gateList p (o / 4 % 8)).entries.length
  else if 0x40 ≤ o ∧ o < 0x60 then (s.gateList p (o / 4 % 8)).listId.toNat
  else if 0x100 ≤ o ∧ o < 0x200 then
    let l := s.gateList p ((o - 0x100) / 0x20)
    if l.entries.isEmpty then 0 else min (2 ^ 32 - 1) (maxWin l (o / 4 % 8))
  else if 0x200 ≤ o ∧ o < 0x220 then
    (upto 0 8).foldl (fun n c => n + 2 ^ c * flag (resumable (s.gateList p (o / 4 % 8)) c (s.resumeLimit p))) 0
  else if 0x400 ≤ o ∧ o < 0x618 then half (s.counter (gatBase p + o / 8 * 8)).toNat
  else if (regRow (gatBase p + o)).isSome then s.reg (gatBase p + o)
  else 0

end State

end Sys2Proof.Machine
end

