-- ==== Sys2Proof/Machine/Service.lean ====
section
/-!
DEFINITION. Queue service of a port (chapter 5) and the MAC merge levels (chapter 6): flows, finish tags, shapers and
credits, pre-emption levels and fragment boundaries, PAUSE timers. Instants are in the ports' unit.
-/

namespace Sys2Proof.Machine

/-- One ns, and one unit of span time's 2^-16 ns, in the ports' unit. -/
abbrev nsQ : Nat := 1638400
abbrev unitQ : Nat := 25

/-- Spacing of a mode's start positions, R159. -/
def startSpacing (m : Nat) : Nat :=
  match m with
  | 1 => 1048576
  | 2 => 2621440
  | 3 => 2097152
  | 4 => 2097152
  | 5 => 5242880
  | 6 => 10485760
  | _ => 26214400

/-- Round up to a multiple. -/
def roundUp (n k : Nat) : Nat := ceilDiv n k * k

/-- The bytes of a frame on the wire from the destination address to the FCS, R173. -/
def QFrame.total (q : QFrame) : Nat := max (q.len + q.exp) 64

/-- Token and credit scales. -/
abbrev tokUnit : Nat := 2 ^ 20 * 1000000000
abbrev credUnit : Nat := 2 ^ 16 * 25000000

namespace State

/-- First start position at or after an instant, R159 and R160. -/
def startAt (s : State) (p t : Nat) : Nat := roundUp t (startSpacing (s.portMode p))

/-! ### Settings -/

def rankOf (s : State) (p c : Nat) : Nat := s.regBits (qsvBase p + 4) (3 * c) 3
def oport (s : State) (p : Nat) : Int := toSigned 9 (s.regBits (qsvBase p + 8) 0 9)
def cbsEnabled (s : State) (p c : Nat) : Bool := bit (s.regBits (qsvBase p + 8) 16 8) c
def idleSlope (s : State) (p c : Nat) : Nat := s.reg (qsvBase p + 0x100 + 0x20 * c)
def defWeight (s : State) (p c : Nat) : Nat := s.regBits (qsvBase p + 0x108 + 0x20 * c) 0 16
def defOflow (s : State) (p c : Nat) : Int := toSigned 8 (s.regBits (qsvBase p + 0x108 + 0x20 * c) 16 8)
def spillWeight (s : State) (p c : Nat) : Nat := s.regBits (qsvBase p + 0x10C + 0x20 * c) 0 16
def spillRate (s : State) (p c : Nat) : Nat := s.reg (qsvBase p + 0x118 + 0x20 * c)
def spillBucket (s : State) (p c : Nat) : Nat := s.regBits (qsvBase p + 0x11C + 0x20 * c) 0 25
def qsvCount (p c k : Nat) : Nat := qsvBase p + 0x400 + 0x40 * c + 8 * k
def mmgCount (p k : Nat) : Nat := mmgBase p + 0x100 + 8 * k

/-- The classes of a port, highest rank first, R198. -/
def classOrder (s : State) (p : Nat) : List Nat :=
  (upto 0 8).reverse.flatMap (fun r => (upto 0 8).filter (fun c => s.rankOf p c == r))

/-- The start threshold in force of a class, PRT_THRESH_NOW, R310. -/
def threshNow (s : State) (p c : Nat) : Nat :=
  let base := s.regBits (prtBase p + 0x80 + 4 * c) 0 16
  max base (min 16384 (base + Tab.get 0 (s.port p).threshUp c))

/-! ### Levels, R242 to R248 and R269 -/

/-- The MAC merge sublayer of a port is active. -/
def mmgActive (s : State) (p : Nat) : Bool := p ≤ 23 && (s.port p).verify == .succeeded

/-- The level of a class: 0 express, 1 to 3 for P1 to P3. -/
def levelOf (s : State) (p c : Nat) : Nat :=
  if s.mmgActive p then bits (s.reg (mmgBase p + 8)) (2 * c) 2 else 0

/-- interrupts(lv, lo), R246 and R247. -/
def interrupts (s : State) (p lv lo : Nat) : Bool :=
  s.mmgActive p && 0 < lo && (lv == 0 || ((s.port p).nested && lv < lo))

/-- The suspended frame of a level, R255: in standard operation all levels are one. -/
def heldAt (s : State) (p lv : Nat) : Option Susp :=
  if lv = 0 then none
  else if (s.port p).nested then (s.port p).suspended.find? (fun x => x.level == lv)
  else (s.port p).suspended.head?

/-- addFragSize of the partner, R267. -/
def addFrag (s : State) (p : Nat) : Nat := if (s.port p).partner79 then bits (s.port p).caps79 3 2 else 0

/-- Does R269 give nested operation? -/
def wantsNested (s : State) (p : Nat) : Bool :=
  s.mmgActive p && s.regBits (mmgBase p + 4) 2 1 == 1 && (s.port p).partnerLz && 1 ≤ (s.port p).lzVersion
    && bit (s.port p).lzFlags 1

/-- Pause-at-fragment is in effect, R271. -/
def pauseAtFrag (s : State) (p : Nat) : Bool :=
  s.mmgActive p && (s.port p).nested && s.regBits (mmgBase p + 4) 3 1 == 1 && (s.port p).partnerLz
    && bit (s.port p).lzFlags 3

/-- Minimum fragment length, R249. -/
def fragMin (s : State) (p from_ : Nat) : Nat := if from_ = 0 then 64 * (1 + s.addFrag p) else 64

end State

/-- The first legal fragment boundary at or after offset n of a frame of a total length whose fragment began at an
offset, R250. -/
def legalFrom (total begin_ fmin n : Nat) : Option Nat :=
  let d := if n ≤ begin_ + (fmin - 4) then begin_ + (fmin - 4) else begin_ + roundUp (n - begin_) 8
  if d + 64 ≤ total then some d else none

/-- The last legal fragment boundary at or before offset n. -/
def legalUpto (total begin_ fmin n : Nat) : Option Nat :=
  let m := min n (total - 64)
  if m < begin_ + (fmin - 4) || total < 64 then none
  else
    let k := (m - begin_) / 8 * 8
    some (if fmin - 4 < k then begin_ + k else begin_ + (fmin - 4))

namespace State

/-! ### PAUSE and PFC, R302 -/

/-- Priorities that pause class c. -/
def pfcMap (s : State) (p k : Nat) : Nat := bits (s.reg (prtBase p + 0x10 + 4 * (k / 4))) (8 * (k % 4)) 8

/-- Is class c of a port paused at an instant? -/
def pausedAt (s : State) (p c t : Nat) : Bool :=
  let run (k : Nat) : Bool := t < Tab.get 0 (s.port p).pauseUntil k
  run 8 || (upto 0 8).any (fun k => run k && bit (s.pfcMap p k) c)

/-! ### Flows, R205 to R219 -/

/-- A flow context, or with number 0 the spill flow of a class with its settings. -/
def flowAt (s : State) (p c n : Nat) : Flow :=
  if n = 0 then
    { Tab.get {} (s.port p).spill c with
      number := 0, cls := c, weight := s.spillWeight p c, oflow := 0, rate := s.spillRate p c, bucket := s.spillBucket p c }
  else Tab.get {} (s.port p).flows n

def setFlow (s : State) (p c n : Nat) (f : Flow) : State :=
  if n = 0 then
    s.modPort p (fun t => { t with spill := Tab.set {} t.spill c { f with cls := 0, weight := 1, rate := 0, bucket := 0 } })
  else s.modPort p (fun t => { t with flows := Tab.set {} t.flows n f })

/-- The context bound to a tag and class. -/
def boundFlow (s : State) (p c : Nat) (tag : BitVec 32) : Option Nat :=
  Tab.findKey (fun _ f => f.cls == c && f.ftag == tag) (s.port p).flows

/-- The lowest free context from n on. -/
def freeFlow (s : State) (p : Nat) : Nat → Nat → Option Nat
  | _, 0 => none
  | n, k + 1 => if (Tab.get ({} : Flow) (s.port p).flows n).number = 0 then some n else s.freeFlow p (n + 1) k

/-- Does a class hold a frame: one that waits on a flow, a suspended one, or a retry? -/
def classWaits (s : State) (p c : Nat) : Bool :=
  let t := s.port p
  t.flows.any (fun f => f.2.cls == c && !f.2.frames.isEmpty) || !(Tab.get ({} : Flow) t.spill c).frames.isEmpty
    || t.suspended.any (fun x => x.cls == c) || (Tab.get none t.retry c).isSome

end State

/-- Is finish tag a less than b, R218? -/
def tagLess (a b : BitVec 64) : Bool := isAhead 64 b.toNat a.toNat

/-- Later of two tags. -/
def tagMax (a b : BitVec 64) : BitVec 64 := if tagLess a b then b else a

/-- Tokens of a flow at an instant, in units of 2^-20 / 10^9 byte, R221. -/
def tokensAt (f : Flow) (t : Nat) : Int :=
  if f.rate = 0 then f.tokens
  else
    let v := f.tokens + ((f.rate * 80 * (t - f.tokAt) : Nat) : Int)
    min v (max f.tokens ((f.bucket * tokUnit : Nat) : Int))

/-- Is a flow eligible, R222? -/
def flowEligible (f : Flow) (t : Nat) : Bool := f.rate == 0 || 0 ≤ tokensAt f t

namespace State

/-- What a frame of a flow is charged, R213 and R223. -/
def chargeOf (s : State) (p : Nat) (f : Flow) (len : Nat) : Nat := (max ((len : Int) + s.oport p + f.oflow) 1).toNat

/-- The flows of a class that hold frames, the spill flow first, then by number. -/
def waitingFlows (s : State) (p c : Nat) : List Nat :=
  (if (Tab.get ({} : Flow) (s.port p).spill c).frames.isEmpty then [] else [0])
    ++ ((s.port p).flows.filter (fun f => f.2.cls == c && !f.2.frames.isEmpty)).map (·.1)

/-- wfq_head(c), R215: the flow whose head frame goes next, with the frame. -/
def wfqHead (s : State) (p c t : Nat) : Option (Nat × QFrame) :=
  ((s.waitingFlows p c).filter (fun n => flowEligible (s.flowAt p c n) t)).foldl (fun best n =>
    match (s.flowAt p c n).frames.head? with
    | none => best
    | some q =>
      match best with
      | some (m, b) => if tagLess q.tag b.tag then some (n, q) else some (m, b)
      | none => some (n, q)) none

/-- A frame leaves its flow. -/
def takeFromFlow (s : State) (p c n id : Nat) : State :=
  let f := s.flowAt p c n
  s.setFlow p c n { f with frames := f.frames.filter (fun q => q.id != id) }

/-- The transmit decision charges a frame, R216 and R223. -/
def chargeFrame (s : State) (p c n : Nat) (q : QFrame) : State :=
  let f := s.flowAt p c n
  let now := s.nowQ
  let f := if f.rate = 0 then f else
    { f with tokens := tokensAt f now - ((s.chargeOf p f q.len * tokUnit : Nat) : Int), tokAt := now }
  let s := s.setFlow p c n { f with frames := f.frames.filter (fun x => x.id != q.id) }
  ((s.modPort p (fun t => { t with vtime := Tab.set 0 t.vtime c q.tag })).count (qsvCount p c 0)).countN
    (qsvCount p c 1) q.len

/-- Flows with a frame on the wire, about to start, suspended or in retry. -/
def flowBusy (s : State) (p c n : Nat) : Bool :=
  let t := s.port p
  let carries (w : Option Wire) : Bool := w.any (fun w => w.kind == .frame && w.cls == c && w.flow == n)
  carries t.wire || carries t.commit || t.suspended.any (fun x => x.cls == c && x.flow == n)
    || (match Tab.get none t.retry c with | some (_, m) => m == n | none => false)

/-- Note since when each learned context has been idle; with QSV_FLOW_AGE 0 it is released at once, R209. -/
def noteIdle (s : State) (p : Nat) : State :=
  (s.port p).flows.foldl (fun s (n, f) =>
    let idle := !f.static && f.frames.isEmpty && !s.flowBusy p f.cls n
    if !idle then (if f.idleFrom.isSome then s.setFlow p f.cls n { f with idleFrom := none } else s)
    else if s.reg (qsvBase p + 0xC) = 0 then (s.setFlow p f.cls n {}).count (qsvCount p f.cls 6)
    else if f.idleFrom.isSome then s
    else s.setFlow p f.cls n { f with idleFrom := some s.time.ticks }) s

/-! ### Credits, R200 to R203 -/

/-- Instants at which the conditions of R201 can change between two instants. -/
def creditPoints (s : State) (p a b : Nat) : List Nat :=
  let t := s.port p
  let w := match t.wire with | some w => [w.start, w.gapEnd] | none => []
  let g := if s.listsRun p then
      (s.candidateSegs p (List.replicate (max 1 s.knownCycles) s.span.pattern)).1.map (fun g => g.start * unitQ) else []
  let l := (w ++ g ++ t.pauseUntil.map (·.2)).filter (fun x => a < x && x < b)
  (l.mergeSort (fun x y => x ≤ y)) ++ [b]

/-- The credit of a class after an interval over which its conditions hold still, R201. -/
def creditStep (s : State) (p c : Nat) (v : Int) (a b : Nat) : Int :=
  let t := s.port p
  let dt : Nat := b - a
  let idle : Nat := s.idleSlope p c
  let onWire := t.wire.any (fun w => w.kind == .frame && w.cls == c && w.start ≤ a && a < w.gapEnd)
  let lim : Int := ((2 ^ 31 * credUnit : Nat) : Int)
  let r : Int :=
    if onWire then v + ((idle : Int) - (modeRate (s.portMode p) : Int)) * (dt : Int)
    else if !bit (s.gateAt p (a / unitQ)).gates c || s.pausedAt p c a then v
    else if s.classWaits p c then v + ((idle * dt : Nat) : Int)
    else if v < 0 then min 0 (v + ((idle * dt : Nat) : Int))
    else 0
  max (-lim) (min lim r)

/-- Bring the credits of a port up to now. -/
def bringCredit (s : State) (p : Nat) : State :=
  let t := s.port p
  let now := s.nowQ
  if now ≤ t.creditAt then s
  else
    let pts := s.creditPoints p t.creditAt now
    let upd (c : Nat) : Int :=
      (pts.foldl (fun (r : Int × Nat) b => (s.creditStep p c r.1 r.2 b, b)) (Tab.get 0 t.credit c, t.creditAt)).1
    s.setPort p { t with creditAt := now, credit := ((upto 0 8).filter (s.cbsEnabled p)).foldl (fun m c =>
      Tab.set 0 m c (upd c)) t.credit }

/-! ### Enqueue, R206, R213 -/

/-- The flow that serves a tag of a class, bound now if need be. -/
def serveFlow (s : State) (p c : Nat) (tag : BitVec 32) : Nat × State :=
  match s.boundFlow p c tag with
  | some n => (n, s)
  | none =>
    let spilled := !(Tab.get ({} : Flow) (s.port p).spill c).frames.isEmpty
    match if spilled then none else s.freeFlow p 1 4096 with
    | some n =>
      let f : Flow := { number := n, ftag := tag, cls := c, weight := s.defWeight p c, oflow := s.defOflow p c
                        fprev := Tab.get 0 (s.port p).vtime c }
      (n, (s.setFlow p c n f).count (qsvCount p c 5))
    | none =>
      let s := s.count (qsvCount p c 4)
      (0, if spilled then s else s.raise (schedSource p) 0x22 0)

/-- A frame completes enqueue with its finish tag. -/
def enqueueFlow (s : State) (p c n : Nat) (q : QFrame) : State :=
  let f := s.flowAt p c n
  let v := Tab.get 0 (s.port p).vtime c
  let step := ceilDiv (s.chargeOf p f q.len * 65536) (max 1 f.weight)
  let tag := tagMax v f.fprev + BitVec.ofNat 64 step
  s.setFlow p c n { f with frames := f.frames ++ [{ q with tag := tag, checked := f.frames.isEmpty }], fprev := tag, idleFrom := none }

/-! ### Registers, R237 and R274 -/

/-- A word of the QSV sub-block of a port in service. -/
def qsvWord (s : State) (p o : Nat) : Nat :=
  let half (v : Nat) : Nat := v / 2 ^ (32 * (o / 4 % 2)) % 2 ^ 32
  let t := s.port p
  if o = 0 then
    (upto 0 8).foldl (fun n c => n + 2 ^ c * flag (s.classWaits p c)
      + 2 ^ (8 + c) * flag (!(Tab.get ({} : Flow) t.spill c).frames.isEmpty)) 0 + 65536 * t.flows.length
  else if o = 0x10 then (t.flows.filter (fun f => f.2.static)).length
  else if 0x100 ≤ o ∧ o < 0x200 ∧ o % 0x20 = 4 then
    ofSigned 32 (Int.tdiv (Tab.get 0 (s.bringCredit p |>.port p).credit ((o - 0x100) / 0x20)) (credUnit : Int))
  else if 0x100 ≤ o ∧ o < 0x200 ∧ (o % 0x20 = 0x10 ∨ o % 0x20 = 0x14) then
    half (Tab.get 0 t.vtime ((o - 0x100) / 0x20)).toNat
  else if 0x400 ≤ o ∧ o < 0x600 then half (s.counter (qsvBase p + o / 8 * 8)).toNat
  else if (regRow (qsvBase p + o)).isSome then s.reg (qsvBase p + o)
  else 0

/-- Codes of the verify states. -/
def verifyCode (v : Verify) : Nat :=
  match v with
  | .disabled => 0
  | .waitPartner => 1
  | .sendVerify => 2
  | .waitResponse => 3
  | .succeeded => 4
  | .failed => 5

/-- Clause 79 bits and Lezanik flags as advertised, R263 and the nesting TLV. -/
def mmgAdvert (s : State) (p : Nat) : Nat :=
  let cfg := s.reg (mmgBase p + 4)
  1 + 2 * bits cfg 0 1 + 4 * flag (s.mmgActive p) + 8 * bits cfg 4 2 + 256 + 512 * bits cfg 2 1
    + 1024 * flag (s.mmgActive p && (s.port p).nested) + 2048

/-- MMG_PARTNER. -/
def mmgPartner (s : State) (p : Nat) : Nat :=
  let t := s.port p
  (if t.partner79 then t.caps79 % 32 + 128 else 0)
    + (if t.partnerLz then 256 * (t.lzFlags % 16) + 32768 + 65536 * (t.lzVersion % 256) else 0)

/-- A word of the MMG sub-block of a port in service. -/
def mmgWord (s : State) (p o : Nat) : Nat :=
  let half (v : Nat) : Nat := v / 2 ^ (32 * (o / 4 % 2)) % 2 ^ 32
  let t := s.port p
  if o = 0 then
    verifyCode t.verify + 8 * flag (s.mmgActive p) + 16 * flag (s.mmgActive p && t.nested) + 32 * flag (s.pauseAtFrag p)
      + 64 * s.addFrag p
      + (upto 1 3).foldl (fun n k => n + 2 ^ (7 + k) * flag (t.suspended.any (fun x => x.level == k))) 0
      + 2048 * flag t.modePending
      + (upto 0 3).foldl (fun n k => n + 2 ^ (12 + k) * flag (k < t.reasm.length)) 0
  else if o = 0xC then s.mmgPartner p
  else if o = 0x10 then s.mmgAdvert p
  else if o = 0x14 then (match t.partnerUntil with | some u => ceilDiv (u - s.time.ticks) 781250000 | none => 0)
  else if 0x100 ≤ o ∧ o < 0x190 then half (s.counter (mmgBase p + o / 8 * 8)).toNat
  else if (regRow (mmgBase p + o)).isSome then s.reg (mmgBase p + o)
  else 0

end State

end Sys2Proof.Machine
end

