-- ==== Sys2Proof/Machine/Wire.lean ====
section
/-!
DEFINITION. The transmitter of a port: MACsec on transmit, the fit rule, the transmit decision (R192), fragments, and
what happens when a frame starts and ends (chapters 4, 6 and 7). Instants are in the ports' unit.
-/

namespace Sys2Proof.Machine

/-- MAC counter at an offset of a port's block. -/
def macCount (p o : Nat) : Nat := prtBase p + o

/-- Bytes of a frame's own that the device makes, from the destination address to the FCS (PRESUMED: the lengths of the
messages' own standards with Ethernet's minimum of 64, log entry 21). -/
def Ctrl.bytes : Ctrl → Nat
  | .ptp k _ _ _ => if k = 11 then 82 else if k = 2 || k = 3 || k = 9 || k = 10 then 72 else if k = 8 then 94
    else if k = 12 then 78 else 64
  | .lldp _ => 70
  | _ => 64

/-- Is it a MAC control frame, or an mPacket, which R261, R268 and R308 send ahead of every frame? -/
def Ctrl.mac : Ctrl → Bool
  | .pause _ => true
  | .pfc _ _ => true
  | _ => false

/-- Is it a frame, which MACsec protects as it does any (R294), and no mPacket or MAC control frame? -/
def Ctrl.frame : Ctrl → Bool
  | .ptp _ _ _ _ => true
  | .esmc _ => true
  | .lldp _ => true
  | _ => false

/-- RMON length bin of R318's tables. -/
def lenBin (n : Nat) : Nat :=
  if n ≤ 64 then 0 else if n ≤ 127 then 1 else if n ≤ 255 then 2 else if n ≤ 511 then 3
  else if n ≤ 1023 then 4 else if n ≤ 1518 then 5 else 6

/-- The answer of the fit function, R184 and R185: with the closing instant for a fragment. -/
inductive Fit where
  | no | whole | fragment (closes : Nat)
deriving DecidableEq, Repr

namespace State

def portUp (s : State) (p : Nat) : Bool := s.inService p && (s.port p).link == .up && !s.portsDead
def maxLen (s : State) (p : Nat) : Nat := s.regBits (prtBase p + 8) 0 14

/-! ### MACsec on transmit, R291 to R297 -/

def setSecChan (s : State) (p k : Nat) (c : SecChan) : State :=
  s.modPort p (fun t => { t with sec := Tab.set {} t.sec k c })

/-- MACsec expansion of a frame, R173. -/
def expansion (s : State) (p sc : Nat) : Nat :=
  if s.txChan p sc = 0xFF then 0 else if (s.secChan p (s.txChan p sc)).includeSci then 32 else 24

/-- Greatest PN of a suite. -/
def lastPn (c : SecChan) : Nat := if c.cipher < 2 then 2 ^ 32 - 1 else 2 ^ 64 - 1

/-- May a frame go out under R294 and R295: its channel has a PN left, or it may go unprotected? -/
inductive SecTx where
  | clear | uncontrolled | protect (k : Nat) | discard | exhausted
deriving DecidableEq, Repr

def secTx (s : State) (p sc etype : Nat) : SecTx :=
  if !s.macsecOn p then .clear
  else
    let k := s.txChan p sc
    if k = 0xFF then
      if s.regBits (prtBase p + 0x3C) 11 1 = 1 && etype != 0x888E then .discard else .uncontrolled
    else
      match Tab.get none (s.secChan p k).assocs (s.secChan p k).encAn with
      | none => .exhausted
      | some a => if lastPn (s.secChan p k) < a.nextPn then .exhausted else .protect k

/-- Send the SA_PN_WARN notice of an association, R295 and R511. -/
def pnWarn (s : State) (p k an pn : Nat) : State :=
  s.notify { book := s.regBits (prtBase p + 0x38) 0 8, kind := 5, source := 4098
             body := leBytes 4 (p + 256 * k + 65536 * an) ++ leBytes 8 pn, timed := true }

/-- A channel protects one frame: it takes the next PN (R295); answers the PN it took (DEDUCED, log entry 28). -/
def takePn (s : State) (p k : Nat) : Nat × State :=
  let c := s.secChan p k
  match Tab.get none c.assocs c.encAn with
  | none => (0, s)
  | some a =>
    let warn := !a.warned && s.reg64 (prtBase p + 0x40) < a.nextPn + 1
    let s := s.setSecChan p k { c with
      frames := c.frames + 1
      assocs := Tab.set none c.assocs c.encAn (some { a with nextPn := a.nextPn + 1, warned := a.warned || warn }) }
    let s := (s.count (macCount p 0x3B8)).countN (macCount p 0x3C0) (if c.confOffset = 3 then 0 else 1)
    (a.nextPn, if warn then s.pnWarn p k c.encAn (a.nextPn + 1) else s)

/-- SecTAG of IEEE 802.1AE: TCI and AN, SL, PN, SCI. -/
def secTag (c : SecChan) (pn short : Nat) : List Byte :=
  let enc := if c.confOffset = 3 then 0 else 0xC
  beBytes 2 0x88E5 ++ [BitVec.ofNat 8 (c.encAn + enc + (if c.includeSci then 0x20 else 0)), BitVec.ofNat 8 short]
    ++ beBytes 4 pn ++ (if c.includeSci then beBytes 8 c.sci.toNat else [])

/-- The initialisation vector's inputs of an association. -/
def secIv (c : SecChan) (a : SecAssoc) (pn : Nat) : List Byte :=
  beBytes 8 c.sci.toNat ++ beBytes 4 a.ssci.toNat ++ a.salt ++ beBytes 8 pn

/-- A frame after protection. -/
def protect (s : State) (p k pn : Nat) (b : List Byte) : List Byte :=
  let c := s.secChan p k
  match Tab.get none c.assocs c.encAn with
  | none => b
  | some a =>
    let short := if b.length - 12 < 48 then b.length - 12 else 0
    let h := b.take 12 ++ secTag c pn short
    h ++ Config.macsecSeal (c.cipher * 4 + c.confOffset) a.key (secIv c a pn) (h ++ b.drop 12)

/-! ### Fitting, R173 to R187 -/

/-- The length with which a frame is fitted: the ingress port's greatest until the frame is whole, R174. -/
def fitLen (s : State) (q : QFrame) : Nat :=
  match s.frame q.id with
  | some f => if f.whole then q.total else max (s.maxLen (inPort f) + q.exp) 64
  | none => q.total

/-- Fit time of n bytes on a port (DEDUCED, log entry 90). -/
def fitTime (s : State) (p n : Nat) : Nat := (n + s.fitOverhead p) * s.byteTime p + s.gateGuard p * nsQ

/-- Does fragment fit apply, R184? -/
def fragFits (s : State) (p c lv : Nat) : Bool := bit (s.fragFitMask p) c && s.mmgActive p && lv != 0

/-- fit(f, c, s): rem bytes remain and the fragment begins at frame offset from_. -/
def fit (s : State) (p c lv rem from_ start : Nat) : Fit :=
  match (s.closing p c (start / unitQ)).map (· * unitQ) with
  | none => .whole
  | some cl =>
    let fmin := s.fragMin p from_
    if start + s.fitTime p rem ≤ cl then .whole
    else if !s.fragFits p c lv || rem < fmin + 60 || cl < start + s.fitTime p fmin then .no
    else
      match (s.opening p c (cl / unitQ)).map (· * unitQ) with
      | none => .no
      | some o => if cl + s.resumeLimit p * nsQ < o then .no else .fragment cl

/-- The planned end of a fragment that must be clear by a closing instant, R185. -/
def planEnd (s : State) (p total from_ start closes : Nat) : Option Nat :=
  let room := (closes - s.gateGuard p * nsQ - start) / s.byteTime p
  legalUpto total from_ (s.fragMin p from_) (from_ + (room - 4 - s.fitOverhead p))

/-! ### Start thresholds, R23, R30, R289, R311 -/

/-- May a frame start as far as its bytes in the frame hold go? -/
def frameReady (s : State) (p c : Nat) (q : QFrame) (retry : Bool) : Bool :=
  match s.frame q.id with
  | none => false
  | some f =>
    match f.place with
    | .spilled => false
    | .returning => if retry then decide (f.size ≤ f.arrived) else decide (min f.size (s.threshNow p c) ≤ f.arrived)
    | .hold =>
      f.whole || (!retry && f.origin.isRx && modeRate (s.portMode p) ≤ modeRate (s.portMode (inPort f))
        && decide (s.threshNow p c ≤ f.arrived))

/-- A frame that can never start is refused with NEVER_FITS, R181 to R183 (DEDUCED, log entry 91). -/
def neverFits (s : State) (p c : Nat) (q : QFrame) : Bool :=
  let l := s.gateList p s.span.pattern
  s.listsRun p && !l.entries.isEmpty && maxWin l c * nsQ < s.fitTime p q.total
    && !(bit (s.fragFitMask p) c && resumable l c (s.resumeLimit p))

/-- A copy of a frame leaves a port's queue without being sent: it completes with a status, and the port releases it. -/
def refuseCopy (s : State) (p id status : Nat) : State :=
  match s.frame id with
  | none => s
  | some f => (s.copyOf f p status).releaseEgress id p

/-! ### Fragments, R249 to R258 -/

/-- The first legal boundary that the transmitter has not passed at an instant, at the latest where the fragment ends
anyway (DEDUCED, log entry 90). -/
def nextCut (s : State) (p : Nat) (w : Wire) (t : Nat) : Option Nat :=
  let b := s.byteTime p
  let sent := w.from_ + ceilDiv (t - (w.start + 8 * b)) b
  match legalFrom w.qf.total w.from_ (s.fragMin p w.from_) sent with
  | some d => if w.final then some d else some (min d w.upto)
  | none => if w.final then none else some w.upto

/-- The transmission on the wire ends at a frame offset: a fragment with its mCRC, then the gap. -/
def cutWire (s : State) (p : Nat) (w : Wire) (d : Nat) : Wire :=
  if !w.final && w.upto ≤ d then w else
    let b := s.byteTime p
    { w with upto := d, final := false, dataEnd := w.start + (8 + (d - w.from_) + 4) * b
             gapEnd := w.start + (8 + (d - w.from_) + 16) * b }

/-- Cut the pre-emptable transmission on the wire for a cause, R189. -/
def cut (s : State) (p t : Nat) (mark : Wire → Wire) : State :=
  match (s.port p).wire with
  | none => s
  | some w =>
    if w.kind != .frame || w.level = 0 || w.done then s
    else
      match s.nextCut p w t with
      | none => s
      | some d =>
        let same := !w.final && w.upto ≤ d
        let v := s.cutWire p w d
        let v := if same then v else { v with planned := false, cut := false, cutPause := false, cutFor := false }
        s.modPort p (fun x => { x with wire := some (mark v) })

/-! ### The transmit decision, R192 -/

/-- What a class offers: a suspended remainder, a retry, or the head that fair queueing picks. -/
inductive Offer where
  | rest (x : Susp)
  | retry (q : QFrame) (flow : Nat)
  | head (q : QFrame) (flow : Nat)
deriving DecidableEq, Repr

def Offer.qf : Offer → QFrame
  | .rest x => x.qf
  | .retry q _ => q
  | .head q _ => q

/-- Start transmission of an offer at an instant, whole or under R185: the charge, the PN, the frame count. -/
def startOffer (s : State) (p c lv : Nat) (o : Offer) (r : Fit) (start : Nat) : Wire × State :=
  let b := s.byteTime p
  let q := o.qf
  let from_ := match o with | .rest x => x.sent | _ => 0
  let stop := match r with
    | .fragment cl => s.planEnd p q.total from_ start cl
    | _ => none
  let upto := stop.getD q.total
  let w : Wire :=
    { kind := .frame, qf := q, cls := c, level := lv, start := start, from_ := from_, upto := upto
      final := stop.isNone, planned := stop.isSome, began := start, nested := (s.port p).nested
      dataEnd := start + (8 + (upto - from_) + (if stop.isSome then 4 else 0)) * b
      gapEnd := start + (8 + (upto - from_) + (if stop.isSome then 16 else 12)) * b }
  match o with
  | .rest x =>
    let s := if x.fitHeld && x.heldAt + s.resumeLimit p * nsQ < s.nowQ then s.count (gateCount p c 3) else s
    let s := s.modPort p (fun t => { t with suspended := t.suspended.filter (fun y => y.level != x.level) })
    ({ w with flow := x.flow, frag := x.frag, count := x.count, nested := x.nested, level := x.level, began := x.began }, s)
  | .retry _ n =>
    let s := s.modPort p (fun t => { t with retry := Tab.set none t.retry c none })
    let k := (s.port p).frameCount
    let s := if lv = 0 || w.nested then s else s.modPort p (fun t => { t with frameCount := (k + 1) % 4 })
    ({ w with flow := n, retry := true, count := if lv = 0 then 0 else if w.nested then lv else k }, s)
  | .head _ n =>
    let s := s.chargeFrame p c n q
    let k := (s.port p).frameCount
    let std := lv != 0 && !w.nested
    let s := if std then s.modPort p (fun t => { t with frameCount := (k + 1) % 4 }) else s
    ({ w with flow := n, count := if lv = 0 then 0 else if w.nested then lv else k }, s)

/-- One class of the decision: none when it starts nothing, with what it counted. -/
def tryClass (s : State) (p c start : Nat) (on : Option Wire) : Option (Nat × Offer × Fit) × State :=
  let now := s.nowQ
  let own := (s.port p).suspended.find? (fun x => x.cls == c)
  let lv := match own with | some x => x.level | none => s.levelOf p c
  let g := s.gateAt p s.nowU
  if on.any (fun w => !s.interrupts p lv w.level) || s.pausedAt p c now || !bit g.gates c
      || (lv != 0 && g.hold && s.mmgActive p) then (none, s)
  else
    let held := s.heldAt p lv
    if held.any (fun x => x.cls != c) then (none, s)
    else
      let try_ (s : State) (o : Offer) (rem from_ : Nat) : Option (Nat × Offer × Fit) × State :=
        match s.fit p c lv rem from_ start with
        | .no =>
          if o.qf.deferred then (none, s)
          else
            let mark (q : QFrame) : QFrame := if q.id = o.qf.id then { q with deferred := true } else q
            let s := s.count (gateCount p c 1)
            (none, match o with
              | .rest x => s.modPort p (fun t => { t with suspended := t.suspended.map (fun y =>
                  if y.level = x.level then { y with qf := mark y.qf } else y) })
              | .retry _ n => s.modPort p (fun t => { t with retry := Tab.set none t.retry c (some (mark o.qf, n)) })
              | .head _ n =>
                let f := s.flowAt p c n
                s.setFlow p c n { f with frames := f.frames.map mark })
        | r => (some (lv, o, r), s)
      match held with
      | some x => try_ s (.rest x) (x.qf.total - x.sent) x.sent
      | none =>
        if lv != 0 && (s.port p).modePending then (none, s)
        else if s.cbsEnabled p c && Tab.get 0 (s.port p).credit c < 0 then (none, s.count (qsvCount p c 2))
        else
          match Tab.get none (s.port p).retry c with
          | some (q, n) =>
            if s.frameReady p c q true then try_ s (.retry q n) q.total 0 else (none, s)
          | none =>
            match s.wfqHead p c now with
            | none => (none, if (s.waitingFlows p c).isEmpty then s else s.count (qsvCount p c 3))
            | some (n, q) => if s.frameReady p c q false then try_ s (.head q n) (s.fitLen q) 0 else (none, s)

/-- The classes of a decision in order: the first that starts something. -/
def tryClasses (s : State) (p start : Nat) (on : Option Wire) : List Nat → Option (Nat × Nat × Offer × Fit) × State
  | [] => (none, s)
  | c :: cs =>
    match s.tryClass p c start on with
    | (some (lv, o, r), s) => (some (c, lv, o, r), s)
    | (none, s) => s.tryClasses p start on cs

/-- R181 at the heads of the flows: a frame that has become the head since it was last looked at is checked against the
pattern in force, and refused where it can never start; at most n are looked at (DEDUCED, log entry 91). -/
def clearHeads (s : State) (p : Nat) : Nat → State
  | 0 => s
  | k + 1 =>
    let heads := (upto 0 8).flatMap (fun c => (s.waitingFlows p c).filterMap (fun n =>
      (s.flowAt p c n).frames.head?.map (fun q => (c, n, q))))
    match heads.find? (fun (_, _, q) => !q.checked) with
    | none => s
    | some (c, n, q) =>
      if s.neverFits p c q then
        (((s.takeFromFlow p c n q.id).count (gateCount p c 0)).refuseCopy p q.id 1).clearHeads p k
      else
        let f := s.flowAt p c n
        (s.setFlow p c n { f with frames := f.frames.map (fun x => if x.id = q.id then { x with checked := true } else x)
          }).clearHeads p k

/-- HOLD, R168: its rise counts, and a pre-emptable frame on the wire is cut. -/
def holdRule (s : State) (p : Nat) : State :=
  let h := s.mmgActive p && (s.gateAt p s.nowU).hold
  let s := if h && !(s.port p).holdOn then s.count (mmgCount p 5) else s
  let s := s.modPort p (fun t => { t with holdOn := h })
  if h then s.cut p s.nowQ (fun w => { w with cut := true }) else s

/-- GATE_OVERRUN: the gate of the frame on the wire has closed under it, R178. -/
def overrunRule (s : State) (p : Nat) : State :=
  match (s.port p).wire with
  | some w =>
    if w.kind == .frame && !w.overrun && w.start ≤ s.nowQ && s.nowQ < w.gapEnd
        && !bit (s.gateAt p s.nowU).gates w.cls then
      (s.modPort p (fun t => { t with wire := some { w with overrun := true } })).count (gateCount p w.cls 4)
    else s
  | none => s

/-- MACsec refuses a frame at its start: it leaves its flow or its retry. -/
def refuseOffer (s : State) (p c : Nat) (o : Offer) (status : Nat) : State :=
  match o with
  | .rest _ => s
  | .retry q _ => (s.modPort p (fun t => { t with retry := Tab.set none t.retry c none })).refuseCopy p q.id status
  | .head q n => (s.takeFromFlow p c n q.id).refuseCopy p q.id status

/-- EtherType of a queued frame as it leaves. -/
def etypeOf (s : State) (id : Nat) : Nat := match s.frame id with | some f => (s.viewOf f).etype | none => 0

/-- The transmit decision of a port, R192; n bounds the frames that MACsec refuses on the way. -/
def decideN (s : State) (p : Nat) : Nat → State
  | 0 => s
  | n + 1 =>
    let t := s.port p
    let now := s.nowQ
    if !s.portUp p || s.txHalted || t.commit.isSome then s
    else if t.wire.any (fun w => w.done || w.kind != .frame || w.level = 0) then s
    else
      let place : Option (Nat × Option Wire × Nat) := match t.wire with
        | none => some (s.startAt p (max now t.wakeAt), none, 0)
        | some w => (s.nextCut p w now).map (fun d => (s.startAt p (s.cutWire p w d).gapEnd, some w, d))
      match place with
      | none => s
      | some (start, on, d) =>
        match s.tryClasses p start on (s.classOrder p) with
        | (none, s) => s
        | (some (c, lv, o, r), s) =>
          let fresh := match o with | .head _ _ => true | _ => false
          let q := o.qf
          let sec := if fresh then s.secTx p q.sc (s.etypeOf q.id) else .clear
          match sec with
          | .discard => ((s.refuseOffer p c o 3).clearHeads p s.frames.length).decideN p n
          | .exhausted => (((s.count (macCount p 0x3C8)).refuseOffer p c o 3).clearHeads p s.frames.length).decideN p n
          | sec =>
            let r := s.startOffer p c lv o r start
            let r := match sec with
              | .uncontrolled => (r.1, r.2.count (macCount p 0x3D0))
              | .protect k =>
                let x := r.2.takePn p k
                ({ r.1 with qf := { r.1.qf with pn := some (k, x.1) } }, x.2)
              | _ => r
            let s := r.2.clearHeads p r.2.frames.length
            match on with
            | none => s.modPort p (fun t => { t with wire := some r.1 })
            | some _ =>
              let s := s.cut p now (fun w => { w with cutFor := true })
              if d = 0 then s else s.modPort p (fun t => { t with commit := some r.1 })

/-- Bring credits up and run the decision, R191. -/
def decide_ (s : State) (p : Nat) : State :=
  if p ≤ 24 then
    let s := ((s.bringCredit p).noteGates p).holdRule p |>.overrunRule p
    (s.clearHeads p s.frames.length).decideN p (s.frames.length + 1)
  else s

/-! ### Ends of transmissions -/

/-- MAC counters of a frame sent, by its bytes and length. -/
def countTx (s : State) (p : Nat) (dst n : Nat) : State :=
  let s := ((s.count (macCount p 0x240)).countN (macCount p 0x248) n).count (macCount p (0x310 + 8 * lenBin n))
  s.count (macCount p (if dst = 2 ^ 48 - 1 then 0x260 else if bit (dst / 2 ^ 40) 0 then 0x258 else 0x250))

/-- The correctionField of a forwarded PTP message as an egress port writes it, R420 and R421. -/
def residenceBytes (s : State) (f : Frame) (p began : Nat) (b : List Byte) : List Byte :=
  let v := parse b false s.dcwPort
  match ptpAt v b with
  | none => b
  | some (_, o) =>
    let stay : Nat := (began / unitQ) - f.rxTime
    let put (b : List Byte) (add : Int) : List Byte :=
      splice b (o + 8) (beBytes 8 (ofSigned 64 (toSigned 64 (beAt b (o + 8) 8) + add)))
    let udp0 (b : List Byte) : List Byte := if v.ip = 4 && v.l4 != 0 then splice b (v.l4 + 6) [0, 0] else b
    f.edits.foldl (fun b e => match e with
      | .residence p2p =>
        let i := inPort f
        let link : Int := if p2p then
            ((s.ptime i).delay * 256 : Nat) + toSigned 32 (s.reg (timBase + 0x1014 + 0x100 * i)) * 256 else 0
        udp0 (put b ((stay : Int) + link))
      | .followUp =>
        let x := syncKey f.bytes (match ptpAt (s.viewOf f) f.bytes with | some (_, o) => o | none => 0)
        match (Tab.get [] s.joinery.sync p).find? (fun e => e.domain == x.1 && e.senderId.toNat == x.2.1
            && e.senderPort == x.2.2.1 && e.seq.toNat == x.2.2.2) with
        | some e => udp0 (put b (e.residence : Int))
        | none => b
      | _ => b) b

/-- A two-step Sync has left: its residence time is now known, R421. -/
def fixResidence (s : State) (f : Frame) (p began : Nat) : State :=
  match ptpAt (s.viewOf f) f.bytes with
  | some (0, o) =>
    let x := syncKey f.bytes o
    { s with joinery := { s.joinery with sync := Tab.set [] s.joinery.sync p ((Tab.get [] s.joinery.sync p).map (fun e =>
      if e.domain = x.1 && e.senderId.toNat = x.2.1 && e.senderPort = x.2.2.1 && e.seq.toNat = x.2.2.2
          && e.residence = f.rxTime then
        { e with residence := began / unitQ - f.rxTime } else e)) } }
  | _ => s

/-- The timestamp record that a host frame asks for of one copy, R85. -/
def txRecord (s : State) (f : Frame) (p began : Nat) : State :=
  match f.origin with
  | .tx q sn =>
    if f.tsReq then
      match s.startedOf q sn with
      | some e =>
        let x := s.queueTxStamp p false q e.index.toNat (began / unitQ) (some sn)
        x.2.modStarted q sn (fun e => { e with tsLost := e.tsLost || x.1, tsQueued := e.tsQueued || !x.1 })
      | none => s
    else s
  | _ => s

/-- A frame's last bit has left the MAC, R27: timestamp, counters, completion and release. -/
def frameSent (s : State) (p : Nat) (w : Wire) : State :=
  match s.frame w.qf.id with
  | none => s
  | some f =>
    let b := if w.qf.pn.isSome then s.egressBytes f p else s.residenceBytes f p w.began (s.egressBytes f p)
    let sent := match w.qf.pn with
      | some (k, n) => s.protect p k n b
      | none => b
    let s := s.countTx p (beAt sent 0 6) w.qf.total
    let s := if w.retry then s.count (macCount p 0x270) else s
    let s := (s.fixResidence f p w.began).modPort p (fun t => { t with lastSent := sent })
    ((s.txRecord f p w.began).copyOf f p (if f.bad then 3 else 0)).releaseEgress w.qf.id p

/-! ### Span frames on the wire -/

/-- Is a copy of a group of launches still to begin, or on a wire? -/
def groupLive (s : State) (g : Nat) : Bool :=
  s.span.launches.any (fun l => !l.relay && l.group == g)
    || s.ports.any (fun e => e.2.wire.any (fun w => !w.done && w.launch.any (fun l => !l.relay && l.group == g)))

/-- The frame that rode in a group of launches is done once no copy of the group is left: sent where one has
begun (DEDUCED, log entry 61). -/
def settleGroup (s : State) (g : Nat) (frame : Option Nat) : State :=
  match frame with
  | none => s
  | some id =>
    if s.groupLive g then s
    else
      match s.frame id with
      | none => s
      | some f => (s.copyOf f 25 (if s.span.sentGroups.contains g then 0 else 3)).releaseSlot id

/-- The last bit of a span frame has left. -/
def spanSent (s : State) (p : Nat) (w : Wire) : State :=
  let s := s.countTx p (if s.span.imageValid then beAt s.span.image 0x22 6 else 0x03005AE10001) w.qf.total
  match w.launch with
  | none => s
  | some l =>
    let s := match l.frame.bind s.frame with
      | some f => s.txRecord f p w.began
      | none => s
    s.settleGroup l.group l.frame

/-- A fragment's last bit has left: the frame is suspended, R255; or discarded where its sublayer has stopped (R258). -/
def suspend (s : State) (p : Nat) (w : Wire) : State :=
  let s := s.count (mmgCount p 4)
  if !s.mmgActive p || !s.portUp p then (s.count (mmgCount p 15)).refuseCopy p w.qf.id 3
  else
    let x : Susp :=
      { qf := w.qf, cls := w.cls, level := w.level, flow := w.flow, sent := w.upto, count := w.count, nested := w.nested
        frag := if w.from_ = 0 then 0 else (w.frag + 1) % 4, heldAt := w.gapEnd, fitHeld := w.planned, began := w.began }
    let s := s.modPort p (fun t => { t with suspended := t.suspended ++ [x] })
    let s := if w.cutFor then s.count (mmgCount p (10 + w.level)) else s
    let s := if w.planned then s.count (gateCount p w.cls 2) else s
    if (s.port p).suspended.length = 3 then s.count (mmgCount p 17) else s

/-- Discard every suspended frame of a port, R258. -/
def dropSuspended (s : State) (p : Nat) : State :=
  let l := (s.port p).suspended
  l.foldl (fun s x => (s.count (mmgCount p 15)).refuseCopy p x.qf.id 3) (s.modPort p (fun t => { t with suspended := [] }))

/-- A value that the LLDP agent advertises has changed: it sends within 1 s, R264. -/
def advertChanged (s : State) (p : Nat) : State :=
  s.modPort p (fun t => { t with lldpAt := minOpt t.lldpAt (some (s.time.ticks + secTicks 1)) })

/-- The change between standard and nested operation takes effect once no frame is suspended, R270. -/
def settleMode (s : State) (p : Nat) : State :=
  let want := s.wantsNested p
  if !s.mmgActive p then s.modPort p (fun t => { t with modePending := false })
  else if want == (s.port p).nested then s.modPort p (fun t => { t with modePending := false })
  else if (s.port p).suspended.isEmpty then
    ((s.modPort p (fun t => { t with nested := want, modePending := false })).count (mmgCount p 16)).advertChanged p
  else s.modPort p (fun t => { t with modePending := true })

/-! ### Frames of the device's own -/

/-- The first frame of the device's own that may go now: none goes while SPAN is in force (R308), and only time's own
messages while transmission stands still (R634). -/
def nextCtrl (s : State) (p : Nat) : Option Ctrl :=
  if (s.gateAt p s.nowU).span || s.txAsleep then none
  else
    let l := (s.port p).ctrl.filter (fun c => (c != .verify || (s.port p).verify == .sendVerify)
      && (!s.txHalted || (match c with | .ptp _ _ _ _ => true | _ => false)))
    (l.find? Ctrl.mac).orElse (fun _ => l.head?)

/-- Frames of the device's own that MACsec refuses are discarded, R294 and R295. -/
def clearCtrl (s : State) (p : Nat) : State :=
  let l := (s.port p).ctrl.filter Ctrl.frame
  let drop (s : State) : State := s.modPort p (fun t => { t with ctrl := t.ctrl.filter (fun c => !c.frame) })
  if l.isEmpty then s
  else match s.secTx p 0xFF 0 with
    | .discard => drop s
    | .exhausted => (drop s).countN (macCount p 0x3C8) l.length
    | _ => s

/-- What starting a frame of the device's own brings: counts, the verify timer, and the timestamps of PTP messages. -/
def ctrlStarted (s : State) (p : Nat) (c : Ctrl) (start : Nat) : State :=
  match c with
  | .pause _ => s.count (macCount p 0x268)
  | .pfc k _ => s.count (macCount p (0x290 + 8 * k))
  | .respond => s.count (mmgCount p 8)
  | .verify =>
    (s.modPort p (fun t => { t with
      verify := .waitResponse, attempts := t.attempts + 1
      verifyAt := some (s.time.ticks + msTicks (s.regBits (mmgBase p + 4) 8 8)) })).count (mmgCount p 7)
  | .ptp 0 msg ann ph =>
    if msg.twoStep then s.addCtrl p (.ptp 8 { msg with stamp := start / unitQ } ann ph) else s
  | .ptp 1 msg _ _ => s.modPtime p (fun t => { t with delayReqSeq := msg.seq, delayReqT3 := some (start / unitQ) })
  | .ptp 2 _ _ _ => s.modPtime p (fun t => { t with pdelayT1 := some (start / unitQ) })
  | .ptp 3 msg ann ph =>
    if msg.twoStep then s.addCtrl p (.ptp 10 { msg with stamp := start / unitQ } ann ph) else s
  | _ => s

/-- Start a frame of the device's own on a free wire (DEDUCED, log entry 27). -/
def startCtrl (s : State) (p : Nat) (c : Ctrl) : State :=
  let b := s.byteTime p
  let st := s.startAt p (max s.nowQ (s.port p).wakeAt)
  let k := s.txChan p 0xFF
  let exp := if c.frame then s.expansion p 0xFF else 0
  let n := c.bytes + exp
  let s := if c.frame && k != 0xFF then (s.takePn p k).2 else if c.frame && s.macsecOn p then s.count (macCount p 0x3D0) else s
  let w : Wire := { kind := .ctrl, qf := { id := 0, len := c.bytes, exp := exp }, start := st, began := st, upto := n, ctrl := some c
                    dataEnd := st + (8 + n) * b, gapEnd := st + (20 + n) * b }
  (s.modPort p (fun t => { t with ctrl := t.ctrl.erase c, wire := some w, lastCtrl := some c })).ctrlStarted p c st

/-- The wire is free: what was committed starts, else a frame of the device's own, else the decision runs. -/
def wireFree (s : State) (p : Nat) : State :=
  let s := s.settleMode p
  match (s.port p).commit with
  | some w => (s.bringCredit p).modPort p (fun t => { t with wire := some w, commit := none })
  | none =>
    let s := s.clearCtrl p
    match if s.portUp p then s.nextCtrl p else none with
    | some c => (s.bringCredit p).startCtrl p c
    | none => s.decide_ p

/-- The transmitter leaves LPI, R299: no start position falls before EEE_TW has passed. -/
def leaveLpi (s : State) (p : Nat) : State :=
  let t := s.port p
  if !t.txLpi then s
  else
    (s.setPort p { t with txLpi := false, wakeAt := s.nowQ + s.reg (prtBase p + 0x24) * nsQ }).countN (macCount p 0x288)
      ((s.time.ticks - t.lpiSince) * 128 / 100000)

/-- Something new to send on a port: the transmitter leaves LPI, and a free wire takes a frame of the device's own. -/
def kick (s : State) (p : Nat) : State :=
  let s := s.leaveLpi p
  if (s.port p).wire.isNone && (s.port p).commit.isNone && !(s.port p).ctrl.isEmpty then s.wireFree p else s

end State

end Sys2Proof.Machine
end

