-- ==== Sys2Proof/Machine/PortEvents.lean ====
section
/-!
DEFINITION. The events of a port (chapters 4 to 7): the wire, enqueue, gates, PAUSE, links, the MAC merge sublayer's
state machine, underrun and LPI. Reception stands in Receive.lean.
-/

namespace Sys2Proof.Machine

namespace State

/-! ### The wire -/

/-- WIRE_FREE: the gap of what was on the wire ends, or the wire is free already. -/
def wireEnds (s : State) (p : Nat) : State :=
  match (s.port p).wire with
  | none => s.wireFree p
  | some w =>
    if !w.done then s
    else
      let s := (s.advanceToQ w.gapEnd).overrunRule p |>.bringCredit p
      ((s.modPort p (fun t => { t with wire := none, idleFrom := w.gapEnd })).noteIdle p).wireFree p

/-- FRAGMENT_END: a fragment's last bit leaves the MAC. -/
def fragmentEnds (s : State) (p : Nat) : State :=
  match (s.port p).wire with
  | some w =>
    if w.kind != .frame || w.final || w.done then s
    else
      let s := (s.advanceToQ w.dataEnd).modPort p (fun t => { t with wire := some { w with done := true } })
      s.suspend p w
  | none => s

/-- FRAME_TX_END: the last bit of a frame leaves the MAC, R27; of a frame whose reception ended in error, R24. -/
def frameEnds (s : State) (p : Nat) : State :=
  match (s.port p).wire with
  | some w =>
    if !w.final || w.done then s
    else
      let s := (s.advanceToQ w.dataEnd).modPort p (fun t => { t with wire := some { w with done := true } })
      match w.kind with
      | .frame => (if w.from_ = 0 then s else s.count (mmgCount p 4)).frameSent p w
      | .span => s.spanSent p w
      | .ctrl => s
  | none => s

/-! ### Enqueue, R181, R206, R213, R288 -/

/-- ENQUEUE_COMPLETE: the oldest frame on its way to a port's queues. -/
def enqueue (s : State) (p : Nat) : State :=
  match (s.port p).arriving with
  | [] => s
  | id :: rest =>
    let s := s.modPort p (fun t => { t with arriving := rest })
    match s.frame id with
    | none => s
    | some f =>
      let q : QFrame := { id := id, len := max 64 ((s.egressBytes f p).length + 4), exp := s.expansion p f.sc, sc := f.sc }
      if s.maxLen p < q.total then (s.count (macCount p 0x350)).refuseCopy p id 5
      else if s.neverFits p f.cls q then (s.count (gateCount p f.cls 0)).refuseCopy p id 1
      else
        let s := (s.bringCredit p).leaveLpi p
        let r := s.serveFlow p f.cls f.ftag
        let empty := (r.2.flowAt p f.cls r.1).frames.isEmpty
        let s := r.2.enqueueFlow p f.cls r.1 q
        if empty then s.decide_ p else s

/-- SHAPER_ELIGIBLE: the tokens of a flow reach zero. -/
def shaperReady (s : State) (p c n : Nat) : State :=
  let f := s.flowAt p c n
  let v := tokensAt f s.nowQ
  let s := if f.rate = 0 || 0 ≤ v then s else s.advanceToQ (s.nowQ + ceilDiv v.natAbs (f.rate * 80))
  if f.frames.isEmpty then s else s.decide_ p

/-- CBS_CREDIT_ELIGIBLE: the credit of a class that rises at idleSlope reaches zero. -/
def creditReady (s : State) (p c : Nat) : State :=
  let s := s.bringCredit p
  let v := Tab.get 0 (s.port p).credit c
  let now := s.nowQ
  let waits := (s.port p).wire.any (fun w => w.kind == .frame && w.cls == c)
    || !bit (s.gateAt p s.nowU).gates c || s.pausedAt p c now || s.idleSlope p c = 0
  let s := if v < 0 && !waits then s.advanceToQ (now + ceilDiv v.natAbs (s.idleSlope p c)) else s
  if s.classWaits p c then s.decide_ p else s

/-- FLOW_AGE_EXPIRE of a context, R209. -/
def flowAges (s : State) (p n : Nat) : State :=
  let f : Flow := Tab.get {} (s.port p).flows n
  match f.idleFrom with
  | some t =>
    if n = 0 || f.number = 0 || f.static || !f.frames.isEmpty || s.flowBusy p f.cls n then s
    else
      let s := s.advanceTo (t + msTicks (s.reg (qsvBase p + 0xC)))
      (s.setFlow p f.cls n {}).count (qsvCount p f.cls 6)
  | none => s

/-- GATE_ENTRY_CHANGE: the entry in force changes, or the lists have stopped. -/
def gateChanges (s : State) (p : Nat) : State :=
  let s := s.bringCredit p
  let s := match s.nextGateChange p with | some u => s.advanceToU u | none => s
  s.decide_ p

/-! ### PAUSE and PFC, R301 to R308 -/

/-- One timer of a request: zero quanta stop a running one. -/
def loadPause (s : State) (p k quanta : Nat) : State :=
  let now := s.nowQ
  let t := s.port p
  if quanta = 0 then
    if now < Tab.get 0 t.pauseUntil k then s.setPort p { t with pauseUntil := Tab.set 0 t.pauseUntil k 0 }
    else s.count (macCount p 0x178)
  else s.setPort p { t with pauseUntil := Tab.set 0 t.pauseUntil k (now + quanta * 64 * s.byteTime p) }

/-- A pause that begins for the class of a pre-emptable frame on the wire holds it at a fragment boundary, R272. -/
def pauseOnWire (s : State) (p : Nat) (before : Nat → Bool) : State :=
  match (s.port p).wire with
  | some w =>
    if w.kind == .frame && w.level != 0 && !w.done && s.pauseAtFrag p && !before w.cls && s.pausedAt p w.cls s.nowQ
        && (s.nextCut p w s.nowQ).isSome then
      (s.cut p s.nowQ (fun w => { w with cutPause := true })).count (mmgCount p 14)
    else s
  | none => s

/-- The MAC address of a port: set by a bench, or the fused base plus the index. -/
def portMac (s : State) (p : Nat) : Nat :=
  match (s.port p).mac with
  | some m => m.toNat
  | none => (s.glb.macBase.toNat + p) % 2 ^ 48

/-- A MAC control frame that has passed R286. -/
def macControl (s : State) (p : Nat) (b : List Byte) : State :=
  let dst := beAt b 0 6
  let op := beAt b 14 2
  let good := (dst == 0x0180C2000001 || dst == s.portMac p) && b.length == 60
  if good && op == 0x0001 && s.fcMode p == 1 then
    let s := (s.count (macCount p 0x168)).bringCredit p
    if !s.rxHonour p then s else
      let before := fun c => s.pausedAt p c s.nowQ
      ((s.loadPause p 8 (beAt b 16 2)).pauseOnWire p before).decide_ p
  else if good && op == 0x0101 && s.fcMode p == 2 then
    let on := (upto 0 8).filter (bit (beAt b 16 2))
    let s := (on.foldl (fun s k => s.count (macCount p (0x1C0 + 8 * k))) s).bringCredit p
    if !s.rxHonour p then s else
      let before := fun c => s.pausedAt p c s.nowQ
      ((on.foldl (fun s k => s.loadPause p k (beAt b (18 + 2 * k) 2)) s).pauseOnWire p before).decide_ p
  else s.count (macCount p 0x170)

/-- PAUSE_TIMER_EXPIRE of the port's PAUSE timer (8) or of a priority's. -/
def pauseExpires (s : State) (p k : Nat) : State :=
  let u := Tab.get 0 (s.port p).pauseUntil k
  if u = 0 then s
  else
    let s := (s.advanceToQ u).bringCredit p
    (s.modPort p (fun t => { t with pauseUntil := Tab.set 0 t.pauseUntil k 0 })).decide_ p

/-- PAUSE_REFRESH, R307. -/
def pauseRefresh (s : State) (p k : Nat) : State :=
  match Tab.get none (s.port p).xoffAt k with
  | none => s
  | some t =>
    if !s.txGen p then s
    else
      let s := s.advanceTo (t + ceilDiv (s.pauseQuanta p * 32 * s.byteTime p * 100) (nsQ * 128))
      if s.reg (prtBase p + 0x1C) < s.rxHeld p k then
        ((s.modPort p (fun x => { x with xoffAt := Tab.set none x.xoffAt k (some s.time.ticks) })).sendPause p k
          (s.pauseQuanta p)).kick p
      else (s.pauseKey p k).kick p

/-! ### The MAC merge state machine, R268 to R270 -/

def mmgEnable (s : State) (p : Nat) : Bool := p ≤ 23 && s.regBits (mmgBase p + 4) 0 1 == 1
/-- The partner has pre-emption enabled, R266. -/
def partnerEnables (s : State) (p : Nat) : Bool := (s.port p).partner79 && bit (s.port p).caps79 1

/-- Enter SUCCEEDED in the operation that R269 gives. -/
def mmgSucceed (s : State) (p : Nat) : State :=
  let s := s.modPort p (fun t => { t with verify := .succeeded, verifyAt := none })
  (s.modPort p (fun t => { t with nested := s.wantsNested p, modePending := false })).advertChanged p

/-- Leave SUCCEEDED, or lose the link: R258, and the reassembly buffers go (R262). -/
def mmgStop (s : State) (p : Nat) (next : Verify) : State :=
  let s := if (s.port p).verify == .succeeded then s.advertChanged p else s
  let s := s.modPort p (fun t => { t with verify := next, verifyAt := none, modePending := false, reasm := [] })
  s.dropSuspended p

/-- The transitions that follow at once from what holds: DISABLED with ENABLE 1, WAIT_PARTNER with an enabled partner. -/
def verifyStep (s : State) (p : Nat) : State :=
  let s := if (s.port p).verify == .disabled && s.mmgEnable p && s.portUp p then
    s.modPort p (fun t => { t with verify := .waitPartner }) else s
  if (s.port p).verify == .waitPartner && s.portUp p && s.partnerEnables p then
    if s.regBits (mmgBase p + 4) 1 1 = 1 then s.mmgSucceed p
    else s.modPort p (fun t => { t with verify := .sendVerify, attempts := 0 })
  else s

/-- The partner's values changed from what they were. -/
def partnerChanged (s : State) (p : Nat) (old79 : Bool) (oldCaps : Nat) : State :=
  let t := s.port p
  let changed := t.partner79 != old79 || t.caps79 != oldCaps
  let s := match t.verify with
    | .waitResponse => if changed then s.modPort p (fun t => { t with verify := .waitPartner, verifyAt := none }) else s
    | .failed => if changed then s.modPort p (fun t => { t with verify := .waitPartner }) else s
    | .succeeded => if s.partnerEnables p then s else s.mmgStop p .waitPartner
    | _ => s
  (s.verifyStep p).settleMode p

/-- Take the partner's values from an LLDPDU or a command. -/
def setPartner (s : State) (p : Nat) (c79 lz : Bool) (caps flags version ttl : Nat) : State :=
  let t := s.port p
  let s := s.setPort p { t with
    partner79 := c79, caps79 := if c79 then caps % 32 else 0, partnerLz := lz, lzFlags := if lz then flags % 16 else 0
    lzVersion := if lz then version % 256 else 0, partnerUntil := some (s.time.ticks + secTicks ttl) }
  s.partnerChanged p t.partner79 t.caps79

/-- PARTNER_VALUES_EXPIRE, R266. -/
def partnerExpires (s : State) (p : Nat) : State :=
  match (s.port p).partnerUntil with
  | none => s
  | some u =>
    let s := s.advanceTo u
    let t := s.port p
    (s.setPort p { t with partner79 := false, caps79 := 0, partnerLz := false, lzFlags := 0, lzVersion := 0
                          partnerUntil := none }).partnerChanged p t.partner79 t.caps79

/-- VERIFY_TIMEOUT, R268. -/
def verifyTimeout (s : State) (p : Nat) : State :=
  match (s.port p).verify, (s.port p).verifyAt with
  | .waitResponse, some u =>
    let s := s.advanceTo u
    if (s.port p).attempts < s.regBits (mmgBase p + 4) 16 8 then
      s.modPort p (fun t => { t with verify := .sendVerify, verifyAt := none })
    else ((s.modPort p (fun t => { t with verify := .failed, verifyAt := none })).count (mmgCount p 6)).raise
      (portSource p) 0x23 1
  | _, _ => s

/-- VERIFY_SEND: a verify mPacket waits for the next free wire. -/
def verifySend (s : State) (p : Nat) : State :=
  if (s.port p).verify != .sendVerify || !s.portUp p then s
  else if (s.port p).ctrl.contains .verify then s.kick p
  else (s.addCtrl p .verify).kick p

/-! ### Links, R281 to R284 -/

/-- A link notice, R284. -/
def linkNotice (s : State) (p state : Nat) : State :=
  s.notify { book := s.regBits (prtBase p + 0x38) 0 8, kind := 3, source := 4096
             body := leBytes 4 (p + 256 * state) ++ zeros 8 ++ leBytes 12 s.nowStamp ++ leBytes 4 s.time.flag.code
             timed := false }

/-- The link of a port goes DOWN as the debounce timer's expiry does it. -/
def linkFalls (s : State) (p : Nat) : State :=
  let s := s.modPort p (fun t => { t with
    link := .down, debounceAt := none, ctrl := []
    discardAt := some (s.time.ticks + msTicks (s.regBits (prtBase p + 0x34) 16 16)) })
  let s := (s.count (macCount p 0x1A0)).linkNotice p 0
  if (s.port p).verify == .disabled then s.dropSuspended p
  else s.mmgStop p (if s.mmgEnable p then .waitPartner else .disabled)

/-- PCS_LINK_UP. -/
def pcsUp (s : State) (p : Nat) : State :=
  let t := s.port p
  if !s.inService p then s
  else
    let s := s.setPort p { t with pcs := true, signal := true, hiBer := false, fecLock := s.portFec p != 0 }
    match t.link with
    | .up => s
    | .debounce =>
      (((s.modPort p (fun t => { t with link := .up, debounceAt := none })).count (macCount p 0x348)).verifyStep p).decide_ p
    | .down => ((((s.modPort p (fun t => { t with link := .up, discardAt := none })).linkNotice p 1).verifyStep p).decide_ p)

/-- PCS_LINK_DOWN. -/
def pcsDown (s : State) (p : Nat) (signal hiBer : Bool) : State :=
  let s := s.modPort p (fun t => { t with pcs := false, signal := signal, hiBer := hiBer, fecLock := false })
  if !s.inService p || (s.port p).link != .up then s
  else
    let d := s.regBits (prtBase p + 0x34) 0 8
    if d = 0 then s.linkFalls p
    else s.modPort p (fun t => { t with link := .debounce, debounceAt := some (s.time.ticks + msTicks d) })

/-- LINK_DEBOUNCE_EXPIRE. -/
def debounceExpires (s : State) (p : Nat) : State :=
  match (s.port p).debounceAt with
  | some u => if (s.port p).link == .debounce then (s.advanceTo u).linkFalls p else s
  | none => s

/-- Every frame that waits on a port, with its class and flow. -/
def queuedOn (s : State) (p : Nat) : List Nat :=
  let t := s.port p
  t.flows.flatMap (fun f => f.2.frames.map (·.id)) ++ t.spill.flatMap (fun f => f.2.frames.map (·.id))
    ++ t.retry.filterMap (fun r => r.2.map (·.1.id)) ++ t.suspended.map (fun x => x.qf.id) ++ t.arriving

/-- Take every waiting frame from a port and refuse each with a status. -/
def dropQueued (s : State) (p status : Nat) (counter : Option Nat) : State :=
  let l := s.queuedOn p
  let s := s.modPort p (fun t => { t with
    flows := t.flows.map (fun f => (f.1, { f.2 with frames := [] })), spill := Tab.mapAll {} (fun _ (f : Flow) =>
      { f with frames := [] }) t.spill
    retry := [], suspended := [], arriving := [] })
  l.foldl (fun s id => (match counter with | some o => s.count o | none => s).refuseCopy p id status) (s.noteIdle p)

/-- LINK_DOWN_DISCARD. -/
def downDiscard (s : State) (p : Nat) : State :=
  match (s.port p).discardAt with
  | some u =>
    if (s.port p).link != .down then s
    else (((s.advanceTo u).modPort p (fun t => { t with discardAt := none })).bringCredit p).dropQueued p 4
      (some (macCount p 0x1A8))
  | none => s

/-! ### Underrun and LPI, R299 and R309 to R312 -/

/-- TX_UNDERRUN: a spilled frame on the wire runs dry. -/
def underrun (s : State) (p : Nat) : State :=
  match (s.port p).wire with
  | some w =>
    let dry := match s.frame w.qf.id with | some f => f.place == .returning && decide (f.arrived < f.size) | none => false
    if w.kind != .frame || w.done || w.retry || !dry then s
    else
      let b := s.byteTime p
      let e := max s.nowQ (w.start + 8 * b) + 4 * b
      let t := s.port p
      let base := s.regBits (prtBase p + 0x80 + 4 * w.cls) 0 16
      let up := min (Tab.get 0 t.threshUp w.cls + 512) (16384 - base)
      let decay := s.regBits (prtBase p + 0xC0) 0 16
      let s := s.setPort p { t with
        wire := some { w with done := true, dataEnd := e, gapEnd := e + 12 * b }
        retry := Tab.set none t.retry w.cls (some (w.qf, w.flow))
        threshUp := Tab.set 0 t.threshUp w.cls up
        decayAt := Tab.set 0 t.decayAt w.cls (if decay = 0 then 0 else s.time.ticks + secTicks decay) }
      s.count (macCount p 0x1B8)
  | none => s

/-- UNDERRUN_DECAY of a class. -/
def underrunDecay (s : State) (p c : Nat) : State :=
  let u := Tab.get 0 (s.port p).decayAt c
  if u = 0 then s
  else
    let s := s.advanceTo u
    let t := s.port p
    let up := Tab.get 0 t.threshUp c - 512
    s.setPort p { t with
      threshUp := Tab.set 0 t.threshUp c up
      decayAt := Tab.set 0 t.decayAt c
        (if up = 0 then 0 else s.time.ticks + secTicks (s.regBits (prtBase p + 0xC0) 0 16)) }

/-- LPI_ENTER, R298 and R299. -/
def lpiEnter (s : State) (p : Nat) : State :=
  let t := s.port p
  let mode := s.portMode p
  let idle := t.wire.isNone && t.commit.isNone && t.ctrl.isEmpty && t.arriving.isEmpty
    && (upto 0 8).all (fun c => !s.classWaits p c)
  if s.reg (prtBase p + 0x20) % 2 = 0 || t.txLpi || !idle || !(16 ≤ p && p ≤ 23 && (mode == 4 || mode == 5 || mode == 7))
      || s.gateScheduled p || !s.portUp p then s
  else
    let s := s.advanceToQ (t.idleFrom + s.regBits (prtBase p + 0x20) 16 16 * 1000 * nsQ)
    (s.modPort p (fun t => { t with txLpi := true, lpiSince := s.time.ticks })).count (macCount p 0x278)

/-! ### LLDP, R264 -/

/-- LLDP_TX: the clerk's agent sends, every 30 s and within 1 s of a change of its values. -/
def lldpSend (s : State) (p : Nat) : State :=
  if !s.mmgEnable p || s.regBits (mmgBase p + 4) 6 1 = 1 || !s.portUp p then s
  else
    let s := match (s.port p).lldpAt with | some u => s.advanceTo u | none => s
    ((s.addCtrl p (.lldp (s.mmgAdvert p))).modPort p (fun t => { t with lldpAt := some (s.time.ticks + secTicks 30) })).kick p

end State

/-! ### Meanings -/

/-- WIRE_FREE of a port. -/
def execWireFree (p : Nat) (s : State) : Result := ok (if p ≤ 24 then s.wireEnds p else s)
/-- FRAGMENT_END of a port. -/
def execFragmentEnd (p : Nat) (s : State) : Result := ok (if p ≤ 24 then s.fragmentEnds p else s)
/-- FRAME_TX_END of a port. -/
def execFrameTxEnd (p : Nat) (s : State) : Result := ok (if p ≤ 24 then s.frameEnds p else s)
/-- CBS_CREDIT_ELIGIBLE of a class of a port. -/
def execCbsCreditEligible (p c : Nat) (s : State) : Result :=
  ok (if p ≤ 24 && c ≤ 7 && s.cbsEnabled p c then s.creditReady p c else s)
/-- SHAPER_ELIGIBLE of a flow of a class; flow 0 is the spill flow. -/
def execShaperEligible (p c n : Nat) (s : State) : Result :=
  ok (if p ≤ 24 && c ≤ 7 && n ≤ 4096 then s.shaperReady p c n else s)
/-- ENQUEUE_COMPLETE on a port. -/
def execEnqueueComplete (p : Nat) (s : State) : Result := ok (if p ≤ 24 then s.enqueue p else s)
/-- FLOW_AGE_EXPIRE of a context of a port. -/
def execFlowAgeExpire (p n : Nat) (s : State) : Result := ok (if p ≤ 24 then s.flowAges p n else s)
/-- GATE_ENTRY_CHANGE of a port. -/
def execGateEntryChange (p : Nat) (s : State) : Result := ok (if p ≤ 24 then s.gateChanges p else s)
/-- PAUSE_TIMER_EXPIRE. -/
def execPauseTimerExpire (p k : Nat) (s : State) : Result := ok (if p ≤ 24 then s.pauseExpires p k else s)
/-- PAUSE_REFRESH. -/
def execPauseRefresh (p k : Nat) (s : State) : Result := ok (if p ≤ 24 then s.pauseRefresh p k else s)
/-- VERIFY_SEND. -/
def execVerifySend (p : Nat) (s : State) : Result := ok (if p ≤ 23 then s.verifySend p else s)
/-- VERIFY_TIMEOUT. -/
def execVerifyTimeout (p : Nat) (s : State) : Result := ok (if p ≤ 23 then s.verifyTimeout p else s)
/-- LLDP_TX. -/
def execLldpTx (p : Nat) (s : State) : Result := ok (s.lldpSend p)
/-- PARTNER_VALUES_EXPIRE. -/
def execPartnerValuesExpire (p : Nat) (s : State) : Result := ok (if p ≤ 23 then s.partnerExpires p else s)
/-- OPERATION_MODE_CHANGE. -/
def execOperationModeChange (p : Nat) (s : State) : Result := ok (if p ≤ 23 then s.settleMode p else s)
/-- PCS_LINK_UP. -/
def execPcsLinkUp (p : Nat) (s : State) : Result := ok (if p ≤ 24 then s.pcsUp p else s)
/-- PCS_LINK_DOWN. -/
def execPcsLinkDown (p : Nat) (signal hiBer : Bool) (s : State) : Result :=
  ok (if p ≤ 24 then s.pcsDown p signal hiBer else s)
/-- LINK_DEBOUNCE_EXPIRE. -/
def execLinkDebounceExpire (p : Nat) (s : State) : Result := ok (if p ≤ 24 then s.debounceExpires p else s)
/-- LINK_DOWN_DISCARD. -/
def execLinkDownDiscard (p : Nat) (s : State) : Result := ok (if p ≤ 24 then s.downDiscard p else s)
/-- TX_UNDERRUN. -/
def execTxUnderrun (p : Nat) (s : State) : Result := ok (if p ≤ 24 then s.underrun p else s)
/-- UNDERRUN_DECAY. -/
def execUnderrunDecay (p c : Nat) (s : State) : Result := ok (if p ≤ 24 then s.underrunDecay p c else s)
/-- LPI_ENTER. -/
def execLpiEnter (p : Nat) (s : State) : Result := ok (if p ≤ 24 then s.lpiEnter p else s)

end Sys2Proof.Machine
end

