-- ==== Sys2Proof/Machine/StreamCmds.lean ====
section
/-!
DEFINITION. The 0x07xx commands (R386 to R393) and the policing commands of 0x06xx (R229, R236, R239).
-/

namespace Sys2Proof.Machine

/-! ### Registers -/

namespace State

/-- A word of the STM registers. -/
def stmWord (s : State) (o : Nat) : Nat :=
  if o = 0 then flag s.stream.rcvyExhausted + 2 * flag s.stream.streamsFull + 4 * flag s.stream.poolFull
  else if o = 4 then s.rcvyInUse
  else if o = 8 then s.streamsInUse
  else if o = 0xC then s.accountsInUse
  else if o = 0x10 then (s.stream.entries.filter (fun p => p.2.unrecovered)).length
  else if o = 0x14 then s.poolUsed
  else if o = 0x18 then s.poolCells
  else if 0x200 ≤ o ∧ o < 0x2E0 then (s.counter (stmBase + o / 8 * 8)).toNat / 2 ^ (32 * (o / 4 % 2)) % 2 ^ 32
  else if (regRow (stmBase + o)).isSome then s.reg (stmBase + o)
  else 0

end State

/-! ### Direct commands -/

/-- STREAM_STATUS: a copy of STM 0x000 to 0x2FF. -/
def execStreamStatus (c : Cmd) (s : State) : Result :=
  runStep 0x0700 c s (fun s => .ok s none ((upto 0 192).flatMap (fun i => leBytes 4 (s.stmWord (4 * i)))))

/-- STREAM_READ, R386. -/
def execStreamRead (c : Cmd) (s : State) : Result :=
  runStep 0x0701 c s (fun s =>
    let e := s.entry (c.f 0 0 24)
    if e.state = 0 then .refuse s .notActive else .ok s none (entryBytes e))

/-- The entry with a method, key and PORT, R387. -/
def findStream (s : State) (method port : Nat) (key : List Byte) : Option Nat :=
  let n := if method = 3 then 40 else 8
  Tab.findKey (fun _ e => e.state != 0 && e.method == method && e.port == port && slice e.key 0 n == slice key 0 n)
    s.stream.entries

/-- STREAM_FIND, R387. -/
def execStreamFind (c : Cmd) (s : State) : Result :=
  runStep 0x0702 c s (fun s =>
    match findStream s (c.f 0 0 3) (c.f 0 8 8) (slice c.params 4 40) with
    | some h => .ok s (some h)
    | none => .refuse s .notActive)

/-- RCVY_READ, R386. -/
def execRcvyRead (c : Cmd) (s : State) : Result :=
  runStep 0x0703 c s (fun s =>
    let r := s.rcvy (c.f 0 0 20)
    if r.state = 0 then .refuse s .notActive else .ok s none (rcvyBytes r))

/-- ACCOUNT_READ, R386. -/
def execAccountRead (c : Cmd) (s : State) : Result :=
  runStep 0x0704 c s (fun s =>
    let a := s.account (c.f 0 0 22)
    if !a.defined then .refuse s .notActive else .ok s none (accountBytes (c.f 0 0 22) a))

/-- SEQ_RESET, R388. KIND 3 has no meaning; it is refused as a target that is not defined (DEDUCED, log entry 10). -/
def execSeqReset (c : Cmd) (s : State) : Result :=
  runStep 0x0705 c s (fun s =>
    let i := c.f 4 0 24
    match c.f 0 0 2 with
    | 0 =>
      let r := s.rcvy i
      if r.state = 0 then .refuse s .notActive else .ok ((s.setRcvy i { r with takeAny := true }).mirrorRcvyOf i)
    | 1 =>
      let e := s.entry i
      if e.state = 0 then .refuse s .notActive
      else .ok ((s.setEntry i { e with genSeq := if e.format == 3 && e.skipZero then 1 else 0 }).mirrorEntryOf i)
    | 2 =>
      let a := s.account i
      if !a.defined then .refuse s .notActive
      else
        let s := if a.held.isEmpty then s else s.releaseThrough i (State.highestHeld a)
        .ok ((s.setAccount i { s.account i with takeAny := true }).mirrorAccountOf i)
    | _ => .refuse s .notActive)

/-- STREAM_FORGET, R389. -/
def execStreamForget (c : Cmd) (s : State) : Result :=
  runStep 0x0706 c s (fun s =>
    if (s.entry (c.f 0 0 24)).state != 2 then .refuse s .inconsistent else .ok (s.forget (c.f 0 0 24)))

/-! ### Bench commands -/

/-- ADDRESS and COUNT of SET_STREAMS, SET_RECOVERY and SET_ACCOUNTS. -/
def arrayParams : List FieldSpec := [urange 8 0 32 1 65536]

/-- Words 0x04 to 0x0C of a recovery record as value fields. -/
def recoveryFields : List FieldSpec :=
  [urange 4 16 11 2 1024, urange 8 0 16 1 65535, urange 8 16 16 10 65535, urange 0xC 0 16 1 65535]

/-- SET_STREAMS. -/
def execSetStreams (c : Cmd) (s : State) : Result :=
  benchArray 0x0710 c s arrayParams 8 64 0 [fenum 0 2 3 4 0, fenum 0 5 2 2 0, ⟨0, 8, 8, .anyPort⟩]

/-- SET_RECOVERY. -/
def execSetRecovery (c : Cmd) (s : State) : Result := benchArray 0x0711 c s arrayParams 8 16 0 recoveryFields

/-- SET_ACCOUNTS. -/
def execSetAccounts (c : Cmd) (s : State) : Result :=
  benchArray 0x0712 c s arrayParams 8 128 0 [urange 4 0 9 1 256, urange 4 16 16 1 65535, urange 8 0 32 1000 10000000,
    urange 0x10 0 16 10 65535, urange 0x10 16 16 1 65535]

/-- SET_MASK_RULE. -/
def execSetMaskRule (c : Cmd) (s : State) : Result :=
  runStep 0x0713 c s (fun s => acceptSetting s 0x0713 c c.params
    (if c.f 0 31 1 = 1 then [] else readImage s c (c.n 0x10 8) 128) [])

/-- SET_LEARN_RULE. -/
def execSetLearnRule (c : Cmd) (s : State) : Result :=
  benchSet 0x0714 c s ([fenum 0 5 2 2 0, urange 0 8 8 0 24, urange 0 16 8 0 24] ++ recoveryFields)

/-- SET_STREAM_GLOBAL. -/
def execSetStreamGlobal (c : Cmd) (s : State) : Result :=
  benchSet 0x0715 c s [urange 0 0 16 1 65535, urange 4 0 32 1000 3600000]

/-! ### Policing commands -/

/-- Words 0x04, 0x08 and 0x0C of SET_STREAM_FILTER. -/
def filterWords (f : StreamFilter) : List Byte :=
  leBytes 4 (f.handle % 2 ^ 24 + 2 ^ 24 * flag f.anyHandle + 2 ^ 25 * (f.prio % 8) + 2 ^ 28 * flag f.anyPrio)
    ++ leBytes 4 (f.maxSdu % 2 ^ 14 + 65536 * flag f.blockEn)

/-- FILTER_READ, R239. -/
def execFilterRead (c : Cmd) (s : State) : Result :=
  runStep 0x0602 c s (fun s =>
    let f := s.filter (c.f 0 0 18)
    if !f.enabled then .refuse s .notActive
    else .ok s none (filterWords f ++ leBytes 4 (f.meter % 2 ^ 18 + 2 ^ 31 * flag f.noMeter) ++ leBytes 4 (flag f.blocked)
      ++ [f.matched, f.passed, f.blockedCount, f.sduPassed, f.tooLong, f.red, f.yellowDropped].flatMap
        (fun x => leBytes 8 x.toNat)))

/-- Tokens of a meter as METER_READ shows them, signed in 2^-20 byte. -/
def tokenWord (x : Int) : List Byte := leBytes 8 (ofSigned 64 (x / 500000))

/-- METER_READ, R239; the buckets as R233 last left them. -/
def execMeterRead (c : Cmd) (s : State) : Result :=
  runStep 0x0603 c s (fun s =>
    let m := s.meter (c.f 0 0 18)
    if !m.defined then .refuse s .notActive
    else
      .ok s none (leBytes 4 m.cir ++ leBytes 4 m.cbs ++ leBytes 4 m.eir ++ leBytes 4 m.ebs
        ++ leBytes 4 (flag m.couple + 2 * flag m.aware + 4 * flag m.dropYellow + 8 * flag m.markEn + 16 * flag m.markRed)
        ++ zeros 4 ++ tokenWord m.c ++ tokenWord m.e
        ++ [m.green, m.yellow, m.red].flatMap (fun x => leBytes 8 x.toNat)))

/-- FILTER_UNBLOCK, R232 and R239. -/
def execFilterUnblock (c : Cmd) (s : State) : Result :=
  runStep 0x0604 c s (fun s =>
    let f := s.filter (c.f 0 0 18)
    if !f.enabled then .refuse s .notActive else .ok (s.setFilter (c.f 0 0 18) { f with blocked := false }))

/-- METER_UNMARK, R234 and R239. -/
def execMeterUnmark (c : Cmd) (s : State) : Result :=
  runStep 0x0605 c s (fun s =>
    let m := s.meter (c.f 0 0 18)
    if !m.defined then .refuse s .notActive else .ok (s.setMeter (c.f 0 0 18) { m with markRed := false }))

/-- SET_STREAM_FILTER. -/
def execSetStreamFilter (c : Cmd) (s : State) : Result := benchSet 0x0620 c s [⟨8, 0, 14, .zeroOr 64 16383⟩]

/-- SET_FLOW_METER. -/
def execSetFlowMeter (c : Cmd) (s : State) : Result :=
  benchSet 0x0621 c s [urange 4 0 32 0 100000000, urange 8 0 32 0 16777216, urange 0xC 0 32 0 100000000,
    urange 0x10 0 32 0 16777216]

/-! ### Pegged settings, R236, R382, R383, R393 -/

namespace State

/-- Entries of an array setting. -/
def Setting.entries (size : Nat) (x : Setting) : List (List Byte) :=
  (upto 0 (leAt x.params 8 4)).map (fun i => slice x.image (size * i) size)

/-- One entry of SET_STREAMS. An entry with the same method and key keeps GEN_SEQ (R393; DEDUCED, log entry 11). -/
def applyStreamEntry (s : State) (b : List Byte) : State :=
  let h := fieldAt b 0x3C 0 24
  let old := s.entry h
  let freed := if old.state = 2 then s.forget h else s.freeEntry h
  if fieldAt b 0x3C 31 1 = 1 then freed
  else
    let n := entryOf b
    let s := if old.state = 2 then s.forget h else s
    let same := old.state = 1 && old.method == n.method && old.key == n.key
    (s.setEntry h { n with state := 1, unrecovered := false, lastSeen := old.lastSeen
                           genSeq := if same then old.genSeq else n.genSeq }).mirrorEntryOf h

def applyStreams (s : State) (x : Setting) : State := (Setting.entries 64 x).foldl applyStreamEntry s

/-- One entry of SET_RECOVERY, R362 and R383. -/
def applyRecoveryEntry (s : State) (b : List Byte) : State :=
  let r := fieldAt b 0 0 20
  if fieldAt b 0 31 1 = 1 then s.freeRcvy r
  else
    let old := s.rcvy r
    let n := rcvyWith old b
    let reset := old.state = 0 || n.alg != old.alg || n.format != old.format || n.skipZero != old.skipZero
      || n.histLen != old.histLen
    (s.setRcvy r { n with state := 1, takeAny := old.takeAny || reset
                          leStart := if old.state = 0 then s.time.ticks else old.leStart }).mirrorRcvyOf r

def applyRecovery (s : State) (x : Setting) : State := (Setting.entries 16 x).foldl applyRecoveryEntry s

/-- One entry of SET_ACCOUNTS, R383: a new account takes any number first (DEDUCED, log entry 12). -/
def applyAccountEntry (s : State) (b : List Byte) : State :=
  let a := fieldAt b 0 0 22
  let old := s.account a
  if fieldAt b 0 23 1 = 1 then
    let s := if old.held.isEmpty then s else s.releaseThrough a (highestHeld old)
    (s.setAccount a {}).mirrorAccountOf a
  else if !old.defined then
    (s.setAccount a { accountWith {} b with takeAny := true, leStart := s.time.ticks }).mirrorAccountOf a
  else
    let q := accountQ old
    let w := fieldAt b 4 0 9
    let far := highestHeld old
    let s := if !old.held.isEmpty && w < (far + q - old.next % q) % q then s.releaseThrough a ((far + q - w) % q) else s
    (s.setAccount a (accountWith (s.account a) b)).mirrorAccountOf a

def applyAccounts (s : State) (x : Setting) : State := (Setting.entries 128 x).foldl applyAccountEntry s

def applyMaskRule (s : State) (x : Setting) : State :=
  let n := fieldAt x.params 0 0 10
  let r : Option MaskRule := if fieldAt x.params 0 31 1 = 1 then none else
    some { portMask := fieldAt x.params 4 0 25, handle := fieldAt x.params 8 0 24, mask := slice x.image 0 64
           value := slice x.image 64 64 }
  { s with stream := { s.stream with rules := Tab.set none s.stream.rules n r } }

/-- R391, R392: entries already learned keep their settings. -/
def applyLearnRule (s : State) (x : Setting) : State :=
  let a := stmBase + 0x100 + 0x20 * fieldAt x.params 0 0 4
  (((s.setReg a (fieldAt x.params 0 0 24)).setReg (a + 4) (leAt x.params 4 4)).setReg (a + 8) (leAt x.params 8 4)).setReg
    (a + 0xC) (leAt x.params 0xC 4)

def applyStreamGlobal (s : State) (x : Setting) : State :=
  (((s.setReg (stmBase + 0x40) (fieldAt x.params 0 0 17)).setReg (stmBase + 0x48) (fieldAt x.params 0 24 8)).setReg
    (stmBase + 0x44) (leAt x.params 4 4)).setReg (stmBase + 0x80 + 4 * fieldAt x.params 8 0 8)
    (fieldAt x.params 8 8 1 + 16 * fieldAt x.params 8 12 4)

/-- A pegged SET_STREAM_FILTER defines, redefines or removes a filter; a redefined one is not blocked (R232). Its
counters stay (DEDUCED, log entry 13). -/
def applyStreamFilter (s : State) (x : Setting) : State :=
  let p := x.params
  let n := fieldAt p 0 0 18
  if fieldAt p 0 31 1 = 1 then s.setFilter n {}
  else s.setFilter n { s.filter n with
    enabled := true, blocked := false, handle := fieldAt p 4 0 24, anyHandle := fieldAt p 4 24 1 == 1
    prio := fieldAt p 4 25 3, anyPrio := fieldAt p 4 28 1 == 1, maxSdu := fieldAt p 8 0 14
    blockEn := fieldAt p 8 16 1 == 1, meter := fieldAt p 0xC 0 18, noMeter := fieldAt p 0xC 31 1 == 1 }

/-- A pegged SET_FLOW_METER, R234 and R236: each bucket is brought up to the peg at the old rate, and tokens beyond a
smaller bucket go. -/
def applyFlowMeter (s : State) (x : Setting) : State :=
  let p := x.params
  let n := fieldAt p 0 0 18
  let cbs := leAt p 8 4
  let ebs := leAt p 0x10 4
  if fieldAt p 0 31 1 = 1 then s.setMeter n {}
  else
    let old := s.meter n
    let m := if old.defined then meterUpdate old s.nowU
      else { c := cbs * meterByte, e := ebs * meterByte, last := s.nowU }
    s.setMeter n { m with
      defined := true, markRed := false, couple := fieldAt p 0 24 1 == 1, aware := fieldAt p 0 25 1 == 1
      dropYellow := fieldAt p 0 26 1 == 1, markEn := fieldAt p 0 27 1 == 1, cir := leAt p 4 4, cbs := cbs
      eir := leAt p 0xC 4, ebs := ebs, c := min m.c (cbs * meterByte), e := min m.e (ebs * meterByte) }

end State

/-! ### Dry fit, R229, R230, R349, R357, R367, R371, R390, R391 -/

/-- No two elements of a list agree in a key. -/
def distinct {α : Type} [DecidableEq α] : List α → Bool
  | [] => true
  | a :: l => !l.contains a && distinct l

/-- The identification key of an entry, with its method and PORT. -/
def entryKey (e : StreamEntry) : Nat × Nat × List Byte :=
  (e.method, e.port, slice e.key 0 (if e.method = 3 then 40 else if e.method = 4 then 2 else 8))

/-- R349 over the entries that a bench leaves. -/
def streamsFit (t : State) : Bool :=
  let st := t.stream.entries.filter (fun p => p.2.state == 1)
  distinct (st.map (fun p => entryKey p.2))
    && st.all (fun p => p.2.method != 0 || !st.any (fun q => q.2.method == 2 && q.2.port == p.2.port
      && slice q.2.key 0 8 == slice p.2.key 0 8))
    && st.all (fun p => !p.2.rcvyEn || (t.rcvy p.2.rcvy).state == 1)
    && st.all (fun p => p.2.method != 4 || (match Tab.get none t.stream.rules (leAt p.2.key 0 2 % 1024) with
      | some r => r.handle == p.1
      | none => false))

/-- Two valid paths of different or the same account with one key, R371. -/
def pathsDistinct (t : State) : Bool :=
  distinct (t.stream.accounts.flatMap (fun p => if !p.2.defined then [] else
    (p.2.paths.filter (·.valid)).map (fun x => (x.src, x.label, x.ipv6))))

/-- What the dry fit answers for one stream or policing setting: `s` is the state it acts on, `t` the state that the
whole bench would leave. -/
def streamFit (s t : State) (x : Setting) : Option Status :=
  match x.opcode with
  | 0x0710 => if maxStreams < t.streamsInUse then some .noCapacity else if streamsFit t then none else some .inconsistent
  | 0x0711 =>
    let learned := (s.stream.rcvy.filter (fun p => p.2.state == 2)).length
    if maxRcvy - learned < (t.stream.rcvy.filter (fun p => p.2.state == 1)).length then some .noCapacity
    else if (State.Setting.entries 16 x).any (fun b => fieldAt b 0 31 1 = 0 && (s.rcvy (fieldAt b 0 0 20)).state == 2) then
      some .inconsistent
    else if (State.Setting.entries 16 x).any (fun b => fieldAt b 0 31 1 = 1 && t.stream.entries.any (fun p =>
        p.2.state != 0 && p.2.rcvyEn && !p.2.unrecovered && p.2.rcvy == fieldAt b 0 0 20)) then some .inconsistent
    else if streamsFit t then none else some .inconsistent
  | 0x0712 =>
    if maxAccounts < t.accountsInUse then some .noCapacity
    else if (State.Setting.entries 128 x).any (fun b =>
        fieldAt b 0 23 1 = 1 && !(s.account (fieldAt b 0 0 22)).defined) then some .inconsistent
    else if t.stream.accounts.any (fun p => p.2.defined && (!p.2.paths.any (·.valid) || p.2.resetMs * 1000 ≤ p.2.holdMax)) then
      some .inconsistent
    else if pathsDistinct t then none else some .inconsistent
  | 0x0713 => if streamsFit t then none else some .inconsistent
  | 0x0714 => if fieldAt x.params 0 8 8 = fieldAt x.params 0 16 8 then some .inconsistent else none
  | 0x0620 =>
    let fs := t.stream.filters.filter (fun p => p.2.enabled)
    if 262144 < fs.length then some .noCapacity
    else if distinct (fs.map (fun p => (if p.2.anyHandle then none else some p.2.handle,
        if p.2.anyPrio then none else some p.2.prio))) && fs.all (fun p => p.2.noMeter || (t.meter p.2.meter).defined) then none
    else some .inconsistent
  | 0x0621 =>
    if 262144 < (t.stream.meters.filter (fun p => p.2.defined)).length then some .noCapacity
    else if t.stream.filters.all (fun p => !p.2.enabled || p.2.noMeter || (t.meter p.2.meter).defined) then none
    else some .inconsistent
  | _ => none

/-- The account identifiers that AUTO assigns, R367 and R371: the lowest that the bench leaves free, where `s` is the
state that its other entries leave and `used` those assigned already; each entry is answered with its identifier
written in. -/
def assignAuto (s : State) : List (List Byte) → List Nat → List (List Byte)
  | [], _ => []
  | b :: bs, used =>
    if fieldAt b 0 22 1 = 1 && fieldAt b 0 23 1 = 0 then
      let free (i : Nat) : Bool := !used.contains i && !(s.account i).defined
      let a := seekFree free maxAccounts (used.length + s.stream.accounts.length + 1) 0
      setFieldAt b 0 4 0 22 a :: assignAuto s bs (a :: used)
    else b :: assignAuto s bs used

end Sys2Proof.Machine
end

