-- ==== Sys2Proof/Machine/PortCmds.lean ====
section
/-!
DEFINITION. The commands of the ports, the gates, queue service and MAC merge (0x04xx, 0x05xx, 0x0600, 0x0601,
0x0610 to 0x0612), the words of a port's registers, and what their settings do at a peg.
-/

namespace Sys2Proof.Machine

namespace State

/-! ### Registers -/

/-- PRT_STATUS. -/
def prtStatus (s : State) (p : Nat) : Nat :=
  let t := s.port p
  let link := match t.link with | .down => 0 | .up => 1 | .debounce => 2
  flag (s.inService p) + 2 * link + 8 * flag t.fecLock + 16 * flag t.hiBer + 32 * flag t.txLpi + 64 * flag t.rxLpi
    + 128 * flag t.signal + (upto 0 8).foldl (fun n c => n + 2 ^ (8 + c) * flag (s.pausedAt p c s.nowQ)) 0
    + 65536 * flag (s.macsecOn p)

/-- A word of the MAC sub-block of a port in service. -/
def macWord (s : State) (p o : Nat) : Nat :=
  if o = 0 then s.prtStatus p
  else if 0xA0 ≤ o ∧ o < 0xC0 then s.threshNow p ((o - 0xA0) / 4)
  else if o = 0xC8 then s.portMac p % 2 ^ 32
  else if o = 0xCC then s.portMac p / 2 ^ 32
  else if 0x100 ≤ o ∧ o < 0x3D8 then (s.counter (prtBase p + o / 8 * 8)).toNat / 2 ^ (32 * (o / 4 % 2)) % 2 ^ 32
  else if (regRow (prtBase p + o)).isSome then s.reg (prtBase p + o)
  else 0

/-- A word of a port's region; the region of an index that is not in service reads zero (R195, R237, R827). -/
def prtWord (s : State) (p o : Nat) : Nat :=
  if !s.inService p then 0
  else if o < 0x4000 then s.macWord p o
  else if o < 0x8000 then (if p = 24 then 0 else s.mmgWord p (o - 0x4000))
  else if o < 0xC000 then s.gatWord p (o - 0x8000)
  else s.qsvWord p (o - 0xC000)

/-- n words of a port's region from an offset. -/
def prtCopy (s : State) (p o n : Nat) : List Byte := (upto 0 n).flatMap (fun i => leBytes 4 (s.prtWord p (o + 4 * i)))

end State

/-- A direct command of a port: NOT_ACTIVE on an index that is not in service, R326. -/
def portStep (code : Nat) (c : Cmd) (s : State) (eff : State → Nat → Eff) : Result :=
  runStep code c s (fun s => if s.inService (c.f 0 0 8) then eff s (c.f 0 0 8) else .refuse s .notActive)

/-! ### Direct commands -/

/-- PORT_STATUS: a copy of the MAC sub-block. -/
def execPortStatus (c : Cmd) (s : State) : Result := portStep 0x0400 c s (fun s p => .ok s none (s.prtCopy p 0 256))

/-- LINK_RESTART, R281. -/
def execLinkRestart (c : Cmd) (s : State) : Result := portStep 0x0401 c s (fun s p => .ok (s.linkFalls p))

/-- MACSEC_SC_READ. -/
def execMacsecScRead (c : Cmd) (s : State) : Result :=
  portStep 0x0402 c s (fun s p =>
    let k := s.secChan p (c.f 0 8 8)
    if !k.defined then .refuse s .notActive
    else
      let a (n : Nat) : Option SecAssoc := Tab.get none k.assocs n
      .ok s none (leBytes 8 k.sci.toNat ++ leBytes 4 (flag k.tx + 16 * k.encAn
          + (upto 0 4).foldl (fun m n => m + 2 ^ (8 + n) * flag (a n).isSome) 0) ++ zeros 4
        ++ (upto 0 4).flatMap (fun n => leBytes 8 (match a n with | some x => x.nextPn | none => 0))
        ++ leBytes 8 k.frames.toNat ++ leBytes 8 k.discarded.toNat))

/-- THRESH_RESET, R310. -/
def execThreshReset (c : Cmd) (s : State) : Result :=
  portStep 0x0403 c s (fun s p => .ok (s.modPort p (fun t => { t with threshUp := [], decayAt := [] })))

/-- MAC_MERGE_STATUS. -/
def execMacMergeStatus (c : Cmd) (s : State) : Result :=
  portStep 0x0408 c s (fun s p => .ok s none (s.prtCopy p 0x4000 100))

/-- MAC_MERGE_PARTNER, R276. -/
def execMacMergePartner (c : Cmd) (s : State) : Result :=
  portStep 0x0409 c s (fun s p =>
    if s.regBits (mmgBase p + 4) 6 1 = 0 then .refuse s .notActive
    else if c.f 4 16 16 = 0 then .refuse s .inconsistent
    else .ok (s.setPartner p (c.f 0 8 1 == 1) (c.f 0 9 1 == 1) (c.f 0 16 5) (c.f 0 24 4) (c.f 4 0 8) (c.f 4 16 16)))

/-- VERIFY_RESTART, R268 and R275. -/
def execVerifyRestart (c : Cmd) (s : State) : Result :=
  portStep 0x040A c s (fun s p =>
    if (s.port p).verify != .failed then .ok s
    else .ok ((s.modPort p (fun t => { t with verify := .waitPartner })).verifyStep p))

/-- GATE_STATUS. -/
def execGateStatus (c : Cmd) (s : State) : Result :=
  runStep 0x0500 c s (fun s =>
    let p := c.f 0 0 8
    let next := if s.listsRun p then toStamp ((s.nextGateChange p).getD 0) else 0
    .ok s none (leBytes 4 (s.prtWord p 0x8000) ++ leBytes 4 (s.prtWord p 0x8018) ++ leBytes 4 s.nowCycle.toNat
      ++ leBytes 12 next ++ zeros 8))

/-- The image of a cutting list, R162 and R163. -/
def listImage (p pat : Nat) (entries : List GateEntry) (cycleNs : Nat) : List Byte :=
  leBytes 4 0x31544C43 ++ leBytes 2 1 ++ leBytes 1 p ++ leBytes 1 pat ++ leBytes 2 entries.length ++ zeros 2
    ++ leBytes 4 cycleNs
    ++ entries.flatMap (fun e => leBytes 4 e.interval ++ leBytes 4 (e.gates.toNat + 256 * flag e.hold + 512 * flag e.span))

/-- GATE_LIST_READ, R196. -/
def execGateListRead (c : Cmd) (s : State) : Result :=
  runStep 0x0501 c s (fun s =>
    let p := c.f 0 0 8
    let l := s.gateList p (c.f 0 8 3)
    let b := listImage p (c.f 0 8 3) l.entries l.cycleNs
    if l.entries.isEmpty then .refuse s .notActive
    else if c.n 0x10 4 < b.length then .refuse s .badLength (some b.length)
    else .ok (s.writeHost (s.cmdFn c) (c.n 8 8) b))

/-- QSV_STATUS. -/
def execQsvStatus (c : Cmd) (s : State) : Result :=
  runStep 0x0600 c s (fun s => .ok s none (s.prtCopy (c.f 0 0 8) 0xC000 128))

/-- The reply of FLOW_READ. -/
def flowBytes (s : State) (f : Flow) : List Byte :=
  leBytes 4 f.ftag.toNat
    ++ leBytes 4 (f.number + 8192 * f.cls + 65536 * flag f.static + 131072 * flag (f.rate != 0)
      + 262144 * flag (flowEligible f s.nowQ))
    ++ leBytes 4 (f.weight + 65536 * ofSigned 8 f.oflow) ++ zeros 4 ++ leBytes 8 f.fprev.toNat
    ++ leBytes 8 (match f.frames.head? with | some q => q.tag.toNat | none => 0)
    ++ leBytes 4 f.frames.length ++ zeros 4 ++ leBytes 8 (f.frames.foldl (fun n q => n + q.len) 0)
    ++ leBytes 4 f.rate ++ leBytes 4 f.bucket
    ++ leBytes 8 (ofSigned 64 (if f.rate = 0 then 0 else tokensAt f s.nowQ / 1000000000))

/-- FLOW_READ, R238. -/
def execFlowRead (c : Cmd) (s : State) : Result :=
  runStep 0x0601 c s (fun s =>
    let p := c.f 0 0 8
    let k := c.f 0 9 3
    let n := if c.f 0 8 1 = 1 then s.boundFlow p k (BitVec.ofNat 32 (c.n 4 4)) else some (c.f 0 16 13)
    match n with
    | none => .refuse s .notActive
    | some n =>
      let f := s.flowAt p k n
      if n != 0 && f.number = 0 then .refuse s .notActive else .ok s none (flowBytes s f))

/-! ### Bench commands -/

/-- The mode of a port that a bench holds so far: the mode in force, with every SET_PORT_MODE accepted in it. -/
def benchMode (s : State) (xs : List Setting) (p : Nat) : Nat :=
  xs.foldl (fun m x => if x.opcode = 0x0410 && fieldAt x.params 0 0 8 = p then fieldAt x.params 0 8 4 else m) (s.portMode p)

/-- SET_PORT_MODE, R278 and R588. -/
def execSetPortMode (c : Cmd) (s : State) : Result :=
  runStep 0x0410 c s (fun s =>
    let p := c.f 0 0 8
    let m := c.f 0 8 4
    let m' := if modeAllowed p m then m else s.portMode p
    let f := c.f 0 12 2
    let f' := if fecAllowed m' f then f else 0
    let params := setFieldAt (setFieldAt c.params 0 4 8 4 m') 0 4 12 2 f'
    acceptSetting s 0x0410 c params []
      ((if m' = m then [] else [⟨0, 8, 4, 3, m, m', false⟩]) ++ (if f' = f then [] else [⟨0, 12, 2, 3, f, f', false⟩])))

/-- SET_PORT_FRAME. -/
def execSetPortFrame (c : Cmd) (s : State) : Result :=
  benchSet 0x0411 c s [urange 4 0 14 64 16383, urange 4 16 16 256 16384 256, urange 8 16 16 1 60000,
    urange 0xC 8 16 0 3600]

/-- SET_FLOW_CONTROL. -/
def execSetFlowControl (c : Cmd) (s : State) : Result :=
  benchSet 0x0412 c s [fenum 0 8 2 2 0, urange 0 16 16 1 65535, urange 0xC 0 32 1 262144, urange 0x10 0 32 0 262143]

/-- SET_EEE. -/
def execSetEee (c : Cmd) (s : State) : Result :=
  benchSet 0x0413 c s [urange 4 0 16 1 65535, urange 8 0 32 1000 1000000]

/-- SET_PORT_WAKE. -/
def execSetPortWake (c : Cmd) (s : State) : Result := benchSet 0x0414 c s []

/-- SET_MACSEC_PORT. -/
def execSetMacsecPort (c : Cmd) (s : State) : Result := benchSet 0x0415 c s [fenum 0 9 2 2 0]

/-- SET_MACSEC_SC. -/
def execSetMacsecSc (c : Cmd) (s : State) : Result := benchSet 0x0416 c s []

/-- The cipher suite that a bench holds so far for a channel. -/
def benchCipher (s : State) (xs : List Setting) (p k : Nat) : Nat :=
  xs.foldl (fun m x => if x.opcode = 0x0416 && fieldAt x.params 0 0 8 = p && fieldAt x.params 0 8 8 = k
    then fieldAt x.params 0 18 2 else m) (s.secChan p k).cipher

/-- SET_MACSEC_SA. -/
def execSetMacsecSa (c : Cmd) (s : State) : Result :=
  runStep 0x0417 c s (fun s =>
    let wide := 2 ≤ benchCipher s (s.bench c.bench.toNat).settings (c.f 0 0 8) (c.f 0 8 8)
    let r := clampAll [urange 8 0 64 1 (if wide then 2 ^ 64 - 1 else 2 ^ 32 - 1)] c.params
    acceptSetting s 0x0417 c r.1 [] r.2)

/-- SET_MAC_MERGE. -/
def execSetMacMerge (c : Cmd) (s : State) : Result := benchSet 0x0418 c s [urange 4 16 8 1 128, urange 4 24 8 1 255]

/-- SET_CUTTING_LIST: the INTERVAL of each entry is clamped in the image, R163. -/
def execSetCuttingList (c : Cmd) (s : State) : Result :=
  runStep 0x0510 c s (fun s =>
    if c.f 0 11 1 = 1 then acceptSetting s 0x0510 c c.params [] []
    else
      let r := clampAll [urange 0x10 0 32 24 32784] c.params
      let n := leAt r.1 0x10 4
      let img := clampArray [urange 0 0 32 8 1000000000] 8 ((n - 16) / 8) 16 (readImage s c (c.n 8 8) n)
      acceptSetting s 0x0510 c r.1 img.1 (r.2 ++ img.2))

/-- SET_GATE_PORT. -/
def execSetGatePort (c : Cmd) (s : State) : Result :=
  benchSet 0x0511 c s [urange 4 0 32 0 1000000000, urange 8 16 8 20 255, urange 0xC 0 32 0 1000000000]

/-- SET_QSV_PORT. -/
def execSetQsvPort (c : Cmd) (s : State) : Result :=
  benchSet 0x0610 c s [srange 0 8 9 (-64) 255, urange 8 0 32 0 3600000]

/-- The upper limit of IDLE_SLOPE at acceptance, R204. -/
def slopeLimit (s : State) (c : Cmd) : Nat :=
  let xs := (s.bench c.bench.toNat).settings
  let p := c.f 0 0 8
  if State.inServiceBy (benchMode s xs) p then modeRate (benchMode s xs p) else 100000000

/-- SET_CLASS_SERVICE. -/
def execSetClassService (c : Cmd) (s : State) : Result :=
  runStep 0x0611 c s (fun s =>
    let r := clampAll [urange 4 0 32 1 (slopeLimit s c), urange 8 0 16 1 65535, srange 8 16 8 (-32) 127,
      urange 0xC 0 16 1 65535, urange 0x10 0 32 0 100000000, urange 0x14 0 32 0 16777216] c.params
    acceptSetting s 0x0611 c r.1 [] r.2)

/-- SET_FLOW. -/
def execSetFlow (c : Cmd) (s : State) : Result :=
  benchSet 0x0612 c s [urange 8 0 16 1 65535, srange 8 16 8 (-32) 127, urange 0xC 0 32 0 100000000,
    urange 0x10 0 32 0 16777216]

/-! ### Settings at a peg -/

/-- A shaper's new rate and bucket, R224 to R226. -/
def reshape (f : Flow) (rate bucket now : Nat) : Flow :=
  let full : Int := ((bucket * tokUnit : Nat) : Int)
  { f with rate := rate, bucket := bucket, tokAt := now
           tokens := if rate = 0 then 0 else if f.rate = 0 then full else min (tokensAt f now) full }

namespace State

/-- A cutting list from an accepted image. -/
def listOf (x : Setting) : GateList :=
  let b := x.image
  let n := min (leAt b 8 2) ((b.length - 16) / 8)
  let es := (upto 0 n).map (fun i =>
    { interval := leAt b (16 + 8 * i) 4, gates := BitVec.ofNat 8 (leAt b (20 + 8 * i) 1)
      hold := fieldAt b (20 + 8 * i) 8 1 == 1, span := fieldAt b (20 + 8 * i) 9 1 == 1 : GateEntry })
  let p := fieldAt x.params 0 0 8
  let pat := fieldAt x.params 0 8 3
  { entries := es, cycleNs := leAt b 0xC 4, listId := BitVec.ofNat 32 (crc32 (listImage p pat es (leAt b 0xC 4)))
    headerOk := leAt b 0 4 == 0x31544C43 && leAt b 4 2 == 1 && 1 ≤ leAt b 8 2 && leAt b 8 2 ≤ 4096
      && b.length == 16 + 8 * leAt b 8 2 && leAt b 6 1 == p && fieldAt b 7 0 3 == pat }

/-- One setting of the MAC, MACsec and MAC merge of a port. -/
def applyMac (s : State) (x : Setting) : State :=
  let b := x.params
  let p := fieldAt b 0 0 8
  let base := prtBase p
  match x.opcode with
  | 0x0410 => s.setReg (base + 4) (leAt b 0 4 % 2 ^ 24)
  | 0x0411 =>
    let s := (s.setReg (base + 8) (fieldAt b 4 0 14 + 65536 * fieldAt b 0 16 3)).setReg (base + 0x34)
      (fieldAt b 8 0 8 + 65536 * fieldAt b 8 16 16)
    let s := (s.setReg (base + 0x38) (fieldAt b 0xC 0 8)).setReg (base + 0xC0) (fieldAt b 0xC 8 16)
    let s := s.modPort p (fun t => { t with mac := some (BitVec.ofNat 48 (beAt b 0x10 6)) })
    ((upto 0 8).filter (bit (fieldAt b 0 8 8))).foldl (fun s c => s.setReg (base + 0x80 + 4 * c) (fieldAt b 4 16 16)) s
  | 0x0412 =>
    let s := s.setReg (base + 0xC) (fieldAt b 0 8 4 + 65536 * fieldAt b 0 16 16)
    (((s.setReg (base + 0x10) (leAt b 4 4)).setReg (base + 0x14) (leAt b 8 4)).setReg (base + 0x18) (leAt b 0xC 4)).setReg
      (base + 0x1C) (leAt b 0x10 4)
  | 0x0413 => (s.setReg (base + 0x20) (fieldAt b 0 8 1 + 65536 * fieldAt b 4 0 16)).setReg (base + 0x24) (leAt b 8 4)
  | 0x0414 =>
    ((s.setReg (base + 0x28) (fieldAt b 0 8 3)).setReg (base + 0x2C) (leAt b 4 4)).setReg (base + 0x30) (fieldAt b 8 0 16)
  | 0x0415 =>
    let w := 256 * fieldAt b 0 8 4 + 65536 * fieldAt b 0 16 8
    (s.setReg (base + 0x3C) w).setReg64 (base + 0x40) (leAt b 8 8)
  | 0x0416 =>
    let k := fieldAt b 0 8 8
    if fieldAt b 0 17 1 = 1 then s.setSecChan p k {}
    else s.setSecChan p k { s.secChan p k with
      defined := true, tx := fieldAt b 0 16 1 == 1, cipher := fieldAt b 0 18 2, confOffset := fieldAt b 0 20 2
      includeSci := fieldAt b 0 22 1 == 1, replayProtect := fieldAt b 0 23 1 == 1, encAn := fieldAt b 0 24 2
      window := leAt b 4 4, sci := BitVec.ofNat 64 (leAt b 8 8) }
  | 0x0417 =>
    let k := fieldAt b 0 8 8
    let ch := s.secChan p k
    let wide := decide (2 ≤ ch.cipher)
    let a : SecAssoc :=
      { nextPn := leAt b 8 8, key := slice b 0x10 (if ch.cipher % 2 = 0 then 16 else 32)
        ssci := BitVec.ofNat 32 (if wide then leAt b 0x30 4 else 0), salt := if wide then slice b 0x34 12 else [] }
    s.setSecChan p k { ch with
      assocs := Tab.set none ch.assocs (fieldAt b 0 16 2) (if fieldAt b 0 18 1 = 1 then none else some a) }
  | _ =>
    let w := fieldAt b 0 8 4 + 16 * fieldAt b 0 12 2 + 64 * fieldAt b 0 14 1 + 256 * fieldAt b 4 16 8 + 65536 * fieldAt b 4 24 8
    (s.setReg (mmgBase p + 4) w).setReg (mmgBase p + 8) (fieldAt b 4 0 16)

/-- SET_CUTTING_LIST and SET_GATE_PORT, R170 and R197. -/
def applyGate (s : State) (x : Setting) : State :=
  let b := x.params
  let p := fieldAt b 0 0 8
  if x.opcode = 0x0510 then
    let l : GateList := if fieldAt b 0 11 1 = 1 then {} else listOf x
    s.modPort p (fun t => { t with lists := Tab.set {} t.lists (fieldAt b 0 8 3) l })
  else
    let s := s.setReg (gatBase p + 4) (fieldAt b 0 8 1 + 256 * fieldAt b 0 16 8 + 65536 * fieldAt b 0 24 8)
    (((s.setReg (gatBase p + 8) (leAt b 4 4)).setReg (gatBase p + 0xC) (fieldAt b 8 0 16)).setReg (gatBase p + 0x10)
      (fieldAt b 8 16 8)).setReg (gatBase p + 0x14) (leAt b 0xC 4)

/-- SET_QSV_PORT and SET_CLASS_SERVICE: a class whose shaper goes off has no credit. -/
def applyService (s : State) (x : Setting) : State :=
  let b := x.params
  let p := fieldAt b 0 0 8
  if x.opcode = 0x0610 then
    let on := fieldAt b 0 24 8
    let s := s.setReg (qsvBase p + 4) (fieldAt b 4 0 24)
    let s := (s.setReg (qsvBase p + 8) (fieldAt b 0 8 9 + 65536 * on)).setReg (qsvBase p + 0xC) (leAt b 8 4)
    (s.modPort p (fun t => { t with credit := t.credit.filter (fun e => bit on e.1) })).noteIdle p
  else
    let c := fieldAt b 0 8 3
    let f := reshape (s.flowAt p c 0) (leAt b 0x10 4) (leAt b 0x14 4) s.nowQ
    let o := qsvBase p + 0x100 + 0x20 * c
    let s := ((s.setReg o (leAt b 4 4)).setReg (o + 8) (fieldAt b 8 0 24)).setReg (o + 0xC) (fieldAt b 0xC 0 16)
    ((s.setReg (o + 0x18) (leAt b 0x10 4)).setReg (o + 0x1C) (leAt b 0x14 4)).setFlow p c 0 f

/-! ### Static flows, R210 to R212 -/

/-- The last SET_FLOW of each port, class and tag, in the order of acceptance. -/
def lastFlows : List Setting → List Setting
  | [] => []
  | x :: xs =>
    if xs.any (fun y => fieldAt y.params 0 0 12 % 2048 == fieldAt x.params 0 0 12 % 2048 && leAt y.params 4 4 == leAt x.params 4 4)
    then lastFlows xs else x :: lastFlows xs

/-- A removed static binding becomes a learned one. -/
def unbindFlow (s : State) (x : Setting) : State :=
  let b := x.params
  let p := fieldAt b 0 0 8
  let c := fieldAt b 0 8 3
  match s.boundFlow p c (BitVec.ofNat 32 (leAt b 4 4)) with
  | none => s
  | some n =>
    let f := s.flowAt p c n
    if !f.static then s
    else s.setFlow p c n { reshape f 0 0 s.nowQ with static := false, weight := s.defWeight p c, oflow := s.defOflow p c }

/-- What a transmission, a suspended frame or a retry holds of a flow follows the flow to another context. -/
def renameFlow (s : State) (p c : Nat) (g : Nat → Nat) : State :=
  let onWire (w : Wire) : Wire := if w.kind == .frame && w.cls == c then { w with flow := g w.flow } else w
  s.modPort p (fun t => { t with
    wire := t.wire.map onWire
    commit := t.commit.map onWire
    suspended := t.suspended.map (fun x => if x.cls == c then { x with flow := g x.flow } else x)
    retry := match Tab.get none t.retry c with
      | some (q, n) => Tab.set none t.retry c (some (q, g n))
      | none => t.retry })

/-- A learned binding leaves its context to a static one: its frames move to the spill flow of their class. -/
def evictFlow (s : State) (p n : Nat) : State :=
  let f : Flow := Tab.get {} (s.port p).flows n
  if f.number = 0 then s
  else
    let sp := s.flowAt p f.cls 0
    let s := s.setFlow p f.cls n {}
    let s := s.setFlow p f.cls 0 { sp with
      frames := sp.frames ++ (if sp.frames.isEmpty then f.frames else f.frames.map (fun q => { q with checked := false })) }
    let s := (s.renameFlow p f.cls (fun m => if m = n then 0 else m)).count (qsvCount p f.cls 7)
    if sp.frames.isEmpty && !f.frames.isEmpty then
      s.raise (schedSource p) 0x22 0
    else s

/-- Take the bindings of one bench's SET_FLOWs out of their contexts. -/
def liftFlows (s : State) : List Setting → List (Setting × Flow) × State
  | [] => ([], s)
  | x :: xs =>
    let b := x.params
    let p := fieldAt b 0 0 8
    let c := fieldAt b 0 8 3
    let r := match s.boundFlow p c (BitVec.ofNat 32 (leAt b 4 4)) with
      | some n => (s.flowAt p c n, s.setFlow p c n {})
      | none => (({ fprev := Tab.get 0 (s.port p).vtime c } : Flow), s)
    let t := liftFlows r.2 xs
    ((x, r.1) :: t.1, t.2)

/-- Put a static binding into its context. -/
def placeFlow (s : State) (x : Setting) (f : Flow) : State :=
  let b := x.params
  let p := fieldAt b 0 0 8
  let c := fieldAt b 0 8 3
  let n := fieldAt b 0 16 13
  let f := reshape f (leAt b 0xC 4) (leAt b 0x10 4) s.nowQ
  (s.evictFlow p n).setFlow p c n { f with
    number := n, ftag := BitVec.ofNat 32 (leAt b 4 4), cls := c, static := true, weight := fieldAt b 8 0 16
    oflow := toSigned 8 (fieldAt b 8 16 8), idleFrom := none }

/-- Apply the SET_FLOWs of a bench, R211 and R212. -/
def applyFlows (s : State) (xs : List Setting) : State :=
  let l := lastFlows (xs.filter (fun x => x.opcode == 0x0612))
  let gone := l.filter (fun x => fieldAt x.params 0 11 1 = 1)
  let kept := l.filter (fun x => fieldAt x.params 0 11 1 = 0)
  let s := gone.foldl unbindFlow s
  let r := s.liftFlows kept
  let moves := r.1.filterMap (fun (x, f) => if f.number = 0 then none else
    some (fieldAt x.params 0 0 8, f.cls, f.number, fieldAt x.params 0 16 13))
  let s := r.1.foldl (fun s (x, f) => s.placeFlow x f) r.2
  (moves.map (fun (p, c, _, _) => (p, c))).eraseDups.foldl (fun s (p, c) =>
    s.renameFlow p c (fun m => match moves.find? (fun (q, d, a, _) => q == p && d == c && a == m) with
      | some (_, _, _, n) => n
      | none => m)) s

/-- FLOW 0 takes its context number at the dry fit, R210: the context it has, else the lowest that the bench leaves
not bound statically. -/
def resolveFlows (s : State) (xs : List Setting) : List Setting :=
  let l := lastFlows (xs.filter (fun x => x.opcode == 0x0612))
  let same (x y : Setting) : Bool := leAt x.params 4 4 == leAt y.params 4 4 && fieldAt x.params 0 0 11 == fieldAt y.params 0 0 11
  let own (x : Setting) : Option Nat :=
    let p := fieldAt x.params 0 0 8
    match s.boundFlow p (fieldAt x.params 0 8 3) (BitVec.ofNat 32 (leAt x.params 4 4)) with
    | some n => if (Tab.get ({} : Flow) (s.port p).flows n).static then some n else none
    | none => none
  let fixed : List (Nat × Nat) := l.filterMap (fun x =>
    if fieldAt x.params 0 11 1 = 1 then none
    else
      let n := fieldAt x.params 0 16 13
      (if n != 0 then some n else own x).map (fun n => (fieldAt x.params 0 0 8, n)))
  let kept : List (Nat × Nat) := s.ports.flatMap (fun (p, t) => (t.flows.filter (fun e => e.2.static && !l.any (fun x =>
    fieldAt x.params 0 0 8 == p && fieldAt x.params 0 8 3 == e.2.cls && leAt x.params 4 4 == e.2.ftag.toNat))).map
      (fun e => (p, e.1)))
  let r := xs.foldl (fun (acc : List Setting × List (Nat × Nat)) x =>
    if x.opcode != 0x0612 || fieldAt x.params 0 11 1 = 1 || fieldAt x.params 0 16 13 != 0 || !l.any (fun y => y == x) then
      (x :: acc.1, acc.2)
    else
      let p := fieldAt x.params 0 0 8
      let n := (own x).getD ((((upto 1 4096).find? (fun n => !acc.2.contains (p, n)))).getD 0)
      ({ x with params := setFieldAt x.params 0 4 16 13 n } :: acc.1, (p, n) :: acc.2)) ([], fixed ++ kept)
  r.1.reverse.map (fun x => if x.opcode == 0x0612 && fieldAt x.params 0 16 13 == 0 && fieldAt x.params 0 11 1 == 0 then
    (match r.1.find? (fun y => y.opcode == 0x0612 && same x y && fieldAt y.params 0 16 13 != 0) with
      | some y => { x with params := setFieldAt x.params 0 4 16 13 (fieldAt y.params 0 16 13) }
      | none => x) else x)

/-! ### What follows a peg -/

/-- Bring what a peg's settings govern up to its tick, R224 and R241. -/
def portsPrepare (s : State) : State := (upto 0 25).foldl (fun s p => if s.inService p then s.bringCredit p else s) s

/-- One port after the settings of a bench have applied; `o` is the state before them. -/
def portReact (o s : State) (p : Nat) : State :=
  let moded := o.portMode p != s.portMode p || o.portFec p != s.portFec p
  let s := if !moded then s
    else
      let s := if o.inService p then s.linkFalls p else s
      s.modPort p (fun t => { t with link := .down, pcs := false, signal := false, hiBer := false, fecLock := false
                                     rxLpi := false, creditAt := s.nowQ })
  let s :=
    if p = 24 || o.reg (mmgBase p + 4) = s.reg (mmgBase p + 4) then s
    else
      let s := s.advertChanged p
      if !s.mmgEnable p then (if (s.port p).verify == .disabled then s else s.mmgStop p .disabled)
      else
        let s := if (s.port p).verify == .failed then s.modPort p (fun t => { t with verify := .waitPartner }) else s
        (s.verifyStep p).settleMode p
  if s.reg (prtBase p + 0x20) % 2 = 0 then s.leaveLpi p else s

/-- The ports after a peg: links, MAC merge, LPI, and the decisions of R190 where gates, credits or shapers changed. -/
def portsReact (o s : State) (xs : List Setting) : State :=
  let s := (upto 0 25).foldl (portReact o) s
  let ps := (xs.filter (fun x => x.opcode / 256 == 5 || (0x0610 ≤ x.opcode && x.opcode ≤ 0x0612))).map
    (fun x => fieldAt x.params 0 0 8)
  ps.eraseDups.foldl (fun s p => s.decide_ p) s

end State

/-! ### Dry fit -/

/-- One check of a dry fit: its status, whether it fails, the settings it involves, and a detail word of its own
(R592). -/
structure FitCheck where
  status : Status := .inconsistent
  fails : Bool
  involves : Setting → Bool
  detail : Option Nat := none

/-- A setting of the opcodes listed for a port. -/
def setsPort (ops : List Nat) (p : Nat) (x : Setting) : Bool := ops.contains x.opcode && fieldAt x.params 0 0 8 == p

/-- Channels of a port that the settings in force define. -/
def secChans (t : State) (p : Nat) : Tab SecChan := ((t.port p).sec).filter (fun e => e.2.defined)

/-- The checks of chapters 5 and 7 on one port (R240, R326 to R329 among them); `s` is the state the bench acts on, `t` the one it would leave. -/
def portFit (s t : State) (xs : List Setting) (p : Nat) : List FitCheck :=
  let on := t.inService p
  let sub := p < 16 && p % 4 != 0
  let ch := secChans t p
  let rx := ch.filter (fun e => !e.2.tx)
  let static := (t.port p).flows.filter (fun e => e.2.static)
  let removes (x : Setting) : Bool := setsPort [0x0612] p x && fieldAt x.params 0 11 1 == 1
    && !(match s.boundFlow p (fieldAt x.params 0 8 3) (BitVec.ofNat 32 (leAt x.params 4 4)) with
      | some n => (Tab.get ({} : Flow) (s.port p).flows n).static
      | none => false)
  let binds := (State.lastFlows (xs.filter (setsPort [0x0612] p))).filter (fun x => fieldAt x.params 0 11 1 == 0)
  let cbs := (upto 0 8).filter (t.cbsEnabled p)
  let mode := t.portMode p
  [ { fails := sub && t.portMode p != 0 && t.portMode (p - p % 4) != 3
      involves := fun x => setsPort [0x0410] p x || setsPort [0x0410] (p - p % 4) x },
    { fails := on && !distinct ((upto 0 8).map (t.rankOf p)), involves := setsPort [0x0610] p },
    { fails := on && (upto 0 8).any (fun c => modeRate mode < t.idleSlope p c), involves := setsPort [0x0611, 0x0410] p },
    { fails := on && modeRate mode < cbs.foldl (fun n c => n + t.idleSlope p c) 0
      involves := setsPort [0x0610, 0x0611, 0x0410] p },
    { status := .noCapacity, fails := decide (4096 < static.length) || binds.any (fun x => fieldAt x.params 0 16 13 == 0)
      involves := setsPort [0x0612] p },
    { fails := xs.any removes, involves := removes },
    { fails := !distinct (binds.map (fun x => fieldAt x.params 0 16 13)) || binds.any (fun x =>
        let f : Flow := Tab.get {} (s.port p).flows (fieldAt x.params 0 16 13)
        f.static && !(f.cls == fieldAt x.params 0 8 3 && f.ftag.toNat == leAt x.params 4 4)
          && !xs.any (fun y => setsPort [0x0612] p y && fieldAt y.params 0 8 3 == f.cls && leAt y.params 4 4 == f.ftag.toNat))
      involves := setsPort [0x0612] p },
    { fails := on && t.reg (prtBase p + 0x20) % 2 == 1
        && (!(16 ≤ p && p ≤ 23 && (mode == 4 || mode == 5 || mode == 7)) || t.gateScheduled p)
      involves := setsPort [0x0413, 0x0410, 0x0511] p },
    { fails := xs.any (setsPort [0x0412] p) && (p == 24 || t.reg (prtBase p + 0x18) ≤ t.reg (prtBase p + 0x1C))
      involves := setsPort [0x0412] p },
    { fails := decide (16 < (ch.filter (fun e => e.2.tx)).length) || !distinct (rx.map (fun e => e.2.sci))
      involves := setsPort [0x0416] p },
    { fails := (let d := t.regBits (prtBase p + 0x3C) 16 8
        d != 0xFF && !(t.secChan p d).defined)
        || ch.any (fun e => e.2.tx && (Tab.get none e.2.assocs e.2.encAn).isNone)
      involves := setsPort [0x0415, 0x0416, 0x0417] p } ]

end Sys2Proof.Machine
end

