-- ==== Sys2Proof/Machine/References.lean ====
section
/-!
DEFINITION. References of the DPLL and PTP port roles (chapter "Span time", R59 to R67): what the rest of the post asks of
the time island when its place in the span changes.
-/

namespace Sys2Proof.Machine

namespace State

/-! ### The post's place in the span -/

/-- Is the post a member in the sense of the events that make one leave? -/
def isMember (s : State) : Bool := s.span.state == .joined || s.span.state == .member

/-- KING_CAPABLE of SPN_LOCAL. -/
def kingCapable (s : State) : Bool := s.regBits (spnBase + 0x40) 0 1 == 1

/-- Does the post have a span time parent: a slave port of the SPAN instance? -/
def hasParent (s : State) : Bool := s.time.ports.any (fun e => e.2.joined == some 0 && e.2.role == .slave)

/-! ### References, R59 to R63 -/

/-- Entry n of the reference list, none while it is not enabled. -/
def refEntry (s : State) (n : Nat) : Option RefId :=
  let w := s.reg (timBase + 0x40 + 4 * n)
  if bit w 12 && bits w 0 4 != 0 then
    some { kind := bits w 0 4, source := if bits w 0 4 == 2 || bits w 0 4 == 5 then bits w 4 8 else 0 }
  else none

def refList (s : State) : List RefId := (upto 0 8).filterMap s.refEntry

/-- The phase reference that R59 to R61 give. -/
def pickPhase (s : State) : Option RefId :=
  let ok (r : RefId) : Bool := s.time.qualified.contains r
  if s.bent.role == .standby then (if ok { kind := 4 } then some { kind := 4 } else none)
  else if s.isMember && ok { kind := 1 } then some { kind := 1 }
  else s.refList.find? (fun r => 1 ≤ r.kind && r.kind ≤ 4 && ok r)

/-- The frequency reference that R59 and R60 give. -/
def pickFreq (s : State) : Option RefId :=
  if s.bent.role == .standby then s.pickPhase
  else (s.refList.find? (fun r => 5 ≤ r.kind && s.time.qualified.contains r && (r.kind != 5 || (s.ptime r.source).synceRxRef))).orElse (fun _ => s.pickPhase)

/-- A frequency departure that the spec does not give: a free value within the limit of R54 (DEDUCED, log
entry 84). -/
def freeAdj (s : State) : Int × State := (clampAdj (toSigned 64 s.fresh.1.toNat), s.fresh.2)

/-- The DPLL after the references have changed, R63. `slewOnly` for a change by a peg (R109) (DEDUCED, log
entry 101). -/
def reselect (s : State) (slewOnly : Bool := false) : State :=
  let was := s.time.phRef
  let now := s.pickPhase
  let s := { s with time := { s.time with fqRef := s.pickFreq, phRef := now } }
  if was == now then s
  else
    let s := { s with time := { s.time with nearRun := 0, convRun := 0 } }
    match was, now with
    | none, some _ =>
      { s with time := { s.time with
          dpll := .acquire, entry := if s.time.noStep || slewOnly then 2 else 1 } }
    | some _, some _ =>
      let entry := if s.time.dpll == .locked || slewOnly then 2 else s.time.entry
      { s with time := { s.time with dpll := .acquire, entry := entry } }.count (timBase + 0xC8)
    | some _, none =>
      if s.time.dpll == .locked then
        let f := s.freeAdj
        { f.2 with time := { f.2.time with dpll := .holdover, adj := f.1, holdFrom := f.2.time.ticks } }
      else if s.time.everLocked then
        { s with time := { s.time with dpll := .holdover, holdFrom := s.time.ticks } }
      else { s with time := { s.time with dpll := .freerun, adj := 0 } }
    | none, none => s

/-- A reference qualifies, R62. -/
def qualify (s : State) (r : RefId) : State :=
  if r.kind = 0 || 7 < r.kind || s.time.qualified.contains r then s
  else { s with time := { s.time with qualified := s.time.qualified ++ [r] } }.reselect

/-- A reference is disqualified, R62. -/
def disqualify (s : State) (r : RefId) : State :=
  if !s.time.qualified.contains r then s
  else { s with time := { s.time with qualified := s.time.qualified.filter (· != r) } }.reselect

/-! ### PTP roles, R66 to R70 -/

/-- Is Announce a a better grandmaster than b: by the king priority vector alone on the SPAN instance (R66), else by the
standard algorithm's data set? Identical grandmasters are neither. -/
def betterGm (span : Bool) (a b : Announce) : Bool :=
  let key (x : Announce) : List Nat :=
    if span then [x.priority1, x.gmId.toNat]
    else [x.priority1, x.clockClass, x.accuracy, x.variance, x.priority2, x.gmId.toNat]
  decide (key a < key b)

/-- Is Announce a, heard on port p, better than b, heard on port q? -/
def betterAnn (span : Bool) (a : Announce) (p : Nat) (b : Announce) (q : Nat) : Bool :=
  if betterGm span a b then true
  else if betterGm span b a then false
  else decide ([a.steps, a.senderId.toNat, a.senderPort, p] < [b.steps, b.senderId.toNat, b.senderPort, q])

/-- The post's own data set on an instance. -/
def ownAnnounce (s : State) (i : Nat) : Announce :=
  let x := s.ptpInst i
  if i = 0 then { priority1 := x.priority1, gmId := s.ownId, senderId := s.ownId }
  else { priority1 := x.priority1, priority2 := x.priority2, gmId := s.glb.clockId, senderId := s.glb.clockId }

/-- May a port be a slave: peer delay measured, or the end-to-end mechanism, R70? -/
def timeOk (t : PortTime) : Bool := t.e2e || t.timeCapable

/-- Best foreign master of an instance: its port and Announce. -/
def bestForeign (s : State) (i : Nat) : Option (Nat × Announce) :=
  s.time.ports.foldl (fun best e =>
    if e.2.joined != some i || !timeOk e.2 then best
    else match e.2.foreign, best with
      | none, b => b
      | some a, none => some (e.1, a)
      | some a, some (q, b) => if betterAnn (i == 0) a e.1 b q then some (e.1, a) else best) none

/-- May the post itself be grandmaster of an instance: any post on an external instance; on SPAN the king post, and before
a king raises a king-capable post with VALID time that follows no other (DEDUCED, log entry 86). -/
def mayLead (s : State) (i : Nat) : Bool :=
  i != 0 || (s.bent.role != .standby && (s.isKing || (s.kingCapable && !s.isMember && s.time.flag == .valid
    && !s.time.ports.any (fun e => e.2.joined == some 0 && e.2.role == .slave && e.2.foreign.isSome))))

/-- The roles of an instance's ports by the best master clock algorithm, R65 and R66; a reference whose port leaves SLAVE
is disqualified (R62). -/
def assignRoles (s : State) (i : Nat) : State :=
  let own := s.ownAnnounce i
  let best := s.bestForeign i
  let slave := match best with
    | some (p, a) => if s.mayLead i && !betterGm (i == 0) a own then none else some (p, a)
    | none => none
  let role (p : Nat) (t : PortTime) : PtpRole :=
    match slave with
    | none => if s.mayLead i then .master else .passive
    | some (q, a) =>
      if p = q then .slave
      else match t.foreign with
        | some b => if betterAnn (i == 0) b p { a with steps := a.steps + 1, senderId := own.senderId, senderPort := p } p
            then .passive else .master
        | none => .master
  let wasSlave := s.time.ports.find? (fun e => e.2.joined == some i && e.2.role == .slave)
  let s := { s with time := { s.time with ports := Tab.mapAll {} (fun p (t : PortTime) =>
    if t.joined == some i then { t with role := role p t } else t) s.time.ports } }
  match wasSlave with
  | none => s
  | some e => if (s.ptime e.1).role == .slave then s else s.disqualify { kind := if i = 0 then 1 else 2, source := i }

end State

end Sys2Proof.Machine
end

