-- ==== Sys2Proof/Machine/SpanCore.lean ====
section
/-!
DEFINITION. What the rest of the post asks of the span-cycle engine (chapter "The span cycle"): reference instants and
wire times, alignment, ownership, span ports, the words of the SPN registers, leaving the span cycle, and the 0x03xx
commands. Instants are in 2^-16 ns of span time.
-/

namespace Sys2Proof.Machine

/-- Counter k of SPN 0x0200. -/
def spnCount (k : Nat) : Nat := spnBase + 0x200 + 8 * k
/-- Counter k of R134 of an owner. -/
def ownerCount (o k : Nat) : Nat := spnBase + 0x80000 + 0x40 * o + 8 * k

/-! ### Wire times, R114: in the ports' unit -/

/-- Byte time at the span rate. -/
def spanByte (img : List Byte) : Nat := if imgRate img = 0 then 131072 else if imgRate img = 1 then 327680 else 524288

/-- Wire time of a span frame with n bytes after the common header, padding to 64 bytes included. -/
def spanWire (img : List Byte) (n : Nat) : Nat :=
  (20 + max 64 (42 + n) + (if imgMacsec img then 32 else 0)) * spanByte img

def bellWire (img : List Byte) : Nat := spanWire img 40
def carryWire (img : List Byte) (n : Nat) : Nat := spanWire img (24 + n)

/-- Mini-slots that a frame with n bytes of payload takes in pattern p, occ(W). -/
def occ (img : List Byte) (p n : Nat) : Nat := ceilDiv (spanWire img n) (max 1 (imgLm img p * nsQ)) + 1

/-- Turnaround of a span port's mode in ns, R121. -/
def turnaround (mode fec : Nat) : Nat :=
  if mode = 1 then (if fec = 2 then 660 else 480)
  else if mode = 2 then 520
  else if fec = 1 then 680 else if fec = 2 then 1100 else 600

namespace State

/-! ### Bindings -/

/-- BINDING_STALE: a binding names a slot or identifier that neither the post nor its bent owns. -/
def bindingStale (s : State) : Bool :=
  s.span.statBind.any (fun e => !s.bentOwnsSlot (e.1 / 4096) (e.1 % 4096 + 1))
    || s.span.dynBind.any (fun e => !s.bentOwnsDyn (e.1 / 16384) (e.1 % 16384))

/-! ### Span ports -/

def isSpanPort (s : State) (p : Nat) : Bool := p ≤ 15 && s.regBits (spnBase + 0x80 + 4 * p) 0 1 == 1
/-- The channel of a span port: true for B. -/
def spanChan (s : State) (p : Nat) : Bool := s.regBits (spnBase + 0x80 + 4 * p) 1 1 == 1
def spanPorts (s : State) : List Nat := (upto 0 16).filter s.isSpanPort

/-- Transmit-direction delay of a port in 2^-16 ns, R119. -/
def txDelay (s : State) (p : Nat) : Int :=
  (((s.ptime p).delay : Int) - toSigned 32 (s.reg (timBase + 0x1014 + 0x100 * p))) * 256

/-- Launch instant of a frame whose HOPS field will read h, R119. -/
def launchAt (s : State) (p tref h dhop : Nat) : Int := ((tref + h * dhop * 65536 : Nat) : Int) - s.txDelay p

/-- SPN_HOP_MARGIN in 2^-16 ns, R122; none for a port that is not a span port. -/
def hopMargin (s : State) (p : Nat) : Option Int :=
  if !s.isSpanPort p || s.span.dhop = 0 then none
  else some ((((s.span.dhop : Int) - turnaround (s.portMode p) (s.portFec p)) - s.span.pi) * 65536 - s.txDelay p)

/-- A margin that turns negative is told to the foreman, R122. -/
def noteMargins (s : State) : State :=
  (upto 0 16).foldl (fun s p =>
    let neg := (s.hopMargin p).any (· < 0)
    if neg && !s.span.marginLow.contains p then
      ({ s with span := { s.span with marginLow := s.span.marginLow ++ [p] } }).raise 0x030 0x20 1
    else if neg then s
    else { s with span := { s.span with marginLow := s.span.marginLow.filter (· != p) } }) s

/-! ### Alignment, R135 -/

def aligned (s : State) : Bool :=
  if s.time.flag == .invalid then false
  else if s.isKing then true
  else decide (s.time.offset.natAbs + s.uncert * 65536 ≤ s.span.pi * 32768)

/-! ### Reference instants -/

def trefSlot (s : State) (p t j : Nat) : Nat := t + (imgLb s.span.image + (j - 1) * imgLs s.span.image p) * 65536
def trefMini (s : State) (p t c : Nat) : Nat :=
  t + (imgLb s.span.image + imgS s.span.image p * imgLs s.span.image p + (c - 1) * imgLm s.span.image p) * 65536
def trefCarry (s : State) (p t : Nat) : Nat := s.trefMini p t (imgM s.span.image p + 1)

/-- The start of the next cycle under the pattern of the current one. -/
def nextT (s : State) : Nat := s.span.tn + s.lcU s.span.pattern

/-- READY_LEAD in 2^-16 ns. -/
def readyLead (s : State) : Nat := s.reg (spnBase + 0x48) * 65536
def bellLossLimit (s : State) : Nat := s.regBits (spnBase + 0x40) 8 8

/-! ### Registers -/

/-- The announcement in force: a pending change from the first cycle whose bell announces it, R148. -/
def announced (s : State) : Option Change :=
  s.span.change.filter (fun ch => decide (modSub 32 s.span.cycle.toNat ch.fromCycle.toNat < 2 ^ 31))

/-- SPN_STATUS. -/
def spnStatus (s : State) : Nat :=
  let p := s.span
  let ch := s.announced
  spanCode p.state + 8 * (if p.cycValid then p.pattern else 0) + 64 * flag s.aligned + 128 * flag p.silenced
    + 256 * flag ch.isSome + 512 * (match ch with | some c => c.pattern | none => 0)
    + 4096 * flag p.imageValid + 8192 * flag (p.asmParts != 0) + 16384 * flag (!p.marginLow.isEmpty)
    + 32768 * flag s.bindingStale

/-- Owner indices of a map word: two entries from a base, 0xFFFF where the pattern gives none. -/
def mapPair (f : Nat → Option Nat) (i : Nat) : Nat := (f i).getD 0xFFFF + 65536 * (f (i + 1)).getD 0xFFFF

/-- A word of the SPN block (DEDUCED, log entry 103). -/
def spnWord (s : State) (o : Nat) : Nat :=
  let p := s.span
  let tn := if p.cycValid then toStamp p.tn else 0
  if o = 0 then s.spnStatus
  else if o = 4 then (match s.announced with | some c => c.target.toNat | none => 0)
  else if o = 8 then p.setId.toNat
  else if o = 0xC then p.kingPrio
  else if o = 0x10 then p.kingId.toNat % 2 ^ 32
  else if o = 0x14 then p.kingId.toNat / 2 ^ 32
  else if 0x18 ≤ o ∧ o < 0x24 then bits tn (32 * ((o - 0x18) / 4)) 32
  else if o = 0x24 then p.asm.length + 65536 * p.asmParts
  else if 0xC0 ≤ o ∧ o < 0x100 then ofSigned 32 ((s.hopMargin ((o - 0xC0) / 4)).getD 0 / 65536)
  else if 0x200 ≤ o ∧ o < 0x290 then (s.counter (spnBase + o / 8 * 8)).toNat / 2 ^ (32 * (o / 4 % 2)) % 2 ^ 32
  else if 0x1000 ≤ o ∧ o < 0x1100 then leAt p.image (o - 0x1000 + 0x40) 4
  else if 0x10000 ≤ o ∧ o < 0x20000 then
    if (o - 0x10000) / 16 < imgOwners p.image then leAt p.image (o - 0x10000 + 0x140) 4 else 0
  else if 0x20000 ≤ o ∧ o < 0x30000 then mapPair (fun i => s.slotOwner ((o - 0x20000) / 0x2000) i) ((o % 0x2000) / 2 + 1)
  else if 0x30000 ≤ o ∧ o < 0x70000 then mapPair (fun i => s.dynOwner ((o - 0x30000) / 0x8000) i) ((o - 0x30000) % 0x8000 / 2)
  else if 0x80000 ≤ o ∧ o < 0xC0000 then (s.counter (spnBase + o / 8 * 8)).toNat / 2 ^ (32 * (o / 4 % 2)) % 2 ^ 32
  else if 0xC0000 ≤ o ∧ o < 0xC8000 then
    ofLe ((upto 0 4).map (fun i => BitVec.ofNat 8 (Tab.get 255 p.statBind (o - 0xC0000 + i))))
  else if 0xD0000 ≤ o ∧ o < 0xF0000 then
    ofLe ((upto 0 4).map (fun i => BitVec.ofNat 8 (Tab.get 255 p.dynBind (o - 0xD0000 + i))))
  else if (regRow (spnBase + o)).isSome then s.reg (spnBase + o)
  else 0

/-! ### Launches -/

/-- A frame of the post's own is to be launched on every span port, R116. -/
def planOwn (s : State) (mk : Nat → Launch) : State :=
  { s with span := { s.span with
      launches := s.span.launches ++ s.spanPorts.map mk, nextGroup := s.span.nextGroup + 1 } }

/-- Launches of the post's own that have not begun are given up, and so are the frames that were to ride in them. -/
def dropOwn (s : State) : State :=
  let own := s.span.launches.filter (fun l => !l.relay)
  let s := { s with span := { s.span with launches := s.span.launches.filter (·.relay) } }
  own.foldl (fun s l => s.settleGroup l.group l.frame) s

/-! ### Leaving the span cycle, R113 and R145 -/

/-- The ports whose lists run or may run from a change of the cycle's state. -/
def gatedPorts (s : State) : List Nat := (upto 0 25).filter (fun p => s.gateScheduled p && s.inService p)

/-- Credits are brought up before gate state changes at once on many ports. -/
def gatesBefore (s : State) : State := s.gatedPorts.foldl (fun s p => s.bringCredit p) s
def gatesAfter (s : State) : State := s.gatedPorts.foldl (fun s p => s.decide_ p) s

/-- A peg that names a cycle is cancelled, R113. -/
def cancelPegs (s : State) : State :=
  s.clerk.benches.foldl (fun s e =>
    if e.2.state == .pegged && e.2.pegAt == .cycle then
      ((s.setBench e.1 {}).count (cmdCount 7)).finishKind (fun k => k == WaitKind.peg e.1) .notActive
    else if e.2.state == .pegged && e.2.pegOnCycle then s.setBench e.1 { e.2 with pegOnCycle := false }
    else s) s

/-- A stocktake that names a cycle is cancelled, R113. -/
def cancelStocktakes (s : State) : State :=
  (upto 0 2).foldl (fun s b =>
    let k := s.bank b
    if k.state == .reserved && k.atCycle.isSome then
      ((s.setBank b { k with state := .free }).count (prtCommon + 0x110)).finishKind (fun w => w == WaitKind.stocktake b || w == WaitKind.spanStocktake k.seq) .notActive
    else s) s

/-- A handover that was to run at a cycle boundary runs at the next whole millisecond instead, R642. -/
def handoverOff (s : State) : State :=
  if s.bent.handoverCycle.isNone then s
  else { s with bent := { s.bent with handoverCycle := none, handoverTime := some ((s.nowU / 65536000000 + 1) * 65536000000) } }

/-- CYC_VALID clears and what names a cycle is cancelled; the post goes to a state outside the span cycle
(DEDUCED, log entry 64) (DEDUCED, log entry 103). -/
def leaveCycle (s : State) (next : SpanState) (trial : Option KeptBell) : State :=
  let s := s.gatesBefore
  let s := { s with span := { s.span with
    state := next, cycle := 0, cycValid := false, begun := true, tn := 0, kingId := 0, kingPrio := 0, change := none
    dropAt := none, yieldTo := none, silenced := false, missedRun := 0, bellSeen := false, trial := trial
    presentNow := [], presentLast := [], accepted := [], miniCount := 0, dynSilent := false, stocktakes := []
    firstPattern := match trial with | some k => k.pattern | none => s.span.firstPattern
    listenFrom := if next == SpanState.listen then some s.time.ticks else none } }
  let s := s.handoverOff.dropOwn.cancelPegs.cancelStocktakes
  let s := s.finishKind (fun k => k == WaitKind.patternChange) .notActive
  (s.gatesAfter.assignRoles 0).reselect

/-- JOINED or MEMBER leaves the span cycle. -/
def leaveMember (s : State) (next : SpanState) (trial : Option KeptBell) : State :=
  (s.count (spnCount 5)).leaveCycle next trial

end State

/-! ### Commands -/

/-- SPAN_STATUS. -/
def execSpanStatus (c : Cmd) (s : State) : Result :=
  runStep 0x0300 c s (fun s =>
    .ok s none (leBytes 4 s.spnStatus ++ leBytes 4 s.nowCycle.toNat ++ leBytes 8 s.span.kingId.toNat
      ++ leBytes 4 s.span.setId.toNat ++ leBytes 4 s.span.kingPrio
      ++ leBytes 12 (if s.span.cycValid then toStamp s.span.tn else 0)))

/-- SPAN_JOIN, R145 and R153. -/
def execSpanJoin (c : Cmd) (s : State) : Result :=
  runStep 0x0301 c s (fun s =>
    if s.span.state != .disabled then .ok s
    else .ok { s with span := { s.span with state := .listen, listenFrom := some s.time.ticks } })

/-- SPAN_LEAVE, R145 and R153. -/
def execSpanLeave (c : Cmd) (s : State) : Result :=
  runStep 0x0302 c s (fun s => if s.span.state == .disabled then .ok s else .ok (s.leaveCycle .disabled none))

/-- Gate state over the bell interval between two cycles of one pattern, with equal neighbours joined. -/
def bellShape (s : State) (p pat : Nat) : List (Nat × Nat × Bool × Bool) :=
  let l := (s.bellSegs p pat 0).map (fun g => (g.start, g.gates, g.hold, g.span))
  l.foldr (fun a r => match r with
    | [] => [a]
    | b :: t => if a.2 == b.2 then a :: t else a :: b :: t) []

/-- PATTERN_CHANGE, R148, R151 and R154. -/
def execPatternChange (c : Cmd) (s : State) : Result :=
  runStep 0x0303 c s (fun s =>
    let p := c.f 0 0 3
    let k := c.f 0 8 8
    if s.span.state != .king then .refuse s .notActive
    else if s.span.change.isSome then .refuse s .busy
    else if k < 2 || !imgValid s.span.image p || p == s.span.pattern
        || s.gatedPorts.any (fun q => bellShape s q p != bellShape s q s.span.pattern) then .refuse s .inconsistent
    else
      let n := s.span.cycle + 1
      .wait { s with span := { s.span with
        change := some { pattern := p, target := n + BitVec.ofNat 32 k, fromCycle := n } } } .patternChange 0)

/-- SPAN_OWNER_READ. -/
def execSpanOwnerRead (c : Cmd) (s : State) : Result :=
  runStep 0x0304 c s (fun s => .ok s none ((upto 0 16).flatMap (fun i =>
    leBytes 4 (s.spnWord (0x80000 + 0x40 * c.f 0 0 12 + 4 * i)))))

/-- SET_SPAN_LOCAL. -/
def execSetSpanLocal (c : Cmd) (s : State) : Result :=
  benchSet 0x0310 c s [urange 0 8 8 1 255, urange 4 0 32 1000 60000000, urange 8 0 32 100 1000000]

/-- SET_SPAN_PORT. -/
def execSetSpanPort (c : Cmd) (s : State) : Result := benchSet 0x0311 c s []

/-- The value fields of the span-wide part of an image, R110 and R142. -/
def spanFields : List FieldSpec :=
  [urange 0xC 0 16 2 1000, fenum 0xE 0 8 2 0, fenum 0xF 0 8 1 0, urange 0x10 0 32 100 1000000,
    urange 0x14 0 32 100 1000000000, urange 0x18 0 32 1 16777215, urange 0x1C 0 32 0 1000, fenum 0x28 0 8 1 0]

/-- The value fields of a pattern record at an offset: a record with VALID 0 has none but VALID itself, and LS and LM
count only where S and M are not 0. -/
def recordFields (b : List Byte) (o : Nat) : List FieldSpec :=
  if leAt b (o + 0x14) 1 != 1 then [fenum (o + 0x14) 0 8 1 0]
  else
    let s := min 4096 (leAt b o 2)
    let m := min 16383 (leAt b (o + 2) 2)
    [urange o 0 16 0 4096, urange (o + 2) 0 16 0 16383]
      ++ (if s = 0 then [] else [urange (o + 4) 0 32 100 1000000000])
      ++ (if m = 0 then [] else [urange (o + 8) 0 32 100 1000000000])
      ++ [urange (o + 0xC) 0 32 1000 1000000000, urange (o + 0x10) 0 16 0 16341, urange (o + 0x12) 0 16 0 16383]

/-- SET_PATTERN_SET: the value fields of the image that lie in it are clamped, R142. -/
def execSetPatternSet (c : Cmd) (s : State) : Result :=
  runStep 0x0312 c s (fun s =>
    let r := clampAll [urange 8 0 32 64 393520] c.params
    let b := readImage s c (c.n 0 8) (leAt r.1 8 4)
    let fields := (spanFields ++ (upto 0 8).flatMap (fun p => recordFields b (0x40 + 0x20 * p))).filter
      (fun f => f.off + 4 ≤ b.length)
    let img := clampAll fields b
    acceptSetting s 0x0312 c r.1 img.1 (r.2 ++ img.2.map (fun k => { k with image := true })))

/-- SET_SLOT_SOURCE; NUMBER is a selector, R587. -/
def execSetSlotSource (c : Cmd) (s : State) : Result :=
  runStep 0x0313 c s (fun s =>
    let n := c.f 0 16 16
    if n = 0 || (if c.f 0 3 1 = 0 then 4096 else 16383) < n then .refuse s .inconsistent (some 0)
    else acceptSetting s 0x0313 c c.params [] [])

namespace State

/-! ### Settings at a peg, R156 -/

/-- Take a stored image into force (DEDUCED, log entry 65). -/
def storeImage (s : State) (b : List Byte) : State :=
  { s with span := { s.span with
      image := b.take (imgLength b), imageValid := true, setId := BitVec.ofNat 32 (crc32 (b.take (imgLength b)))
      pi := if s.span.lastBell.isSome || s.span.cycValid then s.span.pi else imgPi b
      dhop := if s.span.lastBell.isSome || s.span.cycValid then s.span.dhop else imgDhop b
      hopLimit := if s.span.lastBell.isSome || s.span.cycValid then s.span.hopLimit else imgHopLimit b } }

def applySpan (s : State) (x : Setting) : State :=
  let b := x.params
  match x.opcode with
  | 0x0310 =>
    ((s.setReg (spnBase + 0x40) (leAt b 0 4 % 2 ^ 19)).setReg (spnBase + 0x44) (leAt b 4 4)).setReg (spnBase + 0x48) (leAt b 8 4)
  | 0x0311 => s.setReg (spnBase + 0x80 + 4 * fieldAt b 0 0 8) (fieldAt b 0 8 2)
  | 0x0312 => s.storeImage x.image
  | _ =>
    let p := fieldAt b 0 0 3
    let n := fieldAt b 0 16 16
    let src := fieldAt b 0 8 8
    if fieldAt b 0 3 1 = 0 then
      { s with span := { s.span with statBind := Tab.set 255 s.span.statBind (4096 * p + (n - 1)) src } }
    else { s with span := { s.span with dynBind := Tab.set 255 s.span.dynBind (16384 * p + n) src } }

end State

/-! ### Dry fit, R110, R114, R115, R142, R143, R155, R156 -/

/-- Length of an image by its header and records. -/
def imageLength (b : List Byte) : Nat :=
  (upto 0 8).foldl (fun n p => n + 2 * imgS b p + 2 * imgDmax b p) (0x140 + 16 * imgOwners b)

/-- Every owner index of an image's maps. -/
def imageIndices (b : List Byte) : List Nat :=
  (upto 0 8).flatMap (fun p => (upto 1 (imgS b p)).map (imgSlotOwner b p) ++ (upto 1 (imgDmax b p)).map (imgDynOwner b p))

/-- R110 and R114 for one valid pattern; lengths in the ports' unit. -/
def patternFits (b : List Byte) (p : Nat) : Bool :=
  let lc := imgLc b p
  let path := (imgHopLimit b * imgDhop b + 2 * imgPi b + imgGuard b) * nsQ
  8000 ≤ lc && lc ≤ 1000000000
    && path + bellWire b ≤ imgLb b * nsQ
    && (imgS b p == 0 || path + spanWire b (imgSlotMax b p) ≤ imgLs b p * nsQ)
    && (imgM b p == 0 || path ≤ imgLm b p * nsQ)
    && path + carryWire b 1024 ≤ imgNit b p * nsQ

/-- Is an image consistent in itself, R142? -/
def imageFits (b : List Byte) : Bool :=
  leAt b 0 4 == 0x314E5053 && leAt b 4 2 == 1 && imgOwners b ≤ 4096 && imgLength b == imageLength b
    && imgLength b ≤ b.length
    && distinct ((upto 0 (imgOwners b)).map (imgOwner b))
    && (imageIndices b).all (fun i => i == 0xFFFF || i < imgOwners b)
    && (upto 0 8).all (fun p => !imgValid b p || patternFits b p)

/-- The record and maps of a pattern. -/
def patternBytes (b : List Byte) (p : Nat) : List Byte :=
  slice b (0x40 + 0x20 * p) 0x20 ++ slice b (imgSlotMapAt b p) (2 * imgS b p) ++ slice b (imgDynMapAt b p) (2 * imgDmax b p)

/-- The checks of chapter 3. -/
def spanFit (s t : State) (xs : List Setting) : List FitCheck :=
  let is (op : Nat) (x : Setting) : Bool := x.opcode == op
  let img := t.span.image
  let a := t.spanPorts.filter (fun p => !t.spanChan p)
  let b := t.spanPorts.filter t.spanChan
  let topo := !t.span.imageValid || (if imgTopology img = 0 then a.length == 1 && b.length == 1 else !t.spanPorts.isEmpty)
  let held := [s.span.pattern] ++ (match s.span.change with | some c => [c.pattern] | none => [])
  let moved := (upto 0 16).any (fun p => s.reg (spnBase + 0x80 + 4 * p) != t.reg (spnBase + 0x80 + 4 * p))
  let given (x : Setting) : Bool :=
    let p := fieldAt x.params 0 0 3
    let n := fieldAt x.params 0 16 16
    fieldAt x.params 0 8 8 == 255 || (if fieldAt x.params 0 3 1 = 0 then t.bentOwnsSlot p n else t.bentOwnsDyn p n)
  [ { fails := xs.any (fun x => is 0x0312 x && !imageFits x.image), involves := fun x => is 0x0312 x && !imageFits x.image },
    { fails := s.isKing && xs.any (is 0x0312) && (slice s.span.image 0xC 0x34 != slice img 0xC 0x34
        || held.any (fun p => patternBytes s.span.image p != patternBytes img p)), involves := is 0x0312 },
    { fails := (xs.any (is 0x0311) || xs.any (is 0x0312)) && !topo, involves := fun x => is 0x0311 x || is 0x0312 x },
    { fails := s.integrated && moved, involves := is 0x0311 },
    { fails := xs.any (fun x => is 0x0313 x && !given x), involves := fun x => is 0x0313 x && !given x } ]

end Sys2Proof.Machine
end

