-- ==== Sys2Proof/Machine/Bent.lean ====
section
/-!
DEFINITION. The bent (chapter 14): registers, forming, heartbeats, the tie beam, confirmations, resignation, handover and
the failures of a copy. What needs the span, the time island and the bench stands in BentTake.lean.
-/

namespace Sys2Proof.Machine

/-- Codes of ROLE, R628. -/
def Role.code : Role → Nat
  | .solo => 0
  | .forming => 1
  | .active => 2
  | .standby => 3
  | .resync => 4
  | .orphan => 5
  | .resigned => 6

/-- The role a heartbeat names. -/
def roleOf (n : Nat) : Option Role :=
  [Role.solo, .forming, .active, .standby, .resync, .orphan, .resigned][n]?

/-- Counters of BNT. -/
def bntCount (k : Nat) : Nat := bntBase + 0x100 + 8 * k
/-- Source of the tie beam's messages. -/
abbrev beamSource : Nat := 0x0C0

namespace State

/-! ### Settings and registers -/

def bentHome (s : State) : Bool := s.regBits (bntBase + 4) 1 1 == 1
def hbMiss (s : State) : Nat := s.regBits (bntBase + 4) 8 8
/-- HB_MISS * 10 us, and ACK_LIMIT of R622, in ticks. -/
def hbLimit (s : State) : Nat := usTicks (s.hbMiss * 10)
def ackLimit (s : State) : Nat := usTicks (s.hbMiss * 10 + 10)
/-- The mode in force, R644: FALLBACK is set, or forced by two failures in a row. -/
def fallbackMode (s : State) : Bool := s.bent.fallback || s.regBits (bntBase + 4) 2 1 == 1

/-- Ledger bytes in use: the WQ and SETTINGS regions whole, and the records of the others (R617). -/
def ledgerUsed (s : State) : Nat :=
  if s.bent.role == .solo then 0 else
    83886080 + 256 * (s.stream.rcvy.filter (fun p => p.2.state != 0)).length
      + 64 * (s.stream.entries.filter (fun p => p.2.state != 0)).length
      + 2176 * (s.stream.accounts.filter (fun p => p.2.defined)).length + 16 * s.bent.journal.length

/-- Bytes of the records still to copy; WQ and SETTINGS count whole while a record of them is left. -/
def copyLeft (s : State) : Nat :=
  if s.bent.role == .active then
    let n (r : Nat) : Nat := (s.bent.copyQueue.filter (fun k => k.1 == r)).length
    (if n 0 = 0 then 0 else 67108864) + (if n 1 = 0 then 0 else 16777216) + 256 * n 2 + 64 * n 3 + 2176 * n 4
      + (if n 5 = 0 then 0 else 16 * s.bent.journal.length)
  else s.bent.copyLeft

/-- BNT_STATUS. -/
def bentStatus (s : State) : Nat :=
  let b := s.bent
  Role.code b.role + 8 * flag s.braced + 16 * flag b.inSync + 32 * flag (s.bentHome && b.role != .solo)
    + 64 * flag b.controlHeld + 128 * flag b.partnerHeld + 256 * flag b.lane0.up + 512 * flag b.lane1.up
    + 1024 * flag b.hbLost + 2048 * flag b.witness + 4096 * flag s.fallbackMode + 8192 * flag b.copying
    + 16384 * b.resyncFails + 65536 * flag b.holdOffAt.isSome + 131072 * flag b.cold
    + 2 ^ 18 * b.copyDone.foldl (fun n r => n + 2 ^ r) 0

/-- A word of the BNT block. -/
def bntWord (s : State) (o : Nat) : Nat :=
  let half (v : Nat) : Nat := v / 2 ^ (32 * (o / 4 % 2)) % 2 ^ 32
  if o = 0 then s.bentStatus
  else if o = 0x28 ∨ o = 0x2C then s.bentId / 2 ^ (32 * (o / 4 % 2)) % 2 ^ 32
  else if o = 0x30 ∨ o = 0x34 then half s.bent.mseqSent
  else if o = 0x38 ∨ o = 0x3C then half s.bent.mseqConfirmed
  else if o = 0x40 ∨ o = 0x44 then half s.ledgerUsed
  else if o = 0x48 ∨ o = 0x4C then half s.copyLeft
  else if 0x100 ≤ o ∧ o < 0x190 then half (s.counter (bntBase + o / 8 * 8)).toNat
  else if (regRow (bntBase + o)).isSome then s.reg (bntBase + o)
  else 0

/-! ### Packets -/

/-- Send what waits for a credit, oldest first; at most n packets go. -/
def pumpWaiting (s : State) : Nat → State
  | 0 => s
  | n + 1 =>
    match s.bent.waiting with
    | [] => s
    | p :: rest =>
      if s.mirrorCredit then ({ s with bent := { s.bent with waiting := rest } }.sendTb p).pumpWaiting n else s

/-- Change a lane. -/
def modLane (s : State) (lane : Nat) (f : TbLane → TbLane) : State :=
  if lane = 0 then { s with bent := { s.bent with lane0 := f s.bent.lane0 } }
  else { s with bent := { s.bent with lane1 := f s.bent.lane1 } }

/-- A packet of any kind has arrived: the partner is heard, R630. -/
def heard (s : State) : State := { s with bent := { s.bent with lastHeard := s.time.ticks, hbLost := false } }

/-- A packet whose CRC fails is discarded and counted, R614. -/
def badPacket (s : State) : State := s.count (bntCount 17)

/-! ### Ending transmission, R633 -/

/-- Step 2 of R633 on every port: suspended pre-emptable remainders are abandoned. -/
def abandonSuspended (s : State) : State :=
  (upto 0 25).foldl (fun s p =>
    let l := (s.port p).suspended
    if l.isEmpty then s else
      l.foldl (fun s x => s.releaseEgress x.qf.id p) (s.modPort p (fun t => { t with suspended := [] }))) s

/-- Steps 1 to 3: nothing starts, transmission ends at the next frame boundary, and the flush read is issued. -/
def beginResign (s : State) (fatal : Bool) : State :=
  if s.bent.role != .active || s.bent.step == .resignFlush then s else
    let s := s.abandonSuspended
    { s with bent := { s.bent with step := .resignFlush, resignFatal := fatal } }.count (bntCount 1)

/-- A post that has become ACTIVE resigns at once for a fault still uncleared whose RESIGN was put off (R722). -/
def madeActive (s : State) : State := if s.flt.sources.any (fun e => e.2.resign) then s.beginResign false else s

/-! ### Roles, R628 and R629 -/

/-- A post that does not run the bent rings holds them DISABLED: frames that wait for an RX queue go (R609,
R624) (DEDUCED, log entry 79). -/
def dropRings (s : State) : State :=
  let s := (s.queues.filter (fun e => !s.isCommandQueue e.1)).foldl (fun s e =>
    let ids := (s.queue e.1).rxWait
    let s := s.modQueue e.1 (fun w => { w with state := .disabled, fetched := [], started := [], accepting := none, rxWait := []
                                               enablePending := false, stalled := false, shadowDue := false })
    (ids.foldl releaseWq s).finishKind (fun k => k == WaitKind.wqDisable e.1) .notActive) s
  { s with
    deliveries := []
    books := Tab.mapAll {} (fun _ (k : Daybook) => { k with state := .disabled, bitmap := [], uncovered := 0, firstUncovered := none
                                                            irqNow := false }) s.books }

/-- Ask the active post for a copy: the role that the heartbeats carry says so. -/
def enterResync (s : State) : State :=
  let s := s.dropRings
  { s with bent := { s.bent with role := .resync, inSync := false, joined := false, copying := false, holdOffAt := none
                                 retryAt := none, formAt := none } }

/-- Take control in FORMING, R628: the bent is UNBRACED. -/
def formActive (s : State) : State :=
  { s with bent := { s.bent with
      role := .active, controlHeld := true, inSync := false, formAt := none, step := .none } }.madeActive

/-- What a FORMING post does with PARTNER_HELD as it stands. -/
def formCheck (s : State) : State :=
  if s.bent.role != .forming then s
  else if s.bent.partnerHeld then
    let s := s.enterResync
    if s.bentHome && !s.fallbackMode then s.sendTb .reclaim else s
  else if s.bent.partnerRole == some .orphan then { s with bent := { s.bent with formAt := none } }
  else if s.bentHome then s.formActive
  else if s.bent.formAt.isSome then s
  else { s with bent := { s.bent with formAt := some (s.time.ticks + msTicks (s.reg (bntBase + 0x14))) } }

/-- A post of a bent begins again in FORMING; the ledger held is discarded (R628). -/
def enterForming (s : State) : State :=
  let b := s.bent
  { s with bent := { b with
      role := .forming, controlHeld := false, inSync := false, joined := false, copying := false, copyQueue := []
      syncSent := false, copyDone := [], copyLeft := 0, copyUntil := none, retryAt := none, holdOffAt := none
      formAt := none, unacked := [], waiting := [], step := .none, resignFatal := false, handoverCycle := none
      handoverTime := none, handoverBySwitch := false, rings := [], journal := [], awaitPi := []
      ledger := b.ledger.filter (fun i => match i with | .setting .. => true | _ => false)
      awaitBci := [], rerun := [], cold := false, witness := false } }.formCheck

/-- SOLO, R628. -/
def enterSolo (s : State) : State :=
  { s with bent := { lane0 := s.bent.lane0, lane1 := s.bent.lane1, partnerHeld := s.bent.partnerHeld
                     mseqSent := s.bent.mseqSent, mseqConfirmed := s.bent.mseqConfirmed } }

/-- A post becomes ORPHAN, R649. -/
def becomeOrphan (s : State) : State :=
  { s with bent := { s.bent with role := .orphan, inSync := false, copying := false, holdOffAt := none, retryAt := none } }.raise
    beamSource 0x30 1

/-- The standby is out of sync; while its partner holds control it asks for the copy (R628). -/
def outOfSync (s : State) : State :=
  let s := { s with bent := { s.bent with inSync := false, holdOffAt := none } }
  if s.bent.role == .standby && !s.bent.cold && s.bent.partnerHeld then s.enterResync else s

/-! ### Resignation, R633 and R634 -/

/-- Giving up the king's part with control (R145, R147): the other post of the bent becomes king (DEDUCED,
log entry 70). -/
def kingDown (s : State) : State :=
  match s.span.state with
  | .king =>
    let own := { s with span := { s.span with state := SpanState.member, change := none, dropAt := none } }.dropOwn
    own.finishKind (fun k => k == WaitKind.patternChange) .timeout (some 0)
  | .raise => s.leaveCycle .listen none
  | _ => s

/-- Steps 4 and 5; `flushed` when the read of step 3 completed. -/
def resignDone (s : State) (flushed : Bool) : State :=
  if s.bent.step != .resignFlush then s else
    let b := s.bent
    let s := { s with bent := { b with step := .none, controlHeld := false, role := .resigned, inSync := false, copying := false
                                       copyQueue := [], unacked := [], resignedFatal := b.resignFatal } }
    (s.sendTb (.resign b.mseqSent flushed b.resignFatal)).kingDown.maintCheck

/-! ### Heartbeats, R630 to R632 -/

def heartbeatPacket (s : State) : TbPacket :=
  .heartbeat (Role.code s.bent.role) s.bent.inSync s.bentHome s.fallbackMode s.bent.cold s.bent.hbCount

/-- A heartbeat leaves on every lane that is up. -/
def heartbeatTx (s : State) : State :=
  if s.bent.role == .solo then s else
    let s := { s with bent := { s.bent with hbCount := s.bent.hbCount + 1 } }
    let p := s.heartbeatPacket
    let put (s : State) (n : Nat) : State :=
      let l := if n = 0 then s.bent.lane0 else s.bent.lane1
      if !l.up then s
      else if laneFree l then s.modLane n (fun l => { l with inFlight := l.inFlight ++ [p] })
      else { s with bent := { s.bent with waiting := s.bent.waiting ++ [p] } }
    put (put s 0) 1

/-- A heartbeat arrives, R614 and R628; the standby's own view of SYNC_DONE ends a copy. -/
def heartbeatRx (s : State) (role : Nat) (inSync cold : Bool) : State :=
  if s.bent.role == .solo then s else
    let s := s.heard
    let s := { s with bent := { s.bent with partnerRole := roleOf role, partnerCold := cold && role == 3 } }
    match s.bent.role with
    | .forming => s.formCheck
    | .active =>
      if role == 3 && inSync && s.bent.syncSent then
        { s with bent := { s.bent with inSync := true, copying := false, syncSent := false } }
      else if role != 3 || !inSync then { s with bent := { s.bent with inSync := false } }
      else s
    | _ => s

/-- HB_MISS heartbeats' time without a packet. -/
def heartbeatLoss (s : State) : State :=
  if s.bent.role == .solo || s.bent.hbLost then s else
    let s := s.advanceTo (s.bent.lastHeard + s.hbLimit)
    let s := { s with bent := { s.bent with hbLost := true } }.count (bntCount 4)
    let a := s.faultAddr none
    let s := a.2.raiseMsg { source := beamSource, kind := 0x2D, cls := 1, address := a.1, witness := s.bent.witness }
    if s.bent.role == .standby then s.outOfSync else s

/-! ### Confirmations, R618 to R622 -/

/-- A step that waited for its mirror entry goes on. -/
def confirmed (s : State) (w : MirrorWait) : State :=
  match w with
  | .none => s
  | .deliver id =>
    match (s.frame id).bind (fun f => f.wq) with
    | some q => s.writeDelivery q id
    | none => s
  | .start q i =>
    match (s.queue q).accepting, (s.queue q).fetched with
    | some num, f :: _ => if f.index == i then s.startHead q num else s
    | _, _ => s

/-- An ACK arrives. -/
def ackRx (s : State) (n : Nat) : State :=
  let s := s.heard
  let done := s.bent.unacked.filter (fun u => u.mseq ≤ n)
  let s := { s with bent := { s.bent with mseqConfirmed := max s.bent.mseqConfirmed (min n s.bent.mseqSent)
                                          unacked := s.bent.unacked.filter (fun u => n < u.mseq) } }
  done.foldl (fun s u => s.confirmed u.wait) s

/-- The oldest unconfirmed entry is ACK_LIMIT overdue: nothing waits any more. -/
def ackOverdue (s : State) : State :=
  match s.bent.unacked with
  | [] => s
  | u :: _ =>
    if s.bent.role != .active || !s.bent.inSync then s else
      let s := s.advanceTo (u.sentAt + s.ackLimit)
      let l := s.bent.unacked
      let s := { s with bent := { s.bent with inSync := false, unacked := l.map (fun (u : Unacked) => { u with wait := MirrorWait.none }) } }
      l.foldl (fun s u => s.confirmed u.wait) (s.count (bntCount 7))

/-! ### Handover, R642 and R643 -/

/-- The handover is to run at the next cycle boundary, or off the cycle at the next whole millisecond. -/
def planHandover (s : State) (bySwitch : Bool) : State :=
  let b := s.bent
  if s.span.cycValid then
    { s with bent := { b with handoverCycle := some (s.span.cycle + 1), handoverBySwitch := bySwitch } }
  else
    let ms := 1000000 * 65536
    { s with bent := { b with handoverTime := some ((s.nowU / ms + 1) * ms), handoverBySwitch := bySwitch } }

/-- Step 1 at the instant: no entry and no delivery starts. -/
def beginDrain (s : State) : State :=
  if s.bent.role != .active || s.bent.step != .none then s else
    { s with bent := { s.bent with handoverCycle := none, handoverTime := none
                                   step := BentStep.drain (s.time.ticks + usTicks (s.reg (bntBase + 0x10))) } }

/-- A handover planned off the cycle whose instant has come. -/
def startPlanned (s : State) : State :=
  match s.bent.handoverTime with
  | some t => (s.advanceToU t).beginDrain
  | none => s

/-- A bent ring as its ledger holds it when nothing of it is open. -/
def idleRing (cfg : LedgerItem) (w : WorkQueue) : RingLedger := { done := w.ci, ci := w.ci, cfg := some cfg }

/-- Is the work of the active post done and confirmed? -/
def drained (s : State) : Bool :=
  s.queues.all (fun p => s.isCommandQueue p.1 || p.2.started.isEmpty) && s.deliveries.isEmpty && s.bent.rerun.isEmpty
    && s.bent.mseqSent ≤ s.bent.mseqConfirmed

/-- BNT_DRAIN has passed: the active post resumes work and gives up the reclaim. -/
def abandonHandover (s : State) : State :=
  match s.bent.step with
  | .drain t =>
    let s := s.advanceTo t
    ({ s with bent := { s.bent with step := .none, handoverBySwitch := false } }.count (bntCount 3)).finishKind
      (fun k => k == WaitKind.bentSwitch) .timeout
  | _ => s

/-- The home standby has been in sync for HOLD_OFF: it asks for control, and asks again after another hold-off while it
stays STANDBY (log entry 20). -/
def holdOffExpire (s : State) : State :=
  match s.bent.holdOffAt with
  | none => s
  | some t =>
    let s := s.advanceTo t
    if s.bent.role == .standby && s.bentHome && s.bent.inSync && !s.fallbackMode then
      ({ s with bent := { s.bent with holdOffAt := some (t + secTicks (s.regBits (bntBase + 4) 16 16)) } }).sendTb .reclaim
    else { s with bent := { s.bent with holdOffAt := none } }

/-- A standby in sync starts its hold-off, R642. -/
def startHoldOff (s : State) : State :=
  if s.bent.role == .standby && s.bentHome && s.bent.inSync && !s.fallbackMode then
    { s with bent := { s.bent with holdOffAt := some (s.time.ticks + secTicks (s.regBits (bntBase + 4) 16 16)) } }
  else s

/-! ### Copies that fail, R648 -/

/-- A resynchronisation fails: at the resyncing post it is counted and tried again 1 s later; the active post stops
copying. `late` when the copy did not end within 60 s. -/
def copyFail (s : State) (late : Bool) : State :=
  match s.bent.role with
  | .active => { s with bent := { s.bent with copying := false, copyQueue := [], syncSent := false } }
  | .resync =>
    let s := if late then (match s.bent.copyUntil with | some t => s.advanceTo t | none => s) else s
    let n := min 2 (s.bent.resyncFails + 1)
    ({ s with bent := { s.bent with
        copying := false, joined := false, copyUntil := none, copyLeft := 0, resyncFails := n
        fallback := s.bent.fallback || n == 2, retryAt := some (s.time.ticks + secTicks 1) } }.count (bntCount 16)).raise
      beamSource 0x31 1
  | _ => s

/-- A new resynchronisation starts 1 s after a failure. -/
def resyncRetry (s : State) : State :=
  match s.bent.role, s.bent.retryAt with
  | .resync, some t => (s.advanceTo t).enterResync
  | _, _ => s

/-! ### Kept frames, R623 -/

/-- The oldest kept frame goes, counted by k. -/
def dropKept (s : State) (k : Nat) : State :=
  match s.bent.kept with
  | [] => s
  | x :: rest => ({ s with bent := { s.bent with kept := rest } }.freeFrame x.frame).count (bntCount k)

/-! ### SET_BENT, R607, R644 and R660 -/

/-- A pegged SET_BENT. -/
def applyBent (s : State) (x : Setting) : State :=
  let p := x.params
  let hold := s.regBits (bntBase + 4) 16 16
  let s := (((((((s.setReg (bntBase + 4) (fieldAt p 0 0 3 + 256 * fieldAt p 0 8 8 + 65536 * fieldAt p 0 16 16)).setReg
    (bntBase + 0x20) (leAt p 4 4)).setReg (bntBase + 0x24) (leAt p 8 4)).setReg (bntBase + 8) (leAt p 0xC 4)).setReg
    (bntBase + 0xC) (leAt p 0x10 4)).setReg (bntBase + 0x10) (leAt p 0x14 4)).setReg (bntBase + 0x14) (leAt p 0x18 4)).setReg
    (bntBase + 0x18) (fieldAt p 0x1C 0 11)
  let id := if s.bentHome then s.glb.clockId else BitVec.ofNat 64 (leAt p 4 8)
  let s := { s with bent := { s.bent with fallback := false } }
  if fieldAt p 0 0 1 = 0 then s.enterSolo
  else match s.bent.role with
    | .solo =>
      { s with bent := { s.bent with bentId := id, lastHeard := s.time.ticks } }.enterForming
    | .forming => { s with bent := { s.bent with bentId := id, formAt := none } }.formCheck
    | _ =>
      if s.bent.holdOffAt.isSome && hold != fieldAt p 0 16 16 then s.startHoldOff else s

end State

/-- Dry fit of SET_BENT, R660. -/
def bentFit (s : State) (x : Setting) : Option (Status × Nat) :=
  let p := x.params
  let moved := fieldAt p 0 0 2 != s.regBits (bntBase + 4) 0 2 || leAt p 4 4 != s.reg (bntBase + 0x20)
    || leAt p 8 4 != s.reg (bntBase + 0x24)
  if leAt p 4 8 = s.glb.clockId.toNat then some (.inconsistent, 0)
  else if moved && s.bent.role != .solo && s.bent.role != .forming then some (.inconsistent, 0)
  else none

/-! ### Meanings: events -/

/-- FORM_WAIT_EXPIRE, R628. -/
def execFormWaitExpire (s : State) : Result :=
  ok (match s.bent.role, s.bent.formAt with
    | .forming, some t =>
      let s := s.advanceTo t
      if s.bent.partnerHeld || s.bent.partnerRole == some .orphan || s.bentHome then s else s.formActive
    | _, _ => s)

/-- HEARTBEAT_TX. -/
def execHeartbeatTx (s : State) : Result := ok s.heartbeatTx

/-- HEARTBEAT_RX: a heartbeat with what it carries, or one whose CRC fails. -/
def execHeartbeatRx (bad : Bool) (role : Nat) (inSync cold : Bool) (s : State) : Result :=
  ok (if bad then s.badPacket else s.heartbeatRx role inSync cold)

/-- HEARTBEAT_LOSS. -/
def execHeartbeatLoss (s : State) : Result := ok s.heartbeatLoss

/-- ACK_RX: the highest MSEQ applied in order. -/
def execAckRx (n : Nat) (s : State) : Result := ok (if s.bent.role == .active then s.ackRx n else s)

/-- ACK_OVERDUE. -/
def execAckOverdue (s : State) : Result := ok s.ackOverdue

/-- TB_LANE_DOWN of a lane: what was in flight on it is lost (R616). -/
def execTbLaneDown (lane : Nat) (s : State) : Result :=
  ok (if 2 ≤ lane then s else (s.modLane lane (fun _ => {})).raise (0x0C0 + 8 * lane) 0x17 1)

/-- TB_LANE_UP of a lane, R616 and R613: its 32 buffers are free. -/
def execTbLaneUp (lane : Nat) (s : State) : Result :=
  ok (if 2 ≤ lane || (if lane = 0 then s.bent.lane0.up else s.bent.lane1.up) || s.fenced (0x0C0 + 8 * lane) then s
    else (s.modLane lane (fun _ => { up := true, inFlight := [] })).pumpWaiting 32)

/-- RESIGN_FLUSH_DONE: `flushed` when the host link worked and the read completed. -/
def execResignFlushDone (flushed : Bool) (s : State) : Result := ok (s.resignDone flushed)

/-- SHADOW_KEEP_EXPIRE: the oldest kept frame has been kept for SHADOW_KEEP. -/
def execShadowKeepExpire (s : State) : Result :=
  ok (match s.bent.kept with
    | [] => s
    | x :: _ => (s.advanceTo x.until_).dropKept 13)

/-- HOLD_OFF_EXPIRE. -/
def execHoldOffExpire (s : State) : Result := ok s.holdOffExpire

/-- RECLAIM_RX: the active post of a braced bent plans the handover (R642). -/
def execReclaimRx (s : State) : Result :=
  ok (let s := s.heard
    if s.bent.role == .active && s.braced && s.bent.step == .none && s.bent.handoverCycle.isNone
      && s.bent.handoverTime.isNone then s.planHandover false else s)

/-- HANDOVER_ABANDON. -/
def execHandoverAbandon (s : State) : Result := ok s.startPlanned.abandonHandover

/-- COPY_FAIL; `late` when 60 s have passed. -/
def execCopyFail (late : Bool) (s : State) : Result := ok (s.copyFail late)

/-- RESYNC_RETRY. -/
def execResyncRetry (s : State) : Result := ok s.resyncRetry

/-! ### Meanings: commands -/

/-- BENT_STATUS: a copy of BNT 0x000 to 0x1FF. -/
def execBentStatus (c : Cmd) (s : State) : Result :=
  runStep 0x0B00 c s (fun s => Eff.ok s none ((upto 0 128).flatMap (fun i => leBytes 4 (s.bntWord (4 * i)))))

/-- BENT_SWITCH, R655: the active post plans the handover and sends the command on (R581); the standby notes that the
handover to come is this command's, which clears FALLBACK (R644) (DEDUCED, log entry 97). -/
def execBentSwitch (c : Cmd) (s : State) : Result :=
  runStep 0x0B01 c s (fun s =>
    if !s.braced then Eff.refuse s .notActive
    else if s.bent.role != .active then
      Eff.ok { s with bent := { s.bent with handoverBySwitch := true } } (some 2)
    else
      let s := if (Cmd.queueOf c).isSome then (s.toPartner 0x0B01 c).2 else s
      .wait (s.planHandover true) .bentSwitch 0)

/-- BENT_RESIGN, R656. -/
def execBentResign (c : Cmd) (s : State) : Result :=
  runStep 0x0B02 c s (fun s =>
    if s.bent.role != .active then Eff.refuse s .notActive else Eff.ok (s.beginResign false))

/-- BENT_RESYNC, R657. -/
def execBentResync (c : Cmd) (s : State) : Result :=
  runStep 0x0B03 c s (fun s =>
    if s.bent.role == .resigned && !s.bent.resignedFatal then Eff.ok s.enterForming
    else if s.bent.role == .resync then
      Eff.ok { s.enterResync with bent := { s.enterResync.bent with resyncFails := 0 } }
    else Eff.refuse s .notActive)

/-- Bytes of a ledger region, R617. -/
def regionSize (r : Nat) : Nat := [67108864, 16777216, 268435456, 2 ^ 30, 2176 * 2 ^ 22, 2 ^ 30].getD r 0

/-- The range check of LEDGER_READ and LEDGER_WRITE. -/
def ledgerRange (c : Cmd) : Bool :=
  let n := c.n 0x18 4
  c.n 8 8 % 16 == 0 && n % 16 == 0 && 16 ≤ n && n ≤ 16777216 && c.n 8 8 + n ≤ regionSize (c.f 0 0 3)

/-- A mirrored ring as a record of the WQ region: its configuration with the mirrored CI, done index and window. -/
def heldRing (r : RingLedger) : Option LedgerItem :=
  match r.cfg with
  | some (.ring q kind group book logN weight burst base shadow st _ _ _) =>
    some (.ring q kind group book logN weight burst base shadow st r.ci r.done
      (r.window.map (fun (a : Accepted) => (a.index, a.len, a.seqValid, a.seq))))
  | _ => none

/-- A delivery of the journal as a record of its region. -/
def heldJournal (j : Journal) : LedgerItem :=
  .journal j.queue j.index j.count j.isAccount j.path j.matchAlg j.target j.seq

/-- Region of a record, R617. -/
def itemRegion (i : LedgerItem) : Nat :=
  match i with
  | .ring .. => 0
  | .book .. => 0
  | .setting .. => 1
  | .rcvy .. => 2
  | .stream .. => 3
  | .account .. => 4
  | .journal .. => 5

/-- The records of a region that the post holds as a mirror. -/
def State.heldRegion (s : State) (r : Nat) : List LedgerItem :=
  match r with
  | 0 => s.bent.rings.filterMap (fun e => heldRing e.2) ++ s.bent.ledger.filter (fun i => itemRegion i == 0)
  | 1 => s.bent.ledger.filter (fun i => itemRegion i == 1)
  | 2 => (s.stream.rcvy.filter (fun e => e.2.state != 0)).map (fun e => .rcvy e.1 (rcvyBytes e.2))
  | 3 => (s.stream.entries.filter (fun e => e.2.state != 0)).map (fun e => .stream e.1 (entryBytes e.2))
  | 4 => (s.stream.accounts.filter (fun e => e.2.defined)).map (fun e => .account e.1 (accountBytes e.1 e.2))
  | _ => s.bent.journal.map heldJournal

/-- LEDGER_READ, R658. -/
def execLedgerRead (c : Cmd) (s : State) : Result :=
  runStep 0x0B04 c s (fun s =>
    if s.bent.role != .orphan then Eff.refuse s .notActive
    else if !ledgerRange c then Eff.refuse s .inconsistent
    else
      let bytes := slice (Config.ledgerBytes (c.f 0 0 3) (c.n 8 8) (c.n 0x18 4) (s.heldRegion (c.f 0 0 3))) 0 (c.n 0x18 4)
      Eff.ok (s.writeHost (s.cmdFn c) (c.n 0x10 8) bytes) (some (flag (s.bent.copyDone.contains (c.f 0 0 3)))))

/-- SET_BENT. -/
def execSetBent (c : Cmd) (s : State) : Result :=
  benchSet 0x0B10 c s [urange 0 8 8 2 10, urange 0 16 16 1 65535, urange 0xC 0 32 10 10000, urange 0x10 0 32 100 1000000,
    urange 0x14 0 32 100 100000, urange 0x18 0 32 10 10000]

end Sys2Proof.Machine
end

