-- ==== Sys2Proof/Machine/JoineryCmds.lean ====
section
/-!
DEFINITION. The 0x08xx commands (chapters 9 and 10), the words of JNR that they reply with, and what the bench does with
their settings.
-/

namespace Sys2Proof.Machine

namespace State

/-- Hook-table entries in use. -/
def hookEntries (s : State) : Nat := s.joinery.hookTables.foldl (fun n p => n + p.2.length) 0

/-- JNR_STATUS. -/
def jnrStatus (s : State) : Nat :=
  let f := Tab.findKey (fun _ f => f != JoinerFence.none) s.joinery.fences
  let pending := (upto 0 6).any (fun c => Tab.get 0 s.joinery.loaded c < s.joinery.gen)
  s.joinery.gated.foldl (fun n c => n + 2 ^ c) 0 + 64 * flag f.isSome + 128 * (f.getD 0)
    + 8192 * flag ((f.map (s.joinerFence ·)) == some .fault) + 16384 * flag pending
    + 32768 * s.regBits (jnrBase + 0x20) 15 1 + 65536 * s.regBits (jnrBase + 0x30) 15 1

/-- A word of the JNR block. -/
def jnrWord (s : State) (o : Nat) : Nat :=
  if o = 0 then s.jnrStatus
  else if o = 4 then (if s.clerk.ready then s.glb.vendorMcVer.toNat else 0)
  else if o = 8 then s.joinery.imageId.toNat
  else if o = 0x10 then s.joinery.rotNext
  else if o = 0x40 then s.hookEntries
  else if o = 0x44 then (s.joinery.rules.filter (fun p => fieldAt p.2 0 31 1 == 1)).length
  else if (0x100 ≤ o ∧ o < 0x1B0) ∨ (0x10000 ≤ o ∧ o < 0x12000) then
    (s.counter (jnrBase + o / 8 * 8)).toNat / 2 ^ (32 * (o / 4 % 2)) % 2 ^ 32
  else if (regRow (jnrBase + o)).isSome then s.reg (jnrBase + o)
  else 0

end State

/-- The little-endian bytes of n words of a block from an offset, as a read of each returns them. -/
def wordsOf (f : Nat → Nat) (o : Nat) : Nat → List Byte
  | 0 => []
  | n + 1 => leBytes 4 (f o) ++ wordsOf f (o + 4) n

/-! ### Direct commands -/

/-- JOINERY_STATUS: a copy of JNR 0x000 to 0x1FF. -/
def execJoineryStatus (c : Cmd) (s : State) : Result :=
  runStep 0x0800 c s (fun s => Eff.ok s none (wordsOf s.jnrWord 0 128))

/-- A microcode image of the words in force. -/
def mcImage (s : State) (base n : Nat) : List Byte :=
  leBytes 4 0x314D434A ++ leBytes 4 1 ++ leBytes 2 base ++ leBytes 2 n ++ zeros 4
    ++ (upto base n).flatMap (fun a => leBytes 20 (Tab.get hretWord s.joinery.words a))

/-- MICROCODE_READ, R471. -/
def execMicrocodeRead (c : Cmd) (s : State) : Result :=
  runStep 0x0801 c s (fun s =>
    let base := c.f 0 0 16
    let n := c.f 0 16 16
    if n = 0 ∨ 4096 < n ∨ 0x4000 < base + n then Eff.refuse s .inconsistent
    else if base < 0x3000 then Eff.refuse s .sealed
    else if c.n 0x10 4 < 16 + 20 * n then Eff.refuse s .badLength (some (16 + 20 * n))
    else Eff.ok (s.writeHost (s.cmdFn c) (c.n 8 8) (mcImage s base n)))

/-- One hook-table entry as its 32 bytes, R454. -/
def hookEntryBytes (e : HookEntry) : List Byte :=
  slice e.key 0 16 ++ (upto 0 4).flatMap (fun i => leBytes 4 (e.lk.getD i 0).toNat)

/-- HOOK_TABLE_READ, R472: the table's last entry has the index n - 1 (log entry 19). -/
def execHookTableRead (c : Cmd) (s : State) : Result :=
  runStep 0x0802 c s (fun s =>
    let t := Tab.get [] s.joinery.hookTables (c.f 0 0 2)
    let first := c.f 0 16 16
    let n := c.f 4 0 16
    if n = 0 ∨ 32768 < n then Eff.refuse s .inconsistent
    else if t.length ≤ first + 1 then Eff.refuse s .notActive
    else if c.n 0x10 4 < 32 * n then Eff.refuse s .badLength (some (32 * n))
    else
      let es := (t.drop first).take n
      Eff.ok (s.writeHost (s.cmdFn c) (c.n 8 8) (es.flatMap hookEntryBytes)) (some es.length))

/-! ### Bench commands -/

/-- A bench command that reads an array whose COUNT is a bit field of a parameter word. -/
def benchTable (code : Nat) (c : Cmd) (s : State) (params : List FieldSpec) (off lo w size : Nat)
    (fields : List FieldSpec) : Result :=
  runStep code c s (fun s =>
    let r := clampAll params c.params
    let n := fieldAt r.1 off lo w
    let img := clampArray fields size n 0 (readImage s c (leAt r.1 0 8) (size * n))
    acceptSetting s code c r.1 img.1 (r.2 ++ img.2))

/-- SET_MICROCODE, R466: the image is copied into the bench. -/
def execSetMicrocode (c : Cmd) (s : State) : Result :=
  runStep 0x0810 c s (fun s =>
    let r := clampAll [urange 8 0 32 36 81936] c.params
    let img := clampAll [urange 8 0 16 0x3000 0x3FFF, urange 0xA 0 16 1 4096] (readImage s c (leAt r.1 0 8) (leAt r.1 8 4))
    acceptSetting s 0x0810 c r.1 img.1 (r.2 ++ img.2.map (fun k => { k with image := true })))

/-- SET_HOOK. -/
def execSetHook (c : Cmd) (s : State) : Result :=
  benchSet 0x0811 c s [urange 0 16 14 0x3000 0x3FFF, urange 4 0 13 1 4096]

/-- SET_CLASS_RULES. -/
def execSetClassRules (c : Cmd) (s : State) : Result :=
  benchTable 0x0812 c s [urange 8 16 10 1 512] 8 16 10 32 []

/-- SET_STEER_ENTRIES. -/
def execSetSteerEntries (c : Cmd) (s : State) : Result :=
  benchTable 0x0813 c s [urange 8 16 13 1 4096] 8 16 13 32 [fenum 0 6 2 2 0, urange 0xC 16 8 0 254]

/-- SET_HOOK_TABLE. -/
def execSetHookTable (c : Cmd) (s : State) : Result :=
  benchTable 0x0814 c s [urange 8 16 16 0 32768] 8 16 16 32 []

/-! ### Applying and fitting -/

/-- COUNT and word i of a microcode image. -/
def mcCount (img : List Byte) : Nat := leAt img 0xA 2
def mcBase (img : List Byte) : Nat := leAt img 8 2
def mcWord (img : List Byte) (i : Nat) : Nat := leAt img (16 + 20 * i) 20

/-- R467: what the dry fit makes of an image, with the address of the first failing word. -/
def mcFit (img : List Byte) : Option (Status × Nat) :=
  if leAt img 0 4 != 0x314D434A || leAt img 4 2 != 1 || img.length != 16 + 20 * mcCount img
      || 0x4000 < mcBase img + mcCount img then some (.inconsistent, 0)
  else (upto 0 (mcCount img)).findSome? (fun i =>
    let w := mcWord img i
    if w != withEcc w then some (.inconsistent, mcBase img + i)
    else (loaderRefuses w).map (fun st => (st, mcBase img + i)))

namespace State

/-- A load begins: what was in force goes to the past until every cluster has let it go, R468. -/
def beginLoad (s : State) : State :=
  let r := s.codeOf s.joinery.gen
  { s with joinery := { s.joinery with gen := s.joinery.gen + 1
                                       past := { gen := s.joinery.gen, words := r.1, hooks := r.2 } :: s.joinery.past } }

/-- Write a run of words from an address. -/
def writeWords (img : List Byte) : Nat → Tab Nat → Tab Nat
  | 0, t => t
  | n + 1, t => Tab.set hretWord (writeWords img n t) (mcBase img + n) (mcWord img n)

def applyMicrocode (s : State) (x : Setting) : State :=
  { s with joinery := { s.joinery with words := writeWords x.image (mcCount x.image) s.joinery.words
                                       imageId := BitVec.ofNat 32 (crc32 x.image) } }

def applyHook (s : State) (x : Setting) : State :=
  let a := jnrBase + 0x10 + 0x10 * fieldAt x.params 0 0 2
  ((s.setReg a (fieldAt x.params 0 16 14 + 32768 * fieldAt x.params 0 8 1 + 65536 * fieldAt x.params 4 0 13)).setReg
    (a + 4) (fieldAt x.params 8 0 25)).setReg (a + 8) (fieldAt x.params 0xC 0 8)

/-- Put 32-byte entries into a table from an index. -/
def putEntries (size first : Nat) (img : List Byte) : Nat → Tab (List Byte) → Tab (List Byte)
  | 0, t => t
  | n + 1, t => Tab.set [] (putEntries size first img n t) (first + n) (slice img (size * n) size)

def applyClassRules (s : State) (x : Setting) : State :=
  { s with joinery := { s.joinery with
    rules := putEntries 32 (fieldAt x.params 8 0 9) x.image (fieldAt x.params 8 16 10) s.joinery.rules } }

def applySteerEntries (s : State) (x : Setting) : State :=
  { s with joinery := { s.joinery with
    steers := putEntries 32 (fieldAt x.params 8 0 12) x.image (fieldAt x.params 8 16 13) s.joinery.steers } }

def hookTableOf (x : Setting) : List HookEntry :=
  (upto 0 (fieldAt x.params 8 16 16)).map (fun i =>
    { key := slice x.image (32 * i) 16
      lk := (upto 0 4).map (fun j => BitVec.ofNat 32 (leAt x.image (32 * i + 16 + 4 * j) 4)) })

def applyHookTable (s : State) (x : Setting) : State :=
  { s with joinery := { s.joinery with
    hookTables := Tab.set [] s.joinery.hookTables (fieldAt x.params 8 0 2) (hookTableOf x) } }

end State

/-- Dry fit of a joinery setting, R467 and R473; `t` is the state that the whole bench would leave. -/
def joineryFit (t : State) (x : Setting) : Option (Status × Nat) :=
  match x.opcode with
  | 0x0810 => mcFit x.image
  | 0x0812 => if 512 < fieldAt x.params 8 0 9 + fieldAt x.params 8 16 10 then some (.inconsistent, 0) else none
  | 0x0813 => if 4096 < fieldAt x.params 8 0 12 + fieldAt x.params 8 16 13 then some (.inconsistent, 0) else none
  | 0x0814 =>
    if 32768 < t.hookEntries then some (.noCapacity, 0)
    else if distinct ((State.hookTableOf x).map (·.key)) then none else some (.inconsistent, 0)
  | _ => none

end Sys2Proof.Machine
end

