-- ==== Sys2Proof/Machine/Receive.lean ====
section
/-!
DEFINITION. Reception (chapters 1, 6 and 7): the MAC's checks, MACsec on receive, the frame hold, MAC control frames,
knock frames, mPackets and reassembly, LLDPDUs, and frames whose reception ends in error.
-/

namespace Sys2Proof.Machine

namespace State

/-! ### MACsec on receive, R296 -/

/-- What MACsec makes of a received frame: the frame in the clear with its channel, or discarded; and the counter. -/
inductive SecRx where
  | pass (b : List Byte) (counter : Option Nat) (s : State)
  | drop (counter : Nat) (s : State)

/-- The receive channel of a SecTAG: the channel of its SCI, or the one channel whose SCI has the source address. -/
def rxChan (s : State) (p : Nat) (sci : Option Nat) (src : Nat) : Option (Nat × SecChan) :=
  let l := (s.port p).sec.filter (fun e => e.2.defined && !e.2.tx &&
    (match sci with | some x => e.2.sci.toNat == x | none => e.2.sci.toNat / 65536 == src))
  match sci, l with
  | some _, e :: _ => some e
  | none, [e] => some e
  | _, _ => none

/-- The packet number of a received tag: as carried, or for an XPN suite the 64-bit number nearest above the window. -/
def fullPn (c : SecChan) (next low : Nat) : Nat :=
  if c.cipher < 2 then low
  else
    let hi := next / 2 ^ 32
    if 2 ^ 31 ≤ next % 2 ^ 32 && low < 2 ^ 31 then (hi + 1) * 2 ^ 32 + low else hi * 2 ^ 32 + low

/-- Is a SecTAG malformed: version 1, SC together with ES or SCB, an E bit without C, a short length above 47, or packet
number 0? -/
def badTag (b : List Byte) : Bool :=
  let t := beAt b 14 1
  bit t 7 || (bit t 5 && (bit t 6 || bit t 4)) || (bit t 3 && !bit t 2) || 48 ≤ beAt b 15 1 || beAt b 16 4 = 0
    || b.length < (if bit t 5 then 44 else 36)

/-- MACsec's judgement of a frame that has passed R286. -/
def secRx (s : State) (p : Nat) (b : List Byte) : SecRx :=
  let validate := s.regBits (prtBase p + 0x3C) 9 2
  if !s.macsecOn p then .pass b none s
  else if beAt b 12 2 != 0x88E5 then
    if validate = 2 && beAt b 12 2 != 0x888E then .drop (macCount p 0x3A8) s
    else .pass b (some (macCount p 0x3A8)) s
  else if badTag b then .drop (macCount p 0x3B0) s
  else
    let t := beAt b 14 1
    let hasSci := bit t 5
    let tag := if hasSci then 16 else 8
    let clear := b.take 12 ++ ((b.drop (12 + tag)).take (b.length - 28 - tag))
    let secret := bit t 2
    let r := s.rxChan p (if hasSci then some (beAt b 20 8) else none) (beAt b 6 6)
    match r with
    | none => if validate = 2 || secret then .drop (macCount p 0x3A0) s else .pass clear (some (macCount p 0x3A0)) s
    | some (k, c) =>
      match Tab.get none c.assocs (t % 4) with
      | none =>
        let s := s.setSecChan p k { c with discarded := c.discarded + 1 }
        if validate = 2 || secret then .drop (macCount p 0x3A0) s else .pass clear (some (macCount p 0x3A0)) s
      | some a =>
        let pn := fullPn c a.nextPn (beAt b 16 4)
        if c.replayProtect && pn + c.window < a.nextPn then
          .drop (macCount p 0x398) (s.setSecChan p k { c with discarded := c.discarded + 1 })
        else
          let got := Config.macsecOpen (c.cipher * 4 + c.confOffset) a.key (secIv c a pn) b
          let good := { c with frames := c.frames + 1
                               assocs := Tab.set none c.assocs (t % 4) (some { a with nextPn := max a.nextPn (pn + 1) }) }
          match got with
          | some x => .pass (b.take 12 ++ x) (some (macCount p 0x380)) (s.setSecChan p k good)
          | none =>
            if validate = 2 || secret then
              .drop (macCount p 0x390) (s.setSecChan p k { c with discarded := c.discarded + 1 })
            else if validate = 0 then .pass clear (some (macCount p 0x380)) (s.setSecChan p k good)
            else .pass clear (some (macCount p 0x388)) (s.setSecChan p k good)

/-! ### The MAC's checks, R286 -/

/-- The counter of the check that a frame fails, by its length n on the wire. -/
def macError (s : State) (p n : Nat) (fcsBad : Bool) : Option Nat :=
  if s.maxLen p < n then some (macCount p (if fcsBad then 0x148 else 0x140))
  else if n < 64 then some (macCount p (if fcsBad then 0x138 else 0x130))
  else if fcsBad then some (macCount p 0x128)
  else none

/-- Count a frame that has passed R286. -/
def countRx (s : State) (p dst n : Nat) : State :=
  let s := ((s.count (macCount p 0x100)).countN (macCount p 0x108) n).count (macCount p (0x200 + 8 * lenBin n))
  s.count (macCount p (if dst = 2 ^ 48 - 1 then 0x120 else if bit (dst / 2 ^ 40) 0 then 0x118 else 0x110))

/-! ### Into the frame hold, R17, R18 and R21 -/

/-- The post's own priority of a received frame: the PCP of its outer tag or the port's default (R290). -/
def rxPrio (s : State) (p : Nat) (v : View) : Nat := (v.pcp).getD (s.regBits (prtBase p + 8) 16 3)

/-- A frame in the clear enters the frame hold, or is discarded there for want of cells and counted in HOLD_FULL by its
priority. -/
def holdFrame (s : State) (p : Nat) (b : List Byte) (cut bad : Bool) (err t : Nat) : State :=
  let v := parse b (s.prpPort p) s.dcwPort
  let prio := s.rxPrio p v
  if s.holdFree < cellsOf b.length then s.count (macCount p (0x2D0 + 8 * prio))
  else
    let part := cut && 256 < b.length
    let f : Frame := { origin := .rx p, bytes := b, size := b.length, whole := !part, arrived := if part then 256 else b.length
                       bad := bad, rxErr := err, rxTime := t, rxFlag := s.time.flag, rxEpoch := s.time.epoch
                       rxUncert := s.uncert, prio := prio, dei := v.dei, tsource := p, since := s.time.ticks }
    let r := s.addFrame f
    (r.2.orderAdd p r.1).pauseCheck p

/-- A frame whose MAC checks and MACsec stage are due; a frame whose first part only is here (`cut`) gets its errors at
its end (R24). -/
def takeFrame (s : State) (p : Nat) (b : List Byte) (fcsBad cut : Bool) (t : Nat) : State :=
  let n := b.length + 4
  let part := cut && 256 < b.length
  match s.macError p n fcsBad with
  | some o => if part then s.holdFrame p b true true o t else s.count o
  | none =>
    let s := if part then s else s.countRx p (beAt b 0 6) n
    match s.secRx p b with
    | .pass x o s => (match o with | some o => s.count o | none => s).holdFrame p x cut false 0 t
    | .drop o s => if part then s.holdFrame p b true true o t else s.count o

/-! ### MAC control, knocks and the way in -/

/-- Does a knock frame match, R316? -/
def knockFits (s : State) (p : Nat) (b : List Byte) : Bool :=
  (beAt b 0 6 == s.portMac p || beAt b 0 6 == 2 ^ 48 - 1) && beAt b 15 1 / 16 == 1
    && beAt b 18 4 == s.reg (prtBase p + 0x2C) && (beAt b 22 8 == 0 || beAt b 22 8 == s.glb.clockId.toNat)

/-- Is a frame a knock frame by its EtherType and subtype? -/
def isKnock (s : State) (p : Nat) (b : List Byte) : Bool :=
  beAt b 12 2 == s.regBits (prtBase p + 0x30) 0 16 && beAt b 14 1 == 0x10

/-- Does the post sleep, for R315? -/
def asleep (s : State) : Bool := s.pwr.state == .sleep || s.pwr.state == .deep

/-- A knock frame, R315 to R317: it wakes a sleeping post whose port is armed, unless the lane is in the window of R771;
on a post that is awake it is counted and discarded. -/
def knock (s : State) (p : Nat) (b : List Byte) (fcsBad : Bool) : State :=
  let fits := !fcsBad && s.isKnock p b && s.knockFits p b
  if s.asleep then
    if !s.portArmed p then s
    else if !fits then (s.count (macCount p 0x190)).count (macCount p 0x180)
    else
      let s := s.count (macCount p 0x188)
      if (s.port p).txLpi && s.time.ticks < (s.port p).lpiSince + nsTicks 20 then s.count (pwrBase + 0xC0)
      else s.wakeEvent 4 p
  else
    match s.macError p (b.length + 4) fcsBad with
    | some o => (s.count o).count (macCount p 0x190)
    | none =>
      let s := ((s.countRx p (beAt b 0 6) (b.length + 4)).count (macCount p (if fits then 0x188 else 0x190))).count
        (macCount p 0x198)
      if s.pwr.trans.isSome then s.wakeEvent 4 p else s

/-- A MAC control frame, EtherType 0x8808: R286, then R301 to R305. -/
def controlRx (s : State) (p : Nat) (b : List Byte) (fcsBad : Bool) : State :=
  match s.macError p (b.length + 4) fcsBad with
  | some o => s.count o
  | none => (s.countRx p (beAt b 0 6) (b.length + 4)).macControl p b

/-- Whatever begins while the link is not UP is discarded first (R859), and what a sleeping post's armed port receives
(R315); an unarmed port sleeps with it. -/
def linkGate (s : State) (p : Nat) (go : State → State) : State :=
  if !s.inService p then s
  else if (s.port p).link != .up then s.count (macCount p 0x150)
  else if s.asleep then (if s.portArmed p then s.count (macCount p 0x180) else s)
  else go s

/-- A frame received as an express frame or reassembled. -/
def frameRx (s : State) (p : Nat) (b : List Byte) (fcsBad cut : Bool) (t : Nat) : State :=
  if s.isKnock p b then s.knock p b fcsBad
  else if beAt b 12 2 == 0x8808 then s.controlRx p b fcsBad
  else s.takeFrame p b fcsBad cut t

/-! ### mPackets, R260 to R262 -/

/-- The number that one of the four values of SMD-S, or of frag_count, stands for. -/
def smdStart (x : Nat) : Option Nat :=
  match x with
  | 0xE6 => some 0
  | 0x4C => some 1
  | 0x7F => some 2
  | 0xB3 => some 3
  | _ => none

/-- The frame count of an SMD-C value. -/
def smdCont (x : Nat) : Option Nat :=
  match x with
  | 0x61 => some 0
  | 0x52 => some 1
  | 0x9E => some 2
  | 0x2A => some 3
  | _ => none

def setReasm (s : State) (p : Nat) (l : List Reasm) : State := s.modPort p (fun t => { t with reasm := l })

/-- A first fragment under count k; `crc` 0 for a matching mCRC, 1 for a matching FCS, 2 for neither
(DEDUCED, log entry 95). -/
def firstFragment (s : State) (p k crc : Nat) (b : List Byte) (t : Nat) : State :=
  let l := (s.port p).reasm
  let buf : Reasm := { count := k, data := b, nextFrag := 0, since := s.time.ticks, rxTime := t }
  let open_ := l.any (fun r => r.count == k)
  if crc = 2 then (s.setReasm p (l.filter (fun r => r.count != k))).count (mmgCount p 0)
  else if crc = 1 then
    let s := if open_ then (s.setReasm p (l.filter (fun r => r.count != k))).count (mmgCount p 0) else s
    s.frameRx p b false false t
  else if open_ then (s.setReasm p (l.filter (fun r => r.count != k) ++ [buf])).count (mmgCount p 0)
  else if 3 ≤ l.length then (s.setReasm p (l.drop 1 ++ [buf])).count (mmgCount p 9)
  else (s.setReasm p (l ++ [buf])).count (mmgCount p 3)

/-- A continuation fragment under count k. -/
def contFragment (s : State) (p k frag crc : Nat) (b : List Byte) : State :=
  let l := (s.port p).reasm
  let rest := l.filter (fun r => r.count != k)
  match l.find? (fun r => r.count == k) with
  | none => s.count (mmgCount p 1)
  | some r =>
    if smdStart frag != some r.nextFrag then (s.setReasm p rest).count (mmgCount p 0)
    else if 16384 < r.data.length + b.length + (if crc = 1 then 4 else 0) then (s.setReasm p rest).count (mmgCount p 10)
    else if crc = 2 then (s.setReasm p rest).count (mmgCount p 0)
    else if crc = 0 then
      (s.setReasm p (l.map (fun x => if x.count == k then { x with data := x.data ++ b, nextFrag := (x.nextFrag + 1) % 4 }
        else x))).count (mmgCount p 3)
    else (((s.setReasm p rest).count (mmgCount p 3)).count (mmgCount p 2)).frameRx p (r.data ++ b) false false r.rxTime

/-- FRAGMENT_RX by the table of R261 (DEDUCED, log entry 95). -/
def fragmentRx (s : State) (p smd frag crc : Nat) (b : List Byte) (t : Nat) : State :=
  if 24 ≤ p then s
  else match smdStart smd, smdCont smd with
    | some k, _ => s.firstFragment p k crc b t
    | none, some k => s.contFragment p k frag crc b
    | none, none => if smd = 0xD5 then s.frameRx p b (crc != 1) false t else s.count (mmgCount p 1)

/-! ### LLDPDUs, R264 -/

/-- The TLVs of an LLDPDU as type and value; at most n. -/
def tlvs : Nat → List Byte → List (Nat × List Byte)
  | 0, _ => []
  | n + 1, b =>
    let h := beAt b 0 2
    if b.length < 2 || h / 512 = 0 then [] else (h / 512, slice b 2 (h % 512)) :: tlvs n (b.drop (2 + h % 512))

/-- The agent takes the partner's values: the Clause 79 Additional Ethernet Capabilities TLV (00-12-0F, subtype 7), the
Lezanik nesting TLV and the TTL. -/
def lldpTake (s : State) (p : Nat) (b : List Byte) : State :=
  if !s.mmgEnable p || s.regBits (mmgBase p + 4) 6 1 = 1 then s
  else
    let l := tlvs 256 (b.drop 14)
    let ttl := match l.find? (fun x => x.1 == 3) with | some x => beAt x.2 0 2 | none => 0
    let org (oui sub : Nat) := (l.find? (fun x => x.1 == 127 && beAt x.2 0 3 == oui && beAt x.2 3 1 == sub)).map (·.2)
    let c79 := org 0x00120F 7
    let lz := org 0x725AE1 1
    s.setPartner p c79.isSome lz.isSome ((c79.map (fun v => beAt v 4 2)).getD 0) ((lz.map (fun v => beAt v 5 1)).getD 0)
      ((lz.map (fun v => beAt v 4 1)).getD 0) ttl

/-! ### Frames whose reception ends in error, R24 -/

/-- Take a frame from every list of one port; a frame on its wire ends at once with an inverted FCS. -/
def abortEgress (s : State) (id p : Nat) : State :=
  let keep (q : QFrame) : Bool := q.id != id
  let s := s.modPort p (fun t => { t with
    flows := t.flows.map (fun f => (f.1, { f.2 with frames := f.2.frames.filter keep }))
    spill := t.spill.map (fun f => (f.1, { f.2 with frames := f.2.frames.filter keep }))
    retry := t.retry.filter (fun r => match r.2 with | some x => keep x.1 | none => true)
    arriving := t.arriving.filter (· != id)
    commit := match t.commit with | some w => if w.kind == .frame && w.qf.id == id then none else some w | none => none })
  let s := if (s.port p).suspended.any (fun x => x.qf.id == id) then
      (s.modPort p (fun t => { t with suspended := t.suspended.filter (fun x => keep x.qf) })).count (macCount p 0x1B0)
    else s
  match (s.port p).wire with
  | some w =>
    if w.kind == .frame && w.qf.id == id && !w.done then
      let b := s.byteTime p
      (s.modPort p (fun t => { t with wire := some { w with
        kind := .ctrl, ctrl := none, final := true, dataEnd := s.nowQ + 4 * b, gapEnd := s.nowQ + 16 * b } })).count
        (macCount p 0x1B0)
    else s
  | none => s

/-- A frame received in error leaves the post. -/
def badFrame (s : State) (id : Nat) (f : Frame) : State :=
  let s := s.count f.rxErr
  let s := f.egress.foldl (fun s p => (s.abortEgress id p).noteIdle p) s
  let s := { s with
    queues := Tab.mapAll {} (fun _ (w : WorkQueue) => { w with rxWait := w.rxWait.filter (· != id) }) s.queues
    stream := { s.stream with waiting := s.stream.waiting.filter (· != id) }
    span := { s.span with sources := Tab.mapAll [] (fun _ (l : List Nat) => l.filter (· != id)) s.span.sources } }
  let s := match s.threadOf id with | some k => s.setThread k none | none => s
  (s.dropFrame id).flushOrder s.frames.length

/-- More of a frame arrives in the frame hold; at its end a good frame is counted, and a bad one leaves. -/
def dataRx (s : State) (id n : Nat) : State :=
  match s.frame id with
  | none => s
  | some f =>
    let ends := !f.whole && f.bytes.length ≤ f.arrived + n
    match f.origin with
    | .rx p =>
      if ends && f.bad then s.badFrame id f
      else if ends then ((s.countRx p (beAt f.bytes 0 6) (f.bytes.length + 4)).dataArrives id n)
      else s.dataArrives id n
    | _ => s.dataArrives id n

end State

/-! ### Meanings -/

/-- FRAME_RX at port p: the bytes without FCS, whether the FCS is bad, whether only its first 256 bytes are here yet, and
its receive timestamp in 2^-16 ns. -/
def execFrameRx (p : Nat) (b : List Byte) (fcsBad cut : Bool) (t : Nat) (s : State) : Result :=
  ok (if 25 ≤ p then s else if s.asleep && s.isKnock p b && s.inService p && (s.port p).link == .up then s.knock p b fcsBad
    else s.linkGate p (fun s => s.frameRx p b fcsBad cut t))

/-- FRAME_DATA_ARRIVAL: n more bytes of a frame are in the frame hold. -/
def execFrameDataArrival (id n : Nat) (s : State) : Result := ok (s.dataRx id n).testsBegin

/-- PAUSE_RX: a MAC control frame. -/
def execPauseRx (p : Nat) (b : List Byte) (fcsBad : Bool) (_t : Nat) (s : State) : Result :=
  ok (if 25 ≤ p then s else s.linkGate p (fun s => s.controlRx p b fcsBad))

/-- KNOCK_RX: a knock frame, recognised at the MAC. -/
def execKnockRx (p : Nat) (b : List Byte) (fcsBad : Bool) (_t : Nat) (s : State) : Result :=
  ok (if 25 ≤ p || !s.inService p then s
    else if (s.port p).link != .up then s.count (macCount p 0x150)
    else s.knock p b fcsBad)

/-- VERIFY_MPACKET_RX: SMD-R goes out at the next free wire (R261) (DEDUCED, log entry 95). -/
def execVerifyMpacketRx (p : Nat) (bad : Bool) (s : State) : Result :=
  ok (if 24 ≤ p then s else s.linkGate p (fun s =>
    if bad || !s.mmgEnable p then s else (s.addCtrl p .respond).kick p))

/-- RESPOND_MPACKET_RX: the verify state machine takes a valid SMD-R in WAIT_RESPONSE (R268). -/
def execRespondMpacketRx (p : Nat) (bad : Bool) (s : State) : Result :=
  ok (if 24 ≤ p then s else s.linkGate p (fun s =>
    if bad || (s.port p).verify != .waitResponse then s else s.mmgSucceed p))

/-- FRAGMENT_RX: an mPacket with its SMD, its frag_count byte, whether its CRC is an mCRC (0), an FCS (1) or neither (2),
its data and the instant of its timestamp point. -/
def execFragmentRx (p smd frag crc : Nat) (b : List Byte) (t : Nat) (s : State) : Result :=
  ok (if 25 ≤ p then s else s.linkGate p (fun s => s.fragmentRx p smd frag crc b t))

/-- LLDPDU_RX: the agent takes the two TLVs, and the frame goes on as any other (R264). -/
def execLldpduRx (p : Nat) (b : List Byte) (t : Nat) (s : State) : Result :=
  ok (if 25 ≤ p then s else s.linkGate p (fun s =>
    let s := if p ≤ 23 && (s.macError p (b.length + 4) false).isNone then s.lldpTake p b else s
    s.frameRx p b false false t))

end Sys2Proof.Machine
end

