-- ==== Sys2Proof/Machine/Spill.lean ====
section
/-!
DEFINITION. The spill engine (R28 to R32, R804): frames that wait too long in the frame hold move to bulk memory and
come back, and a frame-hold bank test is abandoned when the frame hold fills (R733).
-/

namespace Sys2Proof.Machine

namespace State

/-- The marks of R804 in bytes. -/
def spillHi (s : State) : Nat := s.regBits (memBase + 0x30) 0 16 * 65536
def spillLo (s : State) : Nat := s.regBits (memBase + 0x30) 16 16 * 65536

/-- Bytes of the spill store in use, MEM_SPILL_LEVEL, and its size, R797. -/
def spillLevel (s : State) : Nat :=
  s.frames.foldl (fun n e => match e.2 with
    | some f => if f.place == .spilled then n + 256 * cellsOf f.size else n
    | none => n) 0

def spillSize (s : State) : Nat := s.memCap / 16

/-- Is a frame in transmission on a port: on the wire, committed to it, or suspended? -/
def onWire (s : State) (id : Nat) : Bool :=
  s.ports.any (fun e =>
    (match e.2.wire with | some w => w.kind == .frame && w.qf.id == id && !w.done | none => false)
    || (match e.2.commit with | some w => w.kind == .frame && w.qf.id == id | none => false)
    || e.2.suspended.any (fun x => x.qf.id == id))

/-- Has the host data write of a frame begun: it is the one that a DELIVERY channel moves? -/
def writeBegun (s : State) (id : Nat) : Bool :=
  s.dray.chans.any (fun e => e.2.moving && (match e.2.source with | i :: _ => i.frame == id && e.1 % 32 ≥ 8 | [] => false))

/-- May the spill engine move a frame, R29: whole, and waiting in a queue? -/
def spillable (s : State) (id : Nat) (f : Frame) : Bool :=
  f.stage == .steered && f.place == .hold && f.whole && !f.window && (!f.egress.isEmpty || f.wq.isSome || f.slot.isSome)
    && !s.onWire id && !s.writeBegun id

/-- The oldest frame that may be moved. -/
def oldestSpillable (s : State) : Option Nat := Tab.findKey (fun id f => (f.map (s.spillable id)).getD false) s.frames

/-- Move frames, oldest first, until occupancy falls to LO, the spill store is full or none may be moved; at
most n (DEDUCED, log entry 83). -/
def spillLoop (s : State) : Nat → State
  | 0 => s
  | n + 1 =>
    if s.holdLevel ≤ s.spillLo then { s with mem := { s.mem with spilling := false } }
    else match s.oldestSpillable with
      | none => s
      | some id =>
        match s.frame id with
        | none => s
        | some f =>
          if s.spillSize < s.spillLevel + 256 * cellsOf f.size then
            { s with mem := { s.mem with spilling := false, spillStopped := true } }.count (memBase + 0x110)
          else spillLoop ((s.modFrame id (fun f => { f with place := .spilled })).count (memBase + 0x100)) n

/-- Frames that a standby keeps are freed first, oldest first, while occupancy stands at HI (R22). -/
def freeKept (s : State) : Nat → State
  | 0 => s
  | n + 1 => if s.holdLevel < s.spillHi || s.bent.kept.isEmpty then s else freeKept (s.dropKept 13) n

/-- A test of a frame-hold bank is abandoned, R733: the bank returns, and the rotation goes on after its gap. -/
def abandonHoldTest (s : State) : State :=
  match s.flt.tests.find? (fun t => 0x300 ≤ t.unit_ && t.unit_ < 0x340 && t.why != TestWhy.unfence) with
  | none => s
  | some t =>
    let gap := msTicks (s.regBits (fltBase + 0x14) 16 16)
    let s := { s with flt := { s.flt with
      tests := s.flt.tests.filter (fun x => x.unit_ != t.unit_)
      fences := s.flt.fences.filter (fun x => x.unit_ != t.unit_ || x.why != FenceWhy.test)
      rotFh := if t.why == TestWhy.rotation then ((t.unit_ - 0x300) / 2 + 1) % 32 else s.flt.rotFh
      gapFh := if t.why == TestWhy.rotation then some (s.time.ticks + gap) else s.flt.gapFh } }.count (fltBase + 0x168)
    if t.why == TestWhy.rotation then s
    else s.finishKind (fun k => k == .unitTest t.unit_) .busy

/-- Occupancy has reached HI, or a spill goes on. -/
def spill (s : State) : State :=
  if s.holdLevel < s.spillHi && !s.mem.spilling then s
  else
    let s := if s.holdLevel < s.spillHi then s else (s.abandonHoldTest).freeKept s.bent.kept.length
    if s.holdLevel < s.spillHi && !s.mem.spilling then s
    else if s.spillSize = 0 then s
    else { s with mem := { s.mem with spilling := true, spillStopped := false } }.spillLoop s.frames.length

/-- n bytes of a spilled frame come back into its reserved cells, R30; its ports decide again at its start
threshold (DEDUCED, log entry 83). -/
def spillBack (s : State) (id n : Nat) : State :=
  match s.frame id with
  | none => s
  | some f =>
    let go (s : State) (a : Nat) : State :=
      let whole := decide (f.bytes.length ≤ a)
      let s := s.modFrame id (fun f => { f with arrived := min a f.bytes.length, place := if whole then .hold else .returning })
      let s := if whole then s.count (memBase + 0x108) else s
      f.egress.foldl (fun s p => if s.onWire id then s else (s.bringCredit p).decide_ p) s
    match f.place with
    | .spilled =>
      if s.holdFree < cellsOf f.size then s
      else go { s with mem := { s.mem with spillStopped := false } } n
    | .returning => go s (f.arrived + n)
    | .hold => s

end State

/-- SPILL_START. -/
def execSpillStart (s : State) : Result := ok s.spill
/-- SPILL_RETURN: n more bytes of a frame are back in the frame hold. -/
def execSpillReturn (id n : Nat) (s : State) : Result := ok (s.spillBack id n)

end Sys2Proof.Machine
end

