-- ==== Sys2Proof/Machine/Time.lean ====
section
/-!
DEFINITION. The time island (chapter "Span time"): steps and slews, references and the DPLL, the time flag, PTP, phase
measurement and SyncE, the external inputs and outputs, and the 0x02xx commands.
-/

namespace Sys2Proof.Machine

/-- TIM_P_STATUS.ROLE. -/
def PtpRole.code : PtpRole → Nat
  | .disabled => 0
  | .master => 1
  | .slave => 2
  | .passive => 3

/-- TIM_STATUS.DPLL. -/
def Dpll.code : Dpll → Nat
  | .freerun => 0
  | .acquire => 1
  | .locked => 2
  | .holdover => 3

/-- Ticks in 2^n seconds. -/
def logTicks (n : Int) : Nat := if n < 0 then 781250000 / 2 ^ n.natAbs else 781250000 * 2 ^ n.toNat

/-- An instant moved by a step of the counter. -/
def moveBy (d : Int) (x : Nat) : Nat := ((x : Int) + d).toNat

namespace State

/-! ### Steps, R55 to R57 -/

/-- A wire's instants after a step. -/
def moveWire (d : Int) (w : Wire) : Wire :=
  { w with start := moveBy d w.start, dataEnd := moveBy d w.dataEnd, gapEnd := moveBy d w.gapEnd, began := moveBy d w.began }

/-- What runs by the counter's rate goes on across a step: a port's instants move with the counter. -/
def movePort (d : Int) (t : Port) : Port :=
  { t with
    wire := t.wire.map (moveWire d), commit := t.commit.map (moveWire d), wakeAt := moveBy d t.wakeAt
    idleFrom := moveBy d t.idleFrom, creditAt := moveBy d t.creditAt
    suspended := t.suspended.map (fun x => { x with heldAt := moveBy d x.heldAt, began := moveBy d x.began })
    flows := t.flows.map (fun e => (e.1, { e.2 with tokAt := moveBy d e.2.tokAt }))
    spill := Tab.mapAll {} (fun _ (f : Flow) => { f with tokAt := moveBy d f.tokAt }) t.spill
    pauseUntil := Tab.mapAll 0 (fun _ u => moveBy d u) t.pauseUntil }

/-- The counter steps to a value, never before the epoch; a slew in progress is over. -/
def stepTo (s : State) (v : Int) : State :=
  let old := s.nowQ
  let oldU := s.nowU
  let s := { s with time := { s.time with count := v.toNat, slew := none, epoch := s.time.epoch + 1 } }
  let d : Int := (s.nowQ : Int) - (old : Int)
  let du : Int := (s.nowU : Int) - (oldU : Int)
  { s with
    ports := Tab.mapAll {} (fun _ t => movePort d t) s.ports
    stream := { s.stream with meters := Tab.mapAll {} (fun _ m => { m with last := moveBy du m.last }) s.stream.meters }
  }.count (timBase + 0xC0)

/-! ### The time flag, R47 to R49 -/

def setFlag (s : State) (f : TimeFlag) : State := { s with time := { s.time with flag := f } }

/-- The time is accepted as VALID, and the count of R48 in HOLDOVER starts afresh. -/
def acceptTime (s : State) : State :=
  let s := { s with time := { s.time with
      flag := .valid, holdFrom := if s.time.dpll == Dpll.holdover then s.time.ticks else s.time.holdFrom } }
  s.assignRoles 0

/-- HOLDOVER_LIMIT_EXPIRE, R48 and R63. -/
def holdExpires (s : State) : State :=
  if s.time.dpll != .holdover || s.time.flag != .valid then s
  else
    let s := s.advanceTo (s.time.holdFrom + msTicks (s.reg (timBase + 0x64)) + 1)
    { s with time := { s.time with
        flag := .coarse, uncertBase := 0, uncertFrom := s.time.holdFrom, uncertPpb := s.reg (timBase + 0x68) } }

/-! ### The DPLL, R54, R56, R58, R63 -/

/-- 1 ns and 1 ms in 2^-16 ns. -/
abbrev nsU : Nat := 65536
abbrev msU : Nat := 65536000000

/-- The flag after an offset measurement: convergence, R48. -/
def convergeFlag (s : State) : State :=
  let own := match s.time.phRef with | some r => r.kind == 1 || r.kind == 4 | none => false
  if s.time.dpll == .locked && 8 ≤ s.time.convRun && s.time.flag != .valid && (own || !s.hasParent) then
    (s.setFlag .valid).assignRoles 0
  else s

/-- An offset measurement of the phase reference, in 2^-16 ns. The loop's new increment is a free value
(DEDUCED, log entry 84) (DEDUCED, log entry 89). -/
def measure (s : State) (off : Int) : State :=
  if s.time.dpll != .acquire && s.time.dpll != .locked then s
  else
    let lim : Int := ((2 ^ 31 : Nat) : Int)
    let s := { s with time := { s.time with offset := max (-lim) (min (lim - 1) off) } }
    let target : Int := (s.time.count : Int) - off * ((2 ^ 24 : Nat) : Int)
    if s.isMember && msU < off.natAbs then
      let s := (s.leaveMember .listen none).stepTo target
      { s with time := { s.time with offset := 0, nearRun := 0, convRun := 0, entry := 0, dpll := .acquire } }
    else if s.time.dpll == .acquire && s.time.entry == 1 && !s.integrated && 1000 * nsU < off.natAbs then
      let s := s.stepTo target
      { s with time := { s.time with offset := 0, nearRun := 0, convRun := 0, entry := 0 } }
    else
      let slew := s.time.dpll == .acquire && s.time.entry == 2 && off != 0 && s.time.slew.isNone
      let near := if off.natAbs ≤ 10 * nsU then s.time.nearRun + 1 else 0
      let conv := if off.natAbs ≤ s.reg (timBase + 0x6C) * nsU then min 8 (s.time.convRun + 1) else 0
      let f := s.freeAdj
      let s := { f.2 with time := { f.2.time with
        nearRun := min 8 near, convRun := conv, adj := f.1, entry := if f.2.time.dpll == Dpll.acquire then 0 else f.2.time.entry
        slew := if slew then some { remaining := -off * ((2 ^ 24 : Nat) : Int) } else f.2.time.slew } }
      let s :=
        if s.time.dpll == .acquire && 8 ≤ near then
          { s with time := { s.time with dpll := .locked, everLocked := true, noStep := false } }
        else if s.time.dpll == .locked && 1000 * nsU < off.natAbs then
          let s := { s with time := { s.time with dpll := .acquire, entry := 0, nearRun := 0, convRun := 0 } }.count (timBase + 0xD0)
          if s.integrated then s
          else
            let s := s.stepTo target
            { s with time := { s.time with offset := 0 } }
        else s
      s.convergeFlag

/-- The reference that a slave port feeds. -/
def slaveRef (t : PortTime) : RefId := { kind := if t.joined == some 0 then 1 else 2, source := t.joined.getD 0 }

/-- ANNOUNCE_RX, R66. -/
def announceRx (s : State) (p domain : Nat) (a : Announce) : State :=
  let t := s.ptime p
  match t.joined with
  | none => s
  | some i =>
    if (s.ptpInst i).domain != domain || a.gmId == s.ownId || a.senderId == s.ownId then s
    else (s.setPtime p { t with foreign := some a }).assignRoles i

/-- May a port send Sync and Announce, R51 and R67? -/
def ptpSends (s : State) (p : Nat) : Bool :=
  let t := s.ptime p
  t.role == .master && s.portUp p && !s.txAsleep && t.joined.isSome
    && (t.joined != some 0 || ((s.time.flag == .valid || s.isKing) && s.bent.role != .standby))

/-- The message header of a port's instance. -/
def ptpMsg (s : State) (p : Nat) (seq : BitVec 16) : PtpMsg :=
  let i := (s.ptime p).joined.getD 0
  { domain := (s.ptpInst i).domain, seq := seq, senderId := if i = 0 then s.ownId else s.glb.clockId, senderPort := p }

/-- A one-step message leaves on a protected channel as two-step, R297. -/
def stepMode (s : State) (p : Nat) : Bool × State :=
  let t := s.ptime p
  if t.oneStep && s.txChan p 0xFF != 0xFF then (true, s.count (macCount p 0x358)) else (!t.oneStep, s)

/-- The phase report of a port, R77: trunk ports measure. -/
def phaseReport (s : State) (p : Nat) : Option PhaseReport × State :=
  if 15 < p then (none, s)
  else
    let t := s.ptime p
    (some { phase := t.phaseFwd, valid := (s.port p).pcs, seq := t.phaseTxSeq },
      s.setPtime p { t with phaseTxSeq := t.phaseTxSeq + 1 })

/-- SYNC_TX. -/
def syncTx (s : State) (p : Nat) : State :=
  if !s.ptpSends p then s
  else
    let t := s.ptime p
    let r := s.stepMode p
    let s := r.2.setPtime p { t with syncSeq := t.syncSeq + 1 }
    let x := s.phaseReport p
    (x.2.addCtrl p (.ptp 0 { s.ptpMsg p t.syncSeq with twoStep := r.1 } none x.1)).kick p

/-- ANNOUNCE_TX: the grandmaster that the post follows, or itself. -/
def announceTx (s : State) (p : Nat) : State :=
  if !s.ptpSends p then s
  else
    let t := s.ptime p
    let i := t.joined.getD 0
    let own := s.ownAnnounce i
    let a := match s.bestForeign i with
      | some (q, a) => if (s.ptime q).role == PtpRole.slave then { a with steps := a.steps + 1, senderId := own.senderId } else own
      | none => own
    let s := s.setPtime p { t with announceSeq := t.announceSeq + 1 }
    (s.addCtrl p (.ptp 11 (s.ptpMsg p t.announceSeq) (some { a with senderPort := p }) none)).kick p

/-! ### Offset to the parent, R71 -/

/-- Receive-direction delay in 2^-16 ns, R69. -/
def rxDelay (s : State) (p : Nat) : Int := (((s.ptime p).delay : Int) + toSigned 32 (s.reg (timPort p + 0x14))) * 256

/-- PHASE_LOCKED, R78. -/
def phaseLocked (s : State) (p : Nat) : Bool :=
  let t := s.ptime p
  p ≤ 15 && t.synceEnable && t.partnerSynce && (s.port p).pcs && t.partnerPhaseValid && 16 ≤ t.phaseRun

/-- The offset of R71 is known: on a phase-locked link it waits for the next phase report (R79). -/
def ptpOffset (s : State) (p rx : Nat) (origin : Int) : State :=
  let theta := (rx : Int) - (origin + s.rxDelay p)
  let s := s.modPtime p (fun t => { t with thetaPtp := theta, syncT1 := origin.toNat, syncT2 := rx })
  if s.phaseLocked p || s.time.phRef != some (slaveRef (s.ptime p)) then s else s.measure theta

/-- The phase procedure of the section "Sub-nanosecond alignment", in tenths of 2^-16 ns, and R79. -/
def phaseOffset (s : State) (p : Nat) : State :=
  let t := s.ptime p
  let half : Int := 2097152
  let ptp := t.thetaPtp * 10
  let ph := ((t.phaseFwd : Int) - (t.phaseRev : Int)) * 5 - toSigned 32 (s.reg (timPort p + 0x14)) * 2560
  let jump0 := (ph - t.lastTheta) - (ptp - t.lastPtp)
  let jump := (jump0 + half / 2) % half - half / 2
  let s := s.setPtime p { t with lastTheta := ph, lastPtp := ptp }
  if 65536 < jump.natAbs then s.count (timPort p + 0x50)
  else
    let theta := ph + (ptp - ph + half / 2) / half * half
    if 655360 < (theta - ptp).natAbs then (s.count (timPort p + 0x48)).measure t.thetaPtp
    else s.measure (theta / 10)

/-- PHASE_REPORT_RX: the partner's report and the phase measured here, R76 to R79. -/
def phaseRx (s : State) (p : Nat) (r : PhaseReport) (fwd : Nat) : State :=
  if 15 < p then s
  else
    let t := s.ptime p
    let run := if !r.valid then 0 else if t.phaseRxSeq == some (r.seq - 1) then min 16 (t.phaseRun + 1) else 1
    let s := s.setPtime p { t with
      phaseFwd := fwd % 419430, phaseRev := r.phase, phaseValid := r.valid, partnerPhaseValid := r.valid
      phaseRxSeq := some r.seq, phaseRun := run }
    if s.phaseLocked p && t.role == .slave && s.time.phRef == some (slaveRef t) then s.phaseOffset p else s

/-- SYNC_RX: a Sync, or the Follow_Up of a two-step Sync. -/
def syncRx (s : State) (p : Nat) (m : PtpMsg) (followUp : Bool) (report : Option PhaseReport) (t : Nat) : State :=
  let s := s.advanceToU t
  let x := s.ptime p
  let s := match report with | some r => s.phaseRx p r x.phaseFwd | none => s
  match x.joined with
  | none => s
  | some i =>
    if (s.ptpInst i).domain != m.domain || x.role != .slave || !s.portUp p then s
    else if followUp then
      match x.awaitFollow with
      | some (q, rx, c) =>
        if q != m.seq.toNat then s
        else (s.modPtime p (fun x => { x with awaitFollow := none })).ptpOffset p rx ((m.stamp : Int) + m.correction + c)
      | none => s
    else
      let s := s.modPtime p (fun x => { x with
        lastSync := some s.time.ticks, awaitFollow := if m.twoStep then some (m.seq.toNat, t, m.correction) else none })
      if m.twoStep then s else s.ptpOffset p t ((m.stamp : Int) + m.correction)

/-- SYNC_TIMEOUT, R62 and R98: three sync intervals passed without a Sync. -/
def syncLost (s : State) (p : Nat) : State :=
  let t := s.ptime p
  match t.lastSync with
  | none => s
  | some u =>
    if t.role != .slave then s
    else
      let s := s.advanceTo (u + 3 * logTicks t.logSync)
      let s := (s.modPtime p (fun t => { t with lastSync := none, foreign := none, awaitFollow := none })).countN
        (timPort p + 0x40) 3
      (s.disqualify (slaveRef t)).assignRoles (t.joined.getD 0)

/-! ### Peer delay, R68 to R70 -/

/-- The neighbour rate ratio over a list of exchanges, as a fraction. -/
def rateRatio (l : List Exchange) : Int × Int :=
  match l.head?, l.getLast? with
  | some a, some b =>
    let n : Int := (b.t3 : Int) - (a.t3 : Int)
    let d : Int := (b.t4 : Int) - (a.t4 : Int)
    if n ≤ 0 || d ≤ 0 then (1, 1) else (n, d)
  | _, _ => (1, 1)

/-- Twice the mean link delay of one exchange in 2^-16 ns. -/
def linkDelay2 (r : Int × Int) (e : Exchange) : Int :=
  r.1 * ((e.t4 : Int) - (e.t1 : Int)) / r.2 - ((e.t3 : Int) - (e.t2 : Int))

/-- TIM_P_DELAY and TIM_P_RATIO from the last eight exchanges, without the largest and the smallest. -/
def delayFrom (l : List Exchange) : Nat × BitVec 32 :=
  let r := rateRatio l
  let ds := (l.map (linkDelay2 r)).mergeSort (fun a b => a ≤ b)
  let ds := if 3 ≤ ds.length then (ds.drop 1).dropLast else ds
  let sum := ds.foldl (· + ·) 0
  let n : Int := max 1 ds.length
  (((sum / (2 * n)) / 256).toNat, BitVec.ofInt 32 ((r.1 - r.2) * ((2 ^ 41 : Nat) : Int) / r.2))

/-- An exchange completes. -/
def exchange (s : State) (p : Nat) (e : Exchange) : State :=
  let t := s.ptime p
  let l := t.exchanges ++ [e]
  let l := l.drop (l.length - 8)
  let d := delayFrom l
  let s := s.setPtime p { t with
    exchanges := l, delay := d.1, ratio := d.2, lostRun := 0, timeCapable := true, pdelayT1 := none, awaitPdelay := none
    pdelayOpen := false }
  (if t.timeCapable then s else s.assignRoles (t.joined.getD 0)).noteMargins

/-- PDELAY_RESP_RX: a response, one-step or two-step, or its follow-up. -/
def pdelayRespRx (s : State) (p : Nat) (m : PtpMsg) (followUp : Bool) (t : Nat) : State :=
  let s := s.advanceToU t
  let x := s.ptime p
  let mine := x.joined.isSome && !x.e2e && m.reqId == (s.ptpMsg p 0).senderId && m.reqPort == p && m.seq + 1 == x.pdelaySeq
  match x.pdelayT1 with
  | none => s
  | some t1 =>
    if !mine then s
    else if followUp then
      match x.awaitPdelay with
      | some (t2, t4, c) =>
        s.exchange p { t1 := t1, t2 := t2, t3 := ((m.stamp : Int) + m.correction + c).toNat, t4 := t4 }
      | none => s
    else if m.twoStep then s.setPtime p { x with awaitPdelay := some (m.stamp, t, m.correction) }
    else s.exchange p { t1 := t1, t2 := m.stamp, t3 := ((m.stamp : Int) + m.correction).toNat, t4 := t }

/-- PDELAY_REQ_TX. -/
def pdelayReqTx (s : State) (p : Nat) : State :=
  let t := s.ptime p
  if t.joined.isNone || t.e2e || !s.portUp p then s
  else
    let s := s.setPtime p { t with pdelaySeq := t.pdelaySeq + 1, pdelayT1 := none, awaitPdelay := none, pdelayOpen := true }
    (s.addCtrl p (.ptp 2 (s.ptpMsg p t.pdelaySeq) none none)).kick p

/-- PDELAY_REQ_RX: the port hardware answers. -/
def pdelayReqRx (s : State) (p : Nat) (m : PtpMsg) (t : Nat) : State :=
  let s := s.advanceToU t
  let x := s.ptime p
  if x.joined.isNone || x.e2e || !s.portUp p then s
  else
    let r := s.stepMode p
    (r.2.addCtrl p (.ptp 3 { s.ptpMsg p m.seq with
      twoStep := r.1, stamp := t, correction := m.correction, reqId := m.senderId, reqPort := m.senderPort } none none)).kick p

/-- PDELAY_LOST, R70. -/
def pdelayLost (s : State) (p : Nat) : State :=
  let t := s.ptime p
  if t.joined.isNone || t.e2e || !t.pdelayOpen then s
  else
    let s := match t.pdelayT1 with
      | some u => s.advanceToU (u + logTicks t.logPdelay * 128 / 100 * 65536)
      | none => s
    let run := t.lostRun + 1
    let dead := decide (t.allowedLost ≤ run)
    let s := (s.setPtime p { t with
      lostRun := run, pdelayT1 := none, awaitPdelay := none, pdelayOpen := false, timeCapable := t.timeCapable && !dead }).count (timPort p + 0x38)
    if dead && t.timeCapable then s.assignRoles (t.joined.getD 0) else s

/-! ### End-to-end delay, R65 -/

/-- DELAY_REQ_TX. -/
def delayReqTx (s : State) (p : Nat) : State :=
  let t := s.ptime p
  if t.joined.isNone || !t.e2e || t.role != .slave || !s.portUp p then s
  else
    let s := s.setPtime p { t with delayReqSeq := t.delayReqSeq + 1, delayReqT3 := none }
    (s.addCtrl p (.ptp 1 (s.ptpMsg p (t.delayReqSeq + 1)) none none)).kick p

/-- DELAY_REQ_RX: a master answers with the receive instant. -/
def delayReqRx (s : State) (p : Nat) (m : PtpMsg) (t : Nat) : State :=
  let s := s.advanceToU t
  let x := s.ptime p
  if x.joined.isNone || !x.e2e || x.role != .master || !s.portUp p then s
  else
    (s.addCtrl p (.ptp 9 { s.ptpMsg p m.seq with
      stamp := t, correction := m.correction, reqId := m.senderId, reqPort := m.senderPort } none none)).kick p

/-- DELAY_RESP_RX: the mean path delay of the end-to-end mechanism. -/
def delayRespRx (s : State) (p : Nat) (m : PtpMsg) : State :=
  let x := s.ptime p
  match x.delayReqT3 with
  | none => s
  | some t3 =>
    if x.joined.isNone || !x.e2e || x.role != .slave || m.seq != x.delayReqSeq || m.reqId != (s.ptpMsg p 0).senderId
        || m.reqPort != p then s
    else
      let t4 : Int := (m.stamp : Int) - m.correction
      let d : Int := (((x.syncT2 : Int) - (x.syncT1 : Int)) + (t4 - (t3 : Int))) / 2
      s.setPtime p { x with delayReqT3 := none, delay := (d / 256).toNat }

/-- PHASE_REPORT_TX: a dedicated Signaling message, R77. -/
def phaseTx (s : State) (p : Nat) : State :=
  if !s.portUp p || (s.ptime p).joined.isNone then s
  else
    match s.phaseReport p with
    | (some r, s) => (s.addCtrl p (.ptp 12 (s.ptpMsg p 0) none (some r))).kick p
    | (none, s) => s

/-! ### SyncE, R72 to R74 -/

/-- The quality level of a port: received, or forced. -/
def qlOf (t : PortTime) : Nat := if t.qlForce = 0 then t.ql else t.qlForce

/-- ESMC_RX; DNU disqualifies (R62). -/
def esmcRx (s : State) (p ql : Nat) : State :=
  let t := s.ptime p
  if !t.synceEsmc || !s.portUp p then s
  else
    let s := s.setPtime p { t with ql := ql % 16, partnerSynce := true }
    if qlOf (s.ptime p) = 15 then s.disqualify { kind := 5, source := p } else s

/-- ESMC_TX, R73: DNU toward the frequency reference; elsewhere the DPLL's level: that of its SyncE reference, else one
that the spec does not give. -/
def esmcTx (s : State) (p : Nat) : State :=
  if !(s.ptime p).synceEsmc || !s.portUp p then s
  else
    match s.time.fqRef with
    | some r =>
      if r.kind = 5 then (s.addCtrl p (.esmc (if r.source = p then 15 else qlOf (s.ptime r.source)))).kick p
      else
        let f := s.fresh
        (f.2.addCtrl p (.esmc (f.1.toNat % 16))).kick p
    | none =>
      let f := s.fresh
      (f.2.addCtrl p (.esmc (f.1.toNat % 16))).kick p

/-! ### External inputs and outputs, R99 to R104 -/

/-- May TIME_SET, TIME_SLEW and TIME_ACCEPT run, R106? -/
def ownTime (s : State) : Bool := !s.hasParent && s.bent.role != .standby

/-- TIME_SET takes effect. -/
def timeSetNow (s : State) (u : Nat) : State := (s.stepTo ((u * 2 ^ 24 : Nat) : Int)).acceptTime

/-- PPS_IN_EDGE: the edge is timestamped, a waiting TIME_SET applies, and the edge that a message labelled is measured. -/
def ppsEdge (s : State) : State :=
  let now := s.time.ticks
  let missing := match s.time.ppsInTick with | some t => (now - t + 390625000) / 781250000 - 1 | none => 0
  let s := s.countN (timBase + 0xE0) missing
  let old := s.time.ppsIn
  let s := { s with time := { s.time with ppsIn := s.nowU, ppsInTick := some now } }
  let near := match s.time.todTick with | some t => decide (now ≤ t + msTicks 100) | none => false
  let next := s.regBits (timBase + 0x80) 1 1 == 1
  let s := if near && s.time.todLabel.isSome then s.count (timBase + 0xD8) else s
  let s := match s.time.todLabel with
    | some sec =>
      let s := { s with time := { s.time with todLabel := none } }
      if !near && s.time.phRef == some (RefId.mk 3 0) then
        s.measure (((if next then s.time.ppsIn else old : Nat) : Int) - ((sec * 1000000000 * 65536 : Nat) : Int))
      else s
    | none => s
  match s.clerk.waiting.find? (fun (w : Waiting) => match w.kind with | .timeSetPps _ _ => true | _ => false) with
  | some w =>
    match w.kind with
    | .timeSetPps u _ =>
      if !s.ownTime || s.integrated then s.finishWaiting w .inconsistent else (s.timeSetNow u).finishWaiting w .ok
    | _ => s
  | none => s

/-- TOD_MESSAGE_RX, R100 and R101. A message that labels the edge before it and comes while the next edge is due within
100 ms waits for that edge, which decides whether the message is ignored (DEDUCED, log entry 87). -/
def todRx (s : State) (isTime : Bool) (sec : Nat) : State :=
  let now := s.time.ticks
  let near := match s.time.ppsInTick with | some t => decide (now ≤ t + msTicks 100) | none => false
  let before := match s.time.ppsInTick with | some t => decide (t + msTicks 900 ≤ now) | none => false
  if !isTime || near then s.count (timBase + 0xD8)
  else if s.regBits (timBase + 0x80) 1 1 = 1 || before then
    { s with time := { s.time with todLabel := some sec, todTick := some now } }
  else if s.time.ppsInTick.isSome && s.time.phRef == some { kind := 3 } then
    s.measure ((s.time.ppsIn : Int) - ((sec * 1000000000 * 65536 : Nat) : Int))
  else s

/-- SECOND_BOUNDARY: the outputs rise unless suppressed. -/
def secondBoundary (s : State) : State :=
  let u := (s.nowU / (1000000000 * 65536) + 1) * (1000000000 * 65536)
  let s := s.advanceToU u
  let c := s.reg (timBase + 0x80)
  let shown := s.time.flag != .invalid && !(s.time.flag == .coarse && bit c 5)
  { s with time := { s.time with ppsOut := if bit c 4 && shown then some (s.nowU : Int) else none
                                 tenMhzOut := bit c 6 && shown } }

/-- The level of TIM_PPS_OUT, R102 and R103: it rises PPS_OUT_DELAY after the second boundary and stays high for
PPS_OUT_WIDTH; it is low while it is suppressed (DEDUCED, log entry 101). -/
def ppsLevel (s : State) : Bool :=
  match s.time.ppsOut with
  | none => false
  | some u =>
    let rise := u + toSigned 32 (s.reg (timBase + 0x88)) * 256
    s.time.flag != .invalid && !(s.time.flag == .coarse && bit (s.reg (timBase + 0x80)) 5) && bit (s.reg (timBase + 0x80)) 4
      && decide (rise ≤ s.nowU) && decide ((s.nowU : Int) < rise + ((s.reg (timBase + 0x84) * 65536 : Nat) : Int))

/-- SLEW_DONE. -/
def slewEnds (s : State) : State :=
  match s.time.slew with
  | none => s
  | some w =>
    let s := s.advance (ceilDiv w.remaining.natAbs (max 1 s.slewPer))
    { s with time := { s.time with slew := none } }

/-! ### Registers -/

/-- Index of a reference in the list. -/
def refIndex (s : State) (r : Option RefId) : Nat :=
  match r with
  | none => 0
  | some r => ((upto 0 8).find? (fun n => s.refEntry n == some r)).getD 0

/-- TIM_STATUS. -/
def timStatus (s : State) : Nat :=
  s.time.flag.code + 4 * flag s.integrated + 8 * flag s.isKing + 16 * s.time.dpll.code + 128 * flag (s.time.slew.any (fun w => w.remaining != 0))
    + 256 * s.refIndex s.time.phRef + 4096 * s.refIndex s.time.fqRef + 65536 * s.time.epoch.toNat

/-- A word of a port's timing registers. -/
def timPortWord (s : State) (p o : Nat) : Nat :=
  let t := s.ptime p
  if o = 0 then
    flag t.joined.isSome + 2 * flag t.timeCapable + 4 * flag (s.phaseLocked p)
      + 8 * flag (t.role == .slave && s.time.phRef == some (slaveRef t)) + 16 * t.role.code + 256 * flag (s.time.qualified.contains (RefId.mk 5 p))
      + 512 * (t.ql % 16)
  else if o = 4 then t.delay % 2 ^ 32
  else if o = 8 then t.ratio.toNat
  else if o = 0xC then t.phaseFwd
  else if o = 0x10 then t.phaseRev
  else if o = 0x20 then t.tsq.length
  else if o = 0x24 then t.tsqSeq.toNat
  else if 0x30 ≤ o ∧ o < 0x58 then (s.counter (timPort p + o / 8 * 8)).toNat / 2 ^ (32 * (o / 4 % 2)) % 2 ^ 32
  else if (regRow (timPort p + o)).isSome then s.reg (timPort p + o)
  else 0

/-- A word of the TIM block; the latches of R105 stand in the register file. -/
def timWord (s : State) (o : Nat) : Nat :=
  if o < 0xC then bits s.nowStamp (32 * (o / 4)) 32
  else if o = 0xC then s.nowCycle.toNat
  else if o = 0x10 then s.timStatus
  else if o = 0x14 then s.uncert
  else if o = 0x18 then ofSigned 32 s.time.offset
  else if o = 0x1C then ofSigned 32 s.time.adj
  else if 0x20 ≤ o ∧ o < 0x2C then bits (toStamp s.time.ppsIn) (32 * ((o - 0x20) / 4)) 32
  else if 0xC0 ≤ o ∧ o < 0xE8 then (s.counter (timBase + o / 8 * 8)).toNat / 2 ^ (32 * (o / 4 % 2)) % 2 ^ 32
  else if 0x1000 ≤ o ∧ o < 0x1000 + 0x100 * 27 then s.timPortWord ((o - 0x1000) / 0x100) (o % 0x100)
  else if (regRow (timBase + o)).isSome then s.reg (timBase + o)
  else 0

end State

/-! ### Commands -/

/-- TIME_GET, R50. -/
def execTimeGet (c : Cmd) (s : State) : Result :=
  runStep 0x0200 c s (fun s => .ok s none (leBytes 12 s.nowStamp ++ leBytes 4 s.nowCycle.toNat ++ leBytes 4 s.timStatus
    ++ leBytes 4 s.uncert ++ leBytes 4 (ofSigned 32 s.time.offset) ++ zeros 4))

/-- TIME_SET, R46, R106 and R107 (DEDUCED, log entry 85). -/
def execTimeSet (c : Cmd) (s : State) : Result :=
  runStep 0x0201 c s (fun s =>
    let v := c.n 0 12
    if 1000000000 ≤ stampNs v || !s.ownTime || s.integrated then .refuse s .inconsistent
    else if s.clerk.waiting.any (fun (w : Waiting) => match w.kind with | .timeSetPps _ _ => true | _ => false) then .refuse s .busy
    else if c.f 0xC 0 1 = 1 then .wait s (.timeSetPps (ofStamp v) (s.time.ticks + 859375000)) 0
    else .ok (s.timeSetNow (ofStamp v)))

/-- TIME_ACCEPT, R48 and R106. -/
def execTimeAccept (c : Cmd) (s : State) : Result :=
  runStep 0x0202 c s (fun s =>
    if !s.ownTime || s.time.flag == .invalid then .refuse s .inconsistent else .ok s.acceptTime)

/-- TIME_SLEW, R106 and R107. -/
def execTimeSlew (c : Cmd) (s : State) : Result :=
  runStep 0x0203 c s (fun s =>
    if !s.ownTime then .refuse s .inconsistent
    else if s.time.slew.any (fun w => w.remaining != 0) then .refuse s .busy
    else .ok { s with time := { s.time with slew := some { remaining := toSigned 64 (c.n 0 8) * ((2 ^ 24 : Nat) : Int) } } })

/-- TIME_PORT_READ. -/
def execTimePortRead (c : Cmd) (s : State) : Result :=
  runStep 0x0204 c s (fun s => .ok s none ((upto 0 22).flatMap (fun i => leBytes 4 (s.timPortWord (c.f 0 0 8) (4 * i)))))

/-- TIME_SET_PPS_TIMEOUT: a waiting TIME_SET saw no edge within 1.1 s. -/
def execTimeSetPpsTimeout (s : State) : Result :=
  ok (match s.clerk.waiting.find? (fun (w : Waiting) => match w.kind with | .timeSetPps _ _ => true | _ => false) with
    | none => s
    | some w =>
      match w.kind with
      | .timeSetPps _ t => (s.advanceTo t).finishWaiting w .timeout
      | _ => s)

/-- SET_TIME_REF. -/
def execSetTimeRef (c : Cmd) (s : State) : Result := benchSet 0x0210 c s [fenum 0 4 4 7 0]

/-- SET_DPLL. -/
def execSetDpll (c : Cmd) (s : State) : Result :=
  benchSet 0x0211 c s [urange 0 0 32 10 100000, urange 4 0 32 0 86400000, urange 8 0 32 1 200000, urange 0xC 0 32 1 1000000,
    urange 0x10 0 32 1 100000]

/-- SET_PTP_INSTANCE: a profile that the instance does not accept clamps to its current one. -/
def execSetPtpInstance (c : Cmd) (s : State) : Result :=
  runStep 0x0212 c s (fun s =>
    let i := c.f 0 0 2
    let p := c.f 0 2 4
    let good := if i = 0 then p == 0 else 1 ≤ p && p ≤ 3
    let q := if good then p else (s.ptpInst i).profile
    let r := clampAll [urange 0 8 8 0 127] (setFieldAt c.params 0 4 2 4 q)
    acceptSetting s 0x0212 c r.1 [] ((if q = p then [] else [⟨0, 2, 4, 3, p, q, false⟩]) ++ r.2))

/-- SET_PTP_PORT. -/
def execSetPtpPort (c : Cmd) (s : State) : Result :=
  benchSet 0x0213 c s [fenum 0 12 2 2 0, srange 4 0 8 (-7) 4, srange 4 8 8 (-7) 5, srange 4 16 8 (-3) 4, urange 4 24 8 1 255,
    srange 8 0 32 (-2048000) 2048000]

/-- SET_PORT_LATENCY. -/
def execSetPortLatency (c : Cmd) (s : State) : Result :=
  benchSet 0x0214 c s [srange 4 0 32 (-25600) 25600, srange 8 0 32 (-25600) 25600]

/-- SET_SYNCE. -/
def execSetSynce (c : Cmd) (s : State) : Result := benchSet 0x0215 c s []

/-- SET_TIME_IO. -/
def execSetTimeIo (c : Cmd) (s : State) : Result :=
  benchSet 0x0216 c s [urange 4 0 32 100 500000000, srange 8 0 32 (-25600) 25600]

/-- SET_TS_DAYBOOK. -/
def execSetTsDaybook (c : Cmd) (s : State) : Result := benchSet 0x0217 c s []

namespace State

/-! ### Settings at a peg, R109 -/

def applyTime (s : State) (x : Setting) : State :=
  let b := x.params
  let p := fieldAt b 0 0 8
  match x.opcode with
  | 0x0210 =>
    s.setReg (timBase + 0x40 + 4 * fieldAt b 0 0 3) (fieldAt b 0 4 4 + 16 * fieldAt b 0 8 8 + 4096 * fieldAt b 0 16 1)
  | 0x0211 => (upto 0 5).foldl (fun s i => s.setReg (timBase + 0x60 + 4 * i) (leAt b (4 * i) 4)) s
  | 0x0212 =>
    s.setPtpInst (fieldAt b 0 0 2) { profile := fieldAt b 0 2 4, domain := fieldAt b 0 8 8, priority1 := fieldAt b 0 16 8
                                     priority2 := fieldAt b 0 24 8 }
  | 0x0213 =>
    let i := fieldAt b 0 8 2
    let t := s.ptime p
    let s := s.setReg (timPort p + 0x14) (leAt b 8 4)
    if fieldAt b 0 10 1 = 0 then
      if t.joined != some i then s
      else s.setPtime p { t with joined := none, role := .disabled, foreign := none, timeCapable := false, exchanges := [] }
    else s.setPtime p { t with
      joined := some i, oneStep := fieldAt b 0 11 1 == 1, transport := fieldAt b 0 12 2, e2e := fieldAt b 0 14 1 == 1
      logSync := toSigned 8 (fieldAt b 4 0 8), logPdelay := toSigned 8 (fieldAt b 4 8 8)
      logAnnounce := toSigned 8 (fieldAt b 4 16 8), allowedLost := fieldAt b 4 24 8 }
  | 0x0214 => (s.setReg (timPort p + 0x18) (leAt b 4 4)).setReg (timPort p + 0x1C) (leAt b 8 4)
  | 0x0215 =>
    s.modPtime p (fun t => { t with
      synceEnable := fieldAt b 0 8 1 == 1, synceRxRef := fieldAt b 0 9 1 == 1, synceEsmc := fieldAt b 0 10 1 == 1
      qlForce := fieldAt b 0 11 4, option2 := fieldAt b 0 15 1 == 1 })
  | 0x0216 =>
    ((s.setReg (timBase + 0x80) (fieldAt b 0 0 7)).setReg (timBase + 0x84) (leAt b 4 4)).setReg (timBase + 0x88) (leAt b 8 4)
  | _ => s.setReg (timPort p + 0x28) (fieldAt b 0 8 8)

/-- After a peg: roles, references and hop margins follow the settings. -/
def timeReact (s : State) (xs : List Setting) : State :=
  let ptp := xs.any (fun x => x.opcode == 0x0212 || x.opcode == 0x0213 || x.opcode == 0x0310)
  let s := if ptp then (upto 0 4).foldl (fun s i => s.assignRoles i) s else s
  let s := if xs.any (fun x => x.opcode / 256 == 2) then s.reselect true else s
  s.noteMargins

end State

/-- R108. -/
def timeFit (s : State) (t : State) (xs : List Setting) : List FitCheck :=
  let is (x : Setting) : Bool := x.opcode == 0x0213
  let insts (p : Nat) : List Nat :=
    xs.foldl (fun l x => if !is x || fieldAt x.params 0 0 8 != p then l
      else
        let l' := l.filter (· != fieldAt x.params 0 8 2)
        if fieldAt x.params 0 10 1 = 1 then fieldAt x.params 0 8 2 :: l' else l') (s.ptime p).joined.toList
  let bad (e : Nat × PortTime) : Bool :=
    match e.2.joined with
    | some i => (t.ptpInst i).profile != 2 && (e.2.transport != 0 || e.2.e2e)
    | none => false
  [ { fails := (upto 0 24).any (fun p => 1 < (insts p).length), involves := is },
    { fails := t.time.ports.any bad, involves := fun x => is x || x.opcode == 0x0212 } ]

/-! ### Events -/

/-- SLEW_DONE. -/
def execSlewDone (s : State) : Result := ok s.slewEnds
/-- TIME_BUS_LOAD: every 1,024 ticks every tap takes the value. -/
def execTimeBusLoad (s : State) : Result :=
  let s := s.advanceTo ((s.time.ticks / 1024 + 1) * 1024)
  ok { s with time := { s.time with busLoads := s.time.busLoads + 1 } }
/-- TIME_BUS_RECAL: the taps' delay corrections are measured anew; within the accuracy of R38 no value changes. -/
def execTimeBusRecal (s : State) : Result := ok s
/-- DPLL_UPDATE with an offset measured against the phase reference, in 2^-16 ns. -/
def execDpllUpdate (offset : Int) (s : State) : Result := ok (s.measure offset)
/-- REF_QUALIFIED. -/
def execRefQualified (kind source : Nat) (s : State) : Result := ok (s.qualify { kind := kind, source := source })
/-- REF_DISQUALIFIED. -/
def execRefDisqualified (kind source : Nat) (s : State) : Result := ok (s.disqualify { kind := kind, source := source })
/-- HOLDOVER_LIMIT_EXPIRE. -/
def execHoldoverLimitExpire (s : State) : Result := ok s.holdExpires
/-- PPS_IN_EDGE. -/
def execPpsInEdge (s : State) : Result := ok s.ppsEdge
/-- TOD_MESSAGE_RX. -/
def execTodMessageRx (isTime : Bool) (sec : Nat) (s : State) : Result := ok (s.todRx isTime sec)
/-- SECOND_BOUNDARY. -/
def execSecondBoundary (s : State) : Result := ok s.secondBoundary
/-- SYNC_TX. -/
def execSyncTx (p : Nat) (s : State) : Result := ok (if p ≤ 23 then s.syncTx p else s)
/-- ANNOUNCE_TX. -/
def execAnnounceTx (p : Nat) (s : State) : Result := ok (if p ≤ 23 then s.announceTx p else s)
/-- SYNC_RX. -/
def execSyncRx (p : Nat) (m : PtpMsg) (followUp : Bool) (report : Option PhaseReport) (t : Nat) (s : State) : Result :=
  ok (if p ≤ 23 then s.syncRx p m followUp report t else s)
/-- ANNOUNCE_RX. -/
def execAnnounceRx (p domain : Nat) (a : Announce) (s : State) : Result :=
  ok (if p ≤ 23 && s.portUp p then s.announceRx p domain a else s)
/-- PDELAY_REQ_TX. -/
def execPdelayReqTx (p : Nat) (s : State) : Result := ok (if p ≤ 23 then s.pdelayReqTx p else s)
/-- PDELAY_REQ_RX. -/
def execPdelayReqRx (p : Nat) (m : PtpMsg) (t : Nat) (s : State) : Result := ok (if p ≤ 23 then s.pdelayReqRx p m t else s)
/-- PDELAY_RESP_RX. -/
def execPdelayRespRx (p : Nat) (m : PtpMsg) (followUp : Bool) (t : Nat) (s : State) : Result :=
  ok (if p ≤ 23 && s.portUp p then s.pdelayRespRx p m followUp t else s)
/-- PDELAY_LOST. -/
def execPdelayLost (p : Nat) (s : State) : Result := ok (if p ≤ 23 then s.pdelayLost p else s)
/-- SYNC_TIMEOUT. -/
def execSyncTimeout (p : Nat) (s : State) : Result := ok (if p ≤ 23 then s.syncLost p else s)
/-- PHASE_REPORT_TX. -/
def execPhaseReportTx (p : Nat) (s : State) : Result := ok (if p ≤ 23 then s.phaseTx p else s)
/-- PHASE_REPORT_RX; `fwd` is the phase that the port measures. -/
def execPhaseReportRx (p : Nat) (r : PhaseReport) (fwd : Nat) (s : State) : Result :=
  ok (if p ≤ 15 && s.portUp p then s.phaseRx p r fwd else s)
/-- ESMC_RX. -/
def execEsmcRx (p ql : Nat) (s : State) : Result := ok (if p ≤ 23 then s.esmcRx p ql else s)
/-- ESMC_TX. -/
def execEsmcTx (p : Nat) (s : State) : Result := ok (if p ≤ 23 then s.esmcTx p else s)
/-- DELAY_REQ_TX. -/
def execDelayReqTx (p : Nat) (s : State) : Result := ok (if p ≤ 23 then s.delayReqTx p else s)
/-- DELAY_REQ_RX. -/
def execDelayReqRx (p : Nat) (m : PtpMsg) (t : Nat) (s : State) : Result := ok (if p ≤ 23 then s.delayReqRx p m t else s)
/-- DELAY_RESP_RX. -/
def execDelayRespRx (p : Nat) (m : PtpMsg) (s : State) : Result := ok (if p ≤ 23 && s.portUp p then s.delayRespRx p m else s)

end Sys2Proof.Machine
end

