-- ==== Sys2Proof/Machine/Stocktake.lean ====
section
/-!
DEFINITION. The stocktake (R319 to R325, R330): the two banks, capture, the view in BAR2, and the 0x0Fxx commands.
-/

namespace Sys2Proof.Machine

namespace State

/-! ### Capture -/

/-- Does a counter belong to one port's set: its region or its TIM counters? -/
def counterOfPort (p o : Nat) : Bool :=
  (prtBase p ≤ o && o < prtBase p + 0x10000) || (timPort p ≤ o && o < timPort p + 0x100)

/-- A bank starts FILLING with its counters as they stand: at a tick that belongs to a cycle, or none (R319, R321). -/
def capture (s : State) (b : Nat) (cycle : BitVec 32) : State :=
  let k := s.bank b
  let s := if k.all then (s.touchTlp 0).touchTlp 1 else s
  s.setBank b { k with
    state := .filling, cycle := cycle, flag := s.time.flag.code, time := s.nowStamp, valid := false
    doneAt := s.time.ticks + usTicks 20
    ctr := if k.all then s.ctr else s.ctr.filter (fun e => counterOfPort k.port e.1) }

/-- The captures that a cycle boundary brings, before the counter advances to n (R112). -/
def captureAt (s : State) (n : BitVec 32) (t : Nat) : State :=
  (upto 0 2).foldl (fun s b =>
    let k := s.bank b
    if k.state == .reserved && (k.atCycle == some n || (match k.atTime with | some u => decide (u ≤ t) | none => false)) then
      s.capture b n
    else s) s

/-- The copy of a bank ends, R321 and R322. -/
def copyEnds (s : State) (b : Nat) : State :=
  let k := s.bank b
  if k.state != .filling then s
  else
    ((s.setBank b { k with state := .held, valid := true }).count (prtCommon + 0x100)).finishKind
      (fun w => w == WaitKind.stocktake b) .ok (some k.seq.toNat)

/-! ### The view in BAR2, R322 -/

/-- A range of a bank's layout: bank offset, length and the BAR0 offset that it copies. -/
structure BankRange where
  off : Nat
  len : Nat
  src : Nat

/-- The region of one port. -/
def portRanges (p : Nat) : List BankRange :=
  [⟨0x1000 + 0x1000 * p, 0x300, prtBase p + 0x100⟩, ⟨0x1300 + 0x1000 * p, 0x28, timPort p + 0x30⟩,
   ⟨0x1340 + 0x1000 * p, 0x90, mmgBase p + 0x100⟩, ⟨0x1400 + 0x1000 * p, 0x218, gatBase p + 0x400⟩,
   ⟨0x1800 + 0x1000 * p, 0x200, qsvBase p + 0x400⟩]

/-- The post regions: R385, R432, R470, R561, R654, R698, R740, R776, R805, R825. -/
def postRanges : List BankRange :=
  [⟨0x20000, 0x90, spnBase + 0x200⟩, ⟨0x21000, 0x28, timBase + 0xC0⟩, ⟨0x40000, 0x40000, spnBase + 0x80000⟩,
   ⟨0x80000, 0x100, stmBase + 0x200⟩, ⟨0x80100, 0xB0, jnrBase + 0x100⟩, ⟨0x81000, 0x2000, jnrBase + 0x10000⟩,
   ⟨0x83000, 0x90, bntBase + 0x100⟩, ⟨0x84000, 0x78, fltBase + 0x100⟩, ⟨0x84800, 0x800, fltBase + 0x6000⟩,
   ⟨0x86000, 0x60, pwrBase + 0x80⟩, ⟨0x88000, 0x80, memBase + 0x100⟩, ⟨0x88200, 0x200, memBase + 0x400⟩,
   ⟨0x88800, 0x58, hstKey 0 + 0x100⟩, ⟨0x88880, 0x58, hstKey 1 + 0x100⟩, ⟨0x88F00, 0x20, 0x100⟩,
   ⟨0x90000, 0x30, asyBase + 0x100⟩]

/-- The dray ranges: channel counters and engine counters. -/
def drayRanges (off : Nat) : List BankRange :=
  if 0xC0000 ≤ off && off < 0xC4000 then
    let e := (off - 0xC0000) / 0x1000
    let c := off % 0x1000 / 0x80
    [⟨0xC0000 + 0x1000 * e + 0x80 * c, 0x50, dryChan e c + 0x80⟩]
  else if 0xC4000 ≤ off && off < 0xC4040 then
    let e := (off - 0xC4000) / 0x10
    [⟨0xC4000 + 0x10 * e, 0x10, dryBase e + 0x100⟩]
  else []

/-- The aligned 32-bit word of a bank at an offset. -/
def bankWord (k : Bank) (b off : Nat) : Nat :=
  if off < 0x1000 then
    match off with
    | 0x0 => 0x544B5453
    | 0x4 => 1 + 65536 * b
    | 0x8 => k.seq.toNat
    | 0xC => flag k.all + 256 * k.port + 65536 * flag k.spanWide
    | 0x10 => k.cycle.toNat
    | 0x14 => k.flag
    | 0x18 => k.time % 2 ^ 32
    | 0x1C => k.time / 2 ^ 32 % 2 ^ 32
    | 0x20 => k.time / 2 ^ 64
    | 0x24 => k.tag
    | 0x3C => flag k.valid
    | _ => 0
  else
    let l := if off < 0x1A000 then portRanges ((off - 0x1000) / 0x1000) else if k.all then postRanges ++ drayRanges off else []
    match l.find? (fun r => r.off ≤ off && off < r.off + r.len) with
    | none => 0
    | some r =>
      let o := r.src + (off - r.off)
      (Tab.get 0 k.ctr (o - o % 8)).toNat / 2 ^ (8 * (o % 8)) % 2 ^ 32

/-! ### The commands -/

/-- PRT_ST_STATUS and the rest of the common page. -/
def bankCode (k : Bank) : Nat :=
  match k.state with
  | .free => 0
  | .reserved => 1
  | .filling => 2
  | .held => 3

def commonWord (s : State) (o : Nat) : Nat :=
  match o with
  | 0 => bankCode (s.bank 0) + 4 * bankCode (s.bank 1)
  | 4 => s.stock.seq.toNat
  | 8 => if (s.bank 0).state == .reserved then ((s.bank 0).atCycle.getD 0).toNat else 0
  | 0xC => if (s.bank 1).state == .reserved then ((s.bank 1).atCycle.getD 0).toNat else 0
  | _ => 0

/-- Put a command into the carry queue of the king post, R583; none when it holds 16. -/
def carryCommand (s : State) (code : Nat) (force : Bool) (params : List Byte) : Option (BitVec 32 × State) :=
  if 16 ≤ s.clerk.carryQueue.length then none
  else
    let n := s.clerk.carrySeq
    some (n, { s with clerk := { s.clerk with
      carrySeq := n + 1
      carryQueue := s.clerk.carryQueue ++ [{ seq := n, opcode := code, force := force, params := params }] } })

/-- Is cycle n in the future of the current cycle, R53? -/
def cycleAhead (s : State) (n : BitVec 32) : Bool := isAhead 32 n.toNat s.span.cycle.toNat

/-- Reserve the bank of the next SEQ, R320: none while it is not FREE. -/
def reserveBank (s : State) (k : Bank) : Option (Nat × State) :=
  let b := s.stock.seq.toNat % 2
  if (s.bank b).state != .free then none
  else
    let t := { s with stock := { s.stock with seq := s.stock.seq + 1 } }
    some (b, t.setBank b { k with state := .reserved, seq := s.stock.seq })

/-- STOCKTAKE's instant: refused with NOT_ACTIVE under R40, LATE under R322, INCONSISTENT for a malformed time. -/
def stockInstant (s : State) (at_ : Nat) (cycle : BitVec 32) (stamp : Nat) : Option Status :=
  if at_ = 0 then none
  else if at_ = 3 then some .inconsistent
  else if at_ = 2 && 1000000000 ≤ stampNs stamp then some .inconsistent
  else if !s.integrated then some .notActive
  else if at_ = 1 then (if s.cycleAhead cycle then none else some .late)
  else if ofStamp stamp ≤ s.nowU then some .late else none

/-- A SELF stocktake, or the capture that a carried one asks for (R324). -/
def stockSelf (s : State) (c : Cmd) (all wide : Bool) : Eff :=
  let at_ := c.f 0 16 2
  let cycle : BitVec 32 := BitVec.ofNat 32 (c.n 4 4)
  let stamp := c.n 8 12
  if !all && 24 < c.f 0 8 8 then Eff.refuse s .inconsistent (some 0)
  else match s.stockInstant at_ cycle stamp with
    | some st => Eff.refuse s st
    | none =>
      let k : Bank := { all := all, port := if all then 0 else c.f 0 8 8, spanWide := wide, tag := c.tag.toNat
                        atCycle := if at_ = 1 then some cycle else none
                        atTime := if at_ = 2 then some (ofStamp stamp) else none }
      match s.reserveBank k with
      | none => Eff.refuse (s.count (prtCommon + 0x108)) .busy
      | some (b, s) =>
        let s := if at_ = 0 then s.capture b s.nowCycle else s
        .wait s (.stocktake b) 0

/-- A span-wide stocktake at the king post, R323 to R325. -/
def stockSpan (s : State) (c : Cmd) : Eff :=
  let cycle : BitVec 32 := BitVec.ofNat 32 (c.n 4 4)
  if s.span.state != .king then Eff.refuse s .notActive (some (spanCode s.span.state))
  else if c.f 0 16 2 != 1 then Eff.refuse s .inconsistent
  else if (cycle - s.span.cycle).toNat < 2 || !s.cycleAhead cycle then Eff.refuse s .late
  else if 16 ≤ s.clerk.carryQueue.length then Eff.refuse s .busy
  else
    match s.reserveBank { all := true, spanWide := true, tag := c.tag.toNat, atCycle := some cycle } with
    | none => Eff.refuse (s.count (prtCommon + 0x108)) .busy
    | some (b, s) =>
      match s.carryCommand 0x0F00 c.force c.params with
      | none => Eff.refuse s .busy
      | some (n, s) =>
        let seq := (s.bank b).seq
        let k : SpanStocktake := { cycle := cycle, seq := seq, carrySeq := n, replies := s.span.presentLast.map (fun o => (o, 0xFF, 0)) }
        .wait { s with span := { s.span with stocktakes := s.span.stocktakes ++ [k] } } (.spanStocktake seq) 0

/-- A reply of an owner to a carried stocktake. -/
def stockReply (s : State) (owner : Nat) (carrySeq : BitVec 32) (status bank : Nat) : State :=
  { s with span := { s.span with stocktakes := s.span.stocktakes.map (fun k =>
      if k.carrySeq == carrySeq then
        { k with replies := k.replies.map (fun r => if r.1 == owner && r.2.1 == 0xFF then (owner, status, bank) else r) }
      else k) } }

/-- The span-wide stocktakes whose cycle n + 1 ends as cycle m begins complete, R325. An owner whose reply has not come
shows status TIMEOUT. -/
def stockSpanDone (s : State) (m : BitVec 32) : State :=
  let done := s.span.stocktakes.filter (fun k => k.cycle + 2 == m)
  let s := { s with span := { s.span with stocktakes := s.span.stocktakes.filter (fun k => k.cycle + 2 != m) } }
  done.foldl (fun s k =>
    let rs := k.replies.map (fun r => if r.2.1 == 0xFF then (r.1, Status.timeout.code, 0) else r)
    let bad := (rs.filter (fun r => r.2.1 != 0)).length
    let reply := rs.flatMap (fun r => leBytes 4 (r.1 + 65536 * r.2.1 + 2 ^ 24 * r.2.2))
    match s.clerk.waiting.find? (fun (w : Waiting) => w.kind == .spanStocktake k.seq) with
    | some w => s.finishWaiting w (if bad = 0 then .ok else .timeout) (some (if bad = 0 then k.seq.toNat else bad)) reply
    | none => s) s

end State

/-- STOCKTAKE. -/
def execStocktake (c : Cmd) (s : State) : Result :=
  runStep 0x0F00 c s (fun s =>
    match c.origin with
    | .carried _ => s.stockSelf c true true
    | _ => if c.scope == 2 then s.stockSpan c else s.stockSelf c (c.f 0 0 1 == 1) false)

/-- STOCKTAKE_STATUS. -/
def execStocktakeStatus (c : Cmd) (s : State) : Result :=
  runStep 0x0F01 c s (fun s => Eff.ok s none ((upto 0 4).flatMap (fun i => leBytes 4 (s.commonWord (4 * i)))))

/-- STOCKTAKE_RELEASE, R330. -/
def execStocktakeRelease (c : Cmd) (s : State) : Result :=
  runStep 0x0F02 c s (fun s =>
    let b := c.n 0 4 % 2
    if (s.bank b).state == .held && (s.bank b).seq.toNat == c.n 0 4 then Eff.ok (s.setBank b {}) else Eff.refuse s .inconsistent)

/-- STOCKTAKE_CANCEL, R330. -/
def execStocktakeCancel (c : Cmd) (s : State) : Result :=
  runStep 0x0F03 c s (fun s =>
    let b := c.n 0 4 % 2
    let seq := (s.bank b).seq
    if (s.bank b).state == .reserved && seq.toNat == c.n 0 4 then
      let s := (s.setBank b {}).count (prtCommon + 0x110)
      let s := { s with span := { s.span with stocktakes := s.span.stocktakes.filter (fun k => k.seq != seq) } }
      Eff.ok (s.finishKind (fun w => w == WaitKind.stocktake b || w == WaitKind.spanStocktake seq) .notActive)
    else Eff.refuse s .inconsistent)

/-- STOCKTAKE_COPY_DONE of a bank. -/
def execStocktakeCopyDone (bank : Nat) (s : State) : Result := ok (if bank < 2 then s.copyEnds bank else s)

end Sys2Proof.Machine
end

