-- ==== Sys2Proof/Machine/WorkCmds.lean ====
section
/-!
DEFINITION. The 0x09xx commands (R527 to R532) and the end of a queue's stopping.
-/

namespace Sys2Proof.Machine

/-- R527 and R610: what every work-queue command refuses first. -/
def wqRefusal (s : State) (c : Cmd) (q : Nat) (changes : Bool) : Option Status :=
  if s.fnOfQueue q != s.cmdFn c || (changes && s.isCommandQueue q) then some .inconsistent
  else if !s.isCommandQueue q && s.bent.role != .solo && s.bent.role != .active then some .notActive
  else none

def bookRefusal (s : State) (c : Cmd) (b : Nat) : Option Status :=
  if s.fnOfBook b != s.cmdFn c then some .inconsistent
  else if s.bent.role != .solo && s.bent.role != .active then some .notActive
  else none

/-- The 96-byte reply of WQ_STATUS. -/
def wqStatusReply (w : WorkQueue) : List Byte :=
  leBytes 4 w.stateWord ++ leBytes 4 w.indexWord
    ++ leBytes 4 (w.invAck.toNat + 65536 * w.group + 2 ^ 24 * w.noticeBook)
    ++ leBytes 4 (w.logN + 16 * w.weight + 512 * w.burst + 65536 * w.prefetched
      + 2 ^ 24 * (match w.kind with | .tx => 0 | .rx => 1 | .command => 2))
    ++ leBytes 8 w.base.toNat ++ leBytes 8 w.shadow.toNat
    ++ [w.cStarted, w.cCompleted, w.cDiscarded, w.cDbIgnored, w.cInvalidates, w.cNoBuffer, w.cDeliveryDiscarded,
      w.cMalformed].flatMap (fun x => leBytes 8 x.toNat)

/-- WQ_STATUS, R527 and R529. -/
def execWqStatus (c : Cmd) (s : State) : Result :=
  runStep 0x0900 c s (fun s =>
    let q := c.f 0 0 12
    match wqRefusal s c q false with
    | some st => .refuse s st
    | none => .ok s none (wqStatusReply (s.queue q)))

/-- Are the fields of WQ_ENABLE in range and its addresses aligned, R528? -/
def wqEnableOk (s : State) (c : Cmd) : Bool :=
  let book := c.f 0 24 8
  4 ≤ c.f 4 0 4 && 1 ≤ c.f 4 4 5 && c.f 4 4 5 ≤ 16 && 1 ≤ c.f 4 9 7 && c.f 4 9 7 ≤ 64
    && c.n 8 8 % 4096 == 0 && c.n 0x10 8 % 16 == 0 && (book == 0xFF || s.fnOfBook book == s.cmdFn c)
    && (s.queue (c.f 0 0 12)).state == .disabled

/-- A bent ring's configuration as the ledger mirrors it. -/
def ringItem (q : Nat) (w : WorkQueue) : LedgerItem :=
  .ring q (match w.kind with | .tx => 0 | .rx => 1 | .command => 2) w.group w.noticeBook w.logN w.weight w.burst
    w.base.toNat w.shadow.toNat w.stateWord w.ci (State.doneIndex w)
    (if w.kind == .tx then w.started.map (fun e => (e.index, hdrLen e.header.toNat, e.seqValid, e.seq.toNat)) else [])

/-- A daybook's configuration as the ledger mirrors it. -/
def bookItem (b : Nat) (k : Daybook) : LedgerItem :=
  .book b k.logN k.base.toNat k.pendingAddr.toNat k.homeWq k.vector k.irqCount k.irqDelay
    (match k.state with | .disabled => 0 | .running => 1 | .error => 2) k.latched.toNat

/-- WQ_ENABLE, R502 and R528. -/
def execWqEnable (c : Cmd) (s : State) : Result :=
  runStep 0x0901 c s (fun s =>
    let q := c.f 0 0 12
    match wqRefusal s c q true with
    | some st => .refuse s st
    | none =>
      if !wqEnableOk s c then .refuse s .inconsistent
      else
        let s := s.modQueue q (fun w => { w with
          kind := if c.f 0 12 1 = 0 then .tx else .rx
          group := c.f 0 16 8, noticeBook := c.f 0 24 8, logN := c.f 4 0 4, weight := c.f 4 4 5, burst := c.f 4 9 7
          base := BitVec.ofNat 64 (c.n 8 8), shadow := BitVec.ofNat 64 (c.n 0x10 8) })
        let s := s.runQueue q (BitVec.ofNat 16 (c.f 4 16 16))
        .ok (s.mirror (.state (ringItem q (s.queue q)))))

/-- WQ_DISABLE, R502 and R529. -/
def execWqDisable (c : Cmd) (s : State) : Result :=
  runStep 0x0902 c s (fun s =>
    let q := c.f 0 0 12
    match wqRefusal s c q true with
    | some st => .refuse s st
    | none =>
      match (s.queue q).state with
      | .disabled => .ok s
      | .stopping => .wait s (.wqDisable q) 0
      | _ => let s := s.stopQueue q; .wait (s.mirror (.state (ringItem q (s.queue q)))) (.wqDisable q) 0)

/-- A STOPPING queue without a started entry left becomes DISABLED: its shadow is written, WQ_DISABLE completes with CI,
and an enable that waited takes effect (R502, R526, R529). -/
def State.queueStopped (s : State) (q : Nat) : State :=
  let w := s.queue q
  if w.state != .stopping || s.unfinished q || s.clerk.taken.any (fun t => Cmd.queueOf t.cmd == some q) then s
  else
    let s := (s.setQueue q { w with state := .disabled, enablePending := false }).writeShadow q
    let s := s.finishKind (fun k => k == .wqDisable q) .ok (some w.ci.toNat)
    let s := if s.isCommandQueue q then s else s.mirror (.state (ringItem q (s.queue q)))
    (if w.enablePending then s.cqEnable q true else s).maintCheck

/-- WQ_STOPPED. -/
def execWqStopped (q : Nat) (s : State) : Result := ok (s.queueStopped q)

/-- The 64-byte reply of BOOK_STATUS. -/
def bookStatusReply (s : State) (b : Nat) : List Byte :=
  let k := s.book b
  leBytes 4 (s.bookWord b) ++ leBytes 4 (k.bci.toNat + 65536 * k.latched.toNat) ++ leBytes 4 k.folded.toNat
    ++ leBytes 4 k.bitmap.length ++ leBytes 8 k.base.toNat
    ++ [k.cRecords, k.cFoldedTotal, k.cOverflows, k.cDropped, k.cMessages].flatMap (fun x => leBytes 8 x.toNat)

/-- BOOK_STATUS, R531. -/
def execBookStatus (c : Cmd) (s : State) : Result :=
  runStep 0x0903 c s (fun s =>
    match bookRefusal s c (c.f 0 0 8) with
    | some st => .refuse s st
    | none => .ok s none (bookStatusReply s (c.f 0 0 8)))

/-- Does BOOK_ENABLE hold, R530? -/
def bookEnableOk (s : State) (c : Cmd) : Bool :=
  let b := c.f 0 0 8
  let home := c.f 4 0 12
  (s.book b).state == .disabled && 4 ≤ c.f 0 8 4 && c.f 4 16 12 ≤ 2047 && c.n 8 8 % 4096 == 0 && c.n 0x10 8 % 64 == 0
    && s.fnOfQueue home == s.cmdFn c
    && s.books.all (fun p => p.1 == b || p.2.homeWq != some home || p.2.state == .disabled)

/-- BOOK_ENABLE, R517, R526 and R530: the page passes from a DISABLED daybook. -/
def execBookEnable (c : Cmd) (s : State) : Result :=
  runStep 0x0904 c s (fun s =>
    let b := c.f 0 0 8
    let home := c.f 4 0 12
    match bookRefusal s c b with
    | some st => .refuse s st
    | none =>
      if !bookEnableOk s c then .refuse s .inconsistent
      else
        let s := { s with books := Tab.mapAll {} (fun i k =>
          if i != b && k.homeWq == some home then { k with homeWq := none } else k) s.books }
        let start := BitVec.ofNat 16 (c.f 0 16 16)
        let s := s.modBook b (fun k => { k with
          state := .running, logN := c.f 0 8 4, bpi := start, bci := start, homeWq := some home, vector := c.f 4 16 12
          base := BitVec.ofNat 64 (c.n 8 8), pendingAddr := BitVec.ofNat 64 (c.n 0x10 8)
          irqCount := c.f 0x18 0 8, irqDelay := c.f 0x18 16 16, bitmap := [], folded := 0, uncovered := 0
          firstUncovered := none, irqNow := false })
        .ok (s.mirror (.state (bookItem b (s.book b)))))

/-- A daybook is disabled: its bitmap goes and FOLDED adds to DROPPED (R517). -/
def State.stopBook (s : State) (b : Nat) : State :=
  s.modBook b (fun k => if k.state == .disabled then k else
    { k with state := .disabled, bitmap := [], folded := 0, cDropped := k.cDropped + k.folded.setWidth 64
             uncovered := 0, firstUncovered := none, irqNow := false })

/-- BOOK_DISABLE, R531. -/
def execBookDisable (c : Cmd) (s : State) : Result :=
  runStep 0x0905 c s (fun s =>
    match bookRefusal s c (c.f 0 0 8) with
    | some st => .refuse s st
    | none =>
      let s := s.stopBook (c.f 0 0 8)
      .ok (s.mirror (.state (bookItem (c.f 0 0 8) (s.book (c.f 0 0 8))))))

/-- Value fields of SET_WQ_SERVICE. -/
def wqServiceFields : List FieldSpec := [urange 0 16 5 1 16, urange 0 24 7 1 64]

/-- What SET_WQ_SERVICE refuses first: a BENT command that the partner has sent acts whatever this post's role (R581). -/
def serviceRefusal (s : State) (c : Cmd) : Option Status :=
  match c.origin with
  | .partner _ => if s.isCommandQueue (c.f 0 0 12) then some .inconsistent else none
  | _ => wqRefusal s c (c.f 0 0 12) true

/-- SET_WQ_SERVICE, R532; R527 refuses a queue of another function and a command queue. -/
def execSetWqService (c : Cmd) (s : State) : Result :=
  runStep 0x0910 c s (fun s =>
    match serviceRefusal s c with
    | some st => .refuse s st
    | none => let r := clampAll wqServiceFields c.params; acceptSetting s 0x0910 c r.1 [] r.2)

/-- A pegged SET_WQ_SERVICE applies from the next round, R532. -/
def State.applyWqService (s : State) (x : Setting) : State :=
  s.modQueue (fieldAt x.params 0 0 12) (fun w =>
    { w with weight := fieldAt x.params 0 16 5, burst := fieldAt x.params 0 24 7 })

end Sys2Proof.Machine
end

