-- ==== Sys2Proof/Machine/Faults.lean ====
section
/-!
DEFINITION. The foreman (chapter "Fault collection and self-test"): sources and kinds, taking a message, reactions and
fences, forcing, unit tests and rotations, maintenance, the FLT registers, and the 0x0Dxx and 0x7Fxx commands.
-/

namespace Sys2Proof.Machine

/-! ### Sources and kinds, R705 and R706 -/

/-- Is a source identifier populated? -/
def populated (n : Nat) : Bool :=
  (0x001 ≤ n && n ≤ 0x010) || (0x020 ≤ n && n ≤ 0x04F) || (0x060 ≤ n && n ≤ 0x0D7) || (0x100 ≤ n && n ≤ 0x2CB)
    || (0x300 ≤ n && n ≤ 0x34F) || (0x380 ≤ n && n ≤ 0x47F) || (0x500 ≤ n && n ≤ 0x5FF && n % 64 < 34)
    || (0x600 ≤ n && n ≤ 0x65F)

/-- The units that have tests, by UNIT of R736: first and last identifier. -/
def unitRange (u : Nat) (n : Nat) : Bool :=
  match u with
  | 0 => 0x200 ≤ n && n ≤ 0x2BF
  | 1 => 0x300 ≤ n && n ≤ 0x33F
  | 2 => 0x340 ≤ n && n ≤ 0x34F
  | 3 => 0x080 ≤ n && n ≤ 0x09F
  | 4 => 0x2C0 ≤ n && n ≤ 0x2CB
  | 5 => (0x100 ≤ n && n ≤ 0x1FF) || (0x0D0 ≤ n && n ≤ 0x0D7)
  | 6 => 0x400 ≤ n && n ≤ 0x43F
  | _ => 0x0C0 ≤ n && n ≤ 0x0CF

/-- Is a source an island monitor? -/
def isMonitor (n : Nat) : Bool :=
  (0x006 ≤ n && n ≤ 0x010) || (0x022 ≤ n && n ≤ 0x02F) || (0x2C0 ≤ n && n ≤ 0x2CB && n % 2 == 1) || (0x600 ≤ n && n ≤ 0x65F)

/-- UNIT of R736 of a source whose unit can be fenced, R719. -/
def fenceKind (n : Nat) : Option Nat := (upto 0 8).find? (fun u => unitRange u n)

/-- Does a source raise a kind? -/
def raisedBy (kind n : Nat) : Bool :=
  let sram := unitRange 1 n || unitRange 2 n || unitRange 3 n
  match kind with
  | 0x01 | 0x02 => 0x380 ≤ n && n ≤ 0x3FF
  | 0x03 | 0x04 => sram
  | 0x05 | 0x06 => unitRange 4 n && n % 2 == 0
  | 0x07 | 0x08 => unitRange 0 n
  | 0x09 | 0x0A => isMonitor n
  | 0x0B => 0x600 ≤ n && n ≤ 0x65F
  | 0x0C | 0x0D | 0x0E => n == 0x003
  | 0x0F | 0x23 => unitRange 5 n
  | 0x10 | 0x22 => unitRange 6 n
  | 0x11 => 0x440 ≤ n && n ≤ 0x47F
  | 0x12 | 0x24 | 0x25 => 0x0A0 ≤ n && n ≤ 0x0BF
  | 0x13 | 0x2B => unitRange 3 n
  | 0x14 | 0x15 | 0x16 => 0x060 ≤ n && n ≤ 0x07F
  | 0x17 | 0x2D | 0x2E | 0x2F | 0x30 | 0x31 => unitRange 7 n
  | 0x18 => n == 0x002
  | 0x19 | 0x1C => n == 0x001
  | 0x1A | 0x1B => (fenceKind n).isSome
  | 0x20 | 0x21 => 0x030 ≤ n && n ≤ 0x037
  | 0x26 | 0x27 => 0x040 ≤ n && n ≤ 0x04F
  | 0x28 | 0x29 | 0x2A => 0x500 ≤ n && n ≤ 0x5FF && n % 64 < 34
  | 0x2C => 0x038 ≤ n && n ≤ 0x03F
  | _ => false

/-- The classes of a kind. -/
def kindClasses (kind : Nat) : List Nat :=
  match kind with
  | 0x01 | 0x03 | 0x05 | 0x0C | 0x14 | 0x21 | 0x22 | 0x2E => [0]
  | 0x02 | 0x09 | 0x0A | 0x0B => [1, 2]
  | 0x0E | 0x19 => [2]
  | _ => [1]

/-- The reactions that a kind allows, by code of R717. -/
def kindAllows (kind : Nat) : List Nat :=
  match kind with
  | 0x02 => [1, 3, 4]
  | 0x04 => [0, 1, 2, 3, 4]
  | 0x06 | 0x11 | 0x12 | 0x16 => [0, 3, 4]
  | 0x07 | 0x08 | 0x09 | 0x0A | 0x0F | 0x10 | 0x13 | 0x1A => [0, 2, 3, 4]
  | 0x0B => [3, 4]
  | 0x0D | 0x15 => [0, 1, 3, 4]
  | 0x0E | 0x19 => []
  | 0x17 => [0, 2]
  | 0x18 => [0, 4]
  | 0x1C => [3]
  | 0x2B => [0, 2, 3]
  | k => if (0x01 ≤ k && k ≤ 0x1C) || (0x20 ≤ k && k ≤ 0x31) then [0] else []

/-- Test time of a unit in microseconds, R736. -/
def testTime (u : Nat) : Nat := [500, 2000, 1000, 10000, 4000, 5000, 3000, 5000].getD u 0

/-- First source identifier of a unit of R736 by its index, see unitCount for the number of such units. -/
def unitOfIndex (u i : Nat) : Nat :=
  match u with
  | 0 => 0x200 + 4 * i
  | 1 => 0x300 + 2 * i
  | 2 => 0x340 + 2 * i
  | 3 => 0x080 + 8 * i
  | 4 => 0x2C0 + 2 * i
  | 5 => if i < 16 then 0x100 + 0x20 * (i / 4) else portSource i
  | 6 => 0x400 + 0x10 * i
  | _ => 0x0C0 + 8 * i

/-- Bytes 0x04 to 0x1F of a FAULT record, R702. -/
def faultBytes (m : FaultMsg) (hseq reaction : Nat) : List Byte :=
  leBytes 4 (m.source + 2 ^ 12 * m.kind + 2 ^ 20 * m.cls + 2 ^ 22 * m.access + 2 ^ 25 * flag m.forced + 2 ^ 26 * flag m.escalated
      + 2 ^ 27 * flag m.witness) ++
    leBytes 8 (m.address % 2 ^ 48 + 2 ^ 48 * (m.master % 4096)) ++ leBytes 8 m.time ++ leBytes 4 hseq ++
    leBytes 4 (m.flag + 4 * reaction)

namespace State

/-- Is a unit fenced for a fault? -/
def faultFenced (s : State) (n : Nat) : Bool := s.flt.fences.any (fun f => f.unit_ == s.unitOf n && f.why == FenceWhy.fault)

/-! ### The floor, R726 -/

/-- Units in service of the four kinds: joiners, frame-hold banks, table-cache banks, clerk cores. -/
def unitsLeft (s : State) : List Nat :=
  [((upto 0 48).filter (fun j => s.joinerFence j != .fault)).length,
    ((upto 0 32).filter (fun b => !s.faultFenced (0x300 + 2 * b))).length,
    ((upto 0 8).filter (fun b => !s.faultFenced (0x340 + 2 * b))).length,
    ((upto 0 4).filter (fun c => !s.faultFenced (0x080 + 8 * c))).length]
def floors (s : State) : List Nat :=
  let w := s.reg (fltBase + 0xC)
  [bits w 0 6, bits w 6 6, bits w 12 4, bits w 16 3]
def belowFloor (s : State) : List Bool := (s.unitsLeft.zip s.floors).map (fun x => decide (x.1 < x.2))

/-- After a fence or a return to service a count that has fallen below its floor raises CAPACITY_FLOOR. -/
def floorCheck (s : State) (before : List Bool) : State :=
  (before.zip s.belowFloor).foldl (fun (s : State) x =>
    if !x.1 && x.2 then (s.count (fltBase + 0x170)).raise 0x001 0x1C 1 else s) s

/-! ### Fences, R719 and R720 -/

/-- Ports that a unit's fence takes out of service (DEDUCED, log entry 39). -/
def portsOf (s : State) (u : Nat) : List Nat := (upto 0 25).filter (fun p => s.unitOf (portSource p) == u || schedSource p == u)

/-- Links of ports that leave service go DOWN. -/
def linksDown (s : State) (ps : List Nat) : State :=
  ps.foldl (fun s p =>
    let s := s.bringCredit p
    let s := if s.inService p && (s.port p).link != .down then s.linkFalls p else s
    s.modPort p (fun t => { t with pcs := false, signal := false, hiBer := false, fecLock := false, rxLpi := false })) s

/-- Cells of a bank that leaves the round-robin are relocated, R732: how many it held is a free value within what the frame
hold holds, because the spread of cells over the banks starts nowhere in particular (DEDUCED, log entry 39). -/
def relocate (s : State) : State :=
  let most := min 8192 s.holdUsed
  let r := s.fresh
  r.2.countN (fltBase + 0x150) (r.1.toNat % (most + 1))

/-- A frame is discarded with all its copies; those of a TX entry's frame complete with TX_ABORTED. -/
def discardFrame (s : State) (id : Nat) : State :=
  match s.frame id with
  | none => s
  | some f =>
    let s := f.egress.foldl (fun s p => ((s.abortEgress id p).noteIdle p).copyOf f p 3) s
    let s := if f.slot.isSome then s.copyOf f 25 3 else s
    let s := { s with
      queues := Tab.mapAll {} (fun _ (w : WorkQueue) => { w with rxWait := w.rxWait.filter (· != id) }) s.queues
      stream := { s.stream with waiting := s.stream.waiting.filter (· != id) }
      span := { s.span with sources := Tab.mapAll [] (fun _ (l : List Nat) => l.filter (· != id)) s.span.sources }
      joinery := { s.joinery with windowQueue := s.joinery.windowQueue.filter (fun e => e.frame != id) } }
    let s := match s.threadOf id with | some k => s.setThread k none | none => s
    (s.dropFrame id).flushOrder s.frames.length

/-- A frame whose cell fails ECC as its bank is fenced is discarded and counted. -/
def fenceDiscard (s : State) (id : Nat) : State :=
  if (s.frame id).isNone then s else (s.count (fltBase + 0x148)).discardFrame id

/-- A unit under test is fenced for a fault: the test ends with no result (R729). -/
def endTest (s : State) (u : Nat) : State :=
  let s := { s with flt := { s.flt with
    tests := s.flt.tests.filter (fun t => t.unit_ != u || t.why == TestWhy.eyeScan || t.why == TestWhy.bist)
    fences := s.flt.fences.filter (fun f => f.unit_ != u || f.why != FenceWhy.test) } }
  s.finishKind (fun k => k == .unitTest u) .fencedUnit (some u)

/-- What leaving service does to a unit, by its kind. -/
def leaveService (s : State) (u : Nat) : State :=
  match fenceKind u with
  | some 1 => s.relocate
  | some 5 => s.linksDown (s.portsOf u)
  | some 6 => s.linksDown (s.portsOf u)
  | some 7 => s.modLane ((u - 0x0C0) / 8) (fun _ => {})
  | _ => s

/-- Joiners that a unit holds: itself, or the eight of a cluster (DEDUCED, log entry 39). -/
def joinersOf (u : Nat) : List Nat :=
  if unitRange 0 u then [(u - 0x200) / 4] else if unitRange 4 u then upto (8 * ((u - 0x2C0) / 2)) 8 else []

/-- Fence a unit for a fault. -/
def fenceFault (s : State) (u : Nat) (gate : Bool) (lost : List Nat) : State :=
  if s.faultFenced u then s else
    let before := s.belowFloor
    let s := s.leaveService u
    let s := (joinersOf u).foldl (fun s j => (s.endTest (0x200 + 4 * j)).setJoinerFence j .fault) (s.endTest u)
    let s := { s with flt := { s.flt with fences := s.flt.fences ++ [Fence.mk u .fault gate] } }.count (fltBase + 0x138)
    let s := if unitRange 1 u then lost.foldl fenceDiscard s else s
    s.floorCheck before

/-- A unit returns to service. -/
def returnUnit (s : State) (u : Nat) : State :=
  let before := s.belowFloor
  let s := { s with flt := { s.flt with fences := s.flt.fences.filter (fun f => f.unit_ != u) } }
  let s := (joinersOf u).foldl (fun s j =>
    if s.faultFenced (0x200 + 4 * j) || s.faultFenced (0x2C0 + 2 * (j / 8)) then s else s.setJoinerFence j .none) s
  let s := (s.portsOf u).foldl (fun s p => s.modPort p (fun t => { t with creditAt := s.nowQ })) s
  s.floorCheck before

/-! ### Reactions, R717 to R724 -/

/-- The reaction that a message gets, R717, R721 and R722: STOP for a FATAL message, whose reaction is STOP with additions. -/
def reaction (s : State) (m : FaultMsg) : Nat :=
  if m.cls = 2 then 4 else
    let r := s.reactionOf m.kind
    let r := if r = 2 && (fenceKind m.source).isNone then 3 else r
    if r = 3 && s.bent.role != .active then 0 else r

/-- Was a RESIGN put off as LOG, R722? -/
def putOff (s : State) (m : FaultMsg) : Bool :=
  m.cls = 1 && s.bent.role != .active && (s.reactionOf m.kind == 3 || (s.reactionOf m.kind == 2 && (fenceKind m.source).isNone))

/-- STOP, R723. -/
def stopPost (s : State) (source : Nat) (fatal : Bool) : State :=
  let s := s.abandonSuspended
  let s := s.beginResign fatal
  if s.flt.stopped then s else { s with flt := { s.flt with stopped := true, stopSource := source } }

/-- DEGRADE, by the kind's own column of R706 (DEDUCED, log entry 51). -/
def degrade (s : State) (m : FaultMsg) : State :=
  match m.kind with
  | 0x04 => { s with flt := { s.flt with retired := s.flt.retired ++ [(s.unitOf m.source, m.address)] } }
  | 0x0D => { s with flt := { s.flt with throttled := true } }
  | 0x15 =>
    let f := if m.source = 0x071 then 1 else 0
    ({ s with flt := { s.flt with slowLink := true } }.setHostFn f { s.hostFn f with speed := min (s.hostFn f).speed 4 }).count
      (hstKey f + 0x138)
  | 0x02 =>
    { s with mem := { s.mem with poisoned := addBit (m.address - m.address % 64) s.mem.poisoned } }.count
      (memBase + 0x420 + 0x40 * (m.address / 256 % 8))
  | _ => s

/-- Carry out a reaction. `lost` names the frames with a cell that fails ECC in a frame-hold bank that is fenced. -/
def carryOut (s : State) (m : FaultMsg) (r : Nat) (lost : List Nat) : State :=
  if m.cls = 2 then
    { s with flt := { s.flt with fatal := true, fatalSource := m.source, fatalKind := m.kind } }.stopPost m.source true
  else match r with
    | 1 => s.degrade m
    | 2 => s.fenceFault (s.unitOf m.source) (s.regBits (fltBase + 0x5000 + 4 * m.kind) 3 1 == 1) lost
    | 3 => s.beginResign false
    | 4 => s.stopPost m.source false
    | _ => s

/-! ### Taking, R708 to R713 -/

/-- The pending message the foreman takes next, R709. -/
def nextMessage (s : State) : Option (Nat × FaultMsg) :=
  let held := s.flt.sources.filterMap (fun e => e.2.slot.map (fun m => (e.1, m)))
  let order (l : List (Nat × FaultMsg)) : Option (Nat × FaultMsg) :=
    (l.find? (fun x => s.flt.lastTaken < x.1)).orElse (fun _ => l.head?)
  (order (held.filter (fun x => x.2.cls == 2))).orElse (fun _ => order held)

/-- The order of R710 (DEDUCED, log entry 40). -/
def take (s : State) (n : Nat) (m : FaultMsg) (lost : List Nat) : State :=
  let h := s.flt.hseq
  let r := s.reaction m
  let rec_ := (m, h.toNat, r)
  let src := s.source n
  let late := s.putOff m
  let src := { src with
    slot := none, uncleared := src.uncleared || m.cls != 0, worst := if m.cls = 0 then src.worst else max src.worst m.cls
    fatal := src.fatal || m.cls == 2, resign := src.resign || late }
  let s := s.setSource n src
  let s := { s with flt := { s.flt with
    hseq := h + 1, lastTaken := n, history := (rec_ :: s.flt.history).take 16
    first := if s.flt.first.isNone && m.cls != 0 then some rec_ else s.flt.first } }
  let s := (s.count (classCounter m.cls)).count (kindCounter m.kind)
  let s := s.carryOut m r lost
  let s := s.finishKind (fun k => k == .inject n) .ok (some h.toNat)
  let cfg := s.reg (fltBase + 8)
  if bit cfg (19 + m.cls) then
    s.notify { book := bits cfg 0 8, kind := 6, source := 4099, body := faultBytes m h.toNat r, timed := false
               vector := some (bits cfg 8 11) }
  else s

/-- Sources with UNCLEARED set. -/
def unclearedCount (s : State) : Nat := (s.flt.sources.filter (fun e => e.2.uncleared)).length

/-- Is FAULT_N driven low; is FATAL_N (R716)? -/
def faultN (s : State) : Bool := s.unclearedCount != 0 || s.flt.stopped || s.flt.fatal
def fatalN (s : State) : Bool := s.flt.fatal

/-! ### Forcing, R714 and R715 -/

/-- Does R715 allow a force? -/
def forceOk (s : State) (n kind cls : Nat) : Bool :=
  populated n && raisedBy kind n && (kindClasses kind).contains cls
    && !((kind == 0x09 || kind == 0x0A) && (cls == 2) != (n < 0x030))
    && (cls != 2 || s.regBits (fltBase + 8) 22 1 == 1)

/-- Force a message, or count the refusal (DESIGN CHOICE, log entry 30). -/
def force (s : State) (n kind cls : Nat) : State :=
  if s.forceOk n kind cls then
    (s.count (fltBase + 0x128)).raiseMsg { source := n, kind := kind, cls := cls, forced := true }
  else s.count (fltBase + 0x130)

/-! ### Unit tests, R735 and R736 -/

/-- A test's result is counted; a failure raises SELFTEST_FAIL from the unit. -/
def testResult (s : State) (u : Nat) (fail : Bool) : State :=
  if fail then (s.count (fltBase + 0x160)).raise u 0x1A 1 else s.count (fltBase + 0x158)

/-- Begin a test of a unit that is fenced already. -/
def beginTest (s : State) (u : Nat) (why : TestWhy) : State :=
  let us := testTime ((fenceKind u).getD 0)
  { s with flt := { s.flt with tests := s.flt.tests ++ [UnitTest.mk u why us (some (s.time.ticks + usTicks us)) 0 0] } }

/-- Fence a unit for a test and begin it; a joiner begins once its threads are gone. -/
def fenceTest (s : State) (u : Nat) (why : TestWhy) : State :=
  if unitRange 0 u then
    let s := { s with flt := { s.flt with tests := s.flt.tests ++ [UnitTest.mk u why 500 none 0 0] } }
    (s.setJoinerFence ((u - 0x200) / 4) (.test none)).testsBegin
  else
    let s := s.leaveService u
    { s with flt := { s.flt with fences := s.flt.fences ++ [Fence.mk u .test false] } }.beginTest u why

/-- Is a unit of a kind, other than one, fenced, or a test of the kind running? -/
def kindBusy (s : State) (k u : Nat) : Bool :=
  s.flt.fences.any (fun f => unitRange k f.unit_ && f.unit_ != u) || s.flt.tests.any (fun t => unitRange k t.unit_
    && t.why != TestWhy.eyeScan && t.why != TestWhy.bist)
    || (k == 0 && (upto 0 48).any (fun j => s.joinerFence j != .none && 0x200 + 4 * j != u))
    || (k == 0 && s.rotationJoiner.isSome)

/-- The reply of R744. -/
def testReply (fail : Bool) (source a b : Nat) : List Byte :=
  leBytes 4 (flag fail + 256 * source) ++ leBytes 4 a ++ leBytes 8 b

/-- An unfence test is over: FAULT_CLEAR completes after the last of its units (R727, R741). -/
def unfenceDone (s : State) (u : Nat) (fail : Bool) : State :=
  let s := if fail then s else (s.returnUnit u).count (fltBase + 0x140)
  match s.clerk.waiting.find? (fun (w : Waiting) => match w.kind with | .unfence l _ => l.contains u | _ => false) with
  | none => s
  | some w =>
    match w.kind with
    | .unfence l bad =>
      let left := l.filter (· != u)
      let bad := bad || fail
      if left.isEmpty then s.finishWaiting w (if bad then .fencedUnit else .ok) (some s.unclearedCount)
      else { s with clerk := { s.clerk with waiting := s.clerk.waiting.map (fun (v : Waiting) =>
        if v.no = w.no then { v with kind := .unfence left bad } else v) } }
    | _ => s

/-- March tests end by writing zeros: what the target held is gone (R739) (DEDUCED, log entry 38). -/
def bistZero (s : State) (target index : Nat) : State :=
  let mine (o : Nat) : Bool := o / 256 % 8 == index
  match target with
  | 0 => { s with frames := [] }
  | 2 => { s with joinery := { s.joinery with words := (upto 0x3000 0x1000).map (fun a => (a, 0)) } }
  | 3 => { s with clerk := { s.clerk with benches := [] } }
  | 4 =>
    { s with
      bulk := s.bulk.filter (fun e => !mine e.1)
      mem := { s.mem with poisoned := s.mem.poisoned.filter (fun o => !mine o) }
      stream := { s.stream with
        entries := s.stream.entries.filter (fun e => !mine (64 * e.1))
        rcvy := s.stream.rcvy.filter (fun e => !mine (0x40000000 + 256 * e.1))
        accounts := s.stream.accounts.filter (fun e => !mine (0xC0000000 + 2048 * e.1)) } }
  | _ => s

/-- A unit's test ends (DEDUCED, log entry 38). -/
def unitTestEnds (s : State) (source : Nat) (fail : Bool) (a b : Nat) : State :=
  match s.flt.tests.find? (fun t => (t.unit_ == source || t.unit_ == s.unitOf source) && t.why != TestWhy.rotation) with
  | none => s
  | some t =>
    let u := t.unit_
    let joiner := unitRange 0 u && t.why == TestWhy.selftest
    let ends : Option Nat := if joiner then (match s.joinerFence ((u - 0x200) / 4) with | .test e => e | _ => none) else t.endAt
    if joiner && ends.isNone then s else
      let s := match ends with | some e => s.advanceTo e | none => s
      let s := { s with flt := { s.flt with tests := s.flt.tests.erase t } }
      match t.why with
      | .unfence => (s.testResult u fail).unfenceDone u fail
      | .eyeScan => s.finishKind (fun k => k == .unitTest u) .ok none (testReply false u (a % 2 ^ 32) (bits b 0 8 + 2 ^ 16 * bits b 16 48))
      | .bist => (s.bistZero t.target t.index).finishKind (fun k => k == .unitTest u) .ok none
          (testReply fail u (a % 2 ^ 32) (if fail then b else 0))
      | _ =>
        let s := if joiner then s.setJoinerFence ((u - 0x200) / 4) .none
          else if fail && 4 ≤ (fenceKind u).getD 0 then s else s.returnUnit u
        (s.testResult u fail).finishKind (fun k => k == .unitTest u) .ok none (testReply fail u t.us (if fail then b else 0))

/-- A rotation test of a bank begins, R731 to R734 (DEDUCED, log entry 39). -/
def rotationStart (s : State) (hold : Bool) : State :=
  let k := if hold then 1 else 2
  let n := if hold then s.flt.rotFh else s.flt.rotTc
  let u := unitOfIndex k n
  let on := s.regBits (fltBase + 0x14) (if hold then 0 else 1) 1 == 1
  let waits := if hold then s.flt.gapFh.isSome else s.flt.gapTc.isSome
  if !on || waits || !s.awake || s.kindBusy k 0 || (hold && s.reg (fltBase + 0x18) < s.holdLevel) then s
  else s.fenceTest u .rotation

/-- A rotation test of a bank ends: its result is counted and the gap begins (R731, R735). -/
def rotationDone (s : State) (hold fail : Bool) : State :=
  match s.flt.tests.find? (fun t => t.why == TestWhy.rotation && unitRange (if hold then 1 else 2) t.unit_) with
  | none => s
  | some t =>
    let s := match t.endAt with | some e => s.advanceTo e | none => s
    let gap := some (s.time.ticks + msTicks (s.regBits (fltBase + 0x14) 16 16))
    let f := { s.flt with tests := s.flt.tests.erase t }
    let f := if hold then { f with rotFh := (f.rotFh + 1) % 32, gapFh := gap } else { f with rotTc := (f.rotTc + 1) % 8, gapTc := gap }
    ({ s with flt := f }.returnUnit t.unit_).testResult t.unit_ fail

/-- The gap of a rotation is over. -/
def gapEnds (s : State) (rotation : Nat) : State :=
  match rotation with
  | 0 => match s.flt.gapFh with
    | some t => let s := s.advanceTo t; { s with flt := { s.flt with gapFh := none } }.rotationStart true
    | none => s
  | 1 => match s.flt.gapTc with
    | some t => let s := s.advanceTo t; { s with flt := { s.flt with gapTc := none } }.rotationStart false
    | none => s
  | 2 => match s.flt.gapJn with
    | some t => let s := s.advanceTo t; { s with flt := { s.flt with gapJn := none } }.rotationFence
    | none => s
  | _ => s

/-! ### FLT registers -/

/-- FLT_STATUS. -/
def fltStatus (s : State) : Nat :=
  let rot := s.rotationJoiner.isSome || s.flt.tests.any (fun t => t.why == TestWhy.rotation)
  flag s.faultN + 2 * flag s.flt.fatal + 4 * flag s.flt.stopped + 8 * flag (s.belowFloor.any id) + 16 * flag s.flt.maint
    + 32 * flag s.flt.first.isSome + 64 * flag rot + 256 * s.unclearedCount

/-- The register of a source. -/
def sourceWord (s : State) (n : Nat) : Nat :=
  let f := s.source n
  let u := s.unitOf n
  let fenced := s.fenced n || (unitRange 0 n && s.joinerFence ((n - 0x200) / 4) != .none)
  let testing := s.flt.tests.any (fun t => t.unit_ == u && t.why != TestWhy.eyeScan && t.why != TestWhy.bist)
    || (unitRange 0 n && (match s.joinerFence ((n - 0x200) / 4) with | .test _ => true | _ => false))
  flag f.uncleared + 2 * flag (populated n && fenced) + 4 * flag (populated n && testing)
    + 8 * flag (s.flt.fences.any (fun x => x.unit_ == u && x.gated) && populated n)
    + 16 * (if f.uncleared then f.worst else 0) + 64 * flag (populated n)

/-- The FLT word at an offset. -/
def fltWord (s : State) (o : Nat) : Nat :=
  let part (x : FaultMsg × Nat × Nat) (k : Nat) : Nat := leAt (faultBytes x.1 x.2.1 x.2.2) (4 * (k - 1)) 4
  if o = 0 then s.fltStatus
  else if o = 4 then 1212
  else if o = 0x1C then s.flt.fatalSource + 2 ^ 12 * s.flt.fatalKind
  else if o = 0x20 then s.flt.hseq.toNat
  else if o = 0x24 then s.flt.rotFh + 256 * s.flt.rotTc
  else if 0x44 ≤ o ∧ o < 0x60 then (match s.flt.first with | some x => part x ((o - 0x40) / 4) | none => 0)
  else if (0x100 ≤ o ∧ o < 0x178) ∨ (0x6000 ≤ o ∧ o < 0x6800) then
    (s.counter (fltBase + o / 8 * 8)).toNat / 2 ^ (32 * (o / 4 % 2)) % 2 ^ 32
  else if 0x200 ≤ o ∧ o < 0x400 then
    match s.flt.history.find? (fun x => x.2.1 % 16 == (o - 0x200) / 32) with
    | some x => if o % 32 = 0 then 0 else part x (o % 32 / 4)
    | none => 0
  else if 0x1000 ≤ o ∧ o < 0x5000 then s.sourceWord ((o - 0x1000) / 4)
  else if (regRow (fltBase + o)).isSome then s.reg (fltBase + o)
  else 0

end State

/-! ### Events -/

/-- FOREMAN_TAKE: the foreman takes one pending message (R709, R710). -/
def execForemanTake (lost : List Nat) (s : State) : Result :=
  ok (match s.nextMessage with | some x => s.take x.1 x.2 lost | none => s)

/-- FAULT_FORCE_WRITE: 1 is written to a source's FORCE bit (R714, R715). -/
def execFaultForceWrite (source : Nat) (s : State) : Result :=
  ok (s.force (source % 4096) (s.regBits (fltBase + 0x10) 0 8) (s.regBits (fltBase + 0x10) 8 2))

/-- THERMAL_CROSSING: Tj passes the threshold of a level, 0 warn, 1 limit or 2 trip, upward, or falls 5 °C below it, which
arms it again and ends the change of THERMAL_LIMIT's DEGRADE (R706). -/
def execThermalCrossing (level : Nat) (above : Bool) (s : State) : Result :=
  ok (match level, above with
    | 0, true => if s.flt.warmWarn then s else { s with flt := { s.flt with warmWarn := true } }.raise 0x003 0x0C 0
    | 1, true => if s.flt.warmLimit then s else { s with flt := { s.flt with warmLimit := true } }.raise 0x003 0x0D 1
    | 2, true => if s.flt.warmTrip then s else { s with flt := { s.flt with warmTrip := true } }.raise 0x003 0x0E 2
    | 0, false => { s with flt := { s.flt with warmWarn := false } }
    | 1, false => { s with flt := { s.flt with warmLimit := false, throttled := false } }
    | 2, false => { s with flt := { s.flt with warmTrip := false } }
    | _, _ => s)

/-- ISLAND_MONITOR_EVENT: an island's supply or clock has lain outside its limits for 1 µs, with the largest differences
between neighbouring islands then; an island whose domains are gated or off is not judged for its clock
(R773, R774) (DEDUCED, log entry 41). -/
def execIslandMonitorEvent (source : Nat) (clock : Bool) (dv dt : Nat) (s : State) : Result :=
  ok (let s := { s with pwr := { s.pwr with spreadV := dv, spreadT := dt } }
    let vital := decide (source < 0x030)
    let off := if source < 0x011 then false else if source < 0x030 then s.timeOff
      else if source < 0x300 then !s.inRun || s.joinery.gated.contains ((source - 0x2C0) / 2) || s.fenced source
      else !s.awake
    if !isMonitor source || (clock && off) then s
    else s.raise source (if clock then 0x0A else 0x09) (if vital then 2 else 1))

/-- CROSSING_FAIL: a crossing finds an item that fails its parity or handshake; `critical` for one that carries the time
bus or the ledger (R774, R706). -/
def execCrossingFail (source addr : Nat) (critical : Bool) (s : State) : Result :=
  ok (if 0x600 ≤ source ∧ source ≤ 0x65F then s.raise source 0x0B (if critical then 2 else 1) addr else s)

/-- FH_TEST_START, R732. -/
def execFhTestStart (s : State) : Result := ok (s.rotationStart true)
/-- TC_TEST_START, R734. -/
def execTcTestStart (s : State) : Result := ok (s.rotationStart false)
/-- ROTATION_TEST_DONE of the frame-hold or the table-cache rotation, R735. -/
def execRotationTestDone (hold fail : Bool) (s : State) : Result := ok (s.rotationDone hold fail)
/-- ROTATION_GAP_EXPIRE of a rotation: 0 frame hold, 1 table cache, 2 joiners; its next test starts if it may (R731). -/
def execRotationGapExpire (rotation : Nat) (s : State) : Result := ok (s.gapEnds rotation)
/-- UNIT_TEST_DONE of a source's unit, with what the test found (R727, R736, R737, R739, R744). -/
def execUnitTestDone (source : Nat) (fail : Bool) (a b : Nat) (s : State) : Result := ok (s.unitTestEnds source fail a b)

/-! ### Commands -/

/-- FAULT_STATUS: a copy of FLT 0x000 to 0x3FF. -/
def execFaultStatus (c : Cmd) (s : State) : Result :=
  runStep 0x0D00 c s (fun s => Eff.ok s none (wordsOf s.fltWord 0 256))

/-- FAULT_CLEAR, R727 and R741. -/
def execFaultClear (c : Cmd) (s : State) : Result :=
  runStep 0x0D01 c s (fun s =>
    let n := c.f 0 0 12
    let all := c.f 0 12 1 == 1
    if !all && !populated n then Eff.refuse s .inconsistent
    else
      let clear (f : FaultSource) : FaultSource :=
        if f.fatal then f else { f with uncleared := false, worst := 0, resign := false }
      let s := { s with flt := { s.flt with
        sources := Tab.mapAll {} (fun i f => if all || i == n then clear f else f) s.flt.sources
        first := if all || s.flt.first.any (fun x => x.1.source == n) then none else s.flt.first } }
      let us := ((s.flt.fences.filter (fun f => f.why == FenceWhy.fault && (all || f.unit_ == s.unitOf n))).map (·.unit_)).filter
        (fun u => !s.flt.tests.any (fun t => t.unit_ == u && t.why == TestWhy.unfence))
      if c.f 0 13 1 = 0 || us.isEmpty then Eff.ok s (some s.unclearedCount)
      else
        let s := { s with flt := { s.flt with fences := s.flt.fences.map (fun f =>
          if us.contains f.unit_ then { f with gated := false } else f) } }
        .wait (us.foldl (fun s u => s.beginTest u .unfence) s) (.unfence us false) 0)

/-- FAULT_INJECT, R742. -/
def execFaultInject (c : Cmd) (s : State) : Result :=
  runStep 0x0D02 c s (fun s =>
    let n := c.f 0 0 12
    if s.forceOk n (c.f 0 12 8) (c.f 0 20 2) then .wait (s.force n (c.f 0 12 8) (c.f 0 20 2)) (.inject n) 0
    else Eff.refuse (s.force n (c.f 0 12 8) (c.f 0 20 2)) .inconsistent)

/-- SET_FAULT_KIND. -/
def execSetFaultKind (c : Cmd) (s : State) : Result :=
  benchSet 0x0D10 c s [fenum 0 8 3 4 (((kindReset.find? (fun p => p.1 == c.f 0 0 8)).map (·.2)).getD 0)]

/-- SET_FAULT_GLOBAL. -/
def execSetFaultGlobal (c : Cmd) (s : State) : Result :=
  benchSet 0x0D11 c s [urange 4 0 6 0 48, urange 4 6 6 0 32, urange 4 12 4 0 8, urange 4 16 3 0 4]

/-- SET_SELFTEST. -/
def execSetSelftest (c : Cmd) (s : State) : Result :=
  benchSet 0x7F10 c s [urange 0 16 16 10 60000, urange 4 0 32 0 67108864]

/-- A pegged setting of the foreman applies. -/
def State.applyFault (s : State) (x : Setting) : State :=
  let b := x.params
  match x.opcode with
  | 0x0D10 => s.setReg (fltBase + 0x5000 + 4 * fieldAt b 0 0 8) (fieldAt b 0 8 4 + 256 * fieldAt b 0 16 8)
  | 0x0D11 => (s.setReg (fltBase + 8) (fieldAt b 0 0 23)).setReg (fltBase + 0xC) (fieldAt b 4 0 19)
  | _ =>
    let s := s.setRegBits (jnrBase + 0xC) 0 1 (fieldAt b 0 0 1)
    (s.setReg (fltBase + 0x14) (fieldAt b 0 1 2 + 65536 * fieldAt b 0 16 16)).setReg (fltBase + 0x18) (leAt b 4 4)

/-- The dry fit of SET_FAULT_KIND, R743: does it fail? -/
def faultUnfit (x : Setting) : Bool :=
  let k := fieldAt x.params 0 0 8
  x.opcode == 0x0D10 && (!(kindAllows k).contains (fieldAt x.params 0 8 3) || (fieldAt x.params 0 16 8 != 0 && !escalates k))

/-- MAINT_ENTER, R738. -/
def execMaintEnter (c : Cmd) (s : State) : Result :=
  runStep 0x7F00 c s (fun s =>
    if !c.force then .done s .busy none [] 0 true
    else
      let s := s.beginResign false
      let s := if s.span.state == .disabled then s else s.leaveCycle .disabled none
      let s := s.linksDown (upto 0 25)
      let s := (s.queues.map (·.1)).foldl (fun (s : State) q =>
        if s.isCommandQueue q || (s.queue q).state == .disabled then s else (s.stopQueue q).queueStopped q) s
      let s := (s.books.map (·.1)).foldl (fun (s : State) b => s.stopBook b) s
      let s := (s.dray.chans.map (·.1)).foldl (fun (s : State) k =>
        let h := s.chan k
        if !isChain k then s else match h.state with
          | .disabled => s
          | .error => s.setChan k { h with state := .disabled }
          | .stopping => s.chainStopped k
          | _ => (s.setChan k { h with state := .stopping, stopCount := 0, fetching := none }).chainStopped k) s
      let busy := s.bent.step == .resignFlush || s.queues.any (fun e => !s.isCommandQueue e.1 && e.2.state != .disabled)
        || s.dray.chans.any (fun e => 16 ≤ e.1 % 32 && e.2.state != .disabled)
      if busy then .wait s .maint 0 else Eff.ok { s with flt := { s.flt with maint := true } })

/-- SELFTEST, R736 (DEDUCED, log entry 38). -/
def execSelftest (c : Cmd) (s : State) : Result :=
  runStep 0x7F01 c s (fun s =>
    let k := c.f 0 0 4
    let i := c.f 0 8 8
    let u := unitOfIndex k i
    if 4 ≤ k && !c.force then .done s .busy none [] 0 true
    else if s.faultFenced u || (k == 0 && s.joinerFence i == .fault) then Eff.refuse s .fencedUnit (some u)
    else if s.kindBusy k u then Eff.refuse s .busy
    else
      let s := if 4 ≤ k then s.raise u 0x1B 1 else s
      .wait (s.fenceTest u .selftest) (.unitTest u) 0)

/-- MEM_BIST, R739. -/
def execMemBist (c : Cmd) (s : State) : Result :=
  runStep 0x7F02 c s (fun s =>
    let t := c.f 0 0 3
    let u := [0x300, 0x340, 0x2C0, 0x080, 0x380 + 0x10 * c.f 0 8 3].getD t 0
    if !s.flt.maint then Eff.refuse s .notActive
    else if c.f 0 16 8 = 0 then Eff.refuse s .inconsistent
    else
      let t : UnitTest := { unit_ := u, why := .bist, target := t, index := c.f 0 8 3 }
      .wait { s with flt := { s.flt with tests := s.flt.tests ++ [t] } } (.unitTest u) 0)

/-- EYE_SCAN, R737. -/
def execEyeScan (c : Cmd) (s : State) : Result :=
  runStep 0x7F03 c s (fun s =>
    let p := c.f 0 0 8
    let lane := c.f 0 8 2
    let u := portSource p + lane
    .wait { s with flt := { s.flt with tests := s.flt.tests ++ [UnitTest.mk u .eyeScan 0 none 0 0] } } (.unitTest u) 0)

end Sys2Proof.Machine
end

