-- ==== Sys2Proof/Machine/Resets.lean ====
section
/-!
DEFINITION. The reset types of R817: power-on, cold, warm and function level, as operations on the state.
-/

namespace Sys2Proof.Machine

namespace State

/-! ### GLB_RESET_CAUSE, R824 -/

/-- One cause bit, and FATAL_HELD while the fatal state holds. -/
def withCause (s : State) (bit_ : Nat) : State :=
  { s with glb := { s.glb with resetCause := BitVec.ofNat 32 (2 ^ bit_ + 256 * flag s.flt.fatal) } }

/-! ### Power-on and cold reset, R818 and R820 -/

/-- The fused values and what else GLB keeps through every reset; the straps are sampled anew. -/
def fusedGlb (s : State) : Glb :=
  { s.glb with fwVer := 0, vendorMcVer := 0, lastIgnored := 0, resetCause := 0, hostSplit := s.board.strapSplit
               bar4En := s.board.strapBar4 }

/-- The post half of the counter window after a reset of the post; the island itself goes on (R662). -/
def windowReset (s : State) : Assay := { s.assay with alive := false, sender := [], nextInseq := 0 }

/-- What no reset of the post reaches: host memory, the island, the pins, the commands that wait, and the model's own
counters. -/
def outside (s : State) : State :=
  { pending := s.pending, free := s.free, hostMem := s.hostMem, assay := s.windowReset, readData := s.readData
    readBad := s.readBad, glb := s.fusedGlb
    board := { s.board with inReset := false, bootFailed := false, warming := false, challenge := none
                            debugOpen := false, badResponses := 0 }
    host := Tab.mapAll {} (fun _ (h : HostFn) => { perst := h.perst }) s.host
    bent := { partnerHeld := s.bent.partnerHeld }
    time := { ticks := s.time.ticks } }

/-- Everything that loses power with the post is at its reset value (R775) (DEDUCED, log entry 43). -/
def powerLost (s : State) : State :=
  let o := s.outside
  { o with glb := { o.glb with hallmark := 0, hallmarkVer := 0, hallmarkValid := false } }

/-- The foreman after a cold reset: the fatal state and its sources stay (R725, R728) (DEDUCED, log entry 43). -/
def foremanKept (f : Foreman) : Foreman :=
  if !f.fatal then {} else
    let src := f.sources.filterMap (fun e =>
      if e.2.fatal then some (e.1, { e.2 with slot := none, window := [], resign := false }) else none)
    { sources := src, fatal := true, fatalSource := f.fatalSource, fatalKind := f.fatalKind
      history := f.history.filter (fun h => src.any (fun e => e.1 == h.1.source)) }

/-- Offsets of the PWR and FLT blocks, which lie in PD000. -/
def inPd000 (o : Nat) : Bool := fltBase ≤ o && o < pwrBase + 0x100000

/-- A cold reset with a cause bit. A wake from Deep sleep in Etelo mode (`pd000`) keeps every field and counter of the
PWR and FLT blocks and the time save (R767, R817) (DEDUCED, log entry 43). -/
def coldReset (s : State) (cause : Nat) (pd000 : Bool) : State :=
  let o := s.outside
  let o :=
    if pd000 then
      { o with flt := s.flt, pwr := s.pwr, cfg := s.cfg.filter (fun e => inPd000 e.1), ctr := s.ctr.filter (fun e => inPd000 e.1)
               time := { ticks := s.time.ticks, savedCount := s.time.savedCount, savedAon := s.time.savedAon
                         savedAdj := s.time.savedAdj, savedFlag := s.time.savedFlag } }
    else
      { o with flt := foremanKept s.flt
               ctr := s.ctr.filter (fun e => s.flt.fatal && (e.1 == classCounter 2 || e.1 == kindCounter s.flt.fatalKind)) }
  let o := o.withCause cause
  if s.bent.role == .solo then o
  else { o with bent := { o.bent with bentId := s.bent.bentId, role := .forming } }.enterForming

/-- A cold reset of the running post is a wake from Off whose rails are on already (R775): the oscillator
step begins (DESIGN CHOICE, log entry 42). -/
def coldWake (s : State) (cause : Nat) : State :=
  let s := s.coldReset cause false
  let t : Transition := { from_ := .off, dest := .run, wake := true, step := 2, stepBy := s.stepDeadline .off 2 }
  { s with pwr := { s.pwr with
      state := .off, trans := some t, wakeSource := 1, wakeFrom := 4
      railEn := (upto 0 5).map (fun r => (r, true)), railGood := (upto 0 5).map (fun r => (r, true)) } }

/-- Off: everything is lost but what no reset reaches (R775). -/
def goOff (s : State) : State :=
  let s := s.powerLost
  { s with pwr := { state := .off } }

/-! ### Warm reset, R819 -/

/-- Step 1: an active post resigns without FATAL; its flush read completes while the host link works. -/
def warmResign (s : State) : State :=
  if s.bent.role == .active then (s.beginResign false).resignDone (s.hostFn 0).up else s

/-- Step 2 on one port: a fragment on the wire goes on to the end of its frame, what waits behind it goes, and suspended
frames are discarded. -/
def warmPort (s : State) (p : Nat) : State :=
  let s := s.bringCredit p
  let b := s.byteTime p
  let whole (w : Wire) : Wire :=
    if w.kind != .frame || w.final || w.done then w else
      { w with upto := w.qf.total, final := true, planned := false, cut := false, cutPause := false, cutFor := false
               dataEnd := w.start + (8 + (w.qf.total - w.from_)) * b, gapEnd := w.start + (8 + (w.qf.total - w.from_) + 12) * b }
  let held := (s.port p).commit
  let s := s.modPort p (fun t => { t with wire := t.wire.map whole, commit := none, reasm := [] })
  let s := match held with
    | some w => if w.kind == WireKind.frame then s.refuseCopy p w.qf.id 3
      else (match w.launch with | some l => if l.relay then s else s.settleGroup l.group l.frame | none => s)
    | none => s
  (s.dropSuspended p).dropQueued p 3 none

/-- Is a frame on the wire of a port, alone or as a launch? -/
def wireHolds (s : State) (id p : Nat) : Bool :=
  (s.port p).wire.any (fun w => !w.done && (match w.launch with | some l => l.frame == some id | none => w.kind == WireKind.frame && w.qf.id == id))

/-- Is a frame on some wire? -/
def wireHas (s : State) (id : Nat) : Bool := (upto 0 25).any (s.wireHolds id)

/-- Step 3: every copy of a TX entry that is not on a wire ends with TX_ABORTED. -/
def abortCopies (s : State) : State :=
  let all := s.queues.flatMap (fun e => (e.2.started.filter (fun x => x.kind == 1)).map (fun x => (e.1, x)))
  all.foldl (fun s x =>
    (upto 0 26).foldl (fun s p =>
      let onIt := x.2.frame.any (fun id => if p = 25 then s.wireHas id else s.wireHolds id p)
      if bit x.2.waitMask p && !onIt then s.copyDone x.1 x.2.sn p 3 else s) s) s

/-- Frames that step 4 counts: received and not yet delivered, spilled, in the window queue, or held for ordering. -/
def warmCounted (s : State) : Nat :=
  (s.frames.filter (fun e => match e.2 with
    | some f => f.place != .hold || f.window || (f.origin.isRx && (f.stage != .steered || f.wq.isSome))
    | none => false)).length

/-- Step 4: frames that are on no wire leave, and each account skips the numbers of its freed packets. -/
def warmFree (s : State) : State :=
  let s := (s.stream.accounts.filter (fun e => !e.2.held.isEmpty)).foldl (fun s e =>
    let top := highestHeld e.2
    (s.setAccount e.1 { e.2 with held := [] }).releaseThrough e.1 top) s
  let keep (id : Nat) (f : Frame) : Frame :=
    { f with stage := .steered, wq := none, window := false, egress := f.egress.filter (s.wireHolds id) }
  let s := { s with
    frames := s.frames.filterMap (fun e => match e.2 with
      | some f => if s.wireHas e.1 then some (e.1, some (keep e.1 f)) else none
      | none => none)
    stream := { s.stream with waiting := [], poolFull := false }
    joinery := { s.joinery with threads := [], order := [], released := [], windowQueue := [] }
    span := { s.span with sources := [] }
    bent := { s.bent with kept := [] }
    deliveries := []
    mem := { s.mem with spilling := false, spillStopped := false } }
  ((upto 0 25).foldl pauseCheck s).testsBegin

/-- Step 5 on one queue; TX entries whose frame is on a wire and fences keep what they wait for. -/
def warmQueue (s : State) (q : Nat) : State :=
  let cq := s.isCommandQueue q
  let s := if cq then s.setRegBits (pageBase q + 0x110) 31 1 0 else s
  let s := s.modQueue q (fun w => { w with
    state := .disabled, fetched := [], accepting := none, rxWait := [], enablePending := false, stalled := false
    started := w.started.filter (fun e => (e.kind == 1 && e.frame.any s.wireHas) || e.kind == 3) })
  s.writeShadow q

/-- Step 5: queues, daybooks and chain channels. -/
def warmRings (s : State) : State :=
  let s := (s.queues.filter (fun e => e.2.state != .disabled)).foldl (fun s e => s.warmQueue e.1) s
  let s := (s.books.filter (fun e => e.2.state != .disabled)).foldl (fun s e => s.stopBook e.1) s
  { s with dray := { s.dray with chans := Tab.mapAll {} (fun _ (c : DrayChan) =>
      { c with state := .disabled, desc := none, fetching := none, dbPending := false, moving := false, source := []
               framesIn := 0, written := [], bulkDone := [] }) s.dray.chans } }

/-- The clerk as a reset leaves it: no command, no bench, and READY clear (R602). -/
def clerkReset (c : Clerk) : Clerk := { takeNo := c.takeNo, turn := c.turn, carrySeq := c.carrySeq, partnerRef := c.partnerRef }

/-- The steps of R819 up to the restart of the clerk. No completion is written for a command taken before
(R602) (DEDUCED, log entry 48). -/
def warmReset (s : State) : State :=
  let s := { s with clerk := clerkReset s.clerk }.countN (cmdCount 8) ((s.clerk.benches.filter (fun (e : Nat × Bench) => e.2.state != BenchState.free)).length)
  let n := s.warmCounted
  let s := s.warmResign
  let s := (upto 0 25).foldl warmPort s
  let s := (s.abortCopies.countN 0x118 n).warmFree.warmRings
  let s := if s.span.state == .disabled then s else s.leaveCycle .disabled none
  let s := { s with span := { s.span with launches := [] } }
  let s := if s.bent.role == .solo then s else s.enterForming
  { s with latches := [], flt := { s.flt with stopped := false, maint := false }
           assay := { s.assay with sender := [] }
           board := { s.board with warming := true } }.withCause 4

/-- GLB_RESET with WARM: in Run it acts at once; in Idle, Sleep and Deep sleep the post is woken first (R775)
(DEDUCED, log entry 44). -/
def askWarm (s : State) : State :=
  if s.board.inReset || s.pwr.state == .off then s
  else match s.pwr.trans with
    | some _ => { s with pwr := { s.pwr with warmAfter := true } }.fillPending .run 6 0
    | none =>
      if s.pwr.state == .run then s.warmReset
      else { s with pwr := { s.pwr with warmAfter := true } }.startWake .run 6 0

/-! ### Function level reset, R504, R557, R602, R792 and R818 -/

/-- Queues, daybooks and chain channels given to virtual function n of f. -/
def vfQueues (s : State) (f n : Nat) : List Nat := let w := s.vfWord f n 0; upto (bits w 0 12) (bits w 16 7)
def vfBooks (s : State) (f n : Nat) : List Nat := let w := s.vfWord f n 4; upto (bits w 0 8) (bits w 8 5)
def vfChans (s : State) (f n : Nat) : List Nat :=
  (upto 0 4).filterMap (fun k => let b := bits (s.vfWord f n 8) (8 * k) 8
    if bit b 7 then some (32 * bits b 5 2 + bits b 0 5) else none)
def vfVectors (s : State) (f n : Nat) : List Nat := let w := s.vfWord f n 0xC; upto (bits w 0 11) (bits w 16 6)

/-- A queue goes to DISABLED at once: nothing more is written for its entries. -/
def flrQueue (s : State) (q : Nat) : State :=
  if (s.queue q).state == .disabled && (s.queue q).started.isEmpty then s else
    let s := s.modQueue q (fun w => { w with
      state := .disabled, fetched := [], accepting := none, enablePending := false, stalled := false, shadowDue := false
      started := [] })
    let s := s.finishKind (fun k => k == WaitKind.wqDisable q) .ok (some (s.queue q).ci.toNat)
    if s.isCommandQueue q then s else s.mirror (.state (ringItem q (s.queue q)))

/-- A daybook goes to DISABLED, and notices that wait for it are dropped as they come. -/
def flrBook (s : State) (b : Nat) : State :=
  if (s.book b).state == .disabled then s else
    let s := s.stopBook b
    s.mirror (.state (bookItem b (s.book b)))

/-- A chain channel goes to DISABLED at once. -/
def flrChan (s : State) (k : Nat) : State :=
  let c := s.chan k
  if c.state == .disabled then s else
    (s.setChan k { c with state := .disabled, desc := none, fetching := none, dbPending := false, written := [], bulkDone := [] }).finishKind
      (fun w => w == .drayStop (k / 32) (k % 32)) .ok (some c.stopCount)

/-- Settings words in a range go to their reset value. -/
def clearRange (s : State) (a n : Nat) : State := { s with cfg := s.cfg.filter (fun e => e.1 < a || a + n ≤ e.1) }

/-- A virtual function alone (DEDUCED, log entry 49). -/
def flrVf (s : State) (f n : Nat) : State :=
  if !(s.hostFn f).vfHeld.contains n then s.clearRange (vfTable f n) 0x1000 else
    let s := (s.vfQueues f n).foldl flrQueue s
    let s := (s.vfBooks f n).foldl flrBook s
    let s := (s.vfChans f n).foldl flrChan s
    let v := s.vfVectors f n
    ({ s with msixPending := s.msixPending.filter (fun m => m.fn != f || !v.contains m.vector) }.clearRange (vfTable f n) 0x1000).maintCheck

/-- Commands of a function's queue go on, and their completions are discarded (R504, R602). -/
def discardOf (s : State) (f : Nat) : State :=
  let own (c : Cmd) : Bool := (Cmd.queueOf c).any (fun q => s.fnOfQueue q == f)
  { s with clerk := { s.clerk with
      taken := s.clerk.taken.map (fun t => if own t.cmd then { t with discard := true } else t)
      waiting := s.clerk.waiting.map (fun w => if own w.cmd then { w with discard := true } else w) } }

/-- A physical function: its queues, daybooks, chain channels and HST instance, and its virtual functions
(DEDUCED, log entry 49). -/
def flrPf (s : State) (f : Nat) : State :=
  let s := s.discardOf f
  let s := (s.queues.filter (fun e => s.fnOfQueue e.1 == f)).foldl (fun s e => s.flrQueue e.1) s
  let s := (s.books.filter (fun e => s.fnOfBook e.1 == f)).foldl (fun s e => s.flrBook e.1) s
  let s := (s.dray.chans.filter (fun e => isChain e.1 && s.fnOfChan e.1 == f)).foldl (fun s e => s.flrChan e.1) s
  let s := (s.clearRange (hstKey f) 0x100000).clearRange (pageBase (2048 * f) + 0x100) 0x14
  let s := (upto 0 64).foldl (fun s n => s.clearRange (vfTable f n) 0x1000) s
  let s := { s with msixPending := s.msixPending.filter (fun m => m.fn != f)
                    latches := s.latches.filter (fun e => e.1 / 2 ^ 32 != f) }
  (s.setHostFn f { s.hostFn f with vfEnabled := 0, vfErr := [], vfHeld := [] }).maintCheck

end State

end Sys2Proof.Machine
end

