-- ==== Sys2Proof/Machine/Power.lean ====
section
/-!
DEFINITION. Power states and domains (chapter 17): conditions, idle timers, entries, wakes, and the power-up order of the
chapter "Pins, package and electrical"; the PWR registers, and the 0x0Exx commands.
-/

namespace Sys2Proof.Machine

/-- Counters of PWR. -/
def pwrCount (k : Nat) : Nat := pwrBase + 0x80 + 8 * k

namespace State

/-! ### Conditions, R746 -/

/-- Does a TX queue hold a startable entry or a started one without its completion? -/
def txWork (s : State) (q : Nat) : Bool :=
  let w := s.queue q
  let f := (w.fetched.head?).getD (s.readEntry q w.ci false)
  w.state == .running && w.kind == .tx && !s.isCommandQueue q && (w.covered w.ci f.units || !w.started.isEmpty)

/-- Conditions 0 to 8 and 10 and 11 that fail now, by bit. -/
def failing (s : State) : Nat :=
  flag s.joineryBusy + 2 * flag s.clerkBusy + 4 * flag (s.clerk.benches.any (fun e => e.2.state == .pegged))
    + 8 * flag (s.span.state != .disabled)
    + 16 * flag (s.frames.any (fun e => match e.2 with | some f => f.stage != .ordered | none => false))
    + 32 * flag (s.queues.any (fun e => s.txWork e.1)
        || s.dray.chans.any (fun e => isChain e.1 && (e.2.state == .running || e.2.state == .stopping)))
    + 64 * flag (s.bent.role != .solo && s.bent.role != .standby) + 128 * flag s.flt.maint + 256 * flag s.flt.fatal
    + 1024 * flag (s.regBits (pwrBase + 0x18) 1 1 == 0) + 2048 * flag (s.regBits (pwrBase + 0x38) 0 1 == 1)

/-- The conditions marked for a state, without LEVEL; HOLD_RUN counts for automatic entry only. -/
def marked (st : PState) (auto : Bool) : Nat :=
  (match st with
    | .run => 0
    | .idle => 0x003
    | .sleep => 0x0FF
    | .deep => 0x1FF
    | .off => 0x5FF) + (if auto && st != .run then 0x800 else 0)

/-- The failing conditions of one state. -/
def failFor (s : State) (st : PState) (auto : Bool) : Nat :=
  Nat.land s.failing (marked st auto) + 512 * flag (s.heldLevel st).isSome

/-- The failing conditions of every state from the one below the present state down to a target (R748). -/
def failTo (s : State) (dest : PState) (auto : Bool) : Nat :=
  ([PState.idle, .sleep, .deep, .off].filter (fun st => s.pwr.state.code < st.code && st.code ≤ dest.code)).foldl
    (fun n st => Nat.lor n (s.failFor st auto)) 0

/-- PWR_BLOCKERS. -/
def blockers (s : State) : Nat :=
  s.failing + 512 * flag ([PState.idle, .sleep, .deep, .off].any (fun st => (s.heldLevel st).isSome))

/-! ### Idle timers, R747 -/

/-- The value of the idle timer of a state in ticks. -/
def idleValue (s : State) (st : PState) : Nat :=
  match st with
  | .run => 0
  | .idle => usTicks (s.reg (pwrBase + 0x1C))
  | .sleep => msTicks (s.reg (pwrBase + 0x20))
  | .deep => secTicks (s.reg (pwrBase + 0x24))
  | .off => secTicks (s.reg (pwrBase + 0x28))

/-- Every idle timer starts again from 0 (DEDUCED, log entry 82). -/
def restartIdle (s : State) : State :=
  { s with pwr := { s.pwr with idleFrom := (upto 1 4).map (fun k => (k, s.time.ticks)) } }

def restartOne (s : State) (k : Nat) : State :=
  { s with pwr := { s.pwr with idleFrom := Tab.set 0 s.pwr.idleFrom k s.time.ticks } }

/-! ### Entries, R749, R759 and R769 -/

/-- Every account that holds packets runs release_through up to its highest held number (R381). -/
def releaseHeld (s : State) : State :=
  (s.stream.accounts.filter (fun e => !e.2.held.isEmpty)).foldl (fun s e => s.releaseThrough e.1 (highestHeld (s.account e.1))) s

/-- An entry begins: a standby is cold and out of sync in Sleep and Deep sleep (DEDUCED, log entry 80). -/
def beginEntry (s : State) (dest : PState) : State :=
  let t : Transition := { from_ := s.pwr.state, dest := dest, wake := false }
  let s := { s with pwr := { s.pwr with trans := some t, etelo := dest == .deep && s.regBits (pwrBase + 0x18) 0 1 == 1 } }
  let s := if s.bent.role == .standby && 2 ≤ dest.code
    then { s with bent := { s.bent with cold := true, inSync := false, holdOffAt := none } } else s
  if dest == .deep then s.releaseHeld else s

/-- The always-on counter, 48 bits at 32.768 kHz, derived from the ticks. -/
def aonNow (s : State) : Nat := (s.time.ticks * 128 * 32768 / 10 ^ 11 + s.board.aonBase) % 2 ^ 48

/-- Learned bindings go as if QSV_FLOW_AGE had passed (R765). -/
def ageAll (s : State) (p : Nat) : State :=
  ((s.port p).flows.filter (fun e => e.1 != 0 && e.2.number != 0 && !e.2.static)).foldl (fun s e =>
    (s.setFlow p e.2.cls e.1 {}).count (qsvCount p e.2.cls 6)) s

/-- What a port does not retain (R765): its secure associations, learned bindings, buffers and suspended frames. -/
def dropUnretained (s : State) (p : Nat) : State :=
  let n := (s.port p).sec.foldl (fun n e => n + (e.2.assocs.filter (fun a => a.2.isSome)).length) 0
  let s := ((s.countN (pwrCount 11) n).dropSuspended p).ageAll p
  let s := s.modPort p (fun t => { t with reasm := [], sec := Tab.mapAll {} (fun _ (c : SecChan) => { c with assocs := [] }) t.sec })
  { s with joinery := { s.joinery with sync := Tab.set [] s.joinery.sync p [] } }

/-- The host links go to a power-management state. -/
def hostPm (s : State) (pm : Nat) : State :=
  { s with host := Tab.mapAll {} (fun _ (h : HostFn) => if h.up then { h with pm := pm } else h) s.host }

/-- Deep sleep is reached: the saves of R759, R763, R764 and R92, and what is not retained. -/
def enterDeep (s : State) : State :=
  let s := (upto 0 25).foldl dropUnretained s
  let s := s.linksDown ((upto 0 25).filter (fun p => s.inService p && !s.portArmed p))
  let s := if s.bent.role == .standby then s else (s.modLane 0 (fun _ => {})).modLane 1 (fun _ => {})
  let s := s.hostPm 3
  { s with
    time := { s.time with savedCount := s.time.count, savedAon := s.aonNow, savedAdj := s.time.adj, savedFlag := s.time.flag }
    clerk := { s.clerk with ready := false }
    assay := { s.assay with alive := false, sender := [] }
    pwr := { s.pwr with saved := true, savedBad := false, oscReady := false, memReady := false, logicReady := false, booted := false } }

/-- Sleep silences PTP: its references are disqualified (R91). -/
def enterSleep (s : State) : State :=
  let s := (s.time.qualified.filter (fun r => r.kind == 1 || r.kind == 2)).foldl disqualify s
  let s := s.hostPm 2
  { s with pwr := { s.pwr with memReady := false, logicReady := false } }

/-! ### The end of a transition, R750 to R752 -/

/-- A transition has ended; `entry` when it led deeper. What waits in the pending slot acts, and so does a level source
that holds; of several the lowest code. -/
def settle (s : State) (entry : Bool) : State :=
  let st := s.pwr.state
  let slot := s.pwr.slot
  let src := s.pwr.slotFrom
  let s := { s with pwr := { s.pwr with slot := none, slotFrom := (0, 0) } }
  let level := s.heldLevel st
  match slot with
  | none => match level with
    | some l => s.startWake .run l.1 l.2
    | none => s
  | some t =>
    if t.code < st.code then
      let s := if entry && src.1 != 0 then s.count (pwrCount 4) else s
      match level with
      | some l => if src.1 = 0 || l.1 < src.1 then s.startWake .run l.1 l.2 else s.startWake t src.1 src.2
      | none => s.startWake t src.1 src.2
    else if t.code = st.code then
      match level with
      | some l => s.startWake .run l.1 l.2
      | none => s
    else if s.failTo t false = 0 then s.beginEntry t
    else
      let s := s.count (pwrCount 6)
      match level with
      | some l => s.startWake .run l.1 l.2
      | none => s

/-- An entry transition has ended in a state. -/
def reached (s : State) (st : PState) : State :=
  let s := { s with pwr := { s.pwr with state := st, trans := none } }.restartIdle
  (match st with
    | .idle => s.count (pwrCount 0)
    | .sleep => s.enterSleep.count (pwrCount 1)
    | .deep => s.enterDeep.count (pwrCount 2)
    | _ => s).settle true

/-- Off is reached: WAKE_N low wakes the post at once. -/
def offReached (s : State) : State := if s.goOff.board.wakeN then s.goOff else s.goOff.startWake .run 1 0

/-- PWR_EN of a rail rises or falls. -/
def setEn (s : State) (r : Nat) (v : Bool) : State := { s with pwr := { s.pwr with railEn := Tab.set false s.pwr.railEn r v } }
def setGood (s : State) (r : Nat) (v : Bool) : State := { s with pwr := { s.pwr with railGood := Tab.set false s.pwr.railGood r v } }
def setTrans (s : State) (t : Transition) : State := { s with pwr := { s.pwr with trans := some t } }

/-- The sequencer drops the PWR_EN of a rail on the way to Off, R839. -/
def dropRail (s : State) (t : Transition) (r : Nat) : State :=
  (s.setEn r false).setTrans { t with step := 1, rail := r, stepBy := s.time.ticks + msTicks 20 }

/-- The hardware has switched every domain of an entry. -/
def entryDone (s : State) : State :=
  match s.pwr.trans with
  | none => s
  | some t =>
    if t.wake || t.step != 0 then s
    else match t.dest with
      | .off => s.dropRail t 4
      | .deep => if s.frames.any (fun e => e.2.isSome) || !s.deliveries.isEmpty then s else s.reached .deep
      | st => s.reached st

/-! ### Wakes, R756 to R758, and the power-up order of R837 -/

/-- A wake fails: the post returns to the state it woke from, and the step is recorded (R757) (DEDUCED, log
entry 44). -/
def wakeFails (s : State) (t : Transition) : State :=
  if t.from_ == .off then
    let n := (s.counter (pwrCount 7)).toNat + 1
    let src := s.pwr.wakeSource
    let s := s.goOff.countN (pwrCount 7) n
    let s := { s with pwr := { s.pwr with wakeSource := src, wakeFrom := 4, wakeStep := t.step } }
    if s.board.wakeN then s else s.startWake .run 1 0
  else
    ({ s with pwr := { s.pwr with trans := none, wakeStep := t.step } }.count (pwrCount 7)).settle false

/-- A wake passes to its next step. -/
def nextStep (s : State) (t : Transition) (step : Nat) : State :=
  s.setTrans { t with step := step, stepBy := s.stepDeadline t.from_ step }

/-- PWR_GOOD_CORE rises: the power-on reset of R817, from which the regulator step goes on. A wake from Off by WAKE_N has
the cause COLD_WAKE (DEDUCED, log entry 44). -/
def coreGood (s : State) : State :=
  let src := if s.pwr.trans.isSome then s.pwr.wakeSource else 0
  let s := s.powerLost.withCause (if src = 1 then 3 else 0)
  let t : Transition := { from_ := .off, dest := .run, wake := true, step := 1, rail := 1, stepBy := s.time.ticks + msTicks 20 }
  { s with pwr := { state := .off, trans := some t, wakeSource := src, wakeFrom := if src = 1 then 4 else 0
                    railEn := [(0, true), (1, true)], railGood := [(0, true)] } }

/-- PWR_GOOD of a rail rises in the regulator step. -/
def railGood (s : State) (r : Nat) : State :=
  match s.pwr.trans with
  | none => s
  | some t =>
    if !t.wake || t.from_ != .off || t.step != 1 || t.rail != r || s.board.inReset || 5 ≤ r then s
    else if r = 0 then s.coreGood
    else
      let s := s.setGood r true
      if r = 4 then s.nextStep t 2
      else (s.setEn (r + 1) true).setTrans { t with rail := r + 1, stepBy := s.time.ticks + msTicks 20 }

/-- PWR_GOOD of a rail falls, or 20 ms pass, during the entry to Off. -/
def railOff (s : State) (t : Transition) : State :=
  let s := s.setGood t.rail false
  if t.rail = 0 then s.offReached else s.dropRail t (t.rail - 1)

/-- 20 ms have passed since a PWR_EN changed. -/
def railTimeout (s : State) : State :=
  match s.pwr.trans with
  | none => s
  | some t =>
    if t.step != 1 || s.board.inReset then s
    else if t.wake then (if t.from_ == .off then (s.advanceTo t.stepBy).wakeFails t else s)
    else (s.advanceTo t.stepBy).railOff t

/-- Crystals and PLLs are locked. An Etelo-mode wake is a cold start of every domain but PD000 (R767). -/
def oscReady (s : State) : State :=
  match s.pwr.trans with
  | none => { s with pwr := { s.pwr with oscReady := true } }
  | some t =>
    if !t.wake || t.step != 2 || s.board.inReset then s
    else
      let s := if t.from_ == .deep && s.pwr.etelo then s.coldReset 3 true else s
      { s with pwr := { s.pwr with oscReady := true } }.nextStep t 3

/-- Does a population of bulk memory fit R795? -/
def populationOk (gib width ranks rate : Nat) : Bool :=
  [8, 16, 24, 32].contains gib && (width == 4 || width == 8) && (ranks == 1 || ranks == 2) && [48, 52, 56].contains rate

/-- Bulk memory is trained, or retrained after self-refresh; a population that breaks R795 stops the boot. -/
def memoryReady (s : State) (gib width ranks rate : Nat) (popError : Bool) : State :=
  let boot (s : State) : State :=
    if popError || !populationOk gib width ranks rate then { s with mem := { s.mem with popError := true } }
    else
      { s with
        mem := { s.mem with trained := 0xFF, ready := true, popError := false, gibPerChannel := gib, devWidth := width
                            ranks := ranks, rate := rate }
        pwr := { s.pwr with memReady := true } }
  match s.pwr.trans with
  | none => if s.mem.ready || s.mem.popError || s.board.inReset then s else boot s
  | some t =>
    if !t.wake || t.step != 3 || s.board.inReset || s.mem.popError then s
    else if s.mem.ready then
      ((upto 0 8).foldl (fun (s : State) n => s.count (memBase + 0x428 + 0x40 * n))
        { s with pwr := { s.pwr with memReady := true } }).nextStep t 4
    else
      let s := boot s
      if s.mem.ready then s.nextStep t 4 else s

/-- OSC_READY or MEM_READY has not come within twice its figure. -/
def stepTimeout (s : State) : State :=
  match s.pwr.trans with
  | none => s
  | some t =>
    if !t.wake || t.stepBy = 0 || !(t.step == 2 || t.step == 3) || s.board.inReset then s
    else (s.advanceTo t.stepBy).wakeFails t

/-- Span time is rebuilt from the always-on counter, R93. The elapsed time is in microseconds times 2^15. -/
def rebuildTime (s : State) : State :=
  let n := (s.aonNow + 2 ^ 48 - s.time.savedAon) % 2 ^ 48
  let units := n * 1000000000 * 2 ^ 40 / 32768
  let unc := ceilDiv (n * 1000000000) (32768 * 10000) + 31000
  let s := { s with time := { s.time with count := s.time.savedCount + units, adj := s.time.savedAdj } }
  if s.time.savedFlag == .invalid then s.setFlag .invalid
  else { s with time := { s.time with flag := .coarse, uncertBase := unc, uncertFrom := s.time.ticks } }

/-- The wake from native Deep sleep restores the strongbox list; when a region CRC fails the wake is completed as a cold
start (R763, R766). The firmware and bulk memory stand as the wake has booted them (DEDUCED, log entry 82). -/
def restore (s : State) : State :=
  if s.pwr.savedBad then
    let r := s.coldReset 3 false
    let r := { r with
      clerk := { r.clerk with ready := true }
      glb := { r.glb with fwVer := s.glb.fwVer, vendorMcVer := s.glb.vendorMcVer }
      mem := { r.mem with trained := 0xFF, ready := true, gibPerChannel := s.mem.gibPerChannel, devWidth := s.mem.devWidth
                          ranks := s.mem.ranks, rate := s.mem.rate }
      pwr := { r.pwr with state := s.pwr.state, trans := s.pwr.trans, wakeSource := s.pwr.wakeSource, wakeFrom := s.pwr.wakeFrom
                          wakePort := s.pwr.wakePort, railEn := s.pwr.railEn, railGood := s.pwr.railGood, oscReady := true
                          memReady := true, booted := true } }
    r.raise 0x002 0x18 1
  else s.rebuildTime

/-- Does any host link stand outside L0? -/
def hostNotL0 (s : State) : Bool := !(s.hostFn 0).up || (s.hostFn 0).pm != 0

/-- The wake completes at LOGIC_READY (DEDUCED, log entry 80). -/
def logicReady (s : State) : State :=
  match s.pwr.trans with
  | none => { s with pwr := { s.pwr with logicReady := true } }
  | some t =>
    let booting := t.from_ == .deep || t.from_ == .off
    if !t.wake || t.step != 4 || s.board.inReset || (booting && !s.pwr.booted) then s
    else
      let s := if t.from_ == .deep then (if s.pwr.etelo then s.rebuildTime else s.restore) else s
      let ask := s.regBits (pwrBase + 0x18) 2 1 == 1 && (t.from_ == .sleep || t.from_ == .deep)
      let s := { s with
        pwr := { s.pwr with state := t.dest, trans := none, logicReady := true, oscReady := true, memReady := true, saved := false
                            etelo := false, wakeTime := s.nowStamp, pcieWake := ask && s.hostNotL0 }
        assay := if booting then { s.assay with alive := s.assay.running } else s.assay }
      let s := (s.count (pwrCount 3)).restartIdle
      let s := if ask then s else s.hostPm 0
      let s := if s.bent.role == .standby && s.bent.cold
        then
          let s := { s with bent := { s.bent with cold := false } }
          if s.bent.partnerHeld then s.enterResync else s.becomeOrphan
        else s
      let s := if s.pwr.warmAfter && t.dest == .run
        then { s with pwr := { s.pwr with warmAfter := false } }.warmReset else s
      s.settle false

/-- The instant 50 µs before the earliest peg whose time is known, in 2^-16 ns: source PEG (DEDUCED, log entry 82). -/
def nextPeg (s : State) : Option Nat :=
  s.clerk.benches.foldl (fun m e =>
    if e.2.state == .pegged && e.2.pegTick.isNone && !e.2.pegOnCycle then
      minOpt m (some (e.2.pegTime / 2 ^ 24 - 50000 * 65536)) else m) none

/-- An armed wake source asks for Run, R751 and R753. A knock comes with its frame; a level must hold. -/
def wakeSourceActs (s : State) (source port : Nat) : State :=
  match source with
  | 4 => s
  | 6 => s.wakeEvent 6 0
  | 8 => (match s.nextPeg with
      | some u => (s.advanceToU u).wakeEvent 8 0
      | none => s)
  | n => if s.levelHolds n port then s.wakeEvent n port else s

/-! ### Registers -/

/-- PWR_STATE. -/
def pwrState (s : State) : Nat :=
  let p := s.pwr
  PState.code p.state + 8 * flag p.trans.isSome + 16 * (match p.trans with | some t => PState.code t.dest | none => 0)
    + 128 * flag p.slot.isSome + 256 * (match p.slot with | some t => PState.code t | none => 0)
    + 2048 * s.regBits (pwrBase + 0x18) 0 1

/-- The unit that a domain belongs to, by its first source identifier; none where it can not be fenced. -/
def domainUnit (n : Nat) : Option Nat :=
  if 3 ≤ n ∧ n ≤ 10 then some (0x100 + 0x20 * ((n - 3) / 2))
  else if 11 ≤ n ∧ n ≤ 26 then some (0x180 + 0x10 * ((n - 11) / 2))
  else if n = 27 then some 0x0D0
  else if n = 28 ∨ n = 29 then some (0x0C0 + 8 * (n - 28))
  else if 34 ≤ n ∧ n < 82 then some (0x200 + 4 * (n - 34))
  else if 82 ≤ n ∧ n < 88 then some (0x2C0 + 2 * (n - 82))
  else if 88 ≤ n ∧ n < 120 then some (0x300 + 2 * (n - 88))
  else if 120 ≤ n ∧ n < 128 then some (0x340 + 2 * (n - 120))
  else if 136 ≤ n ∧ n < 140 then some (0x080 + 8 * (n - 136))
  else if 142 ≤ n ∧ n < 146 then some (0x400 + 0x10 * (n - 142))
  else none

/-- Ports whose lanes or MAC a domain serves. -/
def domainPorts (n : Nat) : List Nat :=
  if 3 ≤ n ∧ n ≤ 10 then upto (4 * ((n - 3) / 2)) 4 else if 11 ≤ n ∧ n ≤ 26 then [16 + (n - 11) / 2]
  else if n = 27 then [24] else []

/-- Condition of a domain in a state, R760: 0 ON, 1 GATED, 2 RETAIN, 3 OFF. -/
def domainIn (s : State) (st : PState) (n : Nat) : Nat :=
  let joiners := (34 ≤ n ∧ n < 82 : Bool)
  let copies := (82 ≤ n ∧ n < 88 : Bool)
  let core := (136 ≤ n ∧ n < 140 : Bool)
  match st with
  | .run =>
    if (joiners && s.joinery.gated.contains ((n - 34) / 8)) || (copies && s.joinery.gated.contains (n - 82)) then 1 else 0
  | .idle => if joiners || copies || core then 1 else 0
  | .sleep =>
    if n = 2 || joiners || (136 ≤ n && n < 152) then 1
    else if copies || (120 ≤ n && n < 136) then 2
    else if 88 ≤ n && n < 120 then 3
    else 0
  | .deep =>
    if n = 0 || n = 32 || n = 33 || n = 152 || n = 153 then 0
    else if 3 ≤ n && n ≤ 27 then (if (domainPorts n).any s.portArmed then 0 else 3)
    else if n = 28 || n = 29 then (if s.bent.role == .standby then 0 else 3)
    else if 88 ≤ n && n < 120 then (if s.pwr.etelo && s.regBits (pwrBase + 0x2C) (n - 88) 1 == 1 then 2 else 3)
    else if 128 ≤ n && n < 136 then (if s.pwr.etelo then 3 else 2)
    else 3
  | .off => if n = 0 || n = 152 || n = 153 then 0 else 3

/-- PWR_DOMAIN_n. -/
def domainWord (s : State) (n : Nat) : Nat :=
  if (domainUnit n).any (fun u => s.flt.fences.any (fun f => f.unit_ == u && f.gated)) then 7 else s.domainIn s.pwr.state n

/-- A word of the PWR block. -/
def pwrWord (s : State) (o : Nat) : Nat :=
  let p := s.pwr
  let rails (t : Tab Bool) : Nat := (upto 0 5).foldl (fun n r => n + flag (Tab.get false t r) * 2 ^ r) 0
  if o = 0 then s.pwrState
  else if o = 4 then p.wakeSource + 16 * p.wakeFrom + 256 * p.wakePort + 65536 * p.wakeStep
  else if 8 ≤ o ∧ o < 0x14 then bits p.wakeTime (32 * ((o - 8) / 4)) 32
  else if o = 0x14 then s.blockers
  else if o = 0x3C then rails p.railEn + 256 * rails p.railGood + 65536 * flag p.oscReady + 131072 * flag p.memReady
    + 262144 * flag p.logicReady
  else if o = 0x40 then p.spreadV % 256 + 256 * (p.spreadT % 256)
  else if 0x80 ≤ o ∧ o < 0xE0 then (s.counter (pwrBase + o / 8 * 8)).toNat / 2 ^ (32 * (o / 4 % 2)) % 2 ^ 32
  else if 0x100 ≤ o ∧ o < 0x36C then s.domainWord ((o - 0x100) / 4)
  else if (regRow (pwrBase + o)).isSome then s.reg (pwrBase + o)
  else 0

/-- A pegged SET_POWER, R778 and R779: an idle timer whose value changes restarts from 0. -/
def applyPower (s : State) (x : Setting) : State :=
  let p := x.params
  let w := fieldAt p 0 16 16
  let o := s
  let s := ((((((s.setReg (pwrBase + 0x18) (fieldAt p 0 0 3 + 65536 * fieldAt p 0 8 3)).setReg (pwrBase + 0x1C) (leAt p 4 4)).setReg
    (pwrBase + 0x20) (leAt p 8 4)).setReg (pwrBase + 0x24) (leAt p 0xC 4)).setReg (pwrBase + 0x28) (leAt p 0x10 4)).setReg
    (pwrBase + 0x2C) (leAt p 0x14 4)).setReg (pwrBase + 0x34) (leAt p 0x18 4)
  let s := s.setReg (pwrBase + 0x30) (0x182 + Nat.land w 0x260)
  (upto 0 4).foldl (fun s k => if o.reg (pwrBase + 0x1C + 4 * k) = s.reg (pwrBase + 0x1C + 4 * k) then s else s.restartOne (k + 1)) s

end State

/-- Dry fit of SET_POWER, R778: does it fail? -/
def powerUnfit (x : Setting) : Bool :=
  (leAt x.params 0x10 4 != 0 && fieldAt x.params 0 1 1 == 0) || (leAt x.params 0x14 4 != 0 && fieldAt x.params 0 0 1 == 0)

/-! ### Meanings: commands -/

/-- POWER_STATUS: a copy of PWR 0x000 to 0x3FF. -/
def execPowerStatus (c : Cmd) (s : State) : Result :=
  runStep 0x0E00 c s (fun s => Eff.ok s none (wordsOf s.pwrWord 0 256))

/-- POWER_REQUEST, R748 and R777: the command completes, and the transition begins (DEDUCED, log entry 82). -/
def execPowerRequest (c : Cmd) (s : State) : Result :=
  runStep 0x0E01 c s (fun s =>
    let t := pstateOf (c.f 0 0 3)
    if t == .run || t.code ≤ s.pwr.state.code then Eff.ok s
    else
      let bad := s.failTo t false
      if bad != 0 then Eff.refuse s .busy (some bad)
      else if s.pwr.trans.isSome then Eff.ok (s.fillPending t 0 0)
      else Eff.ok (s.beginEntry t))

/-- SET_POWER. -/
def execSetPower (c : Cmd) (s : State) : Result :=
  benchSet 0x0E10 c s [urange 0 8 3 1 6, ⟨4, 0, 32, .zeroOr 1 1000000⟩, ⟨8, 0, 32, .zeroOr 1 3600000⟩, ⟨0xC, 0, 32, .zeroOr 1 86400⟩,
    ⟨0x10, 0, 32, .zeroOr 1 86400⟩, urange 0x18 0 32 1 1000000]

/-! ### Meanings: events -/

/-- IDLE_TIMER_EXPIRE of a state (1 Idle to 4 Off), R747 (DEDUCED, log entry 82). -/
def execIdleTimerExpire (target : Nat) (s : State) : Result :=
  ok (let st := pstateOf target
    if target = 0 || 5 ≤ target || s.pwr.trans.isSome || s.board.inReset || s.pwr.state.code + 1 != target || s.idleValue st = 0 then s
    else if s.failFor st true != 0 then s.restartOne target
    else (s.advanceTo (Tab.get 0 s.pwr.idleFrom target + s.idleValue st)).beginEntry st)

/-- ENTRY_DONE, R749 and R759. -/
def execEntryDone (s : State) : Result := ok s.entryDone

/-- WAKE_EVENT of a source and port, R751. -/
def execWakeEvent (source port : Nat) (s : State) : Result :=
  ok (if s.board.inReset then s else s.wakeSourceActs source port)

/-- RAIL_GOOD, R837. -/
def execRailGood (rail : Nat) (s : State) : Result := ok (s.railGood rail)

/-- RAIL_GOOD_TIMEOUT, R757 and R839. -/
def execRailGoodTimeout (s : State) : Result := ok s.railTimeout

/-- RAIL_GOOD_FALL, R839. -/
def execRailGoodFall (rail : Nat) (s : State) : Result :=
  ok (match s.pwr.trans with
    | some t => if !t.wake && t.step == 1 && t.rail == rail then s.railOff t else s
    | none => s)

/-- OSC_READY, R756. -/
def execOscReady (s : State) : Result := ok s.oscReady

/-- MEM_READY, R756 and R795. -/
def execMemReady (gib width ranks rate : Nat) (popError : Bool) (s : State) : Result :=
  ok (s.memoryReady gib width ranks rate popError)

/-- WAKE_STEP_TIMEOUT, R757. -/
def execWakeStepTimeout (s : State) : Result := ok s.stepTimeout

/-- LOGIC_READY, R756. -/
def execLogicReady (s : State) : Result := ok s.logicReady

/-- AON_RESET_RELEASE: the always-on domain leaves its power-on reset and drives PWR_EN_CORE (R837). -/
def execAonResetRelease (s : State) : Result :=
  ok (let s := s.powerLost
    let t : Transition := { from_ := .off, dest := .run, wake := true, step := 1, stepBy := s.time.ticks + msTicks 20 }
    { s with pwr := { state := .off, trans := some t, railEn := [(0, true)] }, board := { s.board with aonReady := true } })

/-- POWER_ON: PWR_GOOD_CORE rises (R817); the straps are sampled (R845). -/
def execPowerOn (split bar4 : Bool) (s : State) : Result :=
  ok { s with board := { s.board with strapSplit := split, strapBar4 := bar4 } }.coreGood

/-- PWR_GOOD_CORE_FALL: everything is lost, and the fatal state with it (R725, R775). -/
def execPwrGoodCoreFall (s : State) : Result := ok s.offReached

/-- SYS_RST_N_ASSERT: low for 10 µs (R842). In Off a wake begins, and waits for the rise (DEDUCED, log entry 44). -/
def execSysRstNAssert (s : State) : Result :=
  ok (if s.pwr.state == .off && s.pwr.trans.isNone then
      let s := s.startWake .run 1 0
      { s with board := { s.board with sysRstN := false, inReset := true }, pwr := { s.pwr with railEn := [] } }
    else
      let s := s.coldReset 1 false
      { s with board := { s.board with sysRstN := false, inReset := true } })

/-- SYS_RST_N_RELEASE: the post leaves reset, or the wake from Off goes on (R842); the straps are sampled (R845). -/
def execSysRstNRelease (split bar4 : Bool) (s : State) : Result :=
  ok (let held := s.board.inReset
    let s := { s with board := { s.board with sysRstN := true, inReset := false, strapSplit := split, strapBar4 := bar4 } }
    if !held then s
    else match s.pwr.trans with
      | some t => (s.setEn 0 true).setTrans { t with stepBy := s.time.ticks + msTicks 20 }
      | none => s.coldWake 1)

/-- WAKE_N_ASSERT: WAKE_N falls, and stays low or rises again (R753). -/
def execWakeNAssert (stays : Bool) (s : State) : Result :=
  ok (let s := { s with board := { s.board with wakeN := false } }
    let s := if s.board.inReset then s else s.wakeEvent 1 0
    { s with board := { s.board with wakeN := !stays } })

/-- WARM_RESET: GLB_RESET with WARM (R819, R775). -/
def execWarmReset (s : State) : Result := ok s.askWarm

/-- WARM_RESET_DONE: the clerk restarts and sets READY (R819). -/
def execWarmResetDone (s : State) : Result :=
  ok (if !s.board.warming then s else
    { s with board := { s.board with warming := false }, clerk := { s.clerk with ready := true } }.count 0x110)

/-- COLD_RESET: GLB_RESET with COLD (R823); the straps are sampled (R845). -/
def execColdReset (split bar4 : Bool) (s : State) : Result :=
  ok (if s.pwr.state == .off && s.pwr.trans.isNone then s
    else { s with board := { s.board with strapSplit := split, strapBar4 := bar4 } }.coldWake 2)

/-- FUNCTION_LEVEL_RESET of a physical function, or of one of its virtual functions (R504, R792). -/
def execFunctionLevelReset (fn : Nat) (vf : Option Nat) (s : State) : Result :=
  ok (if 2 ≤ fn || (fn == 1 && !s.glb.hostSplit) then s
    else match vf with
      | some n => if n < 64 then s.flrVf fn n else s
      | none => s.flrPf fn)

end Sys2Proof.Machine
end

