-- ==== Sys2Proof/Machine/HostMem.lean ====
section
/-!
DEFINITION. The host links, virtual functions and BAR4 (R780 to R794), bulk-memory errors and scrub (R800, R801, R804),
and the HST and MEM registers.
-/

namespace Sys2Proof.Machine

/-- Source of a function's host link, and of a memory channel, R705. -/
def hostSource (f : Nat) : Nat := 0x070 + f
def memSource (ch : Nat) : Nat := 0x380 + 0x10 * ch
/-- Counter k of a memory channel. -/
def channelCount (ch k : Nat) : Nat := memBase + 0x400 + 0x40 * ch + 8 * k
/-- The channel of a bulk-memory offset, R796. -/
def channelOf (o : Nat) : Nat := o / 256 % 8

namespace State

/-- Does a physical function exist, R780? -/
def hasFn (s : State) (f : Nat) : Bool := f == 0 || (f == 1 && s.glb.hostSplit)

/-! ### Links, R755, R794 and R843 -/

/-- A link leaves L0 for Detect, or Hot Reset: a function level reset of its functions, counted and told (R794, R817). -/
def linkDown (s : State) (f : Nat) : State :=
  if !s.hasFn f || !(s.hostFn f).up then s else
    let s := s.flrPf f
    let s := s.setHostFn f { s.hostFn f with up := false, speed := 0, width := 0, pm := 0 }
    (s.count (hstKey f + 0x130)).raise (hostSource f) 0x16 1

/-- A link has finished training and is in L0; of a link that was up it is a retraining. A throttled link stays at
16.0 GT/s or below (R706). -/
def linkUp (s : State) (f speed width : Nat) : State :=
  let fits := 1 ≤ speed && speed ≤ 5 && [1, 2, 4, 8, 16].contains width && (width ≤ 8 || !s.glb.hostSplit)
  if !s.hasFn f || !fits then s else
    let s := if (s.hostFn f).up then s.count (hstKey f + 0x138) else s
    let s := s.setHostFn f { s.hostFn f with
      up := true, perst := false, pm := 0, width := width, speed := if s.flt.slowLink then min speed 4 else speed }
    if f = 0 then { s with pwr := { s.pwr with pcieWake := false } } else s

/-! ### Virtual functions, R788 and R789 -/

/-- Queues, daybooks, chain channels and vectors that a function owns. -/
def ownsQueue (s : State) (f q : Nat) : Bool := q < 4096 && s.fnOfQueue q == f
def ownsBook (s : State) (f b : Nat) : Bool := b < 256 && s.fnOfBook b == f
def ownsChan (s : State) (f k : Nat) : Bool := k < 128 && isChain k && s.fnOfChan k == f

/-- HST_VF_ERR of virtual function n of f while the functions of a list hold their resources: OVERLAP,
OUT_OF_RANGE (DEDUCED, log entry 50). -/
def vfCheck (s : State) (f n : Nat) (held : List Nat) : Nat :=
  let qs := s.vfQueues f n
  let bs := s.vfBooks f n
  let cs := s.vfChans f n
  let vs := s.vfVectors f n
  let out := qs.any (fun q => !s.ownsQueue f q) || bs.any (fun b => !s.ownsBook f b) || cs.any (fun k => !s.ownsChan f k)
    || vs.any (fun v => 2048 ≤ v) || 64 < qs.length || 16 < bs.length || 32 < vs.length
  let used := qs.any (fun q => (s.queue q).state != .disabled) || bs.any (fun b => (s.book b).state != .disabled)
    || cs.any (fun k => (s.chan k).state != .disabled)
  let shared := held.any (fun m => qs.any (s.vfQueues f m).contains || bs.any (s.vfBooks f m).contains
    || cs.any (s.vfChans f m).contains || vs.any (s.vfVectors f m).contains)
  flag (used || shared) + 2 * flag out

/-- The check of virtual functions 0 to n - 1 in ascending number. -/
def vfGive (s : State) (f : Nat) (n : Nat) : List Nat × Tab Nat :=
  (upto 0 n).foldl (fun a k =>
    let e := s.vfCheck f k a.1
    if e = 0 then (a.1 ++ [k], a.2) else (a.1, Tab.set 0 a.2 k e)) ([], [])

/-- VF Enable of a function is set with n virtual functions, or cleared. -/
def vfEnable (s : State) (f n : Nat) : State :=
  if !s.hasFn f || 64 < n then s
  else if n = 0 then s.setHostFn f { s.hostFn f with vfEnabled := 0, vfHeld := [] }
  else if (s.hostFn f).vfEnabled != 0 then s
  else
    let r := s.vfGive f n
    s.setHostFn f { s.hostFn f with vfEnabled := n, vfHeld := r.1, vfErr := r.2 }

/-- A write of an HST_VF register at its offset in the block, R788. -/
def vfWrite (s : State) (f o v : Nat) : State :=
  if !s.hasFn f || o < 0x1000 || 0x1800 ≤ o then s
  else match regRow (hstKey f + o) with
    | none => s
    | some r => if (s.hostFn f).vfEnabled != 0 then s.count (hstKey f + 0x150) else s.setReg (hstKey f + o) (Nat.land v r.rw)

/-! ### Poisoned bursts and scrub, R800 and R801 -/

/-- Does an access of n bytes at an offset touch a poisoned burst? -/
def poisonIn (s : State) (o n : Nat) : Option Nat := s.mem.poisoned.find? (fun b => o < b + 64 && b < o + n)

/-- A spilled frame whose cells are lost is discarded; which frame the cells belong to the spec leaves to the
device (DEDUCED, log entry 31). -/
def spillLost (s : State) : State :=
  let l := s.frames.filter (fun e => match e.2 with | some f => f.place != FramePlace.hold | none => false)
  let r := s.fresh
  match l[r.1.toNat % max 1 l.length]? with
  | none => s
  | some e => (r.2.count (memBase + 0x118)).discardFrame e.1

/-- A packet held for ordering whose cells are lost is freed, and its number is no longer held; which packet the cells
belong to the spec leaves to the device (DEDUCED, log entry 31). -/
def poolLost (s : State) : State :=
  let l := s.stream.accounts.flatMap (fun e => e.2.held.map (fun h => (e.1, h)))
  let r := s.fresh
  match l[r.1.toNat % max 1 l.length]? with
  | none => s
  | some x =>
    let a := r.2.account x.1
    ((r.2.setAccount x.1 { a with held := a.held.filter (fun h => h.seq != x.2.seq) }).count (memBase + 0x118)).freeFrame x.2.frame

/-- A read of a poisoned or uncorrectable burst, R801. -/
def poisonRead (s : State) (o master : Nat) : State :=
  let b := o - o % 64
  let ledger := o < spillBase && !(retentionBase ≤ o && o < journalBase)
  let s := if s.mem.poisoned.contains b then s.count (memBase + 0x120) else s
  let s := (s.count (channelCount (channelOf o) 1)).raise (memSource (channelOf o)) 0x02 (if ledger then 2 else 1) b 0 master
  if ledger then s
  else if retentionBase ≤ o && o < reservedBase then
    if s.pwr.saved then { s with pwr := { s.pwr with savedBad := true } } else s
  else if spillBase ≤ o && o < s.poolBase then s.spillLost
  else if s.poolBase ≤ o && o < s.swBase then s.poolLost
  else s

/-- The patrol scrub reads the burst at an offset: clean, correctable, or uncorrectable, which it marks
poisoned (DEDUCED, log entry 51). -/
def scrub (s : State) (o found : Nat) : State :=
  if s.memCap ≤ o || !s.mem.ready then s else
    let b := o - o % 64
    let s := { s with mem := { s.mem with scrubAt := b, scrubDone := b * 100 / s.memCap } }
    let ch := channelOf o
    match found with
    | 1 => (s.count (channelCount ch 2)).raise (memSource ch) 0x01 0 b
    | 2 => if s.mem.poisoned.contains b then s
      else { s with mem := { s.mem with poisoned := addBit b s.mem.poisoned } }.count (channelCount ch 3)
    | _ => s

/-! ### BAR4, R783, R786 and R787 -/

/-- An access of function f at a BAR4 offset (DEDUCED, log entry 50). -/
def bar4 (s : State) (f x n : Nat) (write : Bool) (data : List Byte) : State :=
  if !s.hasFn f || !s.glb.bar4En || 2 ^ 36 < x + n then s
  else
    let s := s.hostTouch
    let o := s.swBase + s.regBits (hstKey f + 4) 0 8 * GiB + x
    if s.swEnd < o + n then
      let s := s.count (hstKey f + 0x140)
      if write then s else { s with readData := List.replicate n 0xFF, readBad := false }
    else if write then s.writeBulk o (data.take n)
    else match s.poisonIn o n with
      | some b => { s.poisonRead b (hostSource f) with readData := [], readBad := true }
      | none => { s with readData := s.readBulk o n, readBad := false }

/-! ### Registers -/

/-- A word of function f's HST block. -/
def hstWord (s : State) (f o : Nat) : Nat :=
  let h := s.hostFn f
  if !s.hasFn f then 0
  else if o = 0 then flag h.up + 2 * h.speed + 16 * h.width + 512 * flag s.glb.hostSplit + 1024 * flag s.glb.bar4En + 2048 * h.pm
    + 8192 * f + 16384 * h.vfEnabled
  else if 0x100 ≤ o ∧ o < 0x158 then (s.counter (hstKey f + o / 8 * 8)).toNat / 2 ^ (32 * (o / 4 % 2)) % 2 ^ 32
  else if 0x1000 ≤ o ∧ o < 0x1800 ∧ o % 0x20 = 0x10 then Tab.get 0 h.vfErr ((o - 0x1000) / 0x20)
  else if 0xC0000 ≤ o ∧ o < 0xC0100 then
    (upto 0 32).foldl (fun n i =>
      let v := (o - 0xC0000) * 8 + i
      n + flag (s.msixPending.contains ⟨f, v⟩ && s.msixEntry f v == hstKey f + 0x80000 + 16 * v) * 2 ^ i) 0
  else if (regRow (hstKey f + o)).isSome then s.reg (hstKey f + o)
  else 0

/-- A word of the MEM block. -/
def memWord (s : State) (o : Nat) : Nat :=
  let m := s.mem
  let half (v : Nat) : Nat := v / 2 ^ (32 * (o / 4 % 2)) % 2 ^ 32
  let base (v : Nat) : Nat := if m.ready then half v else 0
  if o = 0 then m.trained + 256 * flag m.popError + 512 * flag m.ready + 1024 * flag m.spilling + 2048 * flag m.spillStopped
  else if o = 4 then m.gibPerChannel + 256 * m.devWidth + 4096 * m.ranks + 65536 * m.rate
  else if o = 8 then s.memCap / GiB
  else if o = 0x10 ∨ o = 0x14 then base spillBase
  else if o = 0x18 ∨ o = 0x1C then base s.poolBase
  else if o = 0x20 ∨ o = 0x24 then base s.swBase
  else if o = 0x28 ∨ o = 0x2C then base s.swEnd
  else if o = 0x38 then s.holdLevel
  else if o = 0x40 ∨ o = 0x44 then half s.spillLevel
  else if o = 0x48 then m.scrubDone
  else if (0x100 ≤ o ∧ o < 0x180) ∨ (0x400 ≤ o ∧ o < 0x600) then half (s.counter (memBase + o / 8 * 8)).toNat
  else if (regRow (memBase + o)).isSome then s.reg (memBase + o)
  else 0

/-- A write of MEM_SPILL_MARKS, R804. -/
def writeMarks (s : State) (v : Nat) : State :=
  if bits v 16 16 < bits v 0 16 && bits v 0 16 ≤ 1024 then s.setReg (memBase + 0x30) v else s.count (memBase + 0x128)

/-- A write of MEM_SCRUB_HOURS. -/
def writeScrub (s : State) (v : Nat) : State :=
  if 1 ≤ v % 256 && v % 256 ≤ 168 then s.setReg (memBase + 0x34) (v % 256) else s

end State

/-! ### Meanings -/

/-- HOST_LINK_DOWN of a function's link. -/
def execHostLinkDown (fn : Nat) (s : State) : Result := ok (s.linkDown fn)

/-- HOST_LINK_UP: a link reaches L0 at a speed and width. -/
def execHostLinkUp (fn speed width : Nat) (s : State) : Result := ok (s.linkUp fn speed width)

/-- PERST_ASSERT: PERSTn_N falls; PERST1_N is ignored while HOST_SPLIT is low (R843). -/
def execPerstAssert (fn : Nat) (s : State) : Result :=
  ok (if !s.hasFn fn then s else
    let s := s.linkDown fn
    s.setHostFn fn { s.hostFn fn with perst := true })

/-- AER_ERROR: a correctable, or another uncorrectable, error of a link (R794). -/
def execAerError (fn : Nat) (corrected : Bool) (s : State) : Result :=
  ok (if !s.hasFn fn then s
    else if corrected then (s.count (hstKey fn + 0x110)).raise (hostSource fn) 0x14 0
    else (s.count (hstKey fn + 0x118)).raise (hostSource fn) 0x15 1)

/-- COMPLETION_ERROR: a poisoned completion of a device read of an address, or its timeout (R794). The reading unit acts
in its own event. -/
def execCompletionError (fn : Nat) (timeout : Bool) (addr : Nat) (s : State) : Result :=
  ok (if !s.hasFn fn then s
    else (s.count (hstKey fn + (if timeout then 0x128 else 0x120))).raise (hostSource fn) 0x15 1 addr)

/-- VF_ENABLE: VF Enable of a function is set with n virtual functions, or cleared with 0 (R789). -/
def execVfEnable (fn n : Nat) (s : State) : Result := ok (s.vfEnable fn n)

/-- HST_VF_WRITE: a function writes one of its HST_VF registers (R788). -/
def execHstVfWrite (fn off : Nat) (v : BitVec 32) (s : State) : Result := ok (s.hostTouch.vfWrite fn off v.toNat)

/-- BAR4_ACCESS, R786. -/
def execBar4Access (fn off n : Nat) (write : Bool) (data : List Byte) (s : State) : Result := ok (s.bar4 fn off n write data)

/-- BAR2_WRITE: it has no effect and is counted (R784). -/
def execBar2Write (fn _off : Nat) (s : State) : Result :=
  ok (if s.hasFn fn then s.hostTouch.count (hstKey fn + 0x148) else s)

/-- MEM_SPILL_MARKS_WRITE. -/
def execMemSpillMarksWrite (v : BitVec 32) (s : State) : Result := ok (s.hostTouch.writeMarks v.toNat)

/-- MEM_SCRUB_HOURS_WRITE. -/
def execMemScrubHoursWrite (v : BitVec 32) (s : State) : Result := ok (s.hostTouch.writeScrub v.toNat)

/-- SCRUB_READ: clean (0), correctable (1) or uncorrectable (2). -/
def execScrubRead (off found : Nat) (s : State) : Result := ok (s.scrub off found)

/-- POISONED_READ: a unit of the device reads a burst that is poisoned, or that is found uncorrectable. -/
def execPoisonedRead (off master : Nat) (uncorrectable : Bool) (s : State) : Result :=
  ok (if s.memCap ≤ off || !(uncorrectable || s.mem.poisoned.contains (off - off % 64)) then s else s.poisonRead off master)

end Sys2Proof.Machine
end

