-- ==== Sys2Proof/Machine/Boot.lean ====
section
/-!
DEFINITION. Secure boot (R846 to R848) and the debug port (R849, R850).
-/

namespace Sys2Proof.Machine

/-! ### Slot images, R846 and R847 -/

/-- Fields of a slot header, R846. -/
def slotVersion (i : List Byte) : Nat := leAt i 8 4
def slotRollback (i : List Byte) : Nat := leAt i 0xC 1
def slotBodyLen (i : List Byte) : Nat := leAt i 0x10 4
def slotKey (i : List Byte) : List Byte := slice i 0x50 97
def slotSignature (i : List Byte) : List Byte := slice i 0xC0 96

namespace State

/-- The checks of R847 in order: header, key, signature, rollback level and body (DEDUCED, log entry 52). -/
def slotPasses (s : State) (i : List Byte) : Bool :=
  leAt i 0 4 == 0x3146575A && leAt i 4 2 == 1
    && Config.sha384 (slotKey i) == s.glb.fwKeyHash
    && Config.ecdsaVerify (slotKey i) (Config.sha384 (slice i 0 0xC0)) (slotSignature i)
    && s.glb.rollback.toNat ≤ slotRollback i
    && (1 ≤ slotBodyLen i && slotBodyLen i ≤ 16773120)
    && Config.sha384 (slice i 0x1000 (slotBodyLen i)) == slice i 0x20 48

/-- The first of slot A and slot B that passes. -/
def bootSlot (s : State) (a b : List Byte) : Option (List Byte) :=
  if s.slotPasses a then some a else if s.slotPasses b then some b else none

/-- Does the boot ROM run now: in a wake from Deep sleep or Off once the oscillators are ready, or at a post that runs no
firmware yet? A failed boot, a population error and a reset that holds stop it. -/
def bootRuns (s : State) : Bool :=
  !s.board.inReset && !s.board.bootFailed && !s.board.warming && !s.mem.popError &&
    (match s.pwr.trans with
    | some t => t.wake && (t.from_ == .deep || t.from_ == .off) && 3 ≤ t.step && !s.pwr.booted
    | none => s.pwr.state != .off && s.pwr.state != .deep && !s.clerk.ready)

/-- The image of a slot runs: the version registers show it, READY is set, and the fused level rises (R848). The vendor
region comes from the image, which states its version in a form the spec does not give: a free value (R434)
(DEDUCED, log entry 52). -/
def runImage (s : State) (i : List Byte) : State :=
  let v := s.fresh
  let s := v.2
  { s with
    glb := { s.glb with fwVer := BitVec.ofNat 32 (slotVersion i), vendorMcVer := v.1.setWidth 32
                        rollback := BitVec.ofNat 8 (max s.glb.rollback.toNat (slotRollback i)) }
    clerk := { s.clerk with ready := true }
    pwr := { s.pwr with booted := true } }

/-- The boot ROM tries slot A and then slot B (R847). -/
def boot (s : State) (a b : List Byte) : State :=
  if !s.bootRuns then s
  else match s.bootSlot a b with
    | some i => s.runImage i
    | none => { s with board := { s.board with bootFailed := true } }

/-! ### Debug, R850 -/

/-- The bytes that a challenge returns: a nonce, which is a free value, the clock identity and eight bytes of
0 (DEDUCED, log entry 53). -/
def challengeBytes (s : State) : List Byte × State :=
  let a := s.fresh
  let b := a.2.fresh
  let c := b.2.fresh
  let d := c.2.fresh
  (leBytes 8 a.1.toNat ++ leBytes 8 b.1.toNat ++ leBytes 8 c.1.toNat ++ leBytes 8 d.1.toNat
    ++ leBytes 8 s.glb.clockId.toNat ++ zeros 8, d.2)

/-- DBG_CHALLENGE; refused after three invalid responses. -/
def challenge (s : State) : State :=
  if 3 ≤ s.board.badResponses then { s with readData := [], readBad := true } else
    let r := s.challengeBytes
    { r.2 with board := { r.2.board with challenge := some r.1 }, readData := r.1, readBad := false }

/-- Is a response valid: a signature over the outstanding challenge under a key with the fused hash? -/
def responseValid (s : State) (signature key : List Byte) : Bool :=
  match s.board.challenge with
  | none => false
  | some ch => Config.sha384 key == s.glb.debugKeyHash && Config.ecdsaVerify key (Config.sha384 ch) signature

/-- DBG_RESPONSE: it uses up the challenge; a valid one opens debug access, another is counted (DEDUCED, log
entry 53). -/
def response (s : State) (signature key : List Byte) : State :=
  let bd := { s.board with challenge := none }
  if s.responseValid signature key then { s with board := { bd with debugOpen := true } }
  else { s with board := { bd with badResponses := min 3 (s.board.badResponses + 1) } }

end State

/-! ### Commands -/

/-- BOOT_DONE, R845 to R848. -/
def execBootDone (a b : List Byte) (s : State) : Result := ok (s.boot a b)

/-- DBG_CHALLENGE, R850. -/
def execDbgChallenge (s : State) : Result := ok s.challenge

/-- DBG_RESPONSE, R850. -/
def execDbgResponse (signature key : List Byte) (s : State) : Result := ok (s.response signature key)

/-- TRST_ASSERT: TRST_N low resets the test access port, and with it the challenge it holds (R849) (DEDUCED,
log entry 53). -/
def execTrstAssert (s : State) : Result := ok { s with board := { s.board with challenge := none, trstN := true } }

end Sys2Proof.Machine
end

