-- ==== Sys2Proof/Machine/RegRead.lean ====
section
/-!
DEFINITION. Reads and writes of BAR0 (R806 to R816, R823, R827): the word at every offset, the latches of each requester,
and what a direct write does.
-/

namespace Sys2Proof.Machine

/-! ### The GLB and CMD blocks -/

/-- GLB_FUSES. -/
def glbFuses (g : Glb) : Nat := flag g.metrology + 2 * flag g.debugLocked + 4 * flag g.secureBoot + 256 * g.rollback.toNat

/-- GLB_VERSION. -/
def glbVersion (g : Glb) : Nat := g.stepping.toNat + 256 * flag g.metrology + 512 * flag g.industrial + 65536 * 5

def BenchState.code : BenchState → Nat
  | .free => 0
  | .open => 1
  | .fitted => 2
  | .pegged => 3

def PegAt.code : PegAt → Nat
  | .safe => 0
  | .cycle => 1
  | .time => 2

namespace State

/-- A word of the GLB block. -/
def glbWord (s : State) (o : Nat) : Nat :=
  let g := s.glb
  if o = 0 then 0x97401DB7
  else if o = 4 then glbVersion g
  else if o = 8 then (if s.clerk.ready then g.fwVer.toNat else 0)
  else if o = 0x10 ∨ o = 0x14 then g.clockId.toNat / 2 ^ (32 * (o / 4 % 2)) % 2 ^ 32
  else if o = 0x18 ∨ o = 0x1C then g.macBase.toNat / 2 ^ (32 * (o / 4 % 2)) % 2 ^ 32
  else if o = 0x20 then (if g.metrology then g.hallmark.toNat else 0)
  else if o = 0x24 then (if g.metrology then g.hallmarkVer.toNat + 65536 * flag g.hallmarkValid else 0)
  else if o = 0x28 then glbFuses g
  else if o = 0x2C then flag g.hostSplit + 2 * flag g.bar4En
  else if o = 0x34 then g.resetCause.toNat
  else if 0x100 ≤ o ∧ o < 0x120 then (s.counter (o / 8 * 8)).toNat / 2 ^ (32 * (o / 4 % 2)) % 2 ^ 32
  else if o = 0x120 then g.lastIgnored.toNat
  else if (regRow o).isSome then s.reg o
  else 0

/-- Word 0x00 of the BENCH_STATUS reply. -/
def benchWord (s : State) (b : Nat) : Nat :=
  let k := s.bench b
  k.state.code + 4 * k.scope + 16 * flag (k.owner == 2048) + 65536 * k.settings.length

/-- The bench that is PEGGED; only one is at a time (R598). -/
def peggedBench (s : State) : Option Nat := (upto 0 4).find? (fun b => (s.bench b).state == .pegged)

/-- T(c + d) for the current cycle c, in 2^-16 ns: under the pattern in force, or with the pattern of a pending change from its
target cycle onward (R176). -/
def cycleStart (s : State) (d : Nat) (changed : Bool) : Nat :=
  match s.span.change with
  | some ch =>
    let k := modSub 32 ch.target.toNat s.span.cycle.toNat
    if changed && k < d then s.span.tn + k * s.lcU s.span.pattern + (d - k) * s.lcU ch.pattern
    else s.span.tn + d * s.lcU s.span.pattern
  | none => s.span.tn + d * s.lcU s.span.pattern

/-- Span time of a peg's tick, in 2^-16 ns, as BENCH_STATUS and CMD_PEG_TIME show it (R597). -/
def pegShown (s : State) (b : Bench) : Nat :=
  if b.pegOnCycle then
    s.cycleStart (modSub 32 b.pegCycle.toNat s.span.cycle.toNat) false - (if b.pegAt == .safe then s.span.pi * 65536 else 0)
  else b.pegTime / 2 ^ 24

/-- CMD_STATUS, R606. -/
def cmdStatus (s : State) : Nat :=
  flag s.clerk.ready
    + (upto 0 4).foldl (fun n b => n + 2 ^ (1 + b) * flag ((s.bench b).state != .free)
      + 2 ^ (5 + b) * flag ((s.bench b).state == .fitted)) 0
    + 512 * flag s.peggedBench.isSome + 1024 * s.peggedBench.getD 0 + 4096 * s.clerk.waiting.length
    + 2 ^ 19 * s.clerk.carryQueue.length

/-- A word of the CMD block. -/
def cmdWord (s : State) (o : Nat) : Nat :=
  let k := s.peggedBench.map s.bench
  if o = 0 then s.cmdStatus
  else if 0x10 ≤ o ∧ o < 0x20 then s.benchWord (o / 4 % 4)
  else if 0x20 ≤ o ∧ o < 0x2C then (match k with | some b => bits (toStamp (s.pegShown b)) (32 * (o / 4 % 4)) 32 | none => 0)
  else if o = 0x2C then (match k with | some b => b.pegCycle.toNat | none => 0)
  else if o = 0x30 then s.clerk.carrySeq.toNat
  else if 0x100 ≤ o ∧ o < 0x170 then (s.counter (cmdBase + o / 8 * 8)).toNat / 2 ^ (32 * (o / 4 % 2)) % 2 ^ 32
  else 0

/-- A word of the DRY block. -/
def dryWord (s : State) (o : Nat) : Nat :=
  let e := o / 0x40000
  let r := o % 0x40000
  if r = 0 then s.engineActive e
  else if r = 4 then (Tab.get {} s.dray.engines e).owner
  else if 0x100 ≤ r ∧ r < 0x110 then (s.counter (dryBase e + r / 8 * 8)).toNat / 2 ^ (32 * (r / 4 % 2)) % 2 ^ 32
  else if 0x1000 ≤ r ∧ r < 0x3000 then s.chanWord (32 * e + (r - 0x1000) / 0x100) (r % 0x100)
  else 0

/-- The word at an aligned BAR0 offset as physical function f reads it; reserved offsets read zero (R785, R806). -/
def bar0Word (s : State) (f o : Nat) : Nat :=
  if o < 0x100000 then s.glbWord o
  else if o < 0x200000 then s.timWord (o - timBase)
  else if o < 0x300000 then s.spnWord (o - spnBase)
  else if o < 0x490000 then s.prtWord ((o - 0x300000) / 0x10000) (o % 0x10000)
  else if o < 0x4F0000 then 0
  else if o < 0x500000 then
    (if 0x100 ≤ o - prtCommon ∧ o - prtCommon < 0x118 then (s.counter (o / 8 * 8)).toNat / 2 ^ (32 * (o / 4 % 2)) % 2 ^ 32
      else s.commonWord (o - prtCommon))
  else if o < 0x600000 then s.stmWord (o - stmBase)
  else if o < 0x700000 then s.jnrWord (o - jnrBase)
  else if o < 0x800000 then s.dryWord (o - 0x700000)
  else if o < 0x900000 then 0
  else if o < 0xA00000 then s.cmdWord (o - cmdBase)
  else if o < 0xB00000 then s.bntWord (o - bntBase)
  else if o < 0xC00000 then s.asyWord (o - asyBase)
  else if o < 0xD00000 then s.fltWord (o - fltBase)
  else if o < 0xE00000 then s.pwrWord (o - pwrBase)
  else if o < 0xF00000 then s.hstWord f (o - hstBase)
  else if o < 0x1000000 then s.memWord (o - memBase)
  else if o < 0x2000000 then s.pageRead ((o - 0x1000000) / 0x1000) (o % 0x1000)
  else 0

end State

/-! ### Latches, R810 -/

/-- Is the aligned offset in a block with 64-bit registers from a to b, in steps of 8? -/
def inWide (o a b : Nat) : Bool := a ≤ o && o < b

/-- Is the 8-aligned BAR0 offset the low word of a 64-bit register? -/
def wideAt (o : Nat) : Bool :=
  let r := o % 0x10000
  let d := o % 0x40000
  let c := o % 0x100
  if o < 0x100000 then inWide o 0x100 0x120
  else if o < 0x200000 then
    let t := o - timBase
    inWide t 0xC0 0xE8 || (inWide t 0x1000 0x2B00 && inWide c 0x30 0x58)
  else if o < 0x300000 then inWide (o - spnBase) 0x200 0x290 || inWide (o - spnBase) 0x80000 0xC0000
  else if o < 0x490000 then
    r == 0x40 || inWide r 0x100 0x3D8 || inWide r 0x4100 0x4190 || inWide r 0x8400 0x8618 || inWide r 0xC400 0xC600
      || (inWide r 0xC100 0xC200 && r % 0x20 == 0x10)
  else if o < 0x500000 then inWide o (prtCommon + 0x100) (prtCommon + 0x118)
  else if o < 0x600000 then inWide (o - stmBase) 0x200 0x2E0
  else if o < 0x700000 then inWide (o - jnrBase) 0x100 0x1B0 || inWide (o - jnrBase) 0x10000 0x12000
  else if o < 0x800000 then
    inWide d 0x100 0x110 || (inWide d 0x1000 0x3000 && (c == 0x18 || c == 0x30 || c == 0x38 || inWide c 0x80 0xD0))
  else if o < 0x900000 then false
  else if o < 0xA00000 then inWide (o - cmdBase) 0x100 0x170
  else if o < 0xB00000 then inWide (o - bntBase) 0x30 0x50 || inWide (o - bntBase) 0x100 0x190
  else if o < 0xC00000 then inWide (o - asyBase) 0x100 0x130
  else if o < 0xD00000 then inWide (o - fltBase) 0x100 0x178 || inWide (o - fltBase) 0x6000 0x6800
  else if o < 0xE00000 then inWide (o - pwrBase) 0x80 0xE0
  else if o < 0xF00000 then inWide (o - hstBase) 0x100 0x158
  else if o < 0x1000000 then
    let m := o - memBase
    inWide m 0x10 0x30 || m == 0x40 || inWide m 0x100 0x180 || inWide m 0x400 0x600
  else false

/-- The register groups that a read of the first register latches: first offset, and number of words. -/
def latchGroups : List (Nat × Nat) :=
  [(timBase, 4), (timBase + 0x20, 3), (spnBase + 0x18, 3), (cmdBase + 0x20, 3), (fltBase + 0x44, 7), (pwrBase + 8, 3)]

/-- The latching register or group that holds an aligned offset: its first offset and number of words. -/
def latchOf (o : Nat) : Option (Nat × Nat) :=
  if wideAt (o - o % 8) then some (o - o % 8, 2)
  else latchGroups.find? (fun g => g.1 ≤ o && o < g.1 + 4 * g.2)

namespace State

/-- The key of a requester's latch for a word; each function's HST block has its own. -/
def latchKey (req f o : Nat) : Nat := req * 2 ^ 32 + (if hstBase ≤ o ∧ o < memBase then hstKey f + (o - hstBase) else o)

/-- Fill a requester's latch for words 1 to n of a group with the values of this tick. -/
def fillLatch (s : State) (req f b : Nat) : Nat → State
  | 0 => s
  | n + 1 =>
    let o := b + 4 * (n + 1)
    { s with latches := Tab.set none s.latches (latchKey req f o) (some (BitVec.ofNat 32 (s.bar0Word f o))) }.fillLatch req f b n

/-- The TLP counters are free values at every reading. -/
def beforeRead (s : State) (f o : Nat) : State :=
  if hstBase + 0x100 ≤ o ∧ o < hstBase + 0x110 ∧ o % 8 = 0 then s.touchTlp f else s

/-- One 4-byte read at an aligned offset by a requester (0, 1 or 2 for the clerk), seeing function f's instance (R810). -/
def readWord (s : State) (req f o : Nat) : Nat × State :=
  let s := s.beforeRead f o
  match latchOf o with
  | none => (s.bar0Word f o, s)
  | some g =>
    if o = g.1 then (s.bar0Word f o, s.fillLatch req f g.1 (g.2 - 1))
    else match Tab.get none s.latches (latchKey req f o) with
      | some w => (w.toNat, s)
      | none => (s.bar0Word f o, s)

/-- n consecutive 4-byte reads in ascending offset (R808). -/
def readWords (s : State) (req f o : Nat) : Nat → List Byte × State
  | 0 => ([], s)
  | n + 1 =>
    let r := s.readWord req f o
    let t := r.2.readWords req f (o + 4) n
    (leBytes 4 r.1 ++ t.1, t.2)

/-- A bad access: no effect, counted, and shown with KIND 1 (R807, R808, R823) (DEDUCED, log entry 54). -/
def badAccess (s : State) (req o : Nat) : State :=
  { s with glb := { s.glb with lastIgnored := BitVec.ofNat 32 (o % 2 ^ 26 + 2 ^ 26 * req + 2 ^ 28) } }.count 0x108

/-- A read of n bytes by a physical function (R808, R809). -/
def hostRead (s : State) (f o n : Nat) : State :=
  if n = 0 then { s with readData := [], readBad := false }
  else if o / 64 != (o + n - 1) / 64 then { s.badAccess f o with readData := [], readBad := true }
  else if n = 8 && o % 8 == 0 && wideAt o then
    let s := s.beforeRead f o
    { s with readData := leBytes 4 (s.bar0Word f o) ++ leBytes 4 (s.bar0Word f (o + 4)), readBad := false }
  else
    let a := o - o % 4
    let r := s.readWords f f a ((o + n - 1) / 4 - o / 4 + 1)
    { r.2 with readData := (r.1.drop (o - a)).take n, readBad := false }

/-! ### Direct writes, R812 to R815 and R823 -/

/-- Is the offset in the region of a port that is not in service (R827)? -/
def outOfService (s : State) (o : Nat) : Bool :=
  0x300000 ≤ o && o < 0x490000 && !s.inService ((o - 0x300000) / 0x10000)

/-- The row that holds the settings of an aligned offset as function f sees it, and the key of its word. -/
def rowAt (s : State) (f o : Nat) : Option (RegRow × Nat) :=
  if s.outOfService o then none
  else
    let k := if hstBase ≤ o ∧ o < memBase then hstKey f + (o - hstBase) else o
    (regRow k).map (fun r => (r, k))

/-- Would a write of a word change an RWL field? (DEDUCED, log entry 55). -/
def changesRwl (s : State) (f o v : Nat) : Bool :=
  match s.rowAt f o with
  | some r => Nat.land v r.1.rwl != Nat.land (s.bar0Word f o) r.1.rwl
  | none => false

/-- An RWL write is counted once, with the register's offset and its requester (R815) (DEDUCED, log entry 55). -/
def ignoredWrite (s : State) (req o : Nat) : State :=
  { s with glb := { s.glb with lastIgnored := BitVec.ofNat 32 (o % 2 ^ 26 + 2 ^ 26 * req) } }.count 0x100

/-- A message held back by a table entry whose mask bit clears is sent (R793). -/
def unmask (s : State) (e : Nat) : State :=
  if s.regBits (e + 12) 0 1 = 1 then s else
    let go := s.msixPending.filter (fun m => s.msixEntry m.fn m.vector == e)
    let s := { s with msixPending := s.msixPending.filter (fun m => s.msixEntry m.fn m.vector != e) }
    go.foldl (fun s m => s.sendMsix m.fn m.vector) s

/-- Is a settings key the mask word of an MSI-X entry: the last of its four words? -/
def isMaskWord (k : Nat) : Bool :=
  k % 16 == 12 && ((hstBase + 0x80000 ≤ k && k < hstBase + 0x88000) || (hstKey 1 + 0x80000 ≤ k && k < hstKey 1 + 0x88000)
    || 0x80000000 ≤ k)

/-- Write the RW fields of a word (R812). -/
def writeRw (s : State) (f o v : Nat) : State :=
  match s.rowAt f o with
  | none => s
  | some r =>
    if r.1.rw = 0 then s else
      let s := s.setReg r.2 (s.reg r.2 - Nat.land (s.reg r.2) r.1.rw + Nat.land v r.1.rw)
      if isMaskWord r.2 then s.unmask (r.2 - 12) else s

/-- GLB_RESET by a function, R823; the straps stay as they stand. -/
def writeReset (s : State) (req v : Nat) : State :=
  if bits v 16 16 != 0xA55A || bits v 0 2 = 0 then s.badAccess req 0x30
  else if bit v 1 then (if s.pwr.state == .off && s.pwr.trans.isNone then s else s.coldWake 2)
  else s.askWarm

/-- A 4-byte write of an aligned offset: fields other than RWL act by their own codes. -/
def writeFields (s : State) (req f o v : Nat) : State :=
  if o = 0x30 then s.writeReset req v
  else if fltBase + 0x1000 ≤ o ∧ o < fltBase + 0x5000 then
    (if bit v 8 then s.force ((o - fltBase - 0x1000) / 4) (s.regBits (fltBase + 0x10) 0 8) (s.regBits (fltBase + 0x10) 8 2) else s)
  else if 0x700000 ≤ o ∧ o < 0x800000 then
    let r := o % 0x40000
    if 0x1000 ≤ r && r < 0x3000 && r % 0x100 == 0x20 then
      s.chainDoorbell f (32 * ((o - 0x700000) / 0x40000) + (r - 0x1000) / 0x100) else s
  else if hstBase + 0x1000 ≤ o ∧ o < hstBase + 0x1800 then s.vfWrite f (o - hstBase) v
  else if o = memBase + 0x30 then s.writeMarks v
  else if o = memBase + 0x34 then s.writeScrub v
  else s.writeRw f o v

/-- A 4-byte write at an aligned offset below the doorbell pages; `skip` when the word's RWL fields are judged with the
other word of their register. -/
def writeWord (s : State) (req f o v : Nat) (skip : Bool) : State :=
  let reg := match latchOf o with | some g => g.1 | none => o
  let s := if !skip && s.changesRwl f o v then s.ignoredWrite req reg else s
  s.writeFields req f o v

/-- A 4-byte write of physical function f anywhere in BAR0. -/
def hostWriteWord (s : State) (f o v : Nat) : State :=
  if o < 0x1000000 then s.writeWord f f o v false
  else if o < 0x2000000 then
    let q := (o - 0x1000000) / 0x1000
    if s.requesterOfQueue q == f || (0x100 ≤ o % 0x1000 && s.isCommandQueue q && s.fnOfQueue q == f) then
      s.pageWrite q (o % 0x1000) v else s
  else s

/-- A write of n bytes by a physical function (R807, R809, R815) (DEDUCED, log entry 55). -/
def hostWrite (s : State) (f o n v : Nat) : State :=
  if n = 4 && o % 4 == 0 then s.hostWriteWord f o (v % 2 ^ 32)
  else if n = 8 && o % 8 == 0 then
    if wideAt o then
      let s := if s.changesRwl f o (v % 2 ^ 32) || s.changesRwl f (o + 4) (v / 2 ^ 32) then s.ignoredWrite f o else s
      (s.writeWord f f o (v % 2 ^ 32) true).writeWord f f (o + 4) (v / 2 ^ 32) true
    else (s.hostWriteWord f o (v % 2 ^ 32)).hostWriteWord f (o + 4) (v / 2 ^ 32)
  else s.badAccess f o

/-! ### A virtual function's BAR0, R791 -/

/-- Pending bits of 32 vectors of a virtual function's table. -/
def vfPending (s : State) (f n : Nat) : Nat :=
  let base := bits (s.vfWord f n 0xC) 0 11
  (upto 0 32).foldl (fun x i => x + 2 ^ i * flag (s.msixPending.contains ⟨f, base + i⟩
    && s.msixEntry f (base + i) == vfTable f n + 16 * i)) 0

/-- The word at an aligned offset of virtual function n of f. -/
def vfBarWord (s : State) (f n o : Nat) : Nat :=
  let w := s.vfWord f n 0
  let k := o / 0x1000
  if !(s.hostFn f).vfHeld.contains n then 0
  else if o < 0x40000 then (if k < bits w 16 7 then s.pageRead (bits w 0 12 + k) (o % 0x1000) else 0)
  else if o < 0x41000 then
    (match (s.vfChans f n)[(o - 0x40000) / 0x100]? with | some c => s.chanWord c (o % 0x100) | none => 0)
  else if 0x70000 ≤ o ∧ o < 0x70200 then s.reg (vfTable f n + (o - 0x70000))
  else if o = 0x78000 then s.vfPending f n
  else 0

/-- A read of n bytes by virtual function n of f; its registers have no latches (DEDUCED, log entry 54). -/
def vfRead (s : State) (f vf o n : Nat) : State :=
  if n = 0 then { s with readData := [], readBad := false }
  else if o / 64 != (o + n - 1) / 64 then { s.badAccess f o with readData := [], readBad := true }
  else
    let a := o - o % 4
    { s with readData := ((wordsOf (s.vfBarWord f vf) a ((o + n - 1) / 4 - o / 4 + 1)).drop (o - a)).take n, readBad := false }

/-- A 4-byte write by virtual function n of f: doorbell pages, channel doorbells and its MSI-X table. -/
def vfWriteWord (s : State) (f n o v : Nat) : State :=
  let me := 2 + 64 * f + n
  let w := s.vfWord f n 0
  let k := o / 0x1000
  if !(s.hostFn f).vfHeld.contains n then s
  else if o < 0x40000 then (if k < bits w 16 7 && o % 0x1000 < 0x100 then s.pageWrite (bits w 0 12 + k) (o % 0x1000) v else s)
  else if o < 0x41000 then
    (match (s.vfChans f n)[(o - 0x40000) / 0x100]? with
      | some c => if o % 0x100 == 0x20 then s.chainDoorbell me c else s
      | none => s)
  else if 0x70000 ≤ o ∧ o < 0x70200 then
    let e := vfTable f n + (o - 0x70000)
    match regRow e with
    | none => s
    | some r =>
      let s := s.setReg e (Nat.land v r.rw)
      if isMaskWord e then s.unmask (e - 12) else s
  else s

/-- A write of n bytes by a virtual function (DEDUCED, log entry 54). -/
def vfHostWrite (s : State) (f vf o n v : Nat) : State :=
  if n = 4 && o % 4 == 0 then s.vfWriteWord f vf o (v % 2 ^ 32)
  else if n = 8 && o % 8 == 0 then (s.vfWriteWord f vf o (v % 2 ^ 32)).vfWriteWord f vf (o + 4) (v / 2 ^ 32)
  else s.badAccess f o

/-- Does requester number fn exist: a physical function, or one of its enabled virtual functions? -/
def hasRequester (s : State) (fn : Nat) : Bool :=
  if fn < 2 then s.hasFn fn
  else s.hasFn ((fn - 2) / 64) && (fn - 2) % 64 < (s.hostFn ((fn - 2) / 64)).vfEnabled

/-- Bytes of the BAR0 of a requester, R783 and R791. -/
def barSize (fn : Nat) : Nat := if fn < 2 then 0x4000000 else 0x80000

end State

/-! ### Commands -/

/-- BAR0_BAD_ACCESS: a write of another size or alignment or with a clear byte enable, or a read that crosses a 64-byte
boundary (R807, R808). -/
def execBar0BadAccess (fn off : Nat) (read : Bool) (s : State) : Result :=
  ok (if !s.hasRequester fn || State.barSize fn ≤ off then s else
    let s := s.hostTouch.badAccess (if fn < 2 then fn else (fn - 2) / 64) off
    if read then { s with readData := [], readBad := true } else s)

/-- LATCHING_READ: a read of n bytes of BAR0 (R808 to R810). -/
def execLatchingRead (fn off n : Nat) (s : State) : Result :=
  ok (if !s.hasRequester fn || State.barSize fn < off + n then s
    else if fn < 2 then s.hostTouch.hostRead fn off n
    else s.hostTouch.vfRead ((fn - 2) / 64) ((fn - 2) % 64) off n)

/-- REGISTER_WRITE: a write of n bytes of BAR0 (R807, R809, R811 to R815). -/
def execRegisterWrite (fn off n : Nat) (v : BitVec 64) (s : State) : Result :=
  ok (if !s.hasRequester fn || State.barSize fn < off + n then s
    else if fn < 2 then s.hostTouch.hostWrite fn off n v.toNat
    else s.hostTouch.vfHostWrite ((fn - 2) / 64) ((fn - 2) % 64) off n v.toNat)

/-- REG_READ, R604: 1 to 64 words as software reads them, with the clerk's own latches (DEDUCED, log entry 56). -/
def execRegRead (c : Cmd) (s : State) : Result :=
  runStep 0x0004 c s (fun s =>
    let o := c.n 0 4
    let k := c.f 4 0 8
    if o % 4 != 0 || 0x1000000 < o + 4 * k then Eff.refuse s .inconsistent
    else let r := s.readWords 2 (s.cmdFn c) o k; Eff.ok r.2 none r.1)

/-- REG_WRITE, R604: one register as software writes it, but for GLB_RESET (R823) (DEDUCED, log entry 56). -/
def execRegWrite (c : Cmd) (s : State) : Result :=
  runStep 0x0005 c s (fun s =>
    let o := c.n 0 4
    if o % 4 != 0 || 0x1000000 ≤ o || o = 0x30 then Eff.refuse s .inconsistent
    else Eff.ok (s.writeWord 2 (s.cmdFn c) o (c.n 4 4) false))

end Sys2Proof.Machine
end

