-- ==== Sys2Proof/Machine/BenchFit.lean ====
section
/-!
DEFINITION. What a bench leaves in force, and its dry fit (R171, R326, R592 and the checks of every chapter).
-/

namespace Sys2Proof.Machine

/-! ### Cutting lists against the span cycle, R171. Positions are list time in 1/(25 * 2^16) ns. -/

/-- A run of equal gates, HOLD and SPAN, with its ends. -/
structure GateRun where
  start : Nat
  stop : Nat
  gates : Nat
  hold : Bool
  span : Bool
deriving DecidableEq, Repr

/-- The parts of entries, the first at a position, that lie in a window from a to b, counted from a. -/
def coverFrom (a b : Nat) : Nat → List GateEntry → List GateRun
  | _, [] => []
  | at_, e :: es =>
    let en := at_ + e.interval * nsQ
    let f := max a at_
    let u := min b en
    let rest := coverFrom a b en es
    if u ≤ f then rest else { start := f - a, stop := u - a, gates := e.gates.toNat, hold := e.hold, span := e.span } :: rest

/-- Join neighbours that agree. -/
def joinRuns : List GateRun → List GateRun
  | [] => []
  | g :: t =>
    match joinRuns t with
    | [] => [g]
    | h :: r =>
      if g.stop = h.start && g.gates == h.gates && g.hold == h.hold && g.span == h.span then { g with stop := h.stop } :: r
      else g :: h :: r

/-- What a list does over a window of list time that may run past its end. -/
def coverOf (l : GateList) (a b : Nat) : List GateRun := joinRuns (coverFrom a b 0 (l.entries ++ l.entries ++ l.entries))

/-- Join neighbouring SPAN runs into one. -/
def spanRuns (l : List GateRun) : List GateRun :=
  joinRuns ((l.filter (·.span)).map (fun g => { g with gates := 0, hold := false }))

/-- The list window over the part of a cycle from ns x for n ns, with the bell window under the list of the cycle before. -/
def cycleWindow (l : GateList) (off x n : Nat) : List GateRun :=
  let a := (l.cycleNs + x - off) * nsQ
  coverOf l a (a + n * nsQ)

/-- Has a part of the cycle a run of SPAN entries of at least a length? -/
def hasSpanRun (l : GateList) (off x n w : Nat) : Bool :=
  (spanRuns (cycleWindow l off x n)).any (fun g => g.start + w ≤ g.stop)

/-- The open windows of a class in a list that is not always open, in ns. -/
def openWindows (l : GateList) (c : Nat) : List Nat :=
  closedRuns c none ((l.entries ++ l.entries).map (fun e => { e with gates := ~~~e.gates }))

namespace State

/-- Valid patterns of the image in force. -/
def validPatterns (s : State) : List Nat := if s.span.imageValid then (upto 0 8).filter (imgValid s.span.image) else []

/-- Does an own launch at a reference instant of ns after T(n) lie inside one SPAN run of the port's list? -/
def launchInSpan (t : State) (p : Nat) (l : GateList) (x w : Nat) : Bool :=
  let off := t.gateOffset p
  let at_ : Int := (((l.cycleNs + x) * nsQ : Nat) : Int) - (off * nsQ : Nat) - t.txDelay p * 25
  let a := (at_ - (w : Int)).toNat
  let b := (at_ + ((imgGuard t.span.image * nsQ : Nat) : Int)).toNat
  (spanRuns (coverOf l a b)).any (fun g => g.start = 0 && g.stop == b - a)

/-- The checks of R171 on one scheduled port, in the order of its table: pairs of a failure and the settings involved. -/
def gateChecks (t : State) (p : Nat) : List (Bool × (Setting → Bool)) :=
  let img := t.span.image
  let pats := t.validPatterns
  let off := t.gateOffset p
  let gs := imgGuard img * nsQ
  let isSpan := t.isSpanPort p
  let list (x : Setting) : Bool := setsPort [0x0510] p x
  let image (x : Setting) : Bool := x.opcode == 0x0312
  let cfg (x : Setting) : Bool := setsPort [0x0511] p x
  let mode (x : Setting) : Bool := setsPort [0x0410] p x || (p < 16 && setsPort [0x0410] (p - p % 4) x)
  let spanSet (x : Setting) : Bool := setsPort [0x0311] p x
  let any (x : Setting) : Bool := list x || image x || cfg x || spanSet x
  let lists := pats.map (fun i => (i, t.gateList p i))
  let held := lists.filter (fun l => !l.2.entries.isEmpty)
  let dynX (i : Nat) : Nat := imgLb img + imgS img i * imgLs img i
  let owned (i : Nat) : List Nat := (upto 1 (imgS img i)).filter (fun j => (t.slotOwner i j).isSome)
  let mine (i : Nat) : List Nat := (upto 1 (imgS img i)).filter (t.bentOwnsSlot i)
  let fw := t.fitTime p (t.fragMin p 0)
  let ff := (upto 0 8).filter (bit (t.fragFitMask p))
  [ (held.any (fun l => !l.2.headerOk), list),
    (!t.inService p, fun x => mode x || cfg x),
    (lists.any (fun l => l.2.entries.isEmpty), fun x => list x || image x || cfg x),
    (held.any (fun l => l.2.entries.foldl (fun n e => n + e.interval) 0 != l.2.cycleNs || l.2.cycleNs != imgLc img l.1),
      fun x => list x || image x),
    (!pats.isEmpty && imgLb img < off, fun x => cfg x || image x),
    (decide (1 < (held.map (fun l => cycleWindow l.2 off 0 (imgLb img))).eraseDups.length), any),
    (held.any (fun l => l.2.entries.any (fun e => e.span && (!isSpan || e.gates != 0))), fun x => list x || spanSet x),
    (isSpan && held.any (fun l => (cycleWindow l.2 off (dynX l.1) (imgM img l.1 * imgLm img l.1)).any (fun g => g.gates != 0)), any),
    (isSpan && held.any (fun l =>
      !hasSpanRun l.2 off 0 (imgLb img) (bellWire img + 2 * gs)
        || !hasSpanRun l.2 off (dynX l.1 + imgM img l.1 * imgLm img l.1) (imgNit img l.1) (carryWire img 1024 + 2 * gs)
        || (owned l.1).any (fun j => !hasSpanRun l.2 off (imgLb img + (j - 1) * imgLs img l.1) (imgLs img l.1)
            (spanWire img (imgSlotMax img l.1) + 2 * gs))), any),
    (isSpan && (t.ptime p).delay != 0 && held.any (fun l =>
      (t.kingCapable && (!t.launchInSpan p l.2 0 (bellWire img)
        || !t.launchInSpan p l.2 (dynX l.1 + imgM img l.1 * imgLm img l.1) (carryWire img 1024)))
        || (mine l.1).any (fun j => !t.launchInSpan p l.2 (imgLb img + (j - 1) * imgLs img l.1)
            (spanWire img (imgSlotMax img l.1)))),
      fun x => any x || setsPort [0x0214] p x),
    (ff.any (fun c => t.levelOf p c == 0 || held.any (fun l =>
      (openWindows l.2 c).any (fun n => n * nsQ < 2 * fw + t.gateGuard p * nsQ))),
      fun x => list x || image x || cfg x || setsPort [0x0418] p x) ]

/-- R171 over every port in scheduled mode, in ascending index (DEDUCED, log entry 57). -/
def gateFit (t : State) : List FitCheck :=
  ((upto 0 25).filter t.gateScheduled).flatMap (fun p =>
    (t.gateChecks p).map (fun k => { fails := k.1, involves := k.2 }))

/-! ### What a bench leaves in force -/

/-- One setting applies. The SET_FLOWs of a bench apply together. -/
def applySetting (s : State) (x : Setting) : State :=
  let op := x.opcode
  if op / 256 == 2 then s.applyTime x
  else if op / 256 == 3 then s.applySpan x
  else if op / 256 == 4 then s.applyMac x
  else if op / 256 == 5 then s.applyGate x
  else match op with
    | 0x0610 => s.applyService x
    | 0x0611 => s.applyService x
    | 0x0620 => s.applyStreamFilter x
    | 0x0621 => s.applyFlowMeter x
    | 0x0710 => s.applyStreams x
    | 0x0711 => s.applyRecovery x
    | 0x0712 => s.applyAccounts x
    | 0x0713 => s.applyMaskRule x
    | 0x0714 => s.applyLearnRule x
    | 0x0715 => s.applyStreamGlobal x
    | 0x0810 => s.applyMicrocode x
    | 0x0811 => s.applyHook x
    | 0x0812 => s.applyClassRules x
    | 0x0813 => s.applySteerEntries x
    | 0x0814 => s.applyHookTable x
    | 0x0910 => s.applyWqService x
    | 0x0A10 => s.applyDrayChannel x
    | 0x0B10 => s.applyBent x
    | 0x0D10 => s.applyFault x
    | 0x0D11 => s.applyFault x
    | 0x7F10 => s.applyFault x
    | 0x0E10 => s.applyPower x
    | _ => s

/-- Every setting of a bench, in the order of acceptance. -/
def applySettings (s : State) (xs : List Setting) : State := (xs.foldl applySetting s).applyFlows xs

/-- The entries of a bench's SET_ACCOUNTS with what AUTO assigns, R367 and R371. -/
def resolveAccounts (s : State) (xs : List Setting) : List Setting :=
  let entries (x : Setting) : List (List Byte) := if x.opcode == 0x0712 then Setting.entries 128 x else []
  let auto (b : List Byte) : Bool := fieldAt b 0 22 1 == 1 && fieldAt b 0 23 1 == 0
  let t := ((xs.flatMap entries).filter (fun b => !auto b)).foldl applyAccountEntry s
  (xs.foldl (fun (r : List Setting × List Nat) x =>
    if x.opcode != 0x0712 then (r.1 ++ [x], r.2)
    else
      let new := assignAuto t (entries x) r.2
      (r.1 ++ [{ x with image := new.flatten }],
        ((new.filter auto).map (fun b => fieldAt b 0 0 22)).reverse ++ r.2)) ([], [])).1

/-- The settings of a bench as its dry fit completes them. -/
def resolve (s : State) (xs : List Setting) : List Setting := s.resolveAccounts (s.resolveFlows xs)

/-- The clerk writes each identifier that AUTO assigned into its host entry, R371 (DEDUCED, log entry 59). -/
def writeAccounts (s : State) (xs : List Setting) : State :=
  (xs.filter (fun x => x.opcode == 0x0712)).foldl (fun (s : State) x =>
    ((upto 0 (leAt x.params 8 4)).filter (fun i => fieldAt x.image (128 * i) 22 1 == 1 && fieldAt x.image (128 * i) 23 1 == 0)).foldl
      (fun s i => s.writeHost x.fn (leAt x.params 0 8 + 128 * i) (slice x.image (128 * i) 4)) s) s

end State

/-! ### The whole dry fit -/

/-- The setting that a bench command writes, for the commands that later ones of a bench replace whole (R591). -/
def settingKey (x : Setting) : Nat × Nat :=
  (x.opcode, match x.opcode with
    | 0x0714 => fieldAt x.params 0 0 4
    | 0x0814 => fieldAt x.params 8 0 2
    | 0x0A10 => fieldAt x.params 0 0 2 + 4 * fieldAt x.params 0 8 5
    | 0x0D10 => fieldAt x.params 0 0 8
    | _ => 0)

/-- The settings of some opcodes that no later setting of the bench replaces (DEDUCED, log entry 59). -/
def liveSettings (ops : List Nat) : List Setting → List Setting
  | [] => []
  | x :: xs =>
    if ops.contains x.opcode && !xs.any (fun y => settingKey y == settingKey x) then x :: liveSettings ops xs
    else liveSettings ops xs

/-- A check of one setting. -/
def oneCheck (st : Status) (fails : Bool) (x : Setting) (detail : Option Nat := none) : FitCheck :=
  { status := st, fails := fails, involves := (· == x), detail := detail }

/-- The port index that a bench command other than SET_PORT_MODE writes settings for, R326. -/
def portNamed (x : Setting) : Option Nat :=
  if [0x0213, 0x0214, 0x0215, 0x0217, 0x0311, 0x0411, 0x0412, 0x0413, 0x0414, 0x0415, 0x0416, 0x0417, 0x0418, 0x0510, 0x0511,
      0x0610, 0x0611, 0x0612].contains x.opcode then some (fieldAt x.params 0 0 8)
  else if x.opcode == 0x0715 then some (fieldAt x.params 8 0 8)
  else none

/-- The opcodes of mirrored settings, R611. -/
def mirroredOps : List Nat := [0x0710, 0x0711, 0x0712, 0x0713, 0x0714, 0x0810, 0x0812, 0x0813, 0x0814, 0x0910]

/-- Every check of a bench in the order of the chapters: `s` is the state it acts on, `t` the one it would
leave (DEDUCED, log entry 57, 58). -/
def fitChecks (s t : State) (scope : Nat) (xs : List Setting) : List FitCheck :=
  let unserved (x : Setting) : Bool := (portNamed x).any (fun p => p ≤ 24 && !t.inService p)
  let mirrored (x : Setting) : Bool := mirroredOps.contains x.opcode
  let streams := xs.filter (fun x => x.opcode / 256 == 7 || x.opcode == 0x0620 || x.opcode == 0x0621)
  timeFit s t xs ++ spanFit s t xs ++ t.gateFit
    ++ (upto 0 25).flatMap (portFit s t xs)
    ++ [{ fails := xs.any unserved, involves := unserved }]
    ++ (streams.filter (fun x => x.opcode != 0x0714) ++ liveSettings [0x0714] xs).map (fun x =>
        { status := (streamFit s t x).getD .ok, fails := (streamFit s t x).isSome
          involves := fun y => streamFit s t y == streamFit s t x })
    ++ ((xs.filter (fun x => [0x0810, 0x0812, 0x0813].contains x.opcode)) ++ liveSettings [0x0814] xs).map (fun x =>
        let r := joineryFit t x
        oneCheck ((r.map (·.1)).getD .ok) r.isSome x (if x.opcode == 0x0810 then r.map (·.2) else none))
    ++ (xs.filter (fun x => x.opcode == 0x0910)).map (fun x =>
        oneCheck .inconsistent ((s.queue (fieldAt x.params 0 0 12)).kind != .tx) x)
    ++ (liveSettings [0x0A10] xs).map (fun x => oneCheck .inconsistent (!s.fitDrayChannel x) x)
    ++ (liveSettings [0x0B10] xs).map (fun x => oneCheck .inconsistent (bentFit s x).isSome x)
    ++ [{ fails := s.bent.role != .solo && scope == 0 && xs.any mirrored, involves := mirrored }]
    ++ (liveSettings [0x0D10] xs).map (fun x => oneCheck .inconsistent (faultUnfit x) x)
    ++ (liveSettings [0x0E10] xs).map (fun x => oneCheck .inconsistent (powerUnfit x) x)

/-- The last accepted setting among those a check involves, as R592 names it. -/
def namedSetting (xs : List Setting) (involves : Setting → Bool) : Nat :=
  match ((upto 0 xs.length).zip xs).reverse.find? (fun e => involves e.2) with
  | some e => e.2.opcode + 65536 * e.1
  | none => 0xFFFF0000

/-- STAGE_US, R593. -/
def stageUs (b : Bench) : Nat := 20 + ceilDiv (benchBytes b) 16384

namespace State

/-- The state a bench acts on: with the pegged bench of the post taken as applied (R592). -/
def fitBase (s : State) : State :=
  match s.peggedBench with
  | some h => s.applySettings (s.bench h).settings
  | none => s

/-- Dry fit of a bench: the completed settings, or a status and detail word. -/
def dryFit (s : State) (b : Bench) : Sum (List Setting) (Status × Nat) :=
  let base := s.fitBase
  let xs := base.resolve b.settings
  match (fitChecks base (base.applySettings xs) b.scope xs).find? (·.fails) with
  | none => .inl xs
  | some k => .inr (k.status, k.detail.getD (namedSetting xs k.involves))

end State

end Sys2Proof.Machine
end

