-- ==== Sys2Proof/Machine/Bench.lean ====
section
/-!
DEFINITION. The bench commands, staging and pegs (R590 to R601), and the partner's answers (R581, R582, R600).
-/

namespace Sys2Proof.Machine

namespace State

/-! ### The instant of a peg, R596 and R597 -/

/-- The earlier of the two instants that the candidate sequences give. -/
def cycleEarliest (s : State) (d : Nat) : Nat := min (s.cycleStart d false) (s.cycleStart d true)

/-- Cycles ahead of the first boundary whose safe point lies at or after an instant. -/
def safeCycle (s : State) (u : Nat) : Nat :=
  ((upto 1 4096).find? (fun d => u + s.span.pi * 65536 ≤ s.cycleEarliest d)).getD 4096

/-- A peg's instant, fixed at execution; none when it comes too early. -/
def pegInstant (s : State) (c : Cmd) (us : Nat) (b : Bench) : Option Bench :=
  let ahead := s.nowU + us * 65536000
  match c.f 0 0 2 with
  | 1 =>
    let n := BitVec.ofNat 32 (c.n 4 4)
    let d := modSub 32 n.toNat s.span.cycle.toNat
    if d = 0 || 2 ^ 31 ≤ d || s.cycleEarliest d < ahead then none
    else some { b with pegAt := .cycle, pegCycle := n, pegOnCycle := true, pegTime := s.cycleStart d false * 2 ^ 24, pegTick := none }
  | 2 =>
    let u := ofStamp (c.n 8 12)
    if u < ahead then none
    else some { b with pegAt := .time, pegCycle := 0, pegOnCycle := false, pegTime := u * 2 ^ 24, pegTick := none }
  | _ =>
    if s.integrated then
      let d := s.safeCycle ahead
      some { b with pegAt := .safe, pegCycle := s.span.cycle + BitVec.ofNat 32 d, pegOnCycle := true, pegTick := none
                    pegTime := (s.cycleStart d false - s.span.pi * 65536) * 2 ^ 24 }
    else
      some { b with pegAt := .safe, pegCycle := 0, pegOnCycle := false, pegTick := some (s.time.ticks + usTicks us)
                    pegTime := s.countAfter (usTicks us) }

/-- A bench becomes PEGGED with its completed settings; it is staged STAGE_US later unless it is staged already. -/
def pegBench (s : State) (h : Nat) (b : Bench) (xs : List Setting) (staged : Bool) : State :=
  (s.setBench h { b with state := .pegged, settings := xs, stageUs := stageUs b, staged := staged
                         stagedBy := some (s.time.ticks + usTicks (stageUs b)) }).writeAccounts xs

/-- A bench whose dry fit failed is OPEN, and the refusal is counted. -/
def fitRefused (s : State) (h : Nat) (b : Bench) : State :=
  (s.setBench h { b with state := .open, stageUs := 0 }).count (cmdCount 4)

/-- What BENCH_PEG refuses before its dry fit: AT 3 and a bad time (R46), another pegged bench (R595), and a named cycle or time
on a post that is not integrated (R40) (DEDUCED, log entry 58). -/
def pegRefusal (s : State) (c : Cmd) : Option Status :=
  let a := c.f 0 0 2
  if a = 3 || (a = 2 && 1000000000 ≤ stampNs (c.n 8 12)) then some .inconsistent
  else if s.peggedBench.isSome then some .busy
  else if a != 0 && !s.integrated then some .notActive
  else none

/-! ### At the instant, R112 and R599 -/

/-- Frames that wait for a fetch are handled under the settings in force when their identification began (R382). -/
def settleWaiting (s : State) (xs : List Setting) : State :=
  if !xs.any (fun x => x.opcode / 256 == 7) then s
  else
    let ids := s.stream.waiting
    ids.foldl (fun s id => s.secondDomain id) { s with stream := { s.stream with waiting := [] } }

/-- The opcodes whose settings the SETTINGS region holds, R617; streams, functions and accounts have regions of their own. -/
def settingsRegion : List Nat := [0x0713, 0x0714, 0x0810, 0x0812, 0x0813, 0x0814, 0x0910]

/-- A mirrored setting enters the ledger in place of one with the same parameters, and the active post mirrors it, R620; the
queue service of a ring is part of its configuration as well (DEDUCED, log entry 76). -/
def noteSetting (s : State) (x : Setting) : State :=
  if !settingsRegion.contains x.opcode then s
  else
    let it := LedgerItem.setting x.opcode x.params x.image
    let same (i : LedgerItem) : Bool := match i with | .setting op ps _ => op == x.opcode && ps == x.params | _ => false
    let s := { s with bent := { s.bent with ledger := s.bent.ledger.filter (fun i => !same i) ++ [it] } }.mirror (.state it)
    if x.opcode == 0x0910 then
      let q := fieldAt x.params 0 0 12
      s.mirror (.state (ringItem q (s.queue q)))
    else s

/-- Every setting of a bench takes effect at one tick. -/
def takeEffect (s : State) (xs : List Setting) : State :=
  let s := (s.settleWaiting xs).portsPrepare
  let o := s
  let s := if xs.any (fun x => x.opcode == 0x0810 || x.opcode == 0x0811) then s.beginLoad else s
  xs.foldl noteSetting (((s.applySettings xs).portsReact o xs).timeReact xs)

/-- A pegged bench applies, is FREE again, and its BENCH_PEG completes with the cycle number. -/
def firePeg (s : State) (h : Nat) : State :=
  let b := s.bench h
  if b.state != .pegged then s else
    let s := ((s.setBench h {}).takeEffect b.settings).count (cmdCount 5)
    s.finishKind (fun k => k == WaitKind.peg h) .ok (some s.nowCycle.toNat)

/-- The peg instant of a bench comes, but for a cycle boundary, at which CYCLE_BOUNDARY applies it (DEDUCED,
log entry 60). -/
def pegComes (s : State) (h : Nat) : State :=
  let b := s.bench h
  if b.state != .pegged then s
  else match b.pegTick with
    | some t => (s.advanceTo t).firePeg h
    | none =>
      if b.pegOnCycle then
        let d := modSub 32 b.pegCycle.toNat s.span.cycle.toNat
        if b.pegAt != .safe || (1 < d && d < 2 ^ 31) then s
        else if d = 1 then (s.advanceToU (s.nextT - s.span.pi * 65536)).firePeg h
        else s.firePeg h
      else (s.advanceToU (ceilDiv b.pegTime (2 ^ 24))).firePeg h

/-- A pegged bench at cycle n applies at the tick of T(n), R112. -/
def cyclePegs (s : State) (n : BitVec 32) : State :=
  match s.peggedBench with
  | some h => if (s.bench h).pegAt == .cycle && (s.bench h).pegOnCycle && (s.bench h).pegCycle == n then s.firePeg h else s
  | none => s

/-- Does a pegged bench's instant lie more than 20 microseconds ahead (R598)? -/
def pegFar (s : State) (b : Bench) : Bool :=
  match b.pegTick with
  | some t => s.time.ticks + usTicks 20 < t
  | none => s.nowU + 20 * 65536000 < s.pegShown b

/-! ### The partner's answers -/

/-- The answer to a BENCH_PEG of a BENT bench: once the partner has staged it, the bench is PEGGED here as
well (R600) (DEDUCED, log entry 60). -/
def stageAnswer (s : State) (w : Waiting) (h : Nat) (st : Status) (detail : Nat) : State :=
  let b := s.bench h
  if !st.good then s.finishWaiting w st (some detail)
  else if s.peggedBench.isSome then s.finishWaiting w .busy
  else match s.dryFit b with
    | .inr e => (s.fitRefused h b).finishWaiting w e.1 (some e.2)
    | .inl xs =>
      match s.pegInstant w.cmd (stageUs b) b with
      | none => (s.count (cmdCount 6)).finishWaiting w .late (some (stageUs b))
      | some b' =>
        let s := s.pegBench h b' xs true
        { s with clerk := { s.clerk with waiting := s.clerk.waiting.map (fun v =>
          if v.no == w.no then { v with kind := WaitKind.peg h } else v) } }

/-- The partner's answer to the command with a number (DEDUCED, log entry 97). -/
def partnerAnswer (s : State) (ref : Nat) (st : Status) (clamps detail : Nat) (reply : List Byte) : State :=
  match s.clerk.waiting.find? (fun (w : Waiting) => match w.kind with
      | .partner r _ => r == ref | .bent r _ _ _ => r == ref | .pegStage _ r _ => r == ref | _ => false) with
  | none => s
  | some w =>
    match w.kind with
    | .pegStage h _ _ => s.stageAnswer w h st detail
    | .bent _ own d _ =>
      if own.good then s.finishWaiting
          { w with clamps := w.clamps + clamps } (if st.good then (if own == .ok then st else own) else st)
          (some (if st.good then d else detail)) w.reply
      else s.finishWaiting { w with clamps := w.clamps + clamps } own (some d) w.reply
    | _ => s.finishWaiting { w with clamps := clamps } st (some detail) reply

end State

/-! ### Bench commands -/

/-- BENCH_OPEN, R590. A BENT bench has one handle at both posts. -/
def execBenchOpen (c : Cmd) (s : State) : Result :=
  runStep 0x0100 c s (fun s =>
    let free (h : Nat) : Bool := (s.bench h).state == .free
    let fromPartner := match c.origin with | .partner _ => true | _ => false
    let pick := if fromPartner && c.scope == 1 then (if free c.bench.toNat then some c.bench.toNat else none)
      else (upto 0 4).find? free
    match pick with
    | none => Eff.refuse s .noCapacity
    | some h =>
      Eff.ok (s.setBench h { state := .open, owner := (Cmd.queueOf c).getD 0, ownerPartner := fromPartner, scope := c.scope.toNat })
        (some h))

/-- BENCH_DRY_FIT, R592 and R593. -/
def execBenchDryFit (c : Cmd) (s : State) : Result :=
  runStep 0x0101 c s (fun s =>
    let h := c.bench.toNat
    let b := s.bench h
    match s.dryFit b with
    | .inr e => Eff.refuse (s.fitRefused h b) e.1 (some e.2)
    | .inl xs => Eff.ok ((s.setBench h { b with state := .fitted, stageUs := stageUs b }).writeAccounts xs) (some (stageUs b)))

/-- BENCH_PEG, R595 to R600: the dry fit is run again, then the instant is fixed. A BENT bench waits for the
partner (DEDUCED, log entry 60). -/
def execBenchPeg (c : Cmd) (s : State) : Result :=
  runStep 0x0102 c s (fun s =>
    let h := c.bench.toNat
    let b := s.bench h
    match s.pegRefusal c with
    | some st => Eff.refuse s st
    | none =>
      match s.dryFit b with
      | .inr e => Eff.refuse (s.fitRefused h b) e.1 (some e.2)
      | .inl xs =>
        match s.pegInstant c (stageUs b) b with
        | none => Eff.refuse (s.count (cmdCount 6)) .late (some (stageUs b))
        | some b' =>
          if c.scope == 1 && (Cmd.queueOf c).isSome then
            let r := s.toPartner 0x0102 c
            .wait r.2 (.pegStage h r.1 (s.time.ticks + msTicks 10)) 0
          else .wait (s.pegBench h b' xs false) (.peg h) 0)

/-- BENCH_DISCARD, R591 and R598. -/
def execBenchDiscard (c : Cmd) (s : State) : Result :=
  runStep 0x0103 c s (fun s =>
    let h := c.bench.toNat
    let b := s.bench h
    if b.state != .pegged then Eff.ok ((s.setBench h {}).count (cmdCount 8))
    else if !s.pegFar b then Eff.refuse s .busy
    else Eff.ok ((((s.setBench h {}).count (cmdCount 8)).count (cmdCount 7)).finishKind (fun k => k == WaitKind.peg h) .notActive))

/-- BENCH_STATUS. -/
def execBenchStatus (c : Cmd) (s : State) : Result :=
  runStep 0x0104 c s (fun s =>
    let b := s.bench c.bench.toNat
    let on := b.state == .pegged
    Eff.ok s none (leBytes 4 (s.benchWord c.bench.toNat) ++ leBytes 4 (benchBytes b) ++ leBytes 4 (min b.clamps (2 ^ 32 - 1))
      ++ leBytes 4 (if b.state == .fitted || on then b.stageUs else 0) ++ leBytes 4 (if on then b.pegAt.code else 0)
      ++ leBytes 4 (if on then b.pegCycle.toNat else 0) ++ leBytes 12 (if on then toStamp (s.pegShown b) else 0) ++ zeros 12))

/-! ### Events -/

/-- BENCH_STAGED: the clerk has staged a pegged bench, the execution point of its BENCH_PEG (R573). At the partner of a BENT
peg it is the confirmation that the serving post waits for (R600). -/
def execBenchStaged (h : Nat) (s : State) : Result :=
  ok (let b := s.bench h
    if b.state != .pegged || b.staged then s else
      let s := (s.advanceTo (b.stagedBy.getD 0)).setBench h { b with staged := true }
      if b.ownerPartner && b.scope == 1 then s.finishKind (fun k => k == WaitKind.peg h) .ok (some s.nowCycle.toNat) else s)

/-- BENCH_PEG_INSTANT: a peg instant that is not a cycle boundary is reached (R599). -/
def execBenchPegInstant (h : Nat) (s : State) : Result := ok (s.pegComes h)

/-- PARTNER_REPLY_RX: the partner's CMD_DONE and reply return over the tie beam (R858, R581, R600). -/
def execPartnerReplyRx (ref : Nat) (st : Status) (clamps detail : Nat) (reply : List Byte) (s : State) : Result :=
  ok (s.partnerAnswer ref st clamps detail reply)

/-- PARTNER_REPLY_TIMEOUT: the oldest command that has waited 10 ms for the partner ends (R582), and a BENT peg whose staging is
not confirmed ends with UNBRACED (R600). -/
def execPartnerReplyTimeout (s : State) : Result :=
  ok (match s.clerk.waiting.find? (fun (w : Waiting) => match w.kind with | .partner _ _ => true | .pegStage _ _ _ => true | _ => false) with
    | none => s
    | some w =>
      match w.kind with
      | .partner _ t => (s.advanceTo t).finishWaiting w .timeout
      | .pegStage _ _ t => (s.advanceTo t).finishWaiting w .unbraced
      | _ => s)

end Sys2Proof.Machine
end

