-- ==== Sys2Proof/Machine/SpanEvents.lean ====
section
/-!
DEFINITION. The events of the span-cycle engine (chapter "The span cycle"): the wire format of span frames, launches,
cycle boundaries, static slots, the dynamic segment, bells, start-up and yield, carriage, and the judging and relaying of
copies. Instants are in 2^-16 ns of span time.
-/

namespace Sys2Proof.Machine

/-! ### Wire format, R139 and its tables -/

/-- The common span header. -/
def spanHdrBytes (h : SpanHdr) : List Byte :=
  [BitVec.ofNat 8 h.subtype, BitVec.ofNat 8 (16 * h.version + 8 * flag h.channel + 2 * h.payload)] ++ beBytes 3 h.hops
    ++ [BitVec.ofNat 8 h.pattern] ++ beBytes 2 h.number ++ beBytes 4 h.cycle.toNat ++ beBytes 8 h.owner.toNat
    ++ beBytes 2 h.len ++ [BitVec.ofNat 8 (flag h.ackValid + 2 * h.ackPattern), BitVec.ofNat 8 h.ackCycle]

/-- The body of a bell. -/
def bellBytes (b : Bell) : List Byte :=
  beBytes 12 (toStamp b.start) ++ beBytes 4 b.lc ++ beBytes 2 b.pi ++ beBytes 1 b.kingPrio
    ++ [BitVec.ofNat 8 (flag b.raising + 2 * flag b.announce + 4 * flag b.dropped + 8 * flag b.yielding)]
    ++ beBytes 4 b.dhop ++ beBytes 3 b.hopLimit ++ [BitVec.ofNat 8 b.annPattern] ++ beBytes 4 b.annCycle.toNat
    ++ beBytes 4 b.setId.toNat ++ zeros 4

/-- The body and data of a carriage frame. -/
def carryBytes (c : Carry) : List Byte :=
  beBytes 12 (toStamp c.ref) ++ [BitVec.ofNat 8 c.kind, 0] ++ beBytes 2 c.part ++ beBytes 2 c.parts ++ zeros 2
    ++ beBytes 4 c.tag.toNat ++ c.data

/-- DATA of a carriage frame of KIND 1, R584 (PRESUMED, log entry 21). -/
def Carried.bytes (k : Carried) : List Byte :=
  beBytes 2 k.opcode ++ [BitVec.ofNat 8 (flag k.force), 0] ++ beBytes 4 k.seq.toNat ++ beBytes 2 k.params.length ++ zeros 2
    ++ k.params

/-- The reply of a carried command, R586. -/
def CarriedReply.bytes (r : CarriedReply) : List Byte :=
  beBytes 4 r.seq.toNat ++ beBytes 2 r.opcode ++ [BitVec.ofNat 8 r.status.code, BitVec.ofNat 8 (min 255 r.clamps)]
    ++ beBytes 4 r.detail.toNat

/-- What follows the common header of a launch. -/
def Launch.body (l : Launch) : List Byte :=
  match l.bell, l.carry with
  | some b, _ => bellBytes b
  | none, some c => carryBytes c
  | none, none => l.data

/-- How a copy lies in its window, R132. -/
inductive Placed where
  | valid | edge | misplaced
deriving DecidableEq, Repr

/-- R132 for a copy received at t; Pi and Dhop in ns. -/
def placed (pi dhop tref hops t : Nat) : Placed :=
  let d := ((t : Int) - ((tref + hops * dhop * 65536 : Nat) : Int)).natAbs
  if 4 * d ≤ 3 * pi * 65536 then .valid else if d ≤ pi * 65536 then .edge else .misplaced

/-- Is the king of bell a better than that of b: by priority, then by identity? -/
def betterKing (a b : KeptBell) : Bool :=
  a.body.kingPrio < b.body.kingPrio || (a.body.kingPrio == b.body.kingPrio && decide (a.owner.toNat < b.owner.toNat))

/-- Are two bells consistent, the second after the first? -/
def consistentBells (a b : KeptBell) : Bool :=
  a.owner == b.owner && a.body.kingPrio == b.body.kingPrio && b.cycle == a.cycle + 1
    && b.body.start == a.body.start + a.body.lc * 65536

/-- A transmission that has not begun, put off by k. -/
def Wire.shift (w : Wire) (k : Nat) : Wire :=
  { w with start := w.start + k, dataEnd := w.dataEnd + k, gapEnd := w.gapEnd + k
           began := if w.from_ = 0 then w.began + k else w.began }

namespace State

/-! ### Launches, R119 to R123 -/

/-- The bytes of a span frame as the sending port gives them to the MAC. -/
def launchBytes (s : State) (l : Launch) : List Byte :=
  let img := s.span.image
  let b := (if s.span.imageValid then slice img 0x22 6 else beBytes 6 0x03005AE10001) ++ beBytes 6 (s.portMac l.port)
    ++ beBytes 2 (if s.span.imageValid then imgEtype img else 0x88B5) ++ spanHdrBytes l.hdr ++ l.body
  b ++ zeros (60 - b.length)

/-- What has left the wire by an instant (DEDUCED, log entry 61). -/
def settleWire (s : State) (p q : Nat) : State :=
  let s := match (s.port p).wire with
    | some w => if w.done || q < w.dataEnd then s else if w.final then s.frameEnds p else s.fragmentEnds p
    | none => s
  match (s.port p).wire with
  | some w =>
    if w.done && w.gapEnd ≤ q then
      ((s.bringCredit p).modPort p (fun t => { t with wire := none, idleFrom := w.gapEnd })).noteIdle p
    else s
  | none => s

/-- The wire of a port, free for a span frame at an instant: a pre-emptable frame on it is pre-empted at the last legal
boundary that leaves it free then, R123. None where the wire cannot be free. -/
def wayFor (s : State) (p q : Nat) : Option State :=
  let s := s.settleWire p q
  let t := s.port p
  if q < t.wakeAt || t.commit.any (fun c => decide (c.start < q)) then none
  else match t.wire with
    | none => some s
    | some w =>
      if w.kind != .frame || w.level = 0 || w.done || !s.mmgActive p then none
      else
        let room := (q - w.start) / s.byteTime p
        if room < 24 then none
        else match legalUpto w.qf.total w.from_ (s.fragMin p w.from_) (w.from_ + (room - 24)) with
          | none => none
          | some d =>
            let v := { s.cutWire p w d with cutFor := true, done := true }
            some (((s.bringCredit p).modPort p (fun t => { t with wire := none, idleFrom := v.gapEnd })).suspend p v)

/-- Launch a span frame at its instant L: began or not, with what was counted (DEDUCED, log entry 27, 61). -/
def launch (s : State) (l : Launch) : Bool × State :=
  let p := l.port
  let u := l.at_.toNat
  let s := s.advanceToU u
  if !s.portUp p || s.txAsleep then (false, s)
  else if l.at_ < 0 || u + 98304 < s.nowU then (false, s.count (spnCount (if l.relay then 16 else 17)))
  else match s.wayFor p (u * unitQ) with
    | none => (false, s.count (spnCount 17))
    | some s =>
      match s.secTx p 0xFF 0 with
      | .discard => (false, s)
      | .exhausted => (false, s.count (macCount p 0x3C8))
      | sec =>
        let x : Option (Nat × Nat) × State := match sec with
          | .protect k => let x := s.takePn p k; (some (k, x.1), x.2)
          | .uncontrolled => (none, s.count (macCount p 0x3D0))
          | _ => (none, s)
        let s := x.2
        let b := s.byteTime p
        let q : QFrame := { id := 0, len := max 64 ((s.launchBytes l).length + 4), exp := s.expansion p 0xFF, pn := x.1 }
        let at_ := u * unitQ
        let w : Wire := { kind := .span, qf := q, start := at_, began := at_, upto := q.total, launch := some l
                          dataEnd := at_ + (8 + q.total) * b, gapEnd := at_ + (20 + q.total) * b }
        let s := (s.bringCredit p).modPort p (fun t => { t with
          wire := some w, commit := t.commit.map (fun c => c.shift (w.gapEnd - c.start))
          lastSent := match x.1 with
            | some (k, n) => s.protect p k n (s.launchBytes l)
            | none => s.launchBytes l })
        (true, if s.spanCovers p u (ceilDiv w.gapEnd unitQ) then s else s.count (gatBase p + 0x600))

/-- The next launch of the post's own, or of a relay. -/
def nextLaunch (s : State) (relay : Bool) : Option Launch :=
  (s.span.launches.filter (fun l => l.relay == relay)).foldl (fun m l => match m with
    | none => some l
    | some k => some (if l.at_ < k.at_ then l else k)) none

def dropLaunch (s : State) (l : Launch) : State :=
  { s with span := { s.span with launches := s.span.launches.erase l } }

/-- The body of this cycle's carriage frame, R583 and the carousel: a pending carried command goes first. -/
def carryBody (s : State) : Carry × State :=
  let at_ := s.trefCarry s.span.pattern s.span.tn
  match s.clerk.carryQueue with
  | k :: rest =>
    ({ ref := at_, kind := 1, part := 0, parts := 1, tag := k.seq, data := k.bytes },
      { s with clerk := { s.clerk with carryQueue := rest } }.count (cmdCount 9))
  | [] =>
    let parts := max 1 (ceilDiv s.span.image.length 1024)
    let i := s.span.carousel % parts
    ({ ref := at_, kind := 0, part := i, parts := parts, tag := s.span.setId, data := (s.span.image.drop (1024 * i)).take 1024 },
      { s with span := { s.span with carousel := (i + 1) % parts } })

/-- The carriage frame takes its contents when the first of its copies is launched. -/
def fillCarry (s : State) (l : Launch) : Launch × State :=
  if l.relay || l.hdr.subtype != 4 || l.carry.isSome then (l, s)
  else
    let c := s.carryBody
    let put (x : Launch) : Launch :=
      if x.relay || x.group != l.group then x else { x with carry := some c.1, hdr := { x.hdr with len := c.1.data.length } }
    (put l, { c.2 with span := { c.2.span with launches := c.2.span.launches.map put } })

/-- The first copy of an own frame has begun: SLOT_SENT and DYN_SENT count it once. -/
def sentOnce (s : State) (l : Launch) : State :=
  if s.span.sentGroups.contains l.group then s
  else
    let s := { s with span := { s.span with sentGroups := s.span.sentGroups ++ [l.group] } }
    if l.hdr.subtype = 2 then s.count (spnCount 10) else if l.hdr.subtype = 3 then s.count (spnCount 12) else s

/-- SPAN_LAUNCH: the next launch of the post's own (DEDUCED, log entry 62). -/
def spanLaunch (s : State) : State :=
  match s.nextLaunch false with
  | none => s
  | some l =>
    let x := (s.dropLaunch l).fillCarry l
    let r := x.2.launch x.1
    (if r.1 then r.2.sentOnce x.1 else r.2).settleGroup l.group l.frame

/-- RELAY_LAUNCH: the next relay. -/
def relayLaunch (s : State) : State :=
  match s.nextLaunch true with
  | none => s
  | some l => ((s.dropLaunch l).launch l).2

/-- Plan an own frame on every span port, R116: its transmitters leave LPI. -/
def plan (s : State) (tref : Nat) (h : SpanHdr) (bell : Option Bell) (data : List Byte) (frame : Option Nat) : State :=
  let g := s.span.nextGroup
  let t := s.planOwn (fun p =>
    { port := p, hdr := { h with version := 1, hops := 1, channel := s.spanChan p, cycle := s.span.cycle, owner := s.ownId
                                 pattern := s.span.pattern }
      bell := bell, data := data, at_ := s.launchAt p tref 1 s.span.dhop, frame := frame, group := g })
  (s.spanPorts.foldl leaveLpi t).settleGroup g frame

/-! ### Relays, R117 to R121 -/

/-- Is an identity the post's own for R118? -/
def ownFrame (s : State) (id : BitVec 64) : Bool :=
  id == s.glb.clockId || (s.bent.role == .active && id == s.bent.bentId)

/-- May the post relay: an integrated post unless it is silenced (R136), another while it is aligned (R137)? -/
def mayRelay (s : State) : Bool := if s.integrated then !s.span.silenced else s.aligned

/-- Relay a copy on every span port of its channel but its arrival port; the turnaround taken is the figure of R121. -/
def relayCopy (s : State) (p : Nat) (h : SpanHdr) (bell : Option Bell) (carry : Option Carry) (data : List Byte)
    (t tref dhop limit : Nat) : State :=
  if s.ownFrame h.owner || limit < h.hops + 1 || !s.mayRelay then s
  else
    let turn (q : Nat) : Nat := turnaround (s.portMode q) (s.portFec q)
    (s.spanPorts.filter (fun q => q != p && s.spanChan q == h.channel)).foldl (fun s q =>
      let at_ := s.launchAt q tref (h.hops + 1) dhop
      if at_ < ((t + max (turn p) (turn q) * 65536 : Nat) : Int) then s.count (spnCount 16)
      else
        let l : Launch := { port := q, hdr := { h with hops := h.hops + 1 }, bell := bell, carry := carry, data := data
                            at_ := at_, relay := true }
        { s with span := { s.span with launches := s.span.launches ++ [l] } }.leaveLpi q) s

/-! ### Reception -/

/-- A span frame with n bytes after the common header has passed the MAC of a port whose link is up. -/
def spanRx (s : State) (p n : Nat) (go : State → State) : State :=
  if 24 < p then s
  else s.linkGate p (fun s => go (s.countRx p (if s.span.imageValid then beAt s.span.image 0x22 6 else 0x03005AE10001)
    (max 64 (42 + n) + (if imgMacsec s.span.image then 32 else 0))))

/-- The channel check of R131. -/
def chanOk (s : State) (p : Nat) (h : SpanHdr) : Bool :=
  h.channel == (if imgTopology s.span.image = 0 then !s.spanChan p else s.spanChan p)

/-- The checks of R131 that every span frame of a subtype meets. -/
def headerOk (s : State) (p subtype limit : Nat) (h : SpanHdr) : Bool :=
  s.isSpanPort p && h.version == 1 && h.subtype == subtype && h.hops != 0 && decide (h.hops ≤ limit)

/-- Reference instant and owner index of a SLOT or DYN copy: on an integrated post by R131, else by R137; none for a
header mismatch. A dynamic frame is sent at the mini-slot count that its identifier names (R129). -/
def copyRef (s : State) (h : SpanHdr) (dyn : Bool) : Option (Nat × Nat) :=
  let base : Option Nat :=
    if s.integrated then
      if s.span.begun && h.cycle == s.span.cycle && h.pattern == s.span.pattern then some s.span.tn else none
    else match s.span.lastBell with
      | some b =>
        if s.span.imageValid && s.span.setId == b.body.setId && h.cycle == b.cycle && imgValid s.span.image h.pattern then
          some b.body.start
        else none
      | none => none
  match base, if dyn then s.dynOwner h.pattern h.number else s.slotOwner h.pattern h.number with
  | some t, some o =>
    if imgOwner s.span.image o != h.owner.toNat then none
    else some (if dyn then s.trefMini h.pattern t h.number else s.trefSlot h.pattern t h.number, o)
  | _, _ => none

def accepts (s : State) (kind n : Nat) : Bool := s.span.accepted.any (fun a => a.1 == kind && a.2.1 == n)
def accept (s : State) (kind n o : Nat) : State :=
  { s with span := { s.span with accepted := s.span.accepted ++ [(kind, n, o)] } }

/-- Does the post deliver slot and dynamic frames in this cycle, R145? -/
def delivers (s : State) : Bool :=
  s.span.state == .king || (s.isMember && s.span.cycle != s.span.integrationCycle)

/-- May the post send slot and dynamic frames in this cycle, R136 and R145? -/
def maySend (s : State) : Bool := (s.span.state == .king || s.span.state == .member) && !s.span.silenced

/-- A delivered payload enters the receive path, R133. -/
def spanDeliver (s : State) (p : Nat) (b : List Byte) (t : Nat) (edge : Bool) : State :=
  let v := parse b (s.prpPort p) s.dcwPort
  let prio := s.rxPrio p v
  if s.holdFree < cellsOf b.length then s.count (macCount p (0x2D0 + 8 * prio))
  else
    let f : Frame := { origin := .rx p, bytes := b, size := b.length, arrived := b.length, rxTime := t, rxFlag := s.time.flag
                       rxEpoch := s.time.epoch, rxUncert := s.uncert, prio := prio, dei := v.dei, tsource := p, span := true
                       edge := edge, since := s.time.ticks }
    let r := s.addFrame f
    (r.2.orderAdd p r.1).pauseCheck p

/-- The king post receives the reply of an owner to a carried command, R586 and R325. -/
def carriedReply (s : State) (owner : Nat) (data : List Byte) : State :=
  if !s.isKing then s
  else
    let st := beAt data 6 1
    let s := s.count (cmdCount 11)
    if beAt data 4 2 = 0x0F00 then
      s.stockReply owner (BitVec.ofNat 32 (beAt data 0 4)) st (if st = 0 then beAt data 8 4 % 2 else 0)
    else s

/-- What the first valid copy of a static-slot frame brings beside its payload: presence and acknowledgement at the king
(R148), the witness at the standby (R632). -/
def slotAccepted (s : State) (h : SpanHdr) (o : Nat) : State :=
  let s := { s with
    span := { s.span with
      presentNow := if s.span.presentNow.contains o then s.span.presentNow else s.span.presentNow ++ [o]
      change := s.span.change.map (fun ch =>
        if s.span.state == .king && h.ackValid && h.ackPattern == ch.pattern && h.ackCycle == ch.target.toNat % 256
            && decide (modSub 32 h.cycle.toNat ch.fromCycle.toNat < modSub 32 ch.target.toNat ch.fromCycle.toNat) then
          { ch with acked := ch.acked ++ [o] }
        else ch) }
    bent := { s.bent with witnessedNow := s.bent.witnessedNow || (s.bent.role == Role.standby && h.owner == s.bent.bentId) } }
  s

/-- A SLOT or DYN copy, R131 to R134 and R137 (DEDUCED, log entry 66). -/
def dataCopy (s : State) (p : Nat) (h : SpanHdr) (data : List Byte) (t : Nat) (dyn : Bool) : State :=
  let kind := if dyn then 3 else 2
  if !s.headerOk p kind s.span.hopLimit h || !s.chanOk p h then s.count (spnCount 15)
  else match s.copyRef h dyn with
    | none => s.count (spnCount 15)
    | some (tref, o) =>
      let pl := placed s.span.pi s.span.dhop tref h.hops t
      if pl == .misplaced then s.count (ownerCount o (if dyn then 6 else 3))
      else if dyn && s.integrated && s.span.miniCount != h.number then
        { s with span := { s.span with dynSilent := true } }.count (spnCount 14)
      else
        let s := if pl == .edge then s.count (ownerCount o 2) else s
        let s := if dyn then s else s.count (ownerCount o (flag h.channel))
        let s := s.relayCopy p h none none data t tref s.span.dhop s.span.hopLimit
        if !s.integrated || s.accepts kind h.number || s.sendsAs h.owner.toNat then s
        else
          let s := s.accept kind h.number (if dyn then occ s.span.image h.pattern h.len else 0)
          let s := if dyn then s else s.slotAccepted h o
          let s := if dyn && s.delivers then s.count (ownerCount o 5) else s
          if h.payload = 1 then (if dyn then s else s.carriedReply o data)
          else if h.payload = 0 && s.delivers then s.spanDeliver p data t (pl == .edge)
          else s

/-! ### Pattern change at a member, R148 and R149 -/

/-- What a member takes from the announcement of its king's bell (DEDUCED, log entry 67). -/
def memberChange (s : State) (k : KeptBell) : State :=
  let s := match s.span.change with
    | some ch =>
      if k.cycle == ch.target then
        let done := !k.body.dropped && k.pattern == ch.pattern
        let s := { s with span := { s.span with change := none } }
        if done then s.count (spnCount 7) else if ch.acking then s.count (spnCount 8) else s
      else s
    | none => s
  if k.body.announce && s.span.change.isNone && isAhead 32 k.body.annCycle.toNat k.cycle.toNat then
    { s with span := { s.span with
        change := some { pattern := k.body.annPattern, target := k.body.annCycle, fromCycle := k.cycle } } }
  else s

/-- Does the post acknowledge the announcement in a slot that it sends now? -/
def acknowledges (s : State) : Option Change :=
  match s.span.change, s.span.lastBell with
  | some ch, some k =>
    if s.span.state == .member && !s.span.silenced && s.span.imageValid && s.span.setId == k.body.setId
        && imgValid s.span.image ch.pattern && s.span.cycle != ch.target then some ch
    else none
  | _, _ => none

/-! ### Bells, R131, R140 and R145 -/

/-- Integration. -/
def integrate (s : State) (k : KeptBell) : State :=
  let s := s.gatesBefore
  let s := { s with span := { s.span with
    state := .joined, cycle := k.cycle, cycValid := true, begun := true, tn := k.body.start, pattern := k.pattern
    prevPattern := s.span.firstPattern, kingId := k.owner, kingPrio := k.body.kingPrio, integrationCycle := k.cycle
    bellCycle := k.cycle, bellSeen := true, missedRun := 0, trial := none, change := none, accepted := [], miniCount := 0
    presentNow := [], presentLast := [], dynSilent := false, silenced := false } }
  (((s.count (spnCount 4)).memberChange k).gatesAfter.assignRoles 0).reselect

/-- A bell in TRIAL. -/
def trialBell (s : State) (k : KeptBell) : State :=
  let keep (s : State) : State := { s with span := { s.span with trial := some k } }
  match s.span.trial with
  | none => keep s
  | some a =>
    if k.owner == a.owner then
      if !consistentBells a k then keep (s.count (spnCount 1))
      else
        let same := s.span.imageValid && s.span.setId == k.body.setId
        if a.aligned && k.aligned && same then s.integrate k
        else keep (if same then s else s.count (spnCount 6))
    else if betterKing k a then keep s
    else s.count (spnCount 2)

/-- A bell of another king at a king post (DEDUCED, log entry 64). -/
def rivalBell (s : State) (k : KeptBell) : State :=
  let own : KeptBell := { owner := s.span.kingId, cycle := 0, body := { kingPrio := s.span.kingPrio } }
  let yields (s : State) : State := { s with span := { s.span with
    yieldTo := some k
    launches := s.span.launches.map (fun l =>
      if l.relay then l else { l with bell := l.bell.map (fun b => { b with yielding := true }) }) } }
  if !betterKing k own then s.count (spnCount 2)
  else match s.span.yieldTo with
    | some y => if k.owner == y.owner || betterKing k y then yields s else s
    | none =>
      let s := (yields s).count (spnCount 3)
      if s.span.state == .king then s.raise 0x030 0x21 0 else s

/-- A bell of the current king at JOINED or MEMBER. -/
def memberBell (s : State) (k : KeptBell) : State :=
  if k.body.start != s.span.tn || k.body.kingPrio != s.span.kingPrio then s.leaveMember .listen none
  else
    { s with span := { s.span with
        bellSeen := true, bellCycle := k.cycle, missedRun := 0, pattern := k.pattern } }.memberChange k

/-- The event of R145 that the first copy of a bell is. -/
def bellEvent (s : State) (k : KeptBell) : State :=
  match s.span.state with
  | .disabled => s
  | .listen =>
    { s with span := { s.span with state := .trial, trial := some k, listenFrom := none, firstPattern := k.pattern } }
  | .trial => s.trialBell k
  | .raise => s.rivalBell k
  | .king => s.rivalBell k
  | .joined => if k.owner == s.span.kingId then s.memberBell k else s.leaveMember .trial (some k)
  | .member => if k.owner == s.span.kingId then s.memberBell k else s.leaveMember .trial (some k)

/-- A bell copy: judged by its header and instant, relayed, and taken once (DEDUCED, log entry 63, 65). -/
def bellCopy (s : State) (p : Nat) (h : SpanHdr) (b : Bell) (t : Nat) : State :=
  let king := s.integrated && h.owner == s.span.kingId
  let limit := if king then s.span.hopLimit else b.hopLimit
  let named := h.pattern == s.span.pattern
    || s.span.change.any (fun ch => ch.target == h.cycle && ch.pattern == h.pattern && !s.isKing)
  if !s.headerOk p 1 limit h || h.number != 0 || (s.span.imageValid && !s.chanOk p h)
      || (king && !(s.span.begun && h.cycle == s.span.cycle && named)) then s.count (spnCount 15)
  else
    let tref := if king then s.span.tn else b.start
    let pl := placed b.pi b.dhop tref h.hops t
    let o := s.ownerIndex h.owner
    let owned (s : State) (k : Nat) : State := match o with | some i => s.count (ownerCount i k) | none => s
    if pl == .misplaced then owned s 3
    else
      let s := if pl == .edge then owned s 2 else s
      let fresh := !s.span.heard.contains (h.owner, h.cycle, b.start)
      let s := if s.integrated then s else
        { s with span := { s.span with pi := b.pi, dhop := b.dhop, hopLimit := b.hopLimit } }.noteMargins
      let k : KeptBell := { owner := h.owner, cycle := h.cycle, body := b, pattern := h.pattern, aligned := s.aligned
                            tick := s.time.ticks }
      let s := { s with span := { s.span with
        heard := s.span.heard.filter (fun (e : BitVec 64 × BitVec 32 × Nat) => e.1 != h.owner) ++ [(h.owner, h.cycle, b.start)]
        lastBell := if king || !s.integrated then some k else s.span.lastBell } }
      let s := s.relayCopy p h (some b) none [] t tref b.dhop limit
      if fresh && !s.sendsAs h.owner.toNat then s.bellEvent k else s

/-- No bell came: in TRIAL for BELL_LOSS_LIMIT cycles of the trial bell, at a member by the end of the bell
interval (DEDUCED, log entry 65). -/
def bellMissing (s : State) : State :=
  match s.span.state with
  | .trial =>
    match s.span.trial with
    | some k =>
      let s := s.advanceTo (k.tick + nsTicks (s.bellLossLimit * k.body.lc))
      { s with span := { s.span with state := .listen, trial := none, listenFrom := some s.time.ticks } }
    | none => s
  | _ =>
    if !s.isMember || s.span.bellSeen || s.accepts 0x31 0 then s
    else
      let s := ((s.advanceToU (s.span.tn + s.lbU)).count (spnCount 0)).accept 0x31 0 0
      let n := s.span.missedRun + 1
      let s := { s with span := { s.span with missedRun := n } }
      if s.bellLossLimit ≤ n || s.span.change.any (fun ch => ch.target == s.span.cycle) then s.leaveMember .listen none
      else s

/-! ### Raising, R145 -/

/-- The pattern of a raise: RAISE_PATTERN where it is valid, else the lowest valid one. -/
def raisePattern (s : State) : Option Nat :=
  let r := s.regBits (spnBase + 0x40) 16 3
  if imgValid s.span.image r then some r else (upto 0 8).find? (imgValid s.span.image)

/-- The listen timer expires: raise, or listen again (DEDUCED, log entry 69). -/
def listenEnds (s : State) : State :=
  match s.span.state, s.span.listenFrom with
  | .listen, some u =>
    let s := s.advanceTo (u + usTicks (s.reg (spnBase + 0x44)))
    match (if s.kingCapable && s.time.flag != .invalid && s.span.imageValid then s.raisePattern else none) with
    | none => { s with span := { s.span with listenFrom := some s.time.ticks } }
    | some r =>
      let ms := 65536000000
      let s := s.gatesBefore
      let img := s.span.image
      let s := { s with span := { s.span with
        state := .raise, cycle := 0, cycValid := true, begun := false, tn := ceilDiv (s.nowU + ms) ms * ms, pattern := r
        prevPattern := r, firstPattern := r, kingId := s.ownId, kingPrio := s.ownPrio % 256, listenFrom := none
        bellCycle := 0xFFFFFFFF, bellSeen := false, pi := imgPi img, dhop := imgDhop img, hopLimit := imgHopLimit img
        yieldTo := none, silenced := false, accepted := [], presentNow := [], presentLast := [], miniCount := 0 } }
      s.noteMargins.assignRoles 0
  | _, _ => s

/-! ### Cycle boundaries, R111, R112, R136, R148 -/

/-- The body of the bell of the current cycle. -/
def bellBody (s : State) : Bell :=
  let ch := s.announced.filter (fun ch => ch.target != s.span.cycle)
  { start := s.span.tn, lc := imgLc s.span.image s.span.pattern, pi := s.span.pi, kingPrio := s.span.kingPrio
    raising := s.span.state == .raise, announce := ch.isSome, dropped := s.span.dropAt == some s.span.cycle
    yielding := s.span.yieldTo.isSome, dhop := s.span.dhop, hopLimit := s.span.hopLimit
    annPattern := (ch.map (·.pattern)).getD 0, annCycle := (ch.map (·.target)).getD 0, setId := s.span.setId }

/-- The king's part in a change as cycle n begins: the present set, or the outcome (R148, R154). -/
def kingChange (s : State) (n : BitVec 32) : State :=
  match s.span.change with
  | none => s
  | some ch =>
    if s.span.state != .king then s
    else if n == ch.fromCycle then
      let own := s.ownerIndex s.ownId
      { s with span := { s.span with change := some { ch with present := s.span.presentLast.filter (fun o => some o != own) } } }
    else if n != ch.target then s
    else
      let missing := ch.present.filter (fun o => !ch.acked.contains o)
      let t := { s with span := { s.span with change := none } }
      let done := fun k => k == WaitKind.patternChange
      if missing.isEmpty then
        ({ t with span := { t.span with pattern := ch.pattern } }.count (spnCount 7)).finishKind done .ok (some n.toNat)
      else
        ({ t with span := { t.span with dropAt := some n } }.count (spnCount 8)).finishKind done .timeout
          (some missing.length) (missing.flatMap (leBytes 2))

/-- The state of R145 as cycle n begins. -/
def boundaryState (s : State) (n : BitVec 32) : SpanState :=
  match s.span.state with
  | .raise => if n == 2 then .king else .raise
  | .joined => if n - s.span.integrationCycle == 2 then .member else .joined
  | x => x

/-- What begins with the current cycle once the counter shows it. -/
def beginCycle (s : State) : State :=
  let n := s.span.cycle
  let s := { s with
    span := { s.span with begun := true, state := s.boundaryState n }
    bent := { s.bent with witness := s.bent.role == Role.standby && s.bent.witnessedNow, witnessedNow := false } }
  let quiet := !s.aligned
  let s := { s with span := { s.span with silenced := quiet } }
  let s := ((if quiet then s.count (spnCount 9) else s).kingChange n).stockSpanDone n
  let s := if s.bent.handoverCycle == some n then s.beginDrain else s
  let s := s.cyclePegs n
  let s := if s.isKing then { s with span := { s.span with bellCycle := n } } else s
  let s := if s.isKing && !s.span.silenced then s.plan s.span.tn { subtype := 1 } (some s.bellBody) [] none else s
  let s := if s.span.state == .king && !s.span.silenced then
      s.plan (s.trefCarry s.span.pattern s.span.tn) { subtype := 4 } none [] none
    else s
  if s.isKing && s.bent.role == .active then
    s.sendTb (.spanState n s.span.tn s.span.pattern (s.announced.map (fun ch => (ch.pattern, ch.target))))
  else s

/-- The counter advances to the next cycle. -/
def advanceCycle (s : State) (u : Nat) : State :=
  let live := s.span.sentGroups.filter s.groupLive
  { s with span := { s.span with
      cycle := s.span.cycle + 1, tn := u, prevPattern := s.span.pattern, bellSeen := false, accepted := []
      presentLast := s.span.presentNow, presentNow := [], miniCount := 0, dynSilent := false, sentGroups := live } }

/-- CYCLE_BOUNDARY: the next boundary of the post's cycle. -/
def boundary (s : State) : State :=
  if !s.integrated || !s.awake then s
  else
    let u := if s.span.begun then s.nextT else s.span.tn
    let s := s.advanceToU u
    match s.span.yieldTo with
    | some k => s.leaveCycle .trial (some k)
    | none =>
      if !s.span.begun then (s.gatesBefore.beginCycle).gatesAfter
      else
        let n := s.span.cycle + 1
        (((s.gatesBefore.captureAt n s.nowU).advanceCycle u).beginCycle)

/-! ### Static slots and dynamic frames, R124 to R130 -/

/-- Heads of a source that exceed every pattern in which it is bound are refused, R126. -/
def dropMisfits (s : State) (n : Nat) : Nat → State
  | 0 => s
  | k + 1 =>
    match s.source_ n with
    | [] => s
    | id :: rest =>
      match s.frame id with
      | none => s
      | some f =>
        if s.slotLimit n |>.any (fun m => (s.slotBytes f).length ≤ m) then s
        else (((s.setSource_ n rest).copyOf f 25 1).releaseSlot id).dropMisfits n k

/-- The head of a source, when it is ready by a tick and fits the pattern in force: its number and payload. -/
def readyHead (s : State) (n tick : Nat) : Option (Nat × List Byte) :=
  match s.source_ n with
  | [] => none
  | id :: _ =>
    match s.frame id with
    | none => none
    | some f =>
      let b := s.slotBytes f
      if f.whole && f.place == .hold && f.since ≤ tick && b.length ≤ imgSlotMax s.span.image s.span.pattern then some (id, b)
      else none

/-- SLOT_READY_LEAD of a slot: what it carries is chosen, R126 and R127. -/
def slotLead (s : State) (slot : Nat) : State :=
  let p := s.span.pattern
  if !s.integrated || !s.span.begun || !s.maySend || !s.ownsSlot p slot || s.accepts 0x22 slot then s
  else
    let tref := s.trefSlot p s.span.tn slot
    let s := (s.advanceToU (tref - s.readyLead)).accept 0x22 slot 0
    let src := s.statBound p slot
    let s := if src = 255 then s else s.dropMisfits src 4
    let head := if src = 255 then none else s.readyHead src s.time.ticks
    let s := if head.isNone then s.count (spnCount 11) else s
    let ack := s.acknowledges
    let h : SpanHdr := { subtype := 2, number := slot, ackValid := ack.isSome, ackPattern := (ack.map (·.pattern)).getD 0
                         ackCycle := (ack.map (fun ch => ch.target.toNat % 256)).getD 0 }
    let s := match ack with
      | some ch => { s with span := { s.span with change := some { ch with acking := true } } }
      | none => s
    match s.clerk.carriedReplies, head with
    | r :: rest, _ =>
      { s with clerk := { s.clerk with carriedReplies := rest } }.plan tref { h with payload := 1, len := 12 } none r.bytes none
    | [], some (id, b) =>
      (s.setSource_ src ((s.source_ src).filter (· != id))).plan tref { h with payload := 0, len := b.length } none b (some id)
    | [], none => if ack.isSome then s.plan tref { h with payload := 2 } none [] none else s

/-- SLOT_END of a slot: EMPTY where no valid copy of another owner's slot has come, R134 (DEDUCED, log entry 67). -/
def slotEnds (s : State) (slot : Nat) : State :=
  let p := s.span.pattern
  match s.slotOwner p slot with
  | none => s
  | some o =>
    if !s.integrated || !s.span.begun || s.accepts 0x12 slot then s
    else
      let s := (s.advanceToU (s.trefSlot p s.span.tn (slot + 1))).accept 0x12 slot 0
      if s.accepts 2 slot || s.ownsSlot p slot then s else s.count (ownerCount o 4)

/-- The decision at the start of mini-slot n, R129 (DEDUCED, log entry 66). -/
def dynDecide (s : State) (n : Nat) : State :=
  let p := s.span.pattern
  let src := s.dynBound p n
  if !s.maySend || s.span.dynSilent || !s.ownsDyn p n || src = 255 then s
  else
    let s := s.dropMisfits src 4
    match s.readyHead src (s.time.ticks - nsTicks (s.reg (spnBase + 0x48))) with
    | none => s
    | some (id, b) =>
      let o := occ s.span.image p b.length
      if imgM s.span.image p < n + o - 1 then s.count (spnCount 13)
      else
        ((s.accept 3 n o).setSource_ src ((s.source_ src).filter (· != id))).plan (s.trefMini p s.span.tn n)
          { subtype := 3, number := n, len := b.length } none b (some id)

/-- MINISLOT_END: the count goes on from a mini-slot, or the dynamic segment begins, R129 (DEDUCED, log entry 66). -/
def miniEnds (s : State) : State :=
  let p := s.span.pattern
  let m := imgM s.span.image p
  let c := s.span.miniCount
  if !s.integrated || !s.span.begun || m < c || m = 0 then s
  else
    let o := ((s.span.accepted.find? (fun a => a.1 == 3 && a.2.1 == c)).map (fun a => a.2.2)).getD 1
    let n := if c = 0 then 1 else c + o
    let s := s.advanceToU (s.trefMini p s.span.tn (min n (m + 1)))
    let s := { s with span := { s.span with miniCount := n } }
    if m < n then s else s.dynDecide n

/-! ### Carriage, R140, R144 and R585 -/

/-- A carried part of the image: taken while it bears the SET_ID of the current bell and the post lacks that
image (DEDUCED, log entry 68). -/
def carryPart (s : State) (c : Carry) : State :=
  let wanted := s.span.lastBell.any (fun k => k.body.setId == c.tag)
  if !wanted || (s.span.imageValid && s.span.setId == c.tag) || c.parts ≤ c.part then s
  else
    let old := if s.span.asmTag == c.tag && s.span.asmParts == c.parts then s.span.asm else []
    let asm := Tab.set [] old c.part c.data
    if asm.length < c.parts then
      { s with span := { s.span with asmTag := c.tag, asmParts := c.parts, asm := asm } }
    else
      let b := (upto 0 c.parts).flatMap (Tab.get [] asm)
      let s := { s with span := { s.span with asmTag := 0, asmParts := 0, asm := [] } }
      if crc32 b == c.tag.toNat then (s.storeImage b).noteMargins else s

/-- A carriage copy; `run` executes a carried command. -/
def carryCopy (s : State) (p : Nat) (h : SpanHdr) (c : Carry) (t : Nat) (run : State → State) : State :=
  let in_ := s.integrated
  if !in_ && s.span.lastBell.isNone then s
  else if !s.headerOk p 4 s.span.hopLimit h || h.number != 0 || (s.span.imageValid && !s.chanOk p h)
      || (in_ && !(s.span.begun && h.cycle == s.span.cycle && h.pattern == s.span.pattern && h.owner == s.span.kingId)) then
    s.count (spnCount 15)
  else
    let tref := if in_ then s.trefCarry s.span.pattern s.span.tn else c.ref
    let pl := placed s.span.pi s.span.dhop tref h.hops t
    let o := s.ownerIndex h.owner
    let owned (s : State) (k : Nat) : State := match o with | some i => s.count (ownerCount i k) | none => s
    if pl == .misplaced then owned s 3
    else
      let s := if pl == .edge then owned s 2 else s
      let s := s.relayCopy p h none (some c) [] t tref s.span.dhop s.span.hopLimit
      if s.sendsAs h.owner.toNat || (in_ && s.accepts 4 0) then s
      else
        let s := if in_ then s.accept 4 0 0 else s
        if c.kind = 0 then s.carryPart c
        else if c.kind = 1 && in_ && !s.isKing then run s
        else s

end State

/-! ### Meanings -/

/-- LISTEN_TIMER_EXPIRE. -/
def execListenTimerExpire (s : State) : Result := ok s.listenEnds
/-- CYCLE_BOUNDARY. -/
def execCycleBoundary (s : State) : Result := ok s.boundary
/-- BELL_RX at port p with receive timestamp t. -/
def execBellRx (p : Nat) (h : SpanHdr) (b : Bell) (t : Nat) (s : State) : Result :=
  ok (s.spanRx p 40 (fun s => s.bellCopy p h b t))
/-- BELL_MISSING. -/
def execBellMissing (s : State) : Result := ok s.bellMissing
/-- SLOT_READY_LEAD of a static slot. -/
def execSlotReadyLead (slot : Nat) (s : State) : Result := ok (s.slotLead slot)
/-- SPAN_LAUNCH. -/
def execSpanLaunch (s : State) : Result := ok s.spanLaunch
/-- MINISLOT_END. -/
def execMinislotEnd (s : State) : Result := ok s.miniEnds
/-- SLOT_END of a static slot. -/
def execSlotEnd (slot : Nat) (s : State) : Result := ok (s.slotEnds slot)
/-- SLOT_COPY_RX at port p with receive timestamp t. -/
def execSlotCopyRx (p : Nat) (h : SpanHdr) (data : List Byte) (t : Nat) (s : State) : Result :=
  ok (s.spanRx p data.length (fun s => s.dataCopy p h data t false))
/-- DYN_COPY_RX at port p with receive timestamp t. -/
def execDynCopyRx (p : Nat) (h : SpanHdr) (data : List Byte) (t : Nat) (s : State) : Result :=
  ok (s.spanRx p data.length (fun s => s.dataCopy p h data t true))
/-- RELAY_LAUNCH. -/
def execRelayLaunch (s : State) : Result := ok s.relayLaunch
/-- CARRIED_REPLY_RX: the reply of an owner in its static slot. -/
def execCarriedReplyRx (owner : Nat) (data : List Byte) (s : State) : Result := ok (s.carriedReply owner data)

end Sys2Proof.Machine
end

