-- ==== Sys2Proof/Machine/BentTake.lean ====
section
/-!
DEFINITION. The bent where it needs the span, the time island and the bench (chapter 14): the mirrored ledger and its
entries, takeover, handover and the copy of a resynchronisation.
-/

namespace Sys2Proof.Machine

namespace State

/-! ### The mirrored ledger, R617 to R620 -/

def ringOf (s : State) (q : Nat) : RingLedger := Tab.get {} s.bent.rings q
def setRing (s : State) (q : Nat) (r : RingLedger) : State :=
  { s with bent := { s.bent with rings := Tab.set {} s.bent.rings q r } }

/-- Is a mirrored ring an RX ring? -/
def rxRing (r : RingLedger) : Bool :=
  match r.cfg with
  | some (.ring _ kind _ _ _ _ _ _ _ _ _ _ _) => kind == 1
  | _ => false

/-- The index after n RX_BUF entries from an index, with the fillers that the window lists between them. -/
def rxEnd (window : List Accepted) : Nat → Nat → BitVec 16 → BitVec 16
  | 0, _, i => i
  | _, 0, i => i
  | fuel + 1, n + 1, i =>
    match window.find? (fun a => a.index == i) with
    | some a => rxEnd window fuel (n + 1) (i + BitVec.ofNat 16 a.len)
    | none => rxEnd window fuel n (i + 2)

/-- The later of two indices of one ring. -/
def laterIndex (a b : BitVec 16) : BitVec 16 := if (b - a).toNat < 32768 then b else a

/-- A number is delivered at the active post: the mirrored function marks it and counts nothing (R617, R623). -/
def markRcvy (s : State) (r seq : Nat) : State :=
  let f := s.rcvy r
  match ownSeq f.format f.skipZero seq with
  | none => s
  | some n =>
    let q := seqMod f.format f.skipZero
    let x := if f.alg = 0 then vectorRecovery f q n s.time.ticks else matchRecovery f q n s.time.ticks
    if !x.1 then s
    else s.setRcvy r { f with takeAny := x.2.takeAny, recovSeq := x.2.recovSeq, history := x.2.history, lastPass := x.2.lastPass }

/-- The same for an account: NEXT moves past the number. -/
def markAccount (s : State) (a seq : Nat) : State :=
  let x := s.account a
  let q := accountQ x
  match ownSeq 3 x.skipZero seq with
  | none => s
  | some n =>
    if x.takeAny then s.setAccount a { x with next := (n + 1) % q, delivered := 1, takeAny := false, lastPass := s.time.ticks }
    else
      let d := (n + q - x.next % q) % q
      if q / 2 ≤ d then s
      else s.setAccount a { x with next := (n + 1) % q, lastPass := s.time.ticks
                                   delivered := if d < 1024 then (x.delivered * 2 ^ (d + 1) + 1) % 2 ^ 1024 else 1 }

/-- The number of a kept frame as it stands on the wire. -/
def keptWire (s : State) (k : Kept) : Nat :=
  if k.isAccount then wireSeq (s.account k.target).skipZero k.seq else wireSeq (rcvySkip (s.rcvy k.target)) k.seq

/-- Free the kept frames that the deliveries of a list cover, R623. -/
def coverKept (s : State) (js : List Journal) : State :=
  let hit (k : Kept) : Bool := js.any (fun j => j.isAccount == k.isAccount && j.target == k.target && j.seq == s.keptWire k)
  let gone := s.bent.kept.filter hit
  let s := { s with bent := { s.bent with kept := s.bent.kept.filter (fun k => !hit k) } }
  gone.foldl (fun s k => (s.freeFrame k.frame).count (bntCount 12)) s

/-- Enter a delivery in the journal once. -/
def addJournal (s : State) (j : Journal) : State :=
  if s.bent.journal.contains j then s else { s with bent := { s.bent with journal := s.bent.journal ++ [j] } }

/-- Apply a record of the ledger: rings and daybooks stay records until a takeover, settings take effect, and stream entries,
functions and accounts go into the tables with the post's own counters and ticks (DEDUCED, log entry 75, 76). -/
def applyItem (s : State) (it : LedgerItem) : State :=
  match it with
  | .ring q _ _ _ _ _ _ _ _ _ ci done window =>
    s.setRing q { done := done, ci := ci, cfg := some it
                  window := window.map (fun (a : BitVec 16 × Nat × Bool × Nat) =>
                    { index := a.1, len := a.2.1, seqValid := a.2.2.1, seq := a.2.2.2 }) }
  | .book b .. =>
    let other (i : LedgerItem) : Bool := match i with | .book n .. => n != b | _ => true
    { s with bent := { s.bent with ledger := s.bent.ledger.filter other ++ [it] } }
  | .setting op params image =>
    if s.bent.ledger.contains it then s else s.takeEffect [{ opcode := op, params := params, image := image }]
  | .stream h b =>
    let n := entryOf b
    s.setEntry h (if n.state = 0 then {} else { n with lastSeen := (s.entry h).lastSeen })
  | .rcvy r b =>
    let n := rcvyOf b
    let o := s.rcvy r
    s.setRcvy r (if n.state = 0 then {} else
      { n with lastPass := s.time.ticks, leStart := s.time.ticks, leBasePassed := o.passed.toNat
               leBaseDiscarded := o.discarded.toNat, passed := o.passed, discarded := o.discarded, outOfOrder := o.outOfOrder
               lost := o.lost, rogue := o.rogue, tagless := o.tagless, resets := o.resets, latentErrors := o.latentErrors })
  | .account a b =>
    let n := accountOf b
    let o := s.account a
    s.setAccount a (if leAt b 0 0x80 = 0 then {} else
      { o with defined := true, metering := n.metering, leEn := n.leEn, skipZero := n.skipZero, window := n.window
               resetMs := n.resetMs, holdMax := n.holdMax, meterPoint := n.meterPoint, wq := n.wq, lePeriod := n.lePeriod
               leDiff := n.leDiff, paths := n.paths, next := n.next, takeAny := n.takeAny, delivered := n.delivered
               lastPass := s.time.ticks, leStart := s.time.ticks, leBasePassed := o.passed.toNat
               leBaseDuplicate := o.duplicate.toNat })
  | .journal q i n acc path m target seq =>
    s.addJournal { queue := q, index := i, count := n, isAccount := acc, path := path, matchAlg := m, target := target, seq := seq }

/-- Apply one mirror entry, R618 and R619. -/
def applyEntry (s : State) (e : MirrorEntry) : State :=
  match e with
  | .wqAccept q i len sv h seq =>
    let r := s.ringOf q
    let s := s.setRing q { r with
      ci := if rxRing r && r.ci != i then r.ci else i + BitVec.ofNat 16 len
      window := r.window ++ [{ index := i, len := len, seqValid := sv, seq := seq }] }
    let x := s.entry h
    if sv && x.state != 0 then s.setEntry h { x with genSeq := seqAfter x.format x.skipZero seq } else s
  | .rxDeliver q i n acc path m target seq =>
    let r := s.ringOf q
    let s := s.setRing q { r with ci := laterIndex r.ci (rxEnd r.window (n + r.window.length) n i) }
    let s := s.addJournal { queue := q, index := i, count := n, isAccount := acc, path := path, matchAlg := m, target := target
                            seq := seq }
    if acc then s.markAccount target seq else s.markRcvy target seq
  | .wqDone q i =>
    let r := s.ringOf q
    let s := s.setRing q { r with done := i, ci := laterIndex r.ci i, window := r.window.filter (fun a => (a.index - i).toNat < 32768) }
    let kept := journalAfter s.bent.journal e
    let gone := s.bent.journal.filter (fun j => !kept.contains j)
    { s with bent := { s.bent with journal := kept } }.coverKept gone
  | .state it => s.applyItem it

/-! ### The MSEQ stream, R615, R618, R627 and R648 -/

/-- Does the post follow the mirror stream: as standby, in a copy, or up to the RESIGN of a takeover? -/
def follows (s : State) : Bool :=
  match s.bent.role with
  | .standby => !s.bent.cold
  | .resync => true
  | .active => (match s.bent.step with | .takeSettle _ => true | .takeWindow => true | _ => false)
  | _ => false

/-- A resyncing post joins the stream: what it held before goes, for the copy covers only records not FREE
(R645) (DEDUCED, log entry 79). -/
def joinStream (s : State) (n : Nat) : State :=
  let held := s.stream.accounts.flatMap (fun e => e.2.held.map (·.frame))
  let s := held.foldl freeFrame s
  let s := s.bent.kept.foldl (fun s k => (s.freeFrame k.frame).count (bntCount 13)) s
  { s with
    stream := { s.stream with entries := [], rcvy := [], accounts := [], poolFull := false }
    bent := { s.bent with joined := true, mseqSent := n, kept := [], rings := [], journal := [], ledger := [], copyDone := [] } }

/-- One entry with its MSEQ: applied in order, passed over when it is old; a gap puts the standby out of sync or fails the
copy, and ends what a takeover can still apply (DEDUCED, log entry 73). -/
def takeEntry (s : State) (n : Nat) (run : State → State) : State :=
  let s := if s.bent.role == .resync && !s.bent.joined then s.joinStream (n - 1) else s
  if n ≤ s.bent.mseqSent then s
  else if n = s.bent.mseqSent + 1 then
    let s := run s
    { s with bent := { s.bent with mseqSent := n } }
  else match s.bent.role with
    | .standby => s.outOfSync
    | .resync => s.copyFail false
    | _ => { s with bent := { s.bent with takeTo := s.bent.mseqSent } }

/-- The entries of a packet from an MSEQ on. -/
def takeEntries (s : State) : Nat → List MirrorEntry → State
  | _, [] => s
  | n, e :: es => (if s.follows then s.takeEntry n (fun s => s.applyEntry e) else s).takeEntries (n + 1) es

/-- Acknowledge what is applied in order. -/
def sendAck (s : State) : State :=
  if s.bent.role == .standby || (s.bent.role == .resync && s.bent.joined) then s.sendTb (.ack s.bent.mseqSent) else s

/-- A MIRROR packet. -/
def mirrorRx (s : State) (n : Nat) (es : List MirrorEntry) : State :=
  let s := s.heard
  if s.follows then (s.takeEntries n es).sendAck else s

/-- Note where a copy stands when a record arrives: the regions before its own are complete, and how much is left is not
told (DEDUCED, log entry 78). -/
def noteCopy (s : State) (it : LedgerItem) : State :=
  let r := s.fresh
  let s := r.2
  { s with bent := { s.bent with
      copying := true, copyDone := upto 0 (itemRegion it), copyLeft := r.1.toNat
      copyUntil := some (s.bent.copyUntil.getD (s.time.ticks + secTicks 60)) } }

/-- A COPY packet, R645 and R646. -/
def copyRx (s : State) (n : Nat) (items : List LedgerItem) : State :=
  let s := s.heard
  if s.bent.role != .resync then s
  else
    let go := items.foldl (fun (r : State × Nat) it =>
      (if r.1.bent.role == .resync then r.1.takeEntry r.2 (fun s => (s.noteCopy it).applyItem it) else r.1, r.2 + 1)) (s, n)
    go.1.sendAck

/-- SYNC_DONE applied in sync: the post is STANDBY, R628, R642 and R647 (DEDUCED, log entry 78). -/
def syncDoneRx (s : State) (n : Nat) : State :=
  let s := s.heard
  if s.bent.role != .resync then s
  else
    let s := if s.bent.joined then s else s.joinStream n
    if s.bent.mseqSent != n then s.copyFail false
    else
      ({ s with bent := { s.bent with
          role := .standby, inSync := true, copying := false, copyUntil := none, copyLeft := 0, resyncFails := 0
          copyDone := upto 0 6, retryAt := none } }.count (bntCount 15)).startHoldOff

/-! ### Sending a copy, R645 to R647 -/

/-- The records to copy, in region order; settings and journal go as one each. -/
def copyKeys (s : State) : List (Nat × Nat) :=
  ((s.queues.filter (fun e => !s.isCommandQueue e.1)).map (fun e => (0, e.1)))
    ++ s.books.map (fun e => (0, 4096 + e.1)) ++ [(1, 0)]
    ++ (s.stream.rcvy.filter (fun e => e.2.state != 0)).map (fun e => (2, e.1))
    ++ (s.stream.entries.filter (fun e => e.2.state != 0)).map (fun e => (3, e.1))
    ++ (s.stream.accounts.filter (fun e => e.2.defined)).map (fun e => (4, e.1)) ++ [(5, 0)]

/-- A record as the active post's ledger holds it now, R646; nothing when it has become FREE. -/
def copyItems (s : State) (k : Nat × Nat) : List LedgerItem :=
  match k.1 with
  | 0 => if k.2 < 4096 then [ringItem k.2 (s.queue k.2)] else [bookItem (k.2 - 4096) (s.book (k.2 - 4096))]
  | 1 => s.bent.ledger.filter (fun i => itemRegion i == 1)
  | 2 => if (s.rcvy k.2).state = 0 then [] else [.rcvy k.2 (rcvyBytes (s.rcvy k.2))]
  | 3 => if (s.entry k.2).state = 0 then [] else [.stream k.2 (entryBytes (s.entry k.2))]
  | 4 => if (s.account k.2).defined then [.account k.2 (accountBytes k.2 (s.account k.2))] else []
  | _ => s.bent.journal.map heldJournal

/-- Queue a COPY packet for one record with the next MSEQ. -/
def sendCopy (s : State) (it : LedgerItem) : State :=
  let n := s.bent.mseqSent + 1
  { s with bent := { s.bent with mseqSent := n } }.sendTb (.copy n (.state it))

/-- Send copy records while nothing with priority waits and the stream has a credit; SYNC_DONE follows the last. -/
def pumpCopy (s : State) : Nat → State
  | 0 => s
  | n + 1 =>
    if s.bent.role != .active || !s.bent.copying || !s.bent.waiting.isEmpty || !s.mirrorCredit then s
    else match s.bent.copyQueue with
      | [] => { s with bent := { s.bent with copying := false, syncSent := true } }.sendTb (.syncDone s.bent.mseqSent)
      | k :: rest => ((s.copyItems k).foldl sendCopy { s with bent := { s.bent with copyQueue := rest } }).pumpCopy n

/-- Records that one pump can take at most. -/
abbrev copyBurst : Nat := 65

/-- The active post starts the copy to a resyncing partner. -/
def resyncStart (s : State) : State :=
  if s.bent.role != .active || s.bent.partnerRole != some .resync || s.bent.copying
      || !(s.bent.lane0.up || s.bent.lane1.up) then s
  else { s with bent := { s.bent with copying := true, syncSent := false, copyQueue := s.copyKeys } }.pumpCopy copyBurst

/-- The partner has freed n buffers of a lane: what waits goes, and the copy goes on (R613, R621, R647). -/
def creditReturn (s : State) (lane n : Nat) : State :=
  ((s.modLane lane (fun l => { l with inFlight := l.inFlight.drop n })).pumpWaiting 64).pumpCopy copyBurst

/-! ### Taking control, R636 step 1, R96, R97, R147 and R151 -/

/-- Time at a takeover: no step, HOLDOVER from TIE_BEAM, then the post's own references by slewing. -/
def timeTake (s : State) : State :=
  let s := { s with time := { s.time with noStep := true } }
  if s.time.phRef != some (RefId.mk 4 0) then s.reselect
  else
    let f := s.freeAdj
    let s := { f.2 with time := { f.2.time with
      dpll := Dpll.holdover, adj := f.1, holdFrom := f.2.time.ticks, phRef := none, nearRun := 0, convRun := 0 } }
    s.reselect

/-- The standby of the king bent becomes king, and a pending change is dropped. -/
def spanTake (s : State) : State :=
  if s.span.state != .member || s.span.kingId != s.bent.bentId then s
  else
    let s := match s.span.change with
      | some ch => { s with span := { s.span with change := none, dropAt := some ch.target } }.count (spnCount 8)
      | none => s
    { s with span := { s.span with state := SpanState.king } }

/-- Control passes to this post: ACTIVE, CONTROL_HELD, BNT_VECTOR and the message, counted by k (DEDUCED, log
entry 71). -/
def takeControl (s : State) (k : Nat) : State :=
  let s := { s with bent := { s.bent with
    role := .active, controlHeld := true, inSync := false, holdOffAt := none, retryAt := none, formAt := none, copying := false
    unacked := [], handoverCycle := none, handoverTime := none, handoverBySwitch := false, witness := false } }
  let s := ((s.count (bntCount k)).sendMsix 0 (s.reg (bntBase + 0x18))).raise beamSource 0x2E 0
  s.timeTake.spanTake.assignRoles 0

/-- A takeover, R636 steps 1 and 2: the settle, or at once the window reads. `upTo` is the MSEQ of a RESIGN. -/
def takeover (s : State) (settle : Bool) (upTo : Nat) : State :=
  let s := s.takeControl 0
  let step := if settle then BentStep.takeSettle (s.time.ticks + usTicks (s.reg (bntBase + 8))) else BentStep.takeWindow
  { s with bent := { s.bent with step := step, takeTo := upTo } }.madeActive

/-! ### The windows, R626 and R636 steps 3 to 9 -/

/-- Is the entry of a ring at an index completed, R626? -/
def entryCompleted (s : State) (q : Nat) (i : BitVec 16) : Bool :=
  let w := s.queue q
  let h := leAt (s.readHost (s.fnOfQueue q) (w.addr i) 4) 0 4
  hdrPhase h != lapParity w.logN i || hdrDone h == 1

/-- A queue state by its code. -/
def queueState (n : Nat) : QState := [QState.disabled, .running, .stopping, .error].getD n .disabled

/-- A bent ring runs here with the mirrored CI. -/
def installRing (s : State) (q : Nat) (r : RingLedger) : State :=
  match r.cfg with
  | some (.ring _ kind group book logN weight burst base shadow st _ _ _) =>
    s.modQueue q (fun w => { w with
      state := queueState (bits st 0 4), cause := bits st 4 4, latched := BitVec.ofNat 16 (bits st 16 16)
      kind := if kind = 1 then .rx else .tx, group := group, noticeBook := book, logN := logN, weight := weight, burst := burst
      base := BitVec.ofNat 64 base, shadow := BitVec.ofNat 64 shadow, pi := r.ci, ci := r.ci, invAck := 0, fetched := []
      started := [], accepting := none, stalled := false, enablePending := false, shadowDue := false })
  | _ => s

/-- Every source that may write to a daybook: queues that name it, and the ports', streams' and foreman's settings. -/
def bookSources (s : State) (b : Nat) : List Nat :=
  (s.queues.filter (fun e => e.2.noticeBook == b)).map (·.1)
    ++ (if (upto 0 25).any (fun p => s.regBits (prtBase p + 0x38) 0 8 == b) then [4096, 4098] else [])
    ++ (if s.regBits (stmBase + 0x48) 0 8 == b then [4097] else [])
    ++ (if s.regBits (fltBase + 8) 0 8 == b then [4099] else [])

/-- A bent daybook restarts, R639. -/
def installBook (s : State) (it : LedgerItem) : State :=
  match it with
  | .book b logN base pendingAddr home vector irqCount irqDelay st latched =>
    let bits := (s.bookSources b).foldl (fun l n => addBit n l) []
    let s := s.modBook b (fun k => { k with
      state := [BState.disabled, .running, .error].getD st .disabled, logN := logN, base := BitVec.ofNat 64 base
      pendingAddr := BitVec.ofNat 64 pendingAddr, bpi := 0, bci := 0, latched := BitVec.ofNat 16 latched, homeWq := home
      vector := vector, irqCount := irqCount, irqDelay := irqDelay, bitmap := if st = 0 then [] else bits, folded := 0
      uncovered := 0, firstUncovered := none, irqNow := false })
    if st = 1 then { s with bent := { s.bent with awaitBci := s.bent.awaitBci ++ [b] } } else s
  | _ => s

/-- Undo the delivery of a number by a function, R637. -/
def undoRcvy (s : State) (j : Journal) : State :=
  let f := s.rcvy j.target
  match ownSeq f.format f.skipZero j.seq with
  | none => s
  | some n =>
    let q := seqMod f.format f.skipZero
    let d := (f.recovSeq + q - n % q) % q
    if d < 1024 then s.setRcvy j.target { f with history := setBits f.history d 1 0 } else s

/-- Undo deliveries of an account, R637: NEXT goes back to the lowest of them, and the higher numbers that were delivered
and stay so enter the skip set. -/
def undoAccount (s : State) (a : Nat) (seqs : List Nat) : State :=
  let x := s.account a
  let q := accountQ x
  let back := seqs.filterMap (fun n => (ownSeq 3 x.skipZero n).map (fun n => (x.next + q - n % q) % q))
  let far := back.foldl max 0
  if far = 0 then s
  else
    let skip := (upto 1 (min far 1025 - 1)).filterMap (fun d =>
      if bit x.delivered (d - 1) && !back.contains d then some ((x.next + q - d) % q) else none)
    s.setAccount a { x with next := (x.next + q - far) % q, delivered := x.delivered / 2 ^ far
                            skipSet := x.skipSet ++ skip.filter (fun n => !x.skipSet.contains n), gap := 0 }

/-- Step 4 for one delivery: counted, and for a function undone (DEDUCED, log entry 74). -/
def undoOne (s : State) (j : Journal) : State :=
  if !j.isAccount && j.matchAlg then s.count (bntCount 11)
  else
    let s := s.count (bntCount 10)
    if j.isAccount then s else s.undoRcvy j

/-- Step 4 of R636: deliveries whose first entry is not completed are undone, and their entries are free to
take again (DEDUCED, log entry 74). -/
def undoDeliveries (s : State) : State :=
  let open_ := s.bent.journal.filter (fun j => !s.entryCompleted j.queue j.index)
  let s := open_.foldl undoOne s
  let accts := (open_.filter (·.isAccount)).foldl (fun (l : List Nat) j => if l.contains j.target then l else l ++ [j.target]) []
  let s := accts.foldl (fun s a =>
    s.undoAccount a ((open_.filter (fun j => j.isAccount && j.target == a)).map (·.seq))) s
  open_.foldl (fun s j => s.modQueue j.queue (fun w =>
    if (w.pi - w.ci).toNat < (w.pi - j.index).toNat then { w with ci := j.index } else w)) s

/-- Where a kept frame's number lies in the order of its function or account, from half a circle before its point. -/
def keptPlace (s : State) (k : Kept) : Nat :=
  if k.isAccount then
    let x := s.account k.target
    let q := accountQ x
    (k.seq + q + q / 2 - x.next % q) % q
  else
    let f := s.rcvy k.target
    let q := seqMod f.format f.skipZero
    (k.seq + q + q / 2 - f.recovSeq % q) % q

/-- Insert by place, after those of the same place. -/
def insertKept (p : Nat) (k : Kept) : List (Nat × Kept) → List (Nat × Kept)
  | [] => [(p, k)]
  | (a, x) :: t => if p < a then (p, k) :: (a, x) :: t else (a, x) :: insertKept p k t

/-- Offer one kept frame to its function or account, R636 step 5. It was counted as received when it came. -/
def offerKept (s : State) (k : Kept) : State :=
  match s.frame k.frame with
  | none => s
  | some f =>
    let s := s.modFrame k.frame (fun f => { f with stage := .dispatch })
    let r :=
      if k.isAccount then
        let x := s.account k.target
        (s.setAccount k.target { x with rx := Tab.set 0 x.rx k.path (Tab.get 0 x.rx k.path - 1) }).accountPacket
          k.target k.path k.frame (wireSeq x.skipZero k.seq)
      else s.recover k.frame k.target (s.viewOf f)
    match r.1 with
    | .pass => ((r.2.modFrame k.frame (fun f => { f with judged := true })).release k.frame).count (bntCount 14)
    | .discard => r.2.freeFrame k.frame
    | .held => r.2

/-- Step 5: every kept frame, in ascending number for each function and account. -/
def offerAll (s : State) : State :=
  let l := s.bent.kept.foldl (fun l k => insertKept (s.keptPlace k) k l) []
  l.foldl (fun s e => s.offerKept e.2) { s with bent := { s.bent with kept := [] } }

/-- Entries of the mirrored window of a TX ring that are not completed. -/
def openWindow (s : State) (q : Nat) (r : RingLedger) : List (Nat × Accepted) :=
  if rxRing r then [] else (r.window.filter (fun a => !s.entryCompleted q a.index)).map (fun a => (q, a))

/-- Steps 3 to 9 of R636 on the rings and daybooks of the ledger held. -/
def runLedger (s : State) : State :=
  let rings : List (Nat × RingLedger) := s.bent.rings.filter (fun (e : Nat × RingLedger) => e.2.cfg.isSome)
  let s := rings.foldl (fun s e => s.installRing e.1 e.2) s
  let rerun := rings.flatMap (fun e => s.openWindow e.1 e.2)
  let s := rings.foldl (fun s e => s.writeShadow e.1) s
  let s := s.undoDeliveries.offerAll
  let s := { s with bent := { s.bent with
    rerun := rerun, awaitPi := (rings.map (fun (e : Nat × RingLedger) => e.1)).filter (fun q => (s.queue q).state == QState.running), awaitBci := [] } }
  let s := s.bent.ledger.foldl installBook s
  { s with bent := { s.bent with step := .none, rings := [], journal := [], takeTo := 0
                                 ledger := s.bent.ledger.filter (fun i => itemRegion i == 1) } }

/-- The window reads of a takeover return; entries up to the RESIGN's MSEQ are waited for while a lane is up
(DEDUCED, log entry 73). -/
def windowRead (s : State) : State :=
  match s.bent.step with
  | .takeWindow =>
    if s.bent.mseqSent < s.bent.takeTo && (s.bent.lane0.up || s.bent.lane1.up) then s
    else s.runLedger
  | _ => s

/-- BNT_SETTLE has passed. -/
def settleEnds (s : State) : State :=
  match s.bent.step with
  | .takeSettle t =>
    let s := s.advanceTo t
    { s with bent := { s.bent with step := .takeWindow } }
  | _ => s

/-! ### The partner gives up control -/

/-- RESIGN arrives, R628, R636 and R649. -/
def resignRx (s : State) (n : Nat) (flushed : Bool) : State :=
  let s := s.heard
  let s := { s with bent := { s.bent with partnerRole := some Role.resigned } }
  match s.bent.role with
  | .standby => if s.bent.cold then s else if s.bent.inSync then s.takeover (!flushed) n else s.becomeOrphan
  | .resync => s.becomeOrphan
  | _ => s

/-- PARTNER_HELD has been low for 2 µs, R628, R636 and R652 (DEDUCED, log entry 80). -/
def partnerLow (s : State) : State :=
  let s := { s with bent := { s.bent with partnerHeld := false } }
  match s.bent.role with
  | .standby =>
    if s.bent.cold then s.wakeEvent 5 0
    else if s.bent.inSync then s.takeover true 0
    else s.becomeOrphan
  | .resync => s.becomeOrphan
  | .forming => s.formCheck
  | _ => s

/-- PARTNER_HELD has been high for 2 µs, R628: two posts that hold control, or a partner that a waiting post
can ask (DEDUCED, log entry 72). -/
def partnerHigh (s : State) : State :=
  let s := { s with bent := { s.bent with partnerHeld := true } }
  match s.bent.role with
  | .active =>
    let s := (s.count (bntCount 5)).raise beamSource 0x2F 1
    if s.bentHome then s
    else ({ s with bent := { s.bent with
        step := .none, controlHeld := false, role := .resigned, inSync := false, copying := false, copyQueue := [], unacked := []
        resignedFatal := false } }.kingDown).maintCheck
  | .forming => s.formCheck
  | .orphan => s.enterResync
  | _ => s

/-! ### Handover, R643 -/

/-- The rings of the post as the ledger of a standby in sync: nothing of them is open. -/
def ledgerRings (s : State) : Tab RingLedger :=
  (s.queues.filter (fun e => !s.isCommandQueue e.1)).map (fun e => (e.1, idleRing (ringItem e.1 e.2) e.2))

/-- Packets an account holds for ordering are kept for the other post's deliveries (R623). -/
def keepHeld (s : State) : State :=
  s.stream.accounts.foldl (fun s e =>
    let s := e.2.held.foldl (fun s h => s.keep h.frame true e.1 h.path h.seq) s
    if e.2.held.isEmpty then s else s.setAccount e.1 { s.account e.1 with held := [] }) s

/-- Steps 3 and 5 of R643 at the old active post (DEDUCED, log entry 70). -/
def handOver (s : State) : State :=
  let bySwitch := s.bent.handoverBySwitch
  let rings := s.ledgerRings
  let books := s.books.map (fun e => bookItem e.1 e.2)
  let s := s.sendTb (.handover s.bent.mseqSent)
  let s := ((s.dropRings.keepHeld).count (bntCount 2)).kingDown
  let s := { s with bent := { s.bent with
    role := .standby, controlHeld := false, inSync := true, step := .none, copying := false, copyQueue := [], syncSent := false
    unacked := [], rings := rings, journal := [], copyDone := upto 0 6, rerun := [], awaitPi := [], awaitBci := []
    ledger := s.bent.ledger.filter (fun i => itemRegion i == 1) ++ books, handoverBySwitch := false
    fallback := s.bent.fallback && !bySwitch } }
  s.reselect.finishKind (fun k => k == WaitKind.bentSwitch) .ok (some 2)

/-- The drain of a handover ends: the work is done, the entries confirmed and the flush read completed. -/
def handoverDrained (s : State) : State :=
  let s := s.startPlanned
  match s.bent.step with
  | .drain _ => if s.drained then s.handOver else s
  | _ => s

/-- HANDOVER arrives: the standby takes control with an empty window and no settle (DEDUCED, log entry 70, 71, 97). -/
def handoverRx (s : State) (n : Nat) : State :=
  let s := s.heard
  if s.bent.role != .standby || s.bent.cold || !s.bent.inSync then s
  else if s.bent.mseqSent != n then s.outOfSync
  else
    let bySwitch := s.bent.handoverBySwitch
    let s := s.takeControl 2
    let s := { s with bent := { s.bent with inSync := true, fallback := s.bent.fallback && !bySwitch, partnerRole := some Role.standby, mseqConfirmed := n, journal := [] } }
    s.runLedger.madeActive

end State

/-! ### Meanings: events -/

/-- MIRROR_RX: entries from an MSEQ on, or a packet whose CRC fails. -/
def execMirrorRx (bad : Bool) (n : Nat) (es : List MirrorEntry) (s : State) : Result :=
  ok (if bad then s.badPacket else s.mirrorRx n es)

/-- COPY_RX: records from an MSEQ on, or a packet whose CRC fails. -/
def execCopyRx (bad : Bool) (n : Nat) (items : List LedgerItem) (s : State) : Result :=
  ok (if bad then s.badPacket else s.copyRx n items)

/-- SYNC_DONE_RX. -/
def execSyncDoneRx (n : Nat) (s : State) : Result := ok (s.syncDoneRx n)

/-- RESYNC_START. -/
def execResyncStart (s : State) : Result := ok s.resyncStart

/-- TB_CREDIT_RETURN of a lane. -/
def execTbCreditReturn (lane n : Nat) (s : State) : Result := ok (if 2 ≤ lane then s else s.creditReturn lane n)

/-- RESIGN_RX. -/
def execResignRx (n : Nat) (flushed _fatal : Bool) (s : State) : Result := ok (s.resignRx n flushed)

/-- PARTNER_HELD_LOW. -/
def execPartnerHeldLow (s : State) : Result := ok s.partnerLow

/-- PARTNER_HELD_HIGH. -/
def execPartnerHeldHigh (s : State) : Result := ok s.partnerHigh

/-- TAKEOVER_SETTLE_EXPIRE. -/
def execTakeoverSettleExpire (s : State) : Result := ok s.settleEnds

/-- TAKEOVER_WINDOW_READ. -/
def execTakeoverWindowRead (s : State) : Result := ok s.windowRead

/-- HANDOVER_DRAINED. -/
def execHandoverDrained (s : State) : Result := ok s.handoverDrained

/-- HANDOVER_RX. -/
def execHandoverRx (n : Nat) (s : State) : Result := ok (s.handoverRx n)

/-- SPAN_STATE_RX, R147: a member that stands by for its king follows the cycle, T(n), pattern and announcement. -/
def execSpanStateRx (cycle : BitVec 32) (start pattern : Nat) (ann : Option (Nat × BitVec 32)) (s : State) : Result :=
  ok (let s := s.heard
    if s.bent.role != .standby || s.span.state != .member || s.span.kingId != s.bent.bentId || s.span.cycle != cycle then s
    else
      let old := s.span.change
      let change : Option Change := ann.map (fun a =>
        match old with
        | some ch => if ch.pattern == a.1 && ch.target == a.2 then ch else { pattern := a.1, target := a.2, fromCycle := cycle }
        | none => { pattern := a.1, target := a.2, fromCycle := cycle })
      { s with span := { s.span with tn := start, pattern := pattern, change := change } })

/-! ### Meanings: commands -/

/-- LEDGER_WRITE, R658. -/
def execLedgerWrite (c : Cmd) (s : State) : Result :=
  runStep 0x0B05 c s (fun s =>
    let r := c.f 0 0 3
    if s.bent.role != .forming then Eff.refuse s .notActive
    else if !ledgerRange c then Eff.refuse s .inconsistent
    else
      let items := Config.ledgerItems r (c.n 8 8) (s.readHost (s.cmdFn c) (c.n 0x10 8) (c.n 0x18 4))
      let s := (items.filter (fun i => itemRegion i == r)).foldl State.applyItem s
      Eff.ok { s with bent := { s.bent with
        copyDone := if s.bent.copyDone.contains r then s.bent.copyDone else s.bent.copyDone ++ [r] } })

/-- Functions and accounts of a region that is not complete start with TAKE_ANY, R651. -/
def State.takeAnyLeft (s : State) : State :=
  let s := if s.bent.copyDone.contains 2 then s else
    { s with stream := { s.stream with rcvy := Tab.mapAll {} (fun _ (f : Recovery) =>
        if f.state = 0 then f else { f with takeAny := true }) s.stream.rcvy } }
  if s.bent.copyDone.contains 4 then s else
    { s with stream := { s.stream with accounts := Tab.mapAll {} (fun _ (a : Account) =>
        if a.defined then { a with takeAny := true } else a) s.stream.accounts } }

/-- BENT_ASSUME, R650, R651 and R659. -/
def execBentAssume (c : Cmd) (s : State) : Result :=
  runStep 0x0B06 c s (fun s =>
    if !c.force then Eff.refuse s .inconsistent
    else if s.bent.role != .orphan && s.bent.role != .forming then Eff.refuse s .notActive
    else if s.bent.partnerHeld then Eff.refuse s .busy
    else Eff.ok (s.takeAnyLeft.takeover true 0))

end Sys2Proof.Machine
end

