-- ==== Sys2Proof/Machine/Runs.lean ====
section
/-!
DEFINITION. Commands that reach the clerk by another way than a command queue: from the partner over the tie beam (R581,
R582, R858) and carried from the king (R583 to R586).
-/

namespace Sys2Proof.Machine

/-- The commands 0x00xx. -/
def runs00 : List (Nat × (Cmd → State → Result)) := [
  (0x0000, execNop), (0x0001, execIdentify), (0x0002, execFence),
  (0x0003, execEcho), (0x0004, execRegRead), (0x0005, execRegWrite)]

/-- The commands 0x01xx. -/
def runs01 : List (Nat × (Cmd → State → Result)) := [
  (0x0100, execBenchOpen), (0x0101, execBenchDryFit), (0x0102, execBenchPeg),
  (0x0103, execBenchDiscard), (0x0104, execBenchStatus)]

/-- The commands 0x02xx. -/
def runs02 : List (Nat × (Cmd → State → Result)) := [
  (0x0200, execTimeGet), (0x0201, execTimeSet), (0x0202, execTimeAccept),
  (0x0203, execTimeSlew), (0x0204, execTimePortRead), (0x0210, execSetTimeRef),
  (0x0211, execSetDpll), (0x0212, execSetPtpInstance), (0x0213, execSetPtpPort),
  (0x0214, execSetPortLatency), (0x0215, execSetSynce), (0x0216, execSetTimeIo),
  (0x0217, execSetTsDaybook)]

/-- The commands 0x03xx. -/
def runs03 : List (Nat × (Cmd → State → Result)) := [
  (0x0300, execSpanStatus), (0x0301, execSpanJoin), (0x0302, execSpanLeave),
  (0x0303, execPatternChange), (0x0304, execSpanOwnerRead), (0x0310, execSetSpanLocal),
  (0x0311, execSetSpanPort), (0x0312, execSetPatternSet), (0x0313, execSetSlotSource)]

/-- The commands 0x04xx. -/
def runs04 : List (Nat × (Cmd → State → Result)) := [
  (0x0400, execPortStatus), (0x0401, execLinkRestart), (0x0402, execMacsecScRead),
  (0x0403, execThreshReset), (0x0408, execMacMergeStatus), (0x0409, execMacMergePartner),
  (0x040A, execVerifyRestart), (0x0410, execSetPortMode), (0x0411, execSetPortFrame),
  (0x0412, execSetFlowControl), (0x0413, execSetEee), (0x0414, execSetPortWake),
  (0x0415, execSetMacsecPort), (0x0416, execSetMacsecSc), (0x0417, execSetMacsecSa),
  (0x0418, execSetMacMerge)]

/-- The commands 0x05xx. -/
def runs05 : List (Nat × (Cmd → State → Result)) := [
  (0x0500, execGateStatus), (0x0501, execGateListRead), (0x0510, execSetCuttingList),
  (0x0511, execSetGatePort)]

/-- The commands 0x06xx. -/
def runs06 : List (Nat × (Cmd → State → Result)) := [
  (0x0600, execQsvStatus), (0x0601, execFlowRead), (0x0602, execFilterRead),
  (0x0603, execMeterRead), (0x0604, execFilterUnblock), (0x0605, execMeterUnmark),
  (0x0610, execSetQsvPort), (0x0611, execSetClassService), (0x0612, execSetFlow),
  (0x0620, execSetStreamFilter), (0x0621, execSetFlowMeter)]

/-- The commands 0x07xx. -/
def runs07 : List (Nat × (Cmd → State → Result)) := [
  (0x0700, execStreamStatus), (0x0701, execStreamRead), (0x0702, execStreamFind),
  (0x0703, execRcvyRead), (0x0704, execAccountRead), (0x0705, execSeqReset),
  (0x0706, execStreamForget), (0x0710, execSetStreams), (0x0711, execSetRecovery),
  (0x0712, execSetAccounts), (0x0713, execSetMaskRule), (0x0714, execSetLearnRule),
  (0x0715, execSetStreamGlobal)]

/-- The commands 0x08xx. -/
def runs08 : List (Nat × (Cmd → State → Result)) := [
  (0x0800, execJoineryStatus), (0x0801, execMicrocodeRead), (0x0802, execHookTableRead),
  (0x0810, execSetMicrocode), (0x0811, execSetHook), (0x0812, execSetClassRules),
  (0x0813, execSetSteerEntries), (0x0814, execSetHookTable)]

/-- The commands 0x09xx. -/
def runs09 : List (Nat × (Cmd → State → Result)) := [
  (0x0900, execWqStatus), (0x0901, execWqEnable), (0x0902, execWqDisable),
  (0x0903, execBookStatus), (0x0904, execBookEnable), (0x0905, execBookDisable),
  (0x0910, execSetWqService)]

/-- The commands 0x0Axx. -/
def runs0A : List (Nat × (Cmd → State → Result)) := [
  (0x0A00, execDrayStatus), (0x0A01, execDrayStart), (0x0A02, execDrayStop),
  (0x0A03, execDrayAbort), (0x0A10, execSetDrayChannel)]

/-- The commands 0x0Bxx. -/
def runs0B : List (Nat × (Cmd → State → Result)) := [
  (0x0B00, execBentStatus), (0x0B01, execBentSwitch), (0x0B02, execBentResign),
  (0x0B03, execBentResync), (0x0B04, execLedgerRead), (0x0B05, execLedgerWrite),
  (0x0B06, execBentAssume), (0x0B10, execSetBent)]

/-- The commands 0x0Cxx. -/
def runs0C : List (Nat × (Cmd → State → Result)) := [
  (0x0C00, execAsyStatus), (0x0C01, execAsyParam), (0x0C02, execAsyKey),
  (0x0C03, execAsyFirmware), (0x0C04, execAsySnapshot), (0x0C05, execAsyLegalTime),
  (0x0C06, execAsyLogRoll), (0x0C07, execAsyRead)]

/-- The commands 0x0Dxx. -/
def runs0D : List (Nat × (Cmd → State → Result)) := [
  (0x0D00, execFaultStatus), (0x0D01, execFaultClear), (0x0D02, execFaultInject),
  (0x0D10, execSetFaultKind), (0x0D11, execSetFaultGlobal)]

/-- The commands 0x0Exx. -/
def runs0E : List (Nat × (Cmd → State → Result)) := [
  (0x0E00, execPowerStatus), (0x0E01, execPowerRequest), (0x0E10, execSetPower)]

/-- The commands 0x0Fxx. -/
def runs0F : List (Nat × (Cmd → State → Result)) := [
  (0x0F00, execStocktake), (0x0F01, execStocktakeStatus), (0x0F02, execStocktakeRelease),
  (0x0F03, execStocktakeCancel)]

/-- The commands 0x7Fxx. -/
def runs7F : List (Nat × (Cmd → State → Result)) := [
  (0x7F00, execMaintEnter), (0x7F01, execSelftest), (0x7F02, execMemBist),
  (0x7F03, execEyeScan), (0x7F10, execSetSelftest)]

/-- Every opcode with its meaning. -/
def opRuns : List (Nat × (Cmd → State → Result)) :=
  runs00 ++ runs01 ++ runs02 ++ runs03 ++ runs04 ++ runs05 ++ runs06 ++ runs07 ++ runs08 ++ runs09 ++ runs0A ++ runs0B ++ runs0C ++ runs0D ++ runs0E ++ runs0F ++ runs7F

/-- Execute a command by its opcode; one that the table does not list ends with BAD_OPCODE (R578 step 1). -/
def runOpcode (code : Nat) (c : Cmd) (s : State) : Result :=
  match opRuns.find? (fun (e : Nat × (Cmd → State → Result)) => e.1 == code) with
  | some e => e.2 c s
  | none => runStep code c s (fun s => Eff.refuse s .badOpcode)

/-- The state that a result goes on with. -/
def goOn (s : State) (r : Result) : State :=
  match r with
  | .next t => t
  | _ => s

/-- The command in the DATA of a carriage frame of KIND 1, R584: opcode, CARRY_SEQ and packet (DEDUCED, log
entry 68). -/
def carriedCmd (c : Carry) : Option (Nat × BitVec 32 × Cmd) :=
  let n := beAt c.data 8 2
  let seq := BitVec.ofNat 32 (beAt c.data 4 4)
  if c.kind != 1 || seq != c.tag || 232 < n || c.data.length < 12 + n then none
  else some (beAt c.data 0 2, seq,
    { origin := .carried seq, len := ceilDiv (n + 24) 32, force := leAt c.data 2 1 % 2 == 1, params := slice c.data 12 n })

/-- Execute a carried command of a king, once for each CARRY_SEQ (R585) (DEDUCED, log entry 68, 81). -/
def State.runCarried (s : State) (king : BitVec 64) (c : Carry) : State :=
  match carriedCmd c with
  | none => s
  | some (code, seq, cmd) =>
    let done := if s.clerk.carryKing == king then s.clerk.carryDone else []
    if !s.clerk.ready || !s.span.cycValid || s.isKing || s.span.kingId != king || done.contains seq then s
    else
      let s := { s with clerk := { s.clerk with carryKing := king, carryDone := done ++ [seq] } }.count (cmdCount 10)
      goOn s (runOpcode code cmd s)

/-- CARRIED_COMMAND_RX: a carried command of the king in a first valid carriage copy. -/
def execCarriedCommandRx (king : BitVec 64) (c : Carry) (s : State) : Result := ok (s.runCarried king c)

/-- CARRY_RX at port p with receive timestamp t. -/
def execCarryRx (p : Nat) (h : SpanHdr) (c : Carry) (t : Nat) (s : State) : Result :=
  ok (s.spanRx p (24 + c.data.length) (fun s => s.carryCopy p h c t (fun s => s.runCarried h.owner c)))

/-- PARTNER_COMMAND_RX: a command from the partner, as a command of its own scope here; its answer goes back
(R582) (DEDUCED, log entry 81). -/
def execPartnerCommandRx (ref opcode : Nat) (c : Cmd) (s : State) : Result :=
  let s := s.heard
  if s.bent.role == .solo || !s.clerk.ready then ok s
  else runOpcode opcode { c with origin := .partner ref, partner := false } s

end Sys2Proof.Machine
end

