-- ==== Sys2Proof/Machine/Dispatch.lean ====
section
/-!
DEFINITION. One arm per constructor of Instr, each a direct call of that command's meaning.
-/

namespace Sys2Proof.Machine

def exec (i : Instr) (s : State) : Host.Outcome State Fault Refusal :=
  match i with
  | .nop c => Sys2Proof.Machine.execNop c s
  | .identify c => Sys2Proof.Machine.execIdentify c s
  | .fence c => Sys2Proof.Machine.execFence c s
  | .echo c => Sys2Proof.Machine.execEcho c s
  | .regRead c => Sys2Proof.Machine.execRegRead c s
  | .regWrite c => Sys2Proof.Machine.execRegWrite c s
  | .benchOpen c => Sys2Proof.Machine.execBenchOpen c s
  | .benchDryFit c => Sys2Proof.Machine.execBenchDryFit c s
  | .benchPeg c => Sys2Proof.Machine.execBenchPeg c s
  | .benchDiscard c => Sys2Proof.Machine.execBenchDiscard c s
  | .benchStatus c => Sys2Proof.Machine.execBenchStatus c s
  | .benchStaged bench => Sys2Proof.Machine.execBenchStaged bench s
  | .benchPegInstant bench => Sys2Proof.Machine.execBenchPegInstant bench s
  | .commandTake => Sys2Proof.Machine.execCommandTake s
  | .carriedCommandRx king carry => Sys2Proof.Machine.execCarriedCommandRx king carry s
  | .carriedReplyRx owner data => Sys2Proof.Machine.execCarriedReplyRx owner data s
  | .partnerCommandRx ref opcode cmd => Sys2Proof.Machine.execPartnerCommandRx ref opcode cmd s
  | .partnerReplyRx ref st clamps detail reply => Sys2Proof.Machine.execPartnerReplyRx ref st clamps detail reply s
  | .partnerReplyTimeout => Sys2Proof.Machine.execPartnerReplyTimeout s
  | .timeGet c => Sys2Proof.Machine.execTimeGet c s
  | .timeSet c => Sys2Proof.Machine.execTimeSet c s
  | .timeAccept c => Sys2Proof.Machine.execTimeAccept c s
  | .timeSlew c => Sys2Proof.Machine.execTimeSlew c s
  | .timePortRead c => Sys2Proof.Machine.execTimePortRead c s
  | .timeSetPpsTimeout => Sys2Proof.Machine.execTimeSetPpsTimeout s
  | .setTimeRef c => Sys2Proof.Machine.execSetTimeRef c s
  | .setDpll c => Sys2Proof.Machine.execSetDpll c s
  | .setPtpInstance c => Sys2Proof.Machine.execSetPtpInstance c s
  | .setPtpPort c => Sys2Proof.Machine.execSetPtpPort c s
  | .setPortLatency c => Sys2Proof.Machine.execSetPortLatency c s
  | .setSynce c => Sys2Proof.Machine.execSetSynce c s
  | .setTimeIo c => Sys2Proof.Machine.execSetTimeIo c s
  | .setTsDaybook c => Sys2Proof.Machine.execSetTsDaybook c s
  | .slewDone => Sys2Proof.Machine.execSlewDone s
  | .timeBusLoad => Sys2Proof.Machine.execTimeBusLoad s
  | .timeBusRecal => Sys2Proof.Machine.execTimeBusRecal s
  | .dpllUpdate offset => Sys2Proof.Machine.execDpllUpdate offset s
  | .refQualified kind source => Sys2Proof.Machine.execRefQualified kind source s
  | .refDisqualified kind source => Sys2Proof.Machine.execRefDisqualified kind source s
  | .holdoverLimitExpire => Sys2Proof.Machine.execHoldoverLimitExpire s
  | .ppsInEdge => Sys2Proof.Machine.execPpsInEdge s
  | .todMessageRx isTime sec => Sys2Proof.Machine.execTodMessageRx isTime sec s
  | .secondBoundary => Sys2Proof.Machine.execSecondBoundary s
  | .syncTx p => Sys2Proof.Machine.execSyncTx p s
  | .announceTx p => Sys2Proof.Machine.execAnnounceTx p s
  | .syncRx p m followUp report t => Sys2Proof.Machine.execSyncRx p m followUp report t s
  | .announceRx p domain a => Sys2Proof.Machine.execAnnounceRx p domain a s
  | .pdelayReqTx p => Sys2Proof.Machine.execPdelayReqTx p s
  | .pdelayReqRx p m t => Sys2Proof.Machine.execPdelayReqRx p m t s
  | .pdelayRespRx p m followUp t => Sys2Proof.Machine.execPdelayRespRx p m followUp t s
  | .pdelayLost p => Sys2Proof.Machine.execPdelayLost p s
  | .syncTimeout p => Sys2Proof.Machine.execSyncTimeout p s
  | .phaseReportTx p => Sys2Proof.Machine.execPhaseReportTx p s
  | .phaseReportRx p r fwd => Sys2Proof.Machine.execPhaseReportRx p r fwd s
  | .esmcRx p ql => Sys2Proof.Machine.execEsmcRx p ql s
  | .esmcTx p => Sys2Proof.Machine.execEsmcTx p s
  | .spanStatus c => Sys2Proof.Machine.execSpanStatus c s
  | .spanJoin c => Sys2Proof.Machine.execSpanJoin c s
  | .spanLeave c => Sys2Proof.Machine.execSpanLeave c s
  | .patternChange c => Sys2Proof.Machine.execPatternChange c s
  | .spanOwnerRead c => Sys2Proof.Machine.execSpanOwnerRead c s
  | .setSpanLocal c => Sys2Proof.Machine.execSetSpanLocal c s
  | .setSpanPort c => Sys2Proof.Machine.execSetSpanPort c s
  | .setPatternSet c => Sys2Proof.Machine.execSetPatternSet c s
  | .setSlotSource c => Sys2Proof.Machine.execSetSlotSource c s
  | .listenTimerExpire => Sys2Proof.Machine.execListenTimerExpire s
  | .cycleBoundary => Sys2Proof.Machine.execCycleBoundary s
  | .bellRx p h b t => Sys2Proof.Machine.execBellRx p h b t s
  | .bellMissing => Sys2Proof.Machine.execBellMissing s
  | .slotReadyLead slot => Sys2Proof.Machine.execSlotReadyLead slot s
  | .spanLaunch => Sys2Proof.Machine.execSpanLaunch s
  | .minislotEnd => Sys2Proof.Machine.execMinislotEnd s
  | .slotEnd slot => Sys2Proof.Machine.execSlotEnd slot s
  | .slotCopyRx p h data t => Sys2Proof.Machine.execSlotCopyRx p h data t s
  | .dynCopyRx p h data t => Sys2Proof.Machine.execDynCopyRx p h data t s
  | .carryRx p h c t => Sys2Proof.Machine.execCarryRx p h c t s
  | .relayLaunch => Sys2Proof.Machine.execRelayLaunch s
  | .gateEntryChange p => Sys2Proof.Machine.execGateEntryChange p s
  | .gateStatus c => Sys2Proof.Machine.execGateStatus c s
  | .gateListRead c => Sys2Proof.Machine.execGateListRead c s
  | .setCuttingList c => Sys2Proof.Machine.execSetCuttingList c s
  | .setGatePort c => Sys2Proof.Machine.execSetGatePort c s
  | .wireFree p => Sys2Proof.Machine.execWireFree p s
  | .fragmentEnd p => Sys2Proof.Machine.execFragmentEnd p s
  | .frameTxEnd p => Sys2Proof.Machine.execFrameTxEnd p s
  | .cbsCreditEligible p c => Sys2Proof.Machine.execCbsCreditEligible p c s
  | .shaperEligible p c n => Sys2Proof.Machine.execShaperEligible p c n s
  | .enqueueComplete p => Sys2Proof.Machine.execEnqueueComplete p s
  | .flowAgeExpire p n => Sys2Proof.Machine.execFlowAgeExpire p n s
  | .qsvStatus c => Sys2Proof.Machine.execQsvStatus c s
  | .flowRead c => Sys2Proof.Machine.execFlowRead c s
  | .filterRead c => Sys2Proof.Machine.execFilterRead c s
  | .meterRead c => Sys2Proof.Machine.execMeterRead c s
  | .filterUnblock c => Sys2Proof.Machine.execFilterUnblock c s
  | .meterUnmark c => Sys2Proof.Machine.execMeterUnmark c s
  | .setQsvPort c => Sys2Proof.Machine.execSetQsvPort c s
  | .setClassService c => Sys2Proof.Machine.execSetClassService c s
  | .setFlow c => Sys2Proof.Machine.execSetFlow c s
  | .setStreamFilter c => Sys2Proof.Machine.execSetStreamFilter c s
  | .setFlowMeter c => Sys2Proof.Machine.execSetFlowMeter c s
  | .pauseRx p b fcsBad t => Sys2Proof.Machine.execPauseRx p b fcsBad t s
  | .pauseTimerExpire p k => Sys2Proof.Machine.execPauseTimerExpire p k s
  | .pauseRefresh p k => Sys2Proof.Machine.execPauseRefresh p k s
  | .macMergeStatus c => Sys2Proof.Machine.execMacMergeStatus c s
  | .macMergePartner c => Sys2Proof.Machine.execMacMergePartner c s
  | .verifyRestart c => Sys2Proof.Machine.execVerifyRestart c s
  | .setMacMerge c => Sys2Proof.Machine.execSetMacMerge c s
  | .verifySend p => Sys2Proof.Machine.execVerifySend p s
  | .verifyTimeout p => Sys2Proof.Machine.execVerifyTimeout p s
  | .verifyMpacketRx p bad => Sys2Proof.Machine.execVerifyMpacketRx p bad s
  | .respondMpacketRx p bad => Sys2Proof.Machine.execRespondMpacketRx p bad s
  | .fragmentRx p smd frag crc b t => Sys2Proof.Machine.execFragmentRx p smd frag crc b t s
  | .lldpTx p => Sys2Proof.Machine.execLldpTx p s
  | .lldpduRx p b t => Sys2Proof.Machine.execLldpduRx p b t s
  | .partnerValuesExpire p => Sys2Proof.Machine.execPartnerValuesExpire p s
  | .operationModeChange p => Sys2Proof.Machine.execOperationModeChange p s
  | .portStatus c => Sys2Proof.Machine.execPortStatus c s
  | .linkRestart c => Sys2Proof.Machine.execLinkRestart c s
  | .macsecScRead c => Sys2Proof.Machine.execMacsecScRead c s
  | .threshReset c => Sys2Proof.Machine.execThreshReset c s
  | .setPortMode c => Sys2Proof.Machine.execSetPortMode c s
  | .setPortFrame c => Sys2Proof.Machine.execSetPortFrame c s
  | .setFlowControl c => Sys2Proof.Machine.execSetFlowControl c s
  | .setEee c => Sys2Proof.Machine.execSetEee c s
  | .setPortWake c => Sys2Proof.Machine.execSetPortWake c s
  | .setMacsecPort c => Sys2Proof.Machine.execSetMacsecPort c s
  | .setMacsecSc c => Sys2Proof.Machine.execSetMacsecSc c s
  | .setMacsecSa c => Sys2Proof.Machine.execSetMacsecSa c s
  | .pcsLinkUp p => Sys2Proof.Machine.execPcsLinkUp p s
  | .pcsLinkDown p signal hiBer => Sys2Proof.Machine.execPcsLinkDown p signal hiBer s
  | .linkDebounceExpire p => Sys2Proof.Machine.execLinkDebounceExpire p s
  | .linkDownDiscard p => Sys2Proof.Machine.execLinkDownDiscard p s
  | .frameRx p b fcsBad cut t => Sys2Proof.Machine.execFrameRx p b fcsBad cut t s
  | .tsRecordWrite p => Sys2Proof.Machine.execTsRecordWrite p s
  | .txUnderrun p => Sys2Proof.Machine.execTxUnderrun p s
  | .underrunDecay p c => Sys2Proof.Machine.execUnderrunDecay p c s
  | .lpiEnter p => Sys2Proof.Machine.execLpiEnter p s
  | .knockRx p b fcsBad t => Sys2Proof.Machine.execKnockRx p b fcsBad t s
  | .stocktake c => Sys2Proof.Machine.execStocktake c s
  | .stocktakeStatus c => Sys2Proof.Machine.execStocktakeStatus c s
  | .stocktakeRelease c => Sys2Proof.Machine.execStocktakeRelease c s
  | .stocktakeCancel c => Sys2Proof.Machine.execStocktakeCancel c s
  | .stocktakeCopyDone bank => Sys2Proof.Machine.execStocktakeCopyDone bank s
  | .frameDispatch upsets => Sys2Proof.Machine.execFrameDispatch upsets s
  | .frameDataArrival id n => Sys2Proof.Machine.execFrameDataArrival id n s
  | .lookupAnswer k => Sys2Proof.Machine.execLookupAnswer k s
  | .streamEngineFrame id miss => Sys2Proof.Machine.execStreamEngineFrame id miss s
  | .cacheFetchDone id => Sys2Proof.Machine.execCacheFetchDone id s
  | .learnAgeExpire h => Sys2Proof.Machine.execLearnAgeExpire h s
  | .rcvyResetTimeout r => Sys2Proof.Machine.execRcvyResetTimeout r s
  | .latentErrorTest isAccount index => Sys2Proof.Machine.execLatentErrorTest isAccount index s
  | .accountHoldExpire a => Sys2Proof.Machine.execAccountHoldExpire a s
  | .accountResetTimeout a => Sys2Proof.Machine.execAccountResetTimeout a s
  | .streamStatus c => Sys2Proof.Machine.execStreamStatus c s
  | .streamRead c => Sys2Proof.Machine.execStreamRead c s
  | .streamFind c => Sys2Proof.Machine.execStreamFind c s
  | .rcvyRead c => Sys2Proof.Machine.execRcvyRead c s
  | .accountRead c => Sys2Proof.Machine.execAccountRead c s
  | .seqReset c => Sys2Proof.Machine.execSeqReset c s
  | .streamForget c => Sys2Proof.Machine.execStreamForget c s
  | .setStreams c => Sys2Proof.Machine.execSetStreams c s
  | .setRecovery c => Sys2Proof.Machine.execSetRecovery c s
  | .setAccounts c => Sys2Proof.Machine.execSetAccounts c s
  | .setMaskRule c => Sys2Proof.Machine.execSetMaskRule c s
  | .setLearnRule c => Sys2Proof.Machine.execSetLearnRule c s
  | .setStreamGlobal c => Sys2Proof.Machine.execSetStreamGlobal c s
  | .threadTimeout k => Sys2Proof.Machine.execThreadTimeout k s
  | .csScrub c a m => Sys2Proof.Machine.execCsScrub c a m s
  | .csRewrite c => Sys2Proof.Machine.execCsRewrite c s
  | .rotationFence => Sys2Proof.Machine.execRotationFence s
  | .rotationTestEnd fail => Sys2Proof.Machine.execRotationTestEnd fail s
  | .clusterGate c => Sys2Proof.Machine.execClusterGate c s
  | .joineryStatus c => Sys2Proof.Machine.execJoineryStatus c s
  | .microcodeRead c => Sys2Proof.Machine.execMicrocodeRead c s
  | .hookTableRead c => Sys2Proof.Machine.execHookTableRead c s
  | .setMicrocode c => Sys2Proof.Machine.execSetMicrocode c s
  | .setHook c => Sys2Proof.Machine.execSetHook c s
  | .setClassRules c => Sys2Proof.Machine.execSetClassRules c s
  | .setSteerEntries c => Sys2Proof.Machine.execSetSteerEntries c s
  | .setHookTable c => Sys2Proof.Machine.execSetHookTable c s
  | .spillStart => Sys2Proof.Machine.execSpillStart s
  | .spillReturn id n => Sys2Proof.Machine.execSpillReturn id n s
  | .windowHandoff => Sys2Proof.Machine.execWindowHandoff s
  | .wqDoorbell fn q v => Sys2Proof.Machine.execWqDoorbell fn q v s
  | .wqInvalidate fn q v => Sys2Proof.Machine.execWqInvalidate fn q v s
  | .bookDoorbell fn q v => Sys2Proof.Machine.execBookDoorbell fn q v s
  | .cqCfgWrite fn q off v => Sys2Proof.Machine.execCqCfgWrite fn q off v s
  | .entryFetched q bad => Sys2Proof.Machine.execEntryFetched q bad s
  | .arbiterRound => Sys2Proof.Machine.execArbiterRound s
  | .shadowWrite q => Sys2Proof.Machine.execShadowWrite q s
  | .wqStopped q => Sys2Proof.Machine.execWqStopped q s
  | .rxDelivery q => Sys2Proof.Machine.execRxDelivery q s
  | .wqFenceDone q => Sys2Proof.Machine.execWqFenceDone q s
  | .daybookRecord b => Sys2Proof.Machine.execDaybookRecord b s
  | .daybookOverflow b => Sys2Proof.Machine.execDaybookOverflow b s
  | .daybookIrq b => Sys2Proof.Machine.execDaybookIrq b s
  | .wqStatus c => Sys2Proof.Machine.execWqStatus c s
  | .wqEnable c => Sys2Proof.Machine.execWqEnable c s
  | .wqDisable c => Sys2Proof.Machine.execWqDisable c s
  | .bookStatus c => Sys2Proof.Machine.execBookStatus c s
  | .bookEnable c => Sys2Proof.Machine.execBookEnable c s
  | .bookDisable c => Sys2Proof.Machine.execBookDisable c s
  | .setWqService c => Sys2Proof.Machine.execSetWqService c s
  | .fetchFrameMove e ch bad => Sys2Proof.Machine.execFetchFrameMove e ch bad s
  | .dryChannelDoorbell fn e ch => Sys2Proof.Machine.execDryChannelDoorbell fn e ch s
  | .descFetched e ch bad listBad => Sys2Proof.Machine.execDescFetched e ch bad listBad s
  | .descFinished e ch => Sys2Proof.Machine.execDescFinished e ch s
  | .descMoveError e ch write addr n => Sys2Proof.Machine.execDescMoveError e ch write addr n s
  | .descFenceDone e ch bad addr => Sys2Proof.Machine.execDescFenceDone e ch bad addr s
  | .lateError e ch addr beat => Sys2Proof.Machine.execLateError e ch addr beat s
  | .chainStopped e ch => Sys2Proof.Machine.execChainStopped e ch s
  | .pacingHi e ch => Sys2Proof.Machine.execPacingHi e ch s
  | .pacingFlush e ch => Sys2Proof.Machine.execPacingFlush e ch s
  | .drayStatus c => Sys2Proof.Machine.execDrayStatus c s
  | .drayStart c => Sys2Proof.Machine.execDrayStart c s
  | .drayStop c => Sys2Proof.Machine.execDrayStop c s
  | .drayAbort c => Sys2Proof.Machine.execDrayAbort c s
  | .setDrayChannel c => Sys2Proof.Machine.execSetDrayChannel c s
  | .bentStatus c => Sys2Proof.Machine.execBentStatus c s
  | .bentSwitch c => Sys2Proof.Machine.execBentSwitch c s
  | .bentResign c => Sys2Proof.Machine.execBentResign c s
  | .bentResync c => Sys2Proof.Machine.execBentResync c s
  | .ledgerRead c => Sys2Proof.Machine.execLedgerRead c s
  | .ledgerWrite c => Sys2Proof.Machine.execLedgerWrite c s
  | .bentAssume c => Sys2Proof.Machine.execBentAssume c s
  | .setBent c => Sys2Proof.Machine.execSetBent c s
  | .formWaitExpire => Sys2Proof.Machine.execFormWaitExpire s
  | .heartbeatTx => Sys2Proof.Machine.execHeartbeatTx s
  | .heartbeatRx bad role inSync cold => Sys2Proof.Machine.execHeartbeatRx bad role inSync cold s
  | .heartbeatLoss => Sys2Proof.Machine.execHeartbeatLoss s
  | .mirrorRx bad mseq entries => Sys2Proof.Machine.execMirrorRx bad mseq entries s
  | .ackRx n => Sys2Proof.Machine.execAckRx n s
  | .ackOverdue => Sys2Proof.Machine.execAckOverdue s
  | .tbCreditReturn lane n => Sys2Proof.Machine.execTbCreditReturn lane n s
  | .tbLaneDown lane => Sys2Proof.Machine.execTbLaneDown lane s
  | .resignFlushDone flushed => Sys2Proof.Machine.execResignFlushDone flushed s
  | .resignRx mseq flushed fatal => Sys2Proof.Machine.execResignRx mseq flushed fatal s
  | .partnerHeldLow => Sys2Proof.Machine.execPartnerHeldLow s
  | .partnerHeldHigh => Sys2Proof.Machine.execPartnerHeldHigh s
  | .takeoverSettleExpire => Sys2Proof.Machine.execTakeoverSettleExpire s
  | .takeoverWindowRead => Sys2Proof.Machine.execTakeoverWindowRead s
  | .shadowKeepExpire => Sys2Proof.Machine.execShadowKeepExpire s
  | .holdOffExpire => Sys2Proof.Machine.execHoldOffExpire s
  | .reclaimRx => Sys2Proof.Machine.execReclaimRx s
  | .handoverDrained => Sys2Proof.Machine.execHandoverDrained s
  | .handoverAbandon => Sys2Proof.Machine.execHandoverAbandon s
  | .handoverRx mseq => Sys2Proof.Machine.execHandoverRx mseq s
  | .resyncStart => Sys2Proof.Machine.execResyncStart s
  | .copyRx bad mseq entries => Sys2Proof.Machine.execCopyRx bad mseq entries s
  | .syncDoneRx mseq => Sys2Proof.Machine.execSyncDoneRx mseq s
  | .copyFail late => Sys2Proof.Machine.execCopyFail late s
  | .resyncRetry => Sys2Proof.Machine.execResyncRetry s
  | .spanStateRx cycle start pattern ann => Sys2Proof.Machine.execSpanStateRx cycle start pattern ann s
  | .asyStatus c => Sys2Proof.Machine.execAsyStatus c s
  | .asyParam c => Sys2Proof.Machine.execAsyParam c s
  | .asyKey c => Sys2Proof.Machine.execAsyKey c s
  | .asyFirmware c => Sys2Proof.Machine.execAsyFirmware c s
  | .asySnapshot c => Sys2Proof.Machine.execAsySnapshot c s
  | .asyLegalTime c => Sys2Proof.Machine.execAsyLegalTime c s
  | .asyLogRoll c => Sys2Proof.Machine.execAsyLogRoll c s
  | .asyRead c => Sys2Proof.Machine.execAsyRead c s
  | .asyResultTimeout => Sys2Proof.Machine.execAsyResultTimeout s
  | .telegramRecord => Sys2Proof.Machine.execTelegramRecord s
  | .paramRecord => Sys2Proof.Machine.execParamRecord s
  | .keyRecord => Sys2Proof.Machine.execKeyRecord s
  | .fwChunkRecord => Sys2Proof.Machine.execFwChunkRecord s
  | .snapshotFetchRecord => Sys2Proof.Machine.execSnapshotFetchRecord s
  | .legalTimeSetRecord => Sys2Proof.Machine.execLegalTimeSetRecord s
  | .logRollRecord => Sys2Proof.Machine.execLogRollRecord s
  | .timeSample => Sys2Proof.Machine.execTimeSample s
  | .powerPeriodClose => Sys2Proof.Machine.execPowerPeriodClose s
  | .billingSnapshot profile => Sys2Proof.Machine.execBillingSnapshot profile s
  | .checkpointRotation => Sys2Proof.Machine.execCheckpointRotation s
  | .sealChange open_ => Sys2Proof.Machine.execSealChange open_ s
  | .statusPageRewrite => Sys2Proof.Machine.execStatusPageRewrite s
  | .islandBoot selfTest => Sys2Proof.Machine.execIslandBoot selfTest s
  | .asyPfail => Sys2Proof.Machine.execAsyPfail s
  | .aliveLost => Sys2Proof.Machine.execAliveLost s
  | .hallmarkMirrorRead => Sys2Proof.Machine.execHallmarkMirrorRead s
  | .readPortAccess addr n => Sys2Proof.Machine.execReadPortAccess addr n s
  | .foremanTake lost => Sys2Proof.Machine.execForemanTake lost s
  | .faultForceWrite source => Sys2Proof.Machine.execFaultForceWrite source s
  | .thermalCrossing level above => Sys2Proof.Machine.execThermalCrossing level above s
  | .islandMonitorEvent source clock dv dt => Sys2Proof.Machine.execIslandMonitorEvent source clock dv dt s
  | .crossingFail source addr critical => Sys2Proof.Machine.execCrossingFail source addr critical s
  | .fhTestStart => Sys2Proof.Machine.execFhTestStart s
  | .tcTestStart => Sys2Proof.Machine.execTcTestStart s
  | .rotationTestDone hold fail => Sys2Proof.Machine.execRotationTestDone hold fail s
  | .rotationGapExpire rotation => Sys2Proof.Machine.execRotationGapExpire rotation s
  | .faultStatus c => Sys2Proof.Machine.execFaultStatus c s
  | .faultClear c => Sys2Proof.Machine.execFaultClear c s
  | .faultInject c => Sys2Proof.Machine.execFaultInject c s
  | .setFaultKind c => Sys2Proof.Machine.execSetFaultKind c s
  | .setFaultGlobal c => Sys2Proof.Machine.execSetFaultGlobal c s
  | .maintEnter c => Sys2Proof.Machine.execMaintEnter c s
  | .selftest c => Sys2Proof.Machine.execSelftest c s
  | .memBist c => Sys2Proof.Machine.execMemBist c s
  | .eyeScan c => Sys2Proof.Machine.execEyeScan c s
  | .setSelftest c => Sys2Proof.Machine.execSetSelftest c s
  | .unitTestDone source fail a b => Sys2Proof.Machine.execUnitTestDone source fail a b s
  | .powerStatus c => Sys2Proof.Machine.execPowerStatus c s
  | .powerRequest c => Sys2Proof.Machine.execPowerRequest c s
  | .setPower c => Sys2Proof.Machine.execSetPower c s
  | .idleTimerExpire target => Sys2Proof.Machine.execIdleTimerExpire target s
  | .entryDone => Sys2Proof.Machine.execEntryDone s
  | .wakeEvent source port => Sys2Proof.Machine.execWakeEvent source port s
  | .railGood rail => Sys2Proof.Machine.execRailGood rail s
  | .railGoodTimeout => Sys2Proof.Machine.execRailGoodTimeout s
  | .oscReady => Sys2Proof.Machine.execOscReady s
  | .memReady gib width ranks rate popError => Sys2Proof.Machine.execMemReady gib width ranks rate popError s
  | .wakeStepTimeout => Sys2Proof.Machine.execWakeStepTimeout s
  | .logicReady => Sys2Proof.Machine.execLogicReady s
  | .bootDone a b => Sys2Proof.Machine.execBootDone a b s
  | .aonResetRelease => Sys2Proof.Machine.execAonResetRelease s
  | .powerOn split bar4 => Sys2Proof.Machine.execPowerOn split bar4 s
  | .pwrGoodCoreFall => Sys2Proof.Machine.execPwrGoodCoreFall s
  | .sysRstNAssert => Sys2Proof.Machine.execSysRstNAssert s
  | .wakeNAssert stays => Sys2Proof.Machine.execWakeNAssert stays s
  | .asyRstNAssert => Sys2Proof.Machine.execAsyRstNAssert s
  | .warmReset => Sys2Proof.Machine.execWarmReset s
  | .coldReset split bar4 => Sys2Proof.Machine.execColdReset split bar4 s
  | .warmResetDone => Sys2Proof.Machine.execWarmResetDone s
  | .functionLevelReset fn vf => Sys2Proof.Machine.execFunctionLevelReset fn vf s
  | .perstAssert fn => Sys2Proof.Machine.execPerstAssert fn s
  | .hostLinkDown fn => Sys2Proof.Machine.execHostLinkDown fn s
  | .aerError fn corrected => Sys2Proof.Machine.execAerError fn corrected s
  | .completionError fn timeout addr => Sys2Proof.Machine.execCompletionError fn timeout addr s
  | .vfEnable fn n => Sys2Proof.Machine.execVfEnable fn n s
  | .hstVfWrite fn off v => Sys2Proof.Machine.execHstVfWrite fn off v s
  | .bar4Access fn off n write data => Sys2Proof.Machine.execBar4Access fn off n write data s
  | .bar2Write fn off => Sys2Proof.Machine.execBar2Write fn off s
  | .bar0BadAccess fn off read => Sys2Proof.Machine.execBar0BadAccess fn off read s
  | .latchingRead fn off n => Sys2Proof.Machine.execLatchingRead fn off n s
  | .registerWrite fn off n v => Sys2Proof.Machine.execRegisterWrite fn off n v s
  | .memSpillMarksWrite v => Sys2Proof.Machine.execMemSpillMarksWrite v s
  | .memScrubHoursWrite v => Sys2Proof.Machine.execMemScrubHoursWrite v s
  | .scrubRead off found => Sys2Proof.Machine.execScrubRead off found s
  | .poisonedRead off master uncorrectable => Sys2Proof.Machine.execPoisonedRead off master uncorrectable s
  | .dbgChallenge => Sys2Proof.Machine.execDbgChallenge s
  | .dbgResponse signature key => Sys2Proof.Machine.execDbgResponse signature key s
  | .trstAssert => Sys2Proof.Machine.execTrstAssert s
  | .syncTableExpire p => Sys2Proof.Machine.execSyncTableExpire p s
  | .hostLinkUp fn speed width => Sys2Proof.Machine.execHostLinkUp fn speed width s
  | .tbLaneUp lane => Sys2Proof.Machine.execTbLaneUp lane s
  | .sysRstNRelease split bar4 => Sys2Proof.Machine.execSysRstNRelease split bar4 s
  | .railGoodFall rail => Sys2Proof.Machine.execRailGoodFall rail s
  | .islandPowerLoss => Sys2Proof.Machine.execIslandPowerLoss s
  | .asyPfailRelease => Sys2Proof.Machine.execAsyPfailRelease s
  | .delayReqTx p => Sys2Proof.Machine.execDelayReqTx p s
  | .delayReqRx p m t => Sys2Proof.Machine.execDelayReqRx p m t s
  | .delayRespRx p m => Sys2Proof.Machine.execDelayRespRx p m s

end Sys2Proof.Machine
end

