-- ==== Sys2Proof/Machine/Step.lean ====
section
/-!
DEFINITION. One step of the post: the command at the front of the queue acts; with no command waiting one tick of the
1.28 ns counter passes.
-/

namespace Sys2Proof.Machine

/-- Take the command at the front of the queue and run it with the queue's rest; on an empty queue the clock ticks once
(DESIGN CHOICE, log entry 1). -/
def step (s : State) : Host.Outcome State Fault Refusal :=
  match s.pending with
  | [] => .next (s.advance 1)
  | i :: rest => exec i { s with pending := rest }

/-- s with the command that a word spells at the front of its queue; the table gives no row any bits. -/
def State.withFetchWord (s : State) (nbits w : Nat) : State :=
  match decodeTableWord nbits w with
  | some i => { s with pending := i :: s.pending }
  | none => s

end Sys2Proof.Machine
end

