-- ==== Sys2Proof/Safety.lean ====
section
/-!
DEFINITION. What counts as a sound state and a safe run: every sparse table in its canonical form, and no step that
stops. After it, in namespace Claims, the words in which the statements are made.
-/

namespace Sys2Proof.Machine

/-- The canonical form of host memory, bulk memory and the counters: keys strictly rising and no entry equal to what an
unlisted key reads as. -/
def Memory.wf (s : State) : Bool :=
  Tab.wf 0 s.hostMem && Tab.wf 0 s.bulk && Tab.wf 0 s.ctr

/-- The step answers a next state. -/
def Safe (s : State) : Prop := ∃ t, step s = .next t

end Sys2Proof.Machine

open Sys2Proof.Machine

namespace Sys2Proof.Claims

/-- The wire of port p is busy and its transmitter is not in LPI: a new frame of the device's own waits. -/
def WireBusy (s : State) (p : Nat) : Prop := (s.port p).wire.isSome = true ∧ (s.port p).txLpi = false

/-- Frames of the device's own waiting at port p. -/
def ctrlWaiting (s : State) (p : Nat) : Nat := (s.port p).ctrl.length

/-- Nothing in the time island has changed but that the clock has run on. -/
abbrev Passed (s t : State) : Prop :=
  t.time = { s.time with ticks := t.time.ticks, count := t.time.count, slew := t.time.slew } ∧ s.time.ticks ≤ t.time.ticks

/-- Only the clock, counters and the ports have changed, and of the ports one. The other ports are those of an index up
to 24. -/
abbrev PortOnly (s t : State) (p : Nat) : Prop :=
  t = { s with time := t.time, ports := t.ports, ctr := t.ctr } ∧ Passed s t ∧ ∀ q < 25, q ≠ p → t.port q = s.port q

/-- The gap of a transmission runs on port p, and the frame hold is empty: nothing starts there now. -/
def gapRuns (s : State) (p : Nat) : Bool := (s.port p).wire.any (fun w => w.done) && s.frames.isEmpty

/-! ### Commands of the clerk -/

/-- The command as it stands among the commands taken, if COMMAND_TAKE has taken it. -/
def takenAs (s : State) (code : Nat) (c : Cmd) : Option Taken :=
  s.clerk.taken.find? (fun t => t.opcode == code && t.cmd.origin == c.origin)

/-- The number under which a command runs: the one it was taken with, or the next. -/
def numberOf (s : State) (code : Nat) (c : Cmd) : Nat := ((takenAs s code c).map (·.no)).getD s.clerk.takeNo

/-- The state in which a command acts: it stands no longer among the commands taken. -/
def begun (s : State) (code : Nat) (c : Cmd) : State :=
  { s with clerk := { s.clerk with
    taken := s.clerk.taken.filter (fun t => !(t.opcode == code && t.cmd.origin == c.origin))
    takeNo := if (takenAs s code c).isSome then s.clerk.takeNo else s.clerk.takeNo + 1 } }

/-- A command of a command queue that executes at this post: it is not for the partner, its completion is not
discarded, and it passes the checks of R578. -/
def passes (s : State) (code : Nat) (c : Cmd) : Bool :=
  (Cmd.queueOf c).isSome && !c.partner && !((takenAs s code c).map (·.discard)).getD false
    && ((begun s code c).precheck code c).isNone

/-- A command that acts at this post alone: it is not of scope BENT. -/
def runs (s : State) (code : Nat) (c : Cmd) : Bool := passes s code c && c.scope != 1

/-- The state after a command that leaves u: CLAMPS is counted, the completion with its status, detail word (a free value
where none is given) and reply is written, and fences that waited for it complete (R568, R576). -/
def completedAs (u : State) (c : Cmd) (code : Nat) (st : Status) (d : Option Nat) (reply : List Byte) (clamps : Nat) : State :=
  let v := u.detailWord d
  ((v.2.countN (cmdCount 3) clamps).finishCmd c code st v.1 reply clamps false false).fenceSweep

/-- Completion with OK. -/
def completed (u : State) (c : Cmd) (code : Nat) (d : Option Nat) (reply : List Byte) : State :=
  completedAs u c code .ok d reply 0

/-- The state after a command that has passed its execution point and waits (R574). -/
def waitsOn (u : State) (no code : Nat) (c : Cmd) (k : WaitKind) : State :=
  (u.addWaiting { no := no, opcode := code, cmd := c, clamps := 0, kind := k, discard := false }).fenceSweep

/-- A command of a command queue whose completion is not discarded. -/
def answers (s : State) (code : Nat) (c : Cmd) : Bool :=
  (Cmd.queueOf c).isSome && !((takenAs s code c).map (·.discard)).getD false

/-- The state after a command that fails a check of R578: REFUSED is counted and the completion written; it leaves
nothing else. -/
def failed (s : State) (code : Nat) (c : Cmd) (st : Status) (d : Nat) : State :=
  (((begun s code c).count (cmdCount 2)).finishCmd c code st d [] 0 false false).fenceSweep

/-- The state after a command with PARTNER that passes the checks: it goes over the tie beam and waits for its answer,
for 10 ms (R581). -/
def sentOver (s : State) (code : Nat) (c : Cmd) : State :=
  let r := (begun s code c).toPartner code c
  r.2.addWaiting { no := numberOf s code c, opcode := code, cmd := c, discard := false
                   kind := .partner r.1 (s.time.ticks + msTicks 10) }

/-- A packet as software writes it: LEN 1 to 8 and the parameter area that LEN gives. -/
def wellMade (code : Nat) (c : Cmd) : Prop := code < 65536 ∧ 1 ≤ c.len ∧ c.len ≤ 8 ∧ c.params.length = 32 * c.len - 24

/-- A command that completes at once: when it has its effect, and what it leaves, answers and replies then. -/
structure Row where
  code : Nat
  make : Cmd → Instr
  holds : State → Cmd → Bool := fun _ _ => true
  leaves : State → Cmd → State := fun u _ => u
  detail : State → Cmd → Option Nat := fun _ _ => none
  reply : State → Cmd → List Byte := fun _ _ => []

/-- Every command of a table completes with OK: whatever its operands and the state, if it runs and has its effect. -/
def Complete (t : List Row) : Prop :=
  ∀ r ∈ t, ∀ (s : State) (c : Cmd), runs s r.code c = true → r.holds (begun s r.code c) c = true →
    exec (r.make c) s = .next (completed (r.leaves (begun s r.code c) c) c r.code (r.detail (begun s r.code c) c)
      (r.reply (begun s r.code c) c))

/-- A command that is refused: when, with which status and detail word; it leaves everything as it is. -/
structure RefusedRow where
  code : Nat
  make : Cmd → Instr
  fails : State → Cmd → Bool
  status : Status
  detail : State → Cmd → Option Nat := fun _ _ => none

/-- Every command of a table is refused as it says, and completes. -/
def Refused (t : List RefusedRow) : Prop :=
  ∀ r ∈ t, ∀ (s : State) (c : Cmd), runs s r.code c = true → r.fails (begun s r.code c) c = true →
    exec (r.make c) s = .next (completedAs (begun s r.code c) c r.code r.status (r.detail (begun s r.code c) c) [] 0)

/-- A command that passes its execution point and waits: when, what it leaves, and what it waits for. -/
structure WaitRow where
  code : Nat
  make : Cmd → Instr
  holds : State → Cmd → Bool := fun _ _ => true
  leaves : State → Cmd → State := fun u _ => u
  kind : State → Cmd → WaitKind

/-- Every command of a table has its effect and waits. -/
def Waits (t : List WaitRow) : Prop :=
  ∀ r ∈ t, ∀ (s : State) (c : Cmd), passes s r.code c = true → r.holds (begun s r.code c) c = true →
    exec (r.make c) s = .next (waitsOn (r.leaves (begun s r.code c) c) (numberOf s r.code c) r.code c
      (r.kind (begun s r.code c) c))

/-- A bench command: its opcode, the parameter area and image it puts into its bench, and the clamps it reports. -/
structure SettingRow where
  code : Nat
  make : Cmd → Instr
  holds : State → Cmd → Bool := fun _ _ => true
  params : State → Cmd → List Byte
  image : State → Cmd → List Byte := fun _ _ => []
  clamps : State → Cmd → List Clamp := fun _ _ => []

/-- A setting whose value fields are checked by a list of ranges. -/
def ranged (code : Nat) (make : Cmd → Instr) (fields : List FieldSpec) : SettingRow :=
  { code := code, make := make, params := fun _ c => (clampAll fields c.params).1, clamps := fun _ c => (clampAll fields c.params).2 }

/-- An open bench with one setting more; nothing in force changes. -/
def accepted (u : State) (c : Cmd) (x : Setting) (clamps : Nat) : State :=
  let b := u.bench c.bench.toNat
  u.setBench c.bench.toNat { b with state := .open, settings := b.settings ++ [x], clamps := b.clamps + clamps }

/-- Every bench command of a table is accepted with its values clamped, as long as the bench has room; the reply is the
clamp report. -/
def Accepts (t : List SettingRow) : Prop :=
  ∀ r ∈ t, ∀ (s : State) (c : Cmd), runs s r.code c = true → r.holds (begun s r.code c) c = true →
    ((begun s r.code c).bench c.bench.toNat).settings.length < 4096 →
    benchBytes ((begun s r.code c).bench c.bench.toNat) + (r.image (begun s r.code c) c).length ≤ 67108864 →
    exec (r.make c) s = .next (completedAs (accepted (begun s r.code c) c
        { opcode := r.code, params := r.params (begun s r.code c) c, image := r.image (begun s r.code c) c
          fn := (begun s r.code c).cmdFn c } (r.clamps (begun s r.code c) c).length)
      c r.code .ok none ((r.clamps (begun s r.code c) c).flatMap (clampBytes r.code)) (r.clamps (begun s r.code c) c).length)

/-- A bench command of a table that would take its bench past 4,096 settings or 64 MiB of images completes with
NO_CAPACITY and leaves everything as it is. -/
def Overflows (t : List SettingRow) : Prop :=
  ∀ r ∈ t, ∀ (s : State) (c : Cmd), runs s r.code c = true → r.holds (begun s r.code c) c = true →
    (4096 ≤ ((begun s r.code c).bench c.bench.toNat).settings.length ∨
      67108864 < benchBytes ((begun s r.code c).bench c.bench.toNat) + (r.image (begun s r.code c) c).length) →
    exec (r.make c) s = .next (completedAs (begun s r.code c) c r.code .noCapacity none [] 0)

end Sys2Proof.Claims
end

