-- ==== Sys2Proof/Certificates/Slice0/Obligations.lean ====
section
/-!
DEFINITION. The statements for the provers, one definition each. A statement that a command or event completes says that
exec answers a next state, which parts of the state it may change (all others are the same), and what it leaves there.
-/

open Sys2Proof Sys2Proof.Machine

/-- The step takes the command at the front. -/
def Obligations.StepRunsFront : Prop :=
  ∀ (c : Instr) (s : State) (l : List Instr), step { s with pending := c :: l } = exec c { s with pending := l }

/-- On an empty queue one tick passes. -/
def Obligations.EmptyQueueTicks : Prop :=
  ∀ s : State, s.pending = [] → ∃ t, step s = .next t ∧ Claims.Passed s t ∧ t = { s with time := t.time } ∧
    t.time.ticks = s.time.ticks + 1

/-- Every command answers a next state in every state. -/
def Obligations.EveryCommandAnswersANextState : Prop :=
  ∀ (c : Instr) (s : State), ∃ t, exec c s = .next t

/-- The state after reset. -/
def Obligations.ResetLeavesTheSpecValues : Prop :=
  State.reset.time.flag = .invalid ∧ State.reset.time.dpll = .freerun ∧ State.reset.nowU = 0 ∧
  State.reset.ptpInst 0 = { profile := 0 } ∧ (∀ i, 1 ≤ i → State.reset.ptpInst i = { profile := 1 }) ∧
  (∀ i, (State.reset.ptpInst i).domain = 0 ∧ (State.reset.ptpInst i).priority1 = 128 ∧ (1 ≤ i → (State.reset.ptpInst i).priority2 = 128)) ∧
  (∀ p, (State.reset.ptime p).joined = none) ∧ State.reset.span.state = .disabled ∧ State.reset.integrated = false ∧
  (∀ b, (State.reset.bench b).state = .free) ∧ (∀ q, (State.reset.queue q).state = .disabled) ∧
  (∀ b, (State.reset.book b).state = .disabled) ∧ (∀ k, (State.reset.chan k).state = .disabled) ∧
  State.reset.joinery.steers = [] ∧ (∀ o, State.reset.counter o = 0) ∧ State.reset.pwr.state = .run ∧
  State.reset.flt.fences = [] ∧ State.reset.flt.stopped = false ∧ State.reset.frames = [] ∧ State.reset.hostMem = [] ∧
  State.reset.pending = []

/-- The invariant of EveryStepKeepsTheCanonicalForm at reset. -/
def Obligations.ResetIsCanonical : Prop := Memory.wf State.reset = true

/-- The canonical form of memory and counters is kept by every step. -/
def Obligations.EveryStepKeepsTheCanonicalForm : Prop :=
  ∀ s t : State, Memory.wf s = true → step s = .next t → Memory.wf t = true

/-- Decode of encode, for command packets. -/
def Obligations.PacketsDecodeAsEncoded : Prop :=
  ∀ (code q : Nat) (i : BitVec 16) (c : Cmd), Claims.wellMade code c →
    packetOf q { index := i, bytes := packetBytes code c } = (code, { c with origin := .queue q i })

/-- Time stamps, R44 and R45. -/
def Obligations.StampsDecodeAsEncoded : Prop :=
  (∀ u, toStamp u < 2 ^ 96 ∧ stampNs (toStamp u) < 1000000000) ∧
  (∀ u, u < 2 ^ 48 * 1000000000 * 65536 → ofStamp (toStamp u) = u) ∧
  (∀ v, v < 2 ^ 96 → stampNs v < 1000000000 → toStamp (ofStamp v) = v)

/-- Every command of the command queues with its opcode. -/
noncomputable def Claims.commands : List (Nat × (Cmd → Instr)) := [
  (0x0000, .nop), (0x0001, .identify), (0x0002, .fence), (0x0003, .echo), (0x0004, .regRead), (0x0005, .regWrite),
  (0x0100, .benchOpen), (0x0101, .benchDryFit), (0x0102, .benchPeg), (0x0103, .benchDiscard), (0x0104, .benchStatus),
  (0x0200, .timeGet), (0x0201, .timeSet), (0x0202, .timeAccept), (0x0203, .timeSlew), (0x0204, .timePortRead),
  (0x0210, .setTimeRef), (0x0211, .setDpll), (0x0212, .setPtpInstance), (0x0213, .setPtpPort),
  (0x0214, .setPortLatency), (0x0215, .setSynce), (0x0216, .setTimeIo), (0x0217, .setTsDaybook),
  (0x0300, .spanStatus), (0x0301, .spanJoin), (0x0302, .spanLeave), (0x0303, .patternChange),
  (0x0304, .spanOwnerRead), (0x0310, .setSpanLocal), (0x0311, .setSpanPort), (0x0312, .setPatternSet),
  (0x0313, .setSlotSource), (0x0400, .portStatus), (0x0401, .linkRestart), (0x0402, .macsecScRead),
  (0x0403, .threshReset), (0x0408, .macMergeStatus), (0x0409, .macMergePartner), (0x040A, .verifyRestart),
  (0x0410, .setPortMode), (0x0411, .setPortFrame), (0x0412, .setFlowControl), (0x0413, .setEee),
  (0x0414, .setPortWake), (0x0415, .setMacsecPort), (0x0416, .setMacsecSc), (0x0417, .setMacsecSa),
  (0x0418, .setMacMerge), (0x0500, .gateStatus), (0x0501, .gateListRead), (0x0510, .setCuttingList),
  (0x0511, .setGatePort), (0x0600, .qsvStatus), (0x0601, .flowRead), (0x0602, .filterRead), (0x0603, .meterRead),
  (0x0604, .filterUnblock), (0x0605, .meterUnmark), (0x0610, .setQsvPort), (0x0611, .setClassService),
  (0x0612, .setFlow), (0x0620, .setStreamFilter), (0x0621, .setFlowMeter), (0x0700, .streamStatus),
  (0x0701, .streamRead), (0x0702, .streamFind), (0x0703, .rcvyRead), (0x0704, .accountRead), (0x0705, .seqReset),
  (0x0706, .streamForget), (0x0710, .setStreams), (0x0711, .setRecovery), (0x0712, .setAccounts),
  (0x0713, .setMaskRule), (0x0714, .setLearnRule), (0x0715, .setStreamGlobal), (0x0800, .joineryStatus),
  (0x0801, .microcodeRead), (0x0802, .hookTableRead), (0x0810, .setMicrocode), (0x0811, .setHook),
  (0x0812, .setClassRules), (0x0813, .setSteerEntries), (0x0814, .setHookTable), (0x0900, .wqStatus),
  (0x0901, .wqEnable), (0x0902, .wqDisable), (0x0903, .bookStatus), (0x0904, .bookEnable), (0x0905, .bookDisable),
  (0x0910, .setWqService), (0x0A00, .drayStatus), (0x0A01, .drayStart), (0x0A02, .drayStop), (0x0A03, .drayAbort),
  (0x0A10, .setDrayChannel), (0x0B00, .bentStatus), (0x0B01, .bentSwitch), (0x0B02, .bentResign),
  (0x0B03, .bentResync), (0x0B04, .ledgerRead), (0x0B05, .ledgerWrite), (0x0B06, .bentAssume), (0x0B10, .setBent),
  (0x0C00, .asyStatus), (0x0C01, .asyParam), (0x0C02, .asyKey), (0x0C03, .asyFirmware), (0x0C04, .asySnapshot),
  (0x0C05, .asyLegalTime), (0x0C06, .asyLogRoll), (0x0C07, .asyRead), (0x0D00, .faultStatus), (0x0D01, .faultClear),
  (0x0D02, .faultInject), (0x0D10, .setFaultKind), (0x0D11, .setFaultGlobal), (0x0E00, .powerStatus),
  (0x0E01, .powerRequest), (0x0E10, .setPower), (0x0F00, .stocktake), (0x0F01, .stocktakeStatus),
  (0x0F02, .stocktakeRelease), (0x0F03, .stocktakeCancel), (0x7F00, .maintEnter), (0x7F01, .selftest),
  (0x7F02, .memBist), (0x7F03, .eyeScan), (0x7F10, .setSelftest) ]

/-- The checks of R578, for every command. -/
def Obligations.FailedChecksRefuseTheCommand : Prop :=
  ∀ r ∈ Claims.commands, ∀ (s : State) (c : Cmd) (st : Status) (d : Nat), Claims.answers s r.1 c = true →
    (Claims.begun s r.1 c).precheck r.1 c = some (st, d) → exec (r.2 c) s = .next (Claims.failed s r.1 c st d)

/-- PARTNER, for every command. -/
def Obligations.PartnerCommandsCrossTheTieBeam : Prop :=
  ∀ r ∈ Claims.commands, ∀ (s : State) (c : Cmd), Claims.answers s r.1 c = true → c.partner = true →
    (Claims.begun s r.1 c).precheck r.1 c = none → exec (r.2 c) s = .next (Claims.sentOver s r.1 c)

/-- R4. -/
def Obligations.AssayCommandsOnNPartsAreNotActive : Prop :=
  (∀ r ∈ Claims.commands, r.1 / 256 = 0x0C → ∀ (s : State) (c : Cmd) (o : Op), Claims.answers s r.1 c = true →
    s.glb.metrology = false → s.flt.stopped = false → opInfo r.1 = some o → o.len ≤ c.params.length → c.scope = 0 →
    c.partner = false → exec (r.2 c) s = .next (Claims.failed s r.1 c .notActive 0)) ∧
  (∀ (s : State) (c : Cmd), s.glb.metrology = false → s.glbWord 0x20 = 0 ∧ s.glbWord 0x24 = 0 ∧
    slice (identifyReply s c) 0x20 6 = zeros 6)

/-- R656. -/
def Obligations.BentResignAnswers : Prop :=
  (opInfo 0x0B02).map (·.len) = some 0 ∧
  (∀ (s : State) (c : Cmd), Claims.runs s 0x0B02 c = true → s.bent.role ≠ .active →
    exec (.bentResign c) s = .next (Claims.completedAs (Claims.begun s 0x0B02 c) c 0x0B02 .notActive none [] 0)) ∧
  (∀ (s : State) (c : Cmd), Claims.runs s 0x0B02 c = true → s.bent.role = .active →
    exec (.bentResign c) s = .next (Claims.completed ((Claims.begun s 0x0B02 c).beginResign false) c 0x0B02 none []))

/-- R528. -/
def Obligations.WqEnableRefusals : Prop :=
  ∀ (s : State) (c : Cmd), Claims.runs s 0x0901 c = true → (wqRefusal s c (c.f 0 0 12) true).isNone = true →
    ((s.queue (c.f 0 0 12)).state ≠ .disabled ∨ c.n 8 8 % 4096 ≠ 0 ∨ c.n 0x10 8 % 16 ≠ 0 ∨
      (c.f 0 24 8 ≠ 0xFF ∧ s.fnOfBook (c.f 0 24 8) ≠ s.cmdFn c)) →
    exec (.wqEnable c) s = .next (Claims.completedAs (Claims.begun s 0x0901 c) c 0x0901 .inconsistent none [] 0)

/-- Events of the time island (chapter "Span time"), each with the parts of the state that it may change. -/
def Obligations.TimeIslandEventsComplete : Prop :=
  (∀ (s : State) (w : Slew), s.time.slew = some w →
    ∃ t, exec .slewDone s = .next t ∧ t = { s with time := t.time } ∧ t.time.slew = none ∧ t.time.epoch = s.time.epoch) ∧
  (∀ s : State, ∃ t, exec .timeBusLoad s = .next t ∧ t = { s with time := t.time } ∧
    t.time.busLoads = s.time.busLoads + 1 ∧ t.time.ticks % 1024 = 0 ∧ s.time.ticks < t.time.ticks) ∧
  (∀ s : State, exec .timeBusRecal s = .next s) ∧
  (∀ (s : State) (off : Int), s.time.dpll = .locked → s.integrated = false → s.isMember = false → 65536000 < off.natAbs →
    ∃ t, exec (.dpllUpdate off) s = .next t ∧ t.time.dpll = .acquire ∧ t.time.flag = s.time.flag ∧
      t.time.epoch = s.time.epoch + 1 ∧ t.counter (timBase + 0xD0) = s.counter (timBase + 0xD0) + 1 ∧
      t.counter (timBase + 0xC0) = s.counter (timBase + 0xC0) + 1 ∧
      t.time.count = ((s.time.count : Int) - off * 16777216).toNat) ∧
  (∀ (s : State) (kind source : Nat), 1 ≤ kind → kind ≤ 7 →
    ∃ t, exec (.refQualified kind source) s = .next t ∧ t = { s with time := t.time, ctr := t.ctr, free := t.free } ∧
      t.time.qualified.contains (RefId.mk kind source) = true ∧ t.time.count = s.time.count) ∧
  (∀ (s : State) (kind source : Nat),
    ∃ t, exec (.refDisqualified kind source) s = .next t ∧ t = { s with time := t.time, ctr := t.ctr, free := t.free } ∧
      t.time.qualified.contains (RefId.mk kind source) = false ∧ t.time.count = s.time.count) ∧
  (∀ s : State, s.time.dpll = .holdover → s.time.flag = .valid →
    ∃ t, exec .holdoverLimitExpire s = .next t ∧ t = { s with time := t.time } ∧ t.time.flag = .coarse ∧
      s.time.holdFrom + msTicks (s.reg (timBase + 0x64)) < t.time.ticks) ∧
  (∀ s : State, s.time.todLabel = none → s.clerk.waiting = [] →
    ∃ t, exec .ppsInEdge s = .next t ∧ t = { s with time := t.time, ctr := t.ctr } ∧ t.time.ppsIn = s.nowU ∧
      t.time.ppsInTick = some s.time.ticks) ∧
  (∀ (s : State) (sec : Nat), s.time.ppsInTick = none → s.regBits (timBase + 0x80) 1 1 = 1 →
    ∃ t, exec (.todMessageRx true sec) s = .next t ∧ t = { s with time := t.time } ∧ t.time.todLabel = some sec) ∧
  (∀ s : State, ∃ t, exec .secondBoundary s = .next t ∧ t = { s with time := t.time } ∧
    (t.time.flag = .invalid → t.ppsLevel = false ∧ t.time.tenMhzOut = false)) ∧
  (∀ (s : State) (w : Waiting) (u d q : Nat) (i : BitVec 16), s.clerk.waiting = [w] → w.kind = .timeSetPps u d →
    w.cmd.origin = .queue q i → ∃ t, exec .timeSetPpsTimeout s = .next t ∧ t.clerk.waiting = [] ∧
      t.time = (s.advanceTo d).time ∧ t.cfg = s.cfg)

/-- The rows that make a PTP or ESMC message: one frame more waits at the port. -/
def Obligations.PtpMessagesAreQueued : Prop :=
  (∀ (s : State) (p : Nat), p ≤ 23 → s.ptpSends p = true → Claims.WireBusy s p →
    ∃ t, exec (.syncTx p) s = .next t ∧ t = { s with time := t.time, ports := t.ports, ctr := t.ctr } ∧
      Claims.ctrlWaiting t p = Claims.ctrlWaiting s p + 1 ∧ (t.ptime p).syncSeq = (s.ptime p).syncSeq + 1) ∧
  (∀ (s : State) (p : Nat), p ≤ 23 → s.ptpSends p = true → Claims.WireBusy s p →
    ∃ t, exec (.announceTx p) s = .next t ∧ t = { s with time := t.time, ports := t.ports, ctr := t.ctr } ∧
      Claims.ctrlWaiting t p = Claims.ctrlWaiting s p + 1 ∧ (t.ptime p).announceSeq = (s.ptime p).announceSeq + 1) ∧
  (∀ (s : State) (p : Nat), p ≤ 23 → (s.ptime p).joined.isSome = true → (s.ptime p).e2e = false → s.portUp p = true →
    Claims.WireBusy s p →
    ∃ t, exec (.pdelayReqTx p) s = .next t ∧ t = { s with time := t.time, ports := t.ports, ctr := t.ctr } ∧
      Claims.ctrlWaiting t p = Claims.ctrlWaiting s p + 1 ∧ (t.ptime p).pdelaySeq = (s.ptime p).pdelaySeq + 1 ∧
      (t.ptime p).pdelayOpen = true) ∧
  (∀ (s : State) (p u : Nat) (m : PtpMsg), p ≤ 23 → (s.ptime p).joined.isSome = true → (s.ptime p).e2e = false →
    s.portUp p = true → Claims.WireBusy s p →
    ∃ t, exec (.pdelayReqRx p m u) s = .next t ∧ t = { s with time := t.time, ports := t.ports, ctr := t.ctr } ∧
      Claims.ctrlWaiting t p = Claims.ctrlWaiting s p + 1) ∧
  (∀ (s : State) (p : Nat), p ≤ 23 → (s.ptime p).joined.isSome = true → (s.ptime p).e2e = true →
    (s.ptime p).role = .slave → s.portUp p = true → Claims.WireBusy s p →
    ∃ t, exec (.delayReqTx p) s = .next t ∧ t = { s with time := t.time, ports := t.ports, ctr := t.ctr } ∧
      Claims.ctrlWaiting t p = Claims.ctrlWaiting s p + 1 ∧ (t.ptime p).delayReqSeq = (s.ptime p).delayReqSeq + 1) ∧
  (∀ (s : State) (p u : Nat) (m : PtpMsg), p ≤ 23 → (s.ptime p).joined.isSome = true → (s.ptime p).e2e = true →
    (s.ptime p).role = .master → s.portUp p = true → Claims.WireBusy s p →
    ∃ t, exec (.delayReqRx p m u) s = .next t ∧ t = { s with time := t.time, ports := t.ports, ctr := t.ctr } ∧
      Claims.ctrlWaiting t p = Claims.ctrlWaiting s p + 1) ∧
  (∀ (s : State) (p : Nat), p ≤ 15 → (s.ptime p).joined.isSome = true → s.portUp p = true → Claims.WireBusy s p →
    ∃ t, exec (.phaseReportTx p) s = .next t ∧ t = { s with time := t.time, ports := t.ports, ctr := t.ctr } ∧
      Claims.ctrlWaiting t p = Claims.ctrlWaiting s p + 1 ∧ (t.ptime p).phaseTxSeq = (s.ptime p).phaseTxSeq + 1) ∧
  (∀ (s : State) (p : Nat), p ≤ 23 → (s.ptime p).synceEsmc = true → s.portUp p = true → Claims.WireBusy s p →
    ∃ t, exec (.esmcTx p) s = .next t ∧ t = { s with ports := t.ports, ctr := t.ctr, free := t.free } ∧
      Claims.ctrlWaiting t p = Claims.ctrlWaiting s p + 1)

/-- R71, for a one-step Sync at a slave port. -/
def Obligations.SyncGivesOffsetToParent : Prop :=
  ∀ (s : State) (p i u : Nat) (m : PtpMsg), p ≤ 23 → (s.ptime p).joined = some i → (s.ptpInst i).domain = m.domain →
    (s.ptime p).role = .slave → s.portUp p = true → m.twoStep = false → s.time.phRef ≠ some (State.slaveRef (s.ptime p)) →
    ∃ t, exec (.syncRx p m false none u) s = .next t ∧ t = { s with time := t.time } ∧
      (t.ptime p).thetaPtp = (u : Int) - (((m.stamp : Int) + m.correction) +
        (((s.ptime p).delay : Int) + toSigned 32 (s.reg (timPort p + 0x14))) * 256)

/-- The rows that take a PTP or ESMC message, or its absence. -/
def Obligations.PtpMessagesAreTaken : Prop :=
  (∀ (s : State) (p i : Nat) (a : Announce), p ≤ 23 → s.portUp p = true → (s.ptime p).joined = some i →
    a.gmId ≠ s.ownId → a.senderId ≠ s.ownId →
    ∃ t, exec (.announceRx p (s.ptpInst i).domain a) s = .next t ∧
      t = { s with time := t.time, ctr := t.ctr, free := t.free } ∧ (t.ptime p).foreign = some a) ∧
  (∀ (s : State) (p u t1 : Nat) (m : PtpMsg), p ≤ 23 → s.portUp p = true → (s.ptime p).joined.isSome = true →
    (s.ptime p).e2e = false → (s.ptime p).timeCapable = true → m.twoStep = false → m.reqId = (s.ptpMsg p 0).senderId →
    m.reqPort = p → m.seq + 1 = (s.ptime p).pdelaySeq → (s.ptime p).pdelayT1 = some t1 →
    ∃ t, exec (.pdelayRespRx p m false u) s = .next t ∧ (t.ptime p).pdelayT1 = none ∧ (t.ptime p).pdelayOpen = false ∧
      (t.ptime p).delay = (State.delayFrom (t.ptime p).exchanges).1 ∧ (t.ptime p).exchanges.length ≤ 8 ∧
      (t.ptime p).exchanges.getLast? = some ⟨t1, m.stamp, ((m.stamp : Int) + m.correction).toNat, u⟩) ∧
  (∀ (s : State) (p t3 : Nat) (m : PtpMsg), p ≤ 23 → s.portUp p = true → (s.ptime p).joined.isSome = true →
    (s.ptime p).e2e = true → (s.ptime p).role = .slave → m.seq = (s.ptime p).delayReqSeq →
    m.reqId = (s.ptpMsg p 0).senderId → m.reqPort = p → (s.ptime p).delayReqT3 = some t3 →
    ∃ t, exec (.delayRespRx p m) s = .next t ∧ t = { s with time := t.time } ∧ (t.ptime p).delayReqT3 = none) ∧
  (∀ (s : State) (p : Nat), p ≤ 23 → (s.ptime p).joined.isSome = true → (s.ptime p).e2e = false →
    (s.ptime p).pdelayOpen = true → (s.ptime p).lostRun + 1 < (s.ptime p).allowedLost →
    ∃ t, exec (.pdelayLost p) s = .next t ∧ t = { s with time := t.time, ctr := t.ctr } ∧
      (t.ptime p).lostRun = (s.ptime p).lostRun + 1 ∧ (t.ptime p).timeCapable = (s.ptime p).timeCapable ∧
      t.counter (timPort p + 0x38) = s.counter (timPort p + 0x38) + 1) ∧
  (∀ (s : State) (p u : Nat), p ≤ 23 → (s.ptime p).role = .slave → (s.ptime p).lastSync = some u →
    ∃ t, exec (.syncTimeout p) s = .next t ∧ t = { s with time := t.time, ctr := t.ctr, free := t.free } ∧
      t.counter (timPort p + 0x40) = s.counter (timPort p + 0x40) + 3 ∧
      t.time.qualified.contains (State.slaveRef (s.ptime p)) = false) ∧
  (∀ (s : State) (p fwd : Nat) (r : PhaseReport), p ≤ 15 → s.portUp p = true → (s.ptime p).role ≠ .slave →
    ∃ t, exec (.phaseReportRx p r fwd) s = .next t ∧ t = { s with time := t.time } ∧ (t.ptime p).phaseRev = r.phase ∧
      (t.ptime p).phaseRxSeq = some r.seq) ∧
  (∀ (s : State) (p ql : Nat), p ≤ 23 → (s.ptime p).synceEsmc = true → s.portUp p = true →
    ∃ t, exec (.esmcRx p ql) s = .next t ∧ t = { s with time := t.time, ctr := t.ctr, free := t.free } ∧
      (t.ptime p).ql = ql % 16)

/-- Timers and boundaries of the span-cycle engine (chapter "The span cycle"). -/
def Obligations.SpanEngineEventsComplete : Prop :=
  (∀ (s : State) (u : Nat), s.span.state = .listen → s.span.listenFrom = some u → s.kingCapable = false →
    ∃ t, exec .listenTimerExpire s = .next t ∧ t = { s with time := t.time, span := t.span } ∧ t.span.state = .listen ∧
      t.span.listenFrom = some t.time.ticks ∧ u + usTicks (s.reg (spnBase + 0x44)) ≤ t.time.ticks) ∧
  (∀ (s : State) (u r : Nat), s.span.state = .listen → s.span.listenFrom = some u → s.kingCapable = true →
    s.time.flag ≠ .invalid → s.span.imageValid = true → s.raisePattern = some r →
    ∃ t, exec .listenTimerExpire s = .next t ∧ t.span.state = .raise ∧ t.span.cycle = 0 ∧ t.span.cycValid = true ∧
      t.span.pattern = r ∧ t.span.tn % 65536000000 = 0 ∧ t.nowU + 65536000000 ≤ t.span.tn ∧
      t.span.tn < t.nowU + 2 * 65536000000 ∧ t.cfg = s.cfg ∧ t.hostMem = s.hostMem) ∧
  (∀ s : State, s.integrated = true → s.awake = true → s.span.yieldTo = none → s.span.begun = true →
    s.span.state = .member → s.span.change = none → s.bent.role = .solo → s.bent.handoverCycle = none →
    s.clerk.benches = [] → s.clerk.waiting = [] → s.stock.banks = [] → s.span.stocktakes = [] →
    ∃ t, exec .cycleBoundary s = .next t ∧ t.span.cycle = s.span.cycle + 1 ∧ t.span.tn = s.nextT ∧
      t.span.state = .member ∧ t.span.accepted = [] ∧ t.cfg = s.cfg ∧ t.hostMem = s.hostMem ∧
      t.counter (spnCount 9) = s.counter (spnCount 9) + (if t.span.silenced then 1 else 0)) ∧
  (∀ s : State, s.isMember = true → s.span.bellSeen = false → s.accepts 0x31 0 = false → s.span.change = none →
    s.span.missedRun + 1 < s.bellLossLimit →
    ∃ t, exec .bellMissing s = .next t ∧ t = { s with time := t.time, span := t.span, ctr := t.ctr } ∧
      t.span.state = s.span.state ∧ t.span.missedRun = s.span.missedRun + 1 ∧ t.span.cycle = s.span.cycle ∧
      t.counter (spnCount 0) = s.counter (spnCount 0) + 1) ∧
  (∀ (s : State) (slot : Nat), s.integrated = true → s.span.begun = true → s.maySend = true →
    s.ownsSlot s.span.pattern slot = true → s.accepts 0x22 slot = false → s.statBound s.span.pattern slot = 255 →
    s.clerk.carriedReplies = [] → s.span.change = none →
    ∃ t, exec (.slotReadyLead slot) s = .next t ∧ t = { s with time := t.time, span := t.span, ctr := t.ctr } ∧
      t.span.launches = s.span.launches ∧ t.counter (spnCount 11) = s.counter (spnCount 11) + 1) ∧
  (∀ (s : State) (slot o : Nat), s.slotOwner s.span.pattern slot = some o → s.integrated = true → s.span.begun = true →
    s.accepts 0x12 slot = false → s.accepts 2 slot = false → s.ownsSlot s.span.pattern slot = false →
    ∃ t, exec (.slotEnd slot) s = .next t ∧ t = { s with time := t.time, span := t.span, ctr := t.ctr } ∧
      t.counter (ownerCount o 4) = s.counter (ownerCount o 4) + 1) ∧
  (∀ s : State, s.integrated = true → s.span.begun = true → s.span.miniCount = 0 → imgM s.span.image s.span.pattern ≠ 0 →
    s.maySend = false →
    ∃ t, exec .minislotEnd s = .next t ∧ t = { s with time := t.time, span := t.span } ∧ t.span.miniCount = 1)

/-- Received span copies. -/
def Obligations.SpanCopiesAreJudged : Prop :=
  (∀ (s : State) (p u : Nat) (h : SpanHdr) (b : Bell), s.isSpanPort p = true → s.inService p = true →
    (s.port p).link = .up → s.asleep = false → s.span.state = .listen → s.span.cycValid = false →
    s.span.imageValid = false → h.version = 1 → h.subtype = 1 → h.hops = 1 → h.number = 0 → 1 ≤ b.hopLimit →
    placed b.pi b.dhop b.start 1 u ≠ .misplaced → s.span.heard.contains (h.owner, h.cycle, b.start) = false →
    s.sendsAs h.owner.toNat = false →
    ∃ t, exec (.bellRx p h b u) s = .next t ∧ t.span.state = .trial ∧ t.span.trial.map (·.owner) = some h.owner ∧
      t.span.trial.map (·.cycle) = some h.cycle ∧ t.span.listenFrom = none) ∧
  (∀ (s : State) (p u tref o : Nat) (h : SpanHdr), s.inService p = true → (s.port p).link = .up → s.asleep = false →
    p ≤ 15 → s.headerOk p 2 s.span.hopLimit h = true → s.chanOk p h = true → s.copyRef h false = some (tref, o) →
    o < 4096 → placed s.span.pi s.span.dhop tref h.hops u = .valid → h.payload = 2 →
    ∃ t, exec (.slotCopyRx p h [] u) s = .next t ∧
      t.counter (ownerCount o (flag h.channel)) = s.counter (ownerCount o (flag h.channel)) + 1 ∧
      t.counter (ownerCount o 3) = s.counter (ownerCount o 3) ∧ t.frames = s.frames) ∧
  (∀ (s : State) (p u tref o : Nat) (h : SpanHdr) (data : List Byte), s.inService p = true → (s.port p).link = .up →
    s.asleep = false → p ≤ 15 → s.headerOk p 3 s.span.hopLimit h = true → s.chanOk p h = true →
    s.copyRef h true = some (tref, o) → placed s.span.pi s.span.dhop tref h.hops u ≠ .misplaced →
    s.integrated = true → s.span.miniCount ≠ h.number →
    ∃ t, exec (.dynCopyRx p h data u) s = .next t ∧ t.span.dynSilent = true ∧ t.span.launches = s.span.launches ∧
      t.frames = s.frames ∧ t.counter (spnCount 14) = s.counter (spnCount 14) + 1) ∧
  (∀ (s : State) (p u : Nat) (h : SpanHdr) (c : Carry) (k : KeptBell), s.inService p = true → (s.port p).link = .up →
    s.asleep = false → p ≤ 15 → s.integrated = false → s.span.lastBell = some k → k.body.setId = c.tag →
    s.span.imageValid = false → s.headerOk p 4 s.span.hopLimit h = true → h.number = 0 →
    placed s.span.pi s.span.dhop c.ref h.hops u ≠ .misplaced → s.sendsAs h.owner.toNat = false → c.kind = 0 →
    c.part < c.parts → 2 ≤ c.parts → s.span.asm = [] → c.data ≠ [] →
    ∃ t, exec (.carryRx p h c u) s = .next t ∧ t.span.asmTag = c.tag ∧ t.span.asmParts = c.parts ∧
      t.span.asm = [(c.part, c.data)] ∧ t.span.imageValid = false) ∧
  (∀ (s : State) (owner : Nat) (data : List Byte), s.isKing = true → beAt data 4 2 ≠ 0x0F00 →
    exec (.carriedReplyRx owner data) s = .next (s.count (cmdCount 11))) ∧
  (∀ (s : State) (c : Carry) (seq : BitVec 32) (cmd : Cmd), carriedCmd c = some (0, seq, cmd) → s.clerk.ready = true →
    s.span.cycValid = true → s.isKing = false → s.clerk.carryKing = s.span.kingId → s.clerk.carryDone.contains seq = false →
    s.clerk.taken = [] → s.clerk.waiting = [] →
    ∃ t, exec (.carriedCommandRx s.span.kingId c) s = .next t ∧ t.clerk.carryDone = s.clerk.carryDone ++ [seq] ∧
      t.counter (cmdCount 10) = s.counter (cmdCount 10) + 1)

/-- Launches on a free wire, R119. -/
def Obligations.LaunchesStartAtTheirInstant : Prop :=
  (∀ (s : State) (l : Launch), s.span.launches = [l] → l.relay = false → l.hdr.subtype = 1 → l.frame = none →
    s.portUp l.port = true → s.txAsleep = false → 0 ≤ l.at_ → (s.advanceToU l.at_.toNat).nowU ≤ l.at_.toNat + 98304 →
    (s.port l.port).wire = none → (s.port l.port).commit = none → (s.port l.port).wakeAt ≤ l.at_.toNat * unitQ →
    s.macsecOn l.port = false →
    ∃ t, exec .spanLaunch s = .next t ∧ t.span.launches = [] ∧
      (t.port l.port).wire.map (fun (w : Wire) => (w.kind, w.began, w.launch)) = some (.span, l.at_.toNat * unitQ, some l)) ∧
  (∀ (s : State) (l : Launch), s.span.launches = [l] → l.relay = true → l.frame = none →
    s.portUp l.port = true → s.txAsleep = false → 0 ≤ l.at_ → (s.advanceToU l.at_.toNat).nowU ≤ l.at_.toNat + 98304 →
    (s.port l.port).wire = none → (s.port l.port).commit = none → (s.port l.port).wakeAt ≤ l.at_.toNat * unitQ →
    s.macsecOn l.port = false →
    ∃ t, exec .relayLaunch s = .next t ∧ t.span.launches = [] ∧
      (t.port l.port).wire.map (fun (w : Wire) => (w.kind, w.began, w.launch)) = some (.span, l.at_.toNat * unitQ, some l))

/-- Events of a port's scheduler and wire (chapters "Gates and cutting lists" and "Queue service"), in states in which they act. -/
def Obligations.PortSchedulerEventsComplete : Prop :=
  (∀ (s : State) (p : Nat), p ≤ 24 → Claims.gapRuns s p = true → ∃ t, exec (.gateEntryChange p) s = .next t ∧
    Claims.PortOnly s t (p) ∧ (t.port p).running = t.listsRun p ∧ (t.port p).flows = (s.port p).flows) ∧
  (∀ (s : State) (p : Nat) (w v : Wire), p ≤ 24 → (s.port p).wire = some w → w.done = true →
    (s.port p).commit = some v → ∃ t, exec (.wireFree p) s = .next t ∧ Claims.PortOnly s t (p) ∧
    (t.port p).wire = some v ∧ (t.port p).commit = none ∧ (t.port p).idleFrom = w.gapEnd) ∧
  (∀ (s : State) (p : Nat), p ≤ 24 → (s.port p).wire = none → (s.port p).commit = none → s.txHalted = false →
    s.portUp p = true → s.macsecOn p = false → s.gateScheduled p = false → (s.port p).ctrl = [.respond] → ∃ t,
    exec (.wireFree p) s = .next t ∧ Claims.PortOnly s t (p) ∧ (t.port p).ctrl = [] ∧
    (t.port p).lastCtrl = some .respond ∧ ((t.port p).wire.map (·.ctrl)) = some (some .respond) ∧
    t.counter (State.mmgCount p 8) = s.counter (State.mmgCount p 8) + 1) ∧
  (∀ (s : State) (p : Nat) (w : Wire), p ≤ 24 → (s.port p).wire = some w → w.kind = .frame → w.final = false →
    w.done = false → s.mmgActive p = true → s.portUp p = true → ∃ t, exec (.fragmentEnd p) s = .next t ∧
    Claims.PortOnly s t (p) ∧ (t.port p).wire = some { w with done := true } ∧
    (t.port p).suspended.length = (s.port p).suspended.length + 1 ∧
    ((t.port p).suspended.getLast?.map (fun x => (x.qf, x.sent, x.cls))) = some (w.qf, w.upto, w.cls) ∧
    t.counter (State.mmgCount p 4) = s.counter (State.mmgCount p 4) + 1) ∧
  (∀ (s : State) (p : Nat) (w : Wire), p ≤ 24 → (s.port p).wire = some w → w.kind = .ctrl → w.final = true →
    w.done = false → ∃ t, exec (.frameTxEnd p) s = .next t ∧ Claims.PortOnly s t (p) ∧
    (t.port p).wire = some { w with done := true } ∧ (t.port p).suspended = (s.port p).suspended ∧ t.ctr = s.ctr) ∧
  (∀ (s : State) (p : Nat) (w : Wire) (f : Frame), p ≤ 24 → (s.port p).wire = some w → w.kind = .frame →
    w.final = true → w.done = false → w.qf.pn = none → w.retry = false → w.from_ = 0 → s.frame w.qf.id = some f →
    f.origin.isRx = true → f.egress = [p] → f.wq = none → f.window = false → f.slot = none → f.stage = .steered →
    f.whole = true → ∃ t, exec (.frameTxEnd p) s = .next t ∧
    t = { s with time := t.time, ports := t.ports, ctr := t.ctr, frames := t.frames, joinery := t.joinery } ∧
    (t.port p).wire = some { w with done := true } ∧ (t.frame w.qf.id).isNone = true ∧
    t.counter (macCount p 0x240) = s.counter (macCount p 0x240) + 1) ∧
  (∀ (s : State) (p c : Nat), p ≤ 24 → c ≤ 7 → s.cbsEnabled p c = true → s.classWaits p c = false → ∃ t,
    exec (.cbsCreditEligible p c) s = .next t ∧ Claims.PortOnly s t (p) ∧ (t.port p).wire = (s.port p).wire ∧
    (t.port p).flows = (s.port p).flows ∧ t.ctr = s.ctr) ∧
  (∀ (s : State) (p c n : Nat), p ≤ 24 → c ≤ 7 → n ≤ 4096 → (s.flowAt p c n).frames ≠ [] → Claims.gapRuns s p = true →
    ∃ t, exec (.shaperEligible p c n) s = .next t ∧ Claims.PortOnly s t (p) ∧
    (t.flowAt p c n).frames = (s.flowAt p c n).frames ∧ (t.port p).running = t.listsRun p) ∧
  (∀ (s : State) (p id n : Nat) (l : List Nat) (f : Frame), p ≤ 24 → (s.port p).arriving = id :: l →
    s.frame id = some f → max 64 ((s.egressBytes f p).length + 4) + s.expansion p f.sc ≤ s.maxLen p →
    s.listsRun p = false → s.boundFlow p f.cls f.ftag = some n → (s.flowAt p f.cls n).frames ≠ [] → ∃ t,
    exec (.enqueueComplete p) s = .next t ∧ Claims.PortOnly s t (p) ∧ (t.port p).arriving = l ∧
    (t.flowAt p f.cls n).frames.map (·.id) = (s.flowAt p f.cls n).frames.map (·.id) ++ [id] ∧
    (t.port p).vtime = (s.port p).vtime) ∧
  (∀ (s : State) (p n since : Nat), p ≤ 24 → n ≠ 0 → (Tab.get ({} : Flow) (s.port p).flows n).number ≠ 0 →
    (Tab.get ({} : Flow) (s.port p).flows n).static = false → (Tab.get ({} : Flow) (s.port p).flows n).frames = [] →
    (Tab.get ({} : Flow) (s.port p).flows n).idleFrom = some since →
    s.flowBusy p (Tab.get ({} : Flow) (s.port p).flows n).cls n = false → ∃ t, exec (.flowAgeExpire p n) s = .next t ∧
    Claims.PortOnly s t (p) ∧ Tab.get ({} : Flow) (t.port p).flows n = {} ∧ t.counter
    (State.qsvCount p (Tab.get ({} : Flow) (s.port p).flows n).cls 6) = s.counter
    (State.qsvCount p (Tab.get ({} : Flow) (s.port p).flows n).cls 6) + 1)

/-- Events of the MAC merge sublayer (chapter "MAC merge and pre-emption"). -/
def Obligations.MacMergeEventsComplete : Prop :=
  (∀ (s : State) (p : Nat), p ≤ 23 → (s.port p).verify = .sendVerify → s.portUp p = true →
    (s.port p).wire.isSome = true → (s.port p).ctrl.contains .verify = false → ∃ t, exec (.verifySend p) s = .next t ∧
    Claims.PortOnly s t (p) ∧ (t.port p).ctrl = (s.port p).ctrl ++ [.verify] ∧ (t.port p).verify = .sendVerify) ∧
  (∀ (s : State) (p u : Nat), p ≤ 23 → (s.port p).verify = .waitResponse → (s.port p).verifyAt = some u →
    (s.port p).attempts < s.regBits (mmgBase p + 4) 16 8 → ∃ t, exec (.verifyTimeout p) s = .next t ∧
    Claims.PortOnly s t (p) ∧ (t.port p).verify = .sendVerify ∧ (t.port p).verifyAt = none ∧ t.ctr = s.ctr) ∧
  (∀ (s : State) (p u : Nat), p ≤ 23 → (s.port p).verify = .waitResponse → (s.port p).verifyAt = some u →
    s.regBits (mmgBase p + 4) 16 8 ≤ (s.port p).attempts → ∃ t, exec (.verifyTimeout p) s = .next t ∧
    t = { s with time := t.time, ports := t.ports, ctr := t.ctr, flt := t.flt, free := t.free } ∧
    (t.port p).verify = .failed ∧ t.counter (State.mmgCount p 6) = s.counter (State.mmgCount p 6) + 1) ∧
  (∀ (s : State) (p : Nat), p ≤ 23 → s.portUp p = true → s.asleep = false → s.mmgEnable p = true →
    (s.port p).wire.isSome = true → ∃ t, exec (.verifyMpacketRx p false) s = .next t ∧ Claims.PortOnly s t (p) ∧
    (t.port p).ctrl = (s.port p).ctrl ++ [.respond]) ∧
  (∀ (s : State) (p : Nat), p ≤ 23 → s.portUp p = true → s.asleep = false → (s.port p).verify = .waitResponse → ∃ t,
    exec (.respondMpacketRx p false) s = .next t ∧ Claims.PortOnly s t (p) ∧ (t.port p).verify = .succeeded ∧
    (t.port p).verifyAt = none ∧ (t.port p).nested = t.wantsNested p) ∧
  (∀ (s : State) (p u : Nat) (b : List Byte), p ≤ 23 → s.portUp p = true → s.asleep = false →
    (s.port p).reasm.any (fun r => r.count == 0) = false → (s.port p).reasm.length < 3 → ∃ t,
    exec (.fragmentRx p 0xE6 0 0 b u) s = .next t ∧ Claims.PortOnly s t (p) ∧
    (t.port p).reasm = (s.port p).reasm ++ [{ count := 0, data := b, since := s.time.ticks, rxTime := u }] ∧
    t.counter (State.mmgCount p 3) = s.counter (State.mmgCount p 3) + 1) ∧
  (∀ (s : State) (p u : Nat) (b : List Byte) (r : Reasm), p ≤ 23 → s.portUp p = true → s.asleep = false →
    (s.port p).reasm = [r] → r.count = 0 → r.nextFrag = 0 → r.data.length + b.length ≤ 16384 → ∃ t,
    exec (.fragmentRx p 0x61 0xE6 0 b u) s = .next t ∧ Claims.PortOnly s t (p) ∧
    (t.port p).reasm = [{ r with data := r.data ++ b, nextFrag := 1 }] ∧
    t.counter (State.mmgCount p 3) = s.counter (State.mmgCount p 3) + 1) ∧
  (∀ (s : State) (p u crc : Nat) (b : List Byte), p ≤ 23 → s.portUp p = true → s.asleep = false →
    (s.port p).reasm.any (fun r => r.count == 0) = false → ∃ t, exec (.fragmentRx p 0x61 0xE6 crc b u) s = .next t ∧
    t = { s with ctr := t.ctr } ∧ t.counter (State.mmgCount p 1) = s.counter (State.mmgCount p 1) + 1) ∧
  (∀ (s : State) (p : Nat), s.mmgEnable p = true → s.regBits (mmgBase p + 4) 6 1 = 0 → s.portUp p = true →
    (s.port p).wire.isSome = true → s.timeOff = false → ∃ t, exec (.lldpTx p) s = .next t ∧ Claims.PortOnly s t (p) ∧
    (t.port p).ctrl = (s.port p).ctrl ++ [.lldp (s.mmgAdvert p)] ∧
    (t.port p).lldpAt = some (t.time.ticks + secTicks 30)) ∧
  (∀ (s : State) (p u : Nat) (b : List Byte), p ≤ 23 → s.portUp p = true → s.asleep = false →
    s.macError p (b.length + 4) false = none → s.mmgEnable p = true → s.regBits (mmgBase p + 4) 6 1 = 0 →
    (s.port p).suspended = [] → beAt b 12 2 = 0x88CC → s.isKnock p b = false → s.macsecOn p = false →
    State.cellsOf b.length ≤ s.holdFree → ∃ t, exec (.lldpduRx p b u) s = .next t ∧ t =
    { s with ports := t.ports, ctr := t.ctr, frames := t.frames, nextFrame := t.nextFrame, joinery := t.joinery } ∧
    (t.port p).partnerUntil.isSome = true ∧ t.nextFrame = s.nextFrame + 1) ∧
  (∀ (s : State) (p u : Nat), p ≤ 23 → (s.port p).partnerUntil = some u → (s.port p).verify = .disabled →
    s.mmgEnable p = false → ∃ t, exec (.partnerValuesExpire p) s = .next t ∧ Claims.PortOnly s t (p) ∧
    (t.port p).partner79 = false ∧ (t.port p).partnerLz = false ∧ (t.port p).partnerUntil = none ∧ u ≤ t.time.ticks) ∧
  (∀ (s : State) (p : Nat), p ≤ 23 → s.mmgActive p = true → s.wantsNested p ≠ (s.port p).nested →
    (s.port p).suspended = [] → ∃ t, exec (.operationModeChange p) s = .next t ∧ Claims.PortOnly s t (p) ∧
    (t.port p).nested = s.wantsNested p ∧ (t.port p).modePending = false ∧
    t.counter (State.mmgCount p 16) = s.counter (State.mmgCount p 16) + 1) ∧
  (∀ (s : State) (p : Nat), p ≤ 23 → s.mmgActive p = true → s.wantsNested p ≠ (s.port p).nested →
    (s.port p).suspended ≠ [] → ∃ t, exec (.operationModeChange p) s = .next t ∧ Claims.PortOnly s t (p) ∧
    (t.port p).nested = (s.port p).nested ∧ (t.port p).modePending = true ∧ t.ctr = s.ctr)

/-- Events of links, flow control, underrun, LPI and reception (chapter "Ports, flow control and counters"). -/
def Obligations.PortLinkEventsComplete : Prop :=
  (∀ (s : State) (p : Nat), p ≤ 24 → s.inService p = true → (s.port p).link = .down → Claims.gapRuns s p = true →
    s.mmgEnable p = false → ∃ t, exec (.pcsLinkUp p) s = .next t ∧
    t = { s with time := t.time, ports := t.ports, ctr := t.ctr, notices := t.notices } ∧ (t.port p).link = .up ∧
    (t.port p).discardAt = none ∧ t.notices.length = s.notices.length + 1) ∧
  (∀ (s : State) (p : Nat), p ≤ 24 → s.inService p = true → (s.port p).link = .up → ∃ t,
    exec (.pcsLinkUp p) s = .next t ∧ Claims.PortOnly s t (p) ∧ (t.port p).pcs = true ∧ (t.port p).link = .up ∧
    t.ctr = s.ctr) ∧
  (∀ (s : State) (p : Nat) (sig hb : Bool), p ≤ 24 → s.inService p = true → (s.port p).link = .up →
    s.regBits (prtBase p + 0x34) 0 8 ≠ 0 → ∃ t, exec (.pcsLinkDown p sig hb) s = .next t ∧ Claims.PortOnly s t (p) ∧
    (t.port p).link = .debounce ∧
    (t.port p).debounceAt = some (s.time.ticks + msTicks (s.regBits (prtBase p + 0x34) 0 8)) ∧ (t.port p).pcs = false) ∧
  (∀ (s : State) (p u : Nat), p ≤ 24 → (s.port p).link = .debounce → (s.port p).debounceAt = some u →
    (s.port p).suspended = [] → ∃ t, exec (.linkDebounceExpire p) s = .next t ∧
    t = { s with time := t.time, ports := t.ports, ctr := t.ctr, notices := t.notices } ∧ (t.port p).link = .down ∧
    (t.port p).debounceAt = none ∧ (t.port p).discardAt.isSome = true ∧ t.notices.length = s.notices.length + 1 ∧
    t.counter (macCount p 0x1A0) = s.counter (macCount p 0x1A0) + 1) ∧
  (∀ (s : State) (p u : Nat), p ≤ 24 → (s.port p).link = .down → (s.port p).discardAt = some u → s.queuedOn p = [] →
    ∃ t, exec (.linkDownDiscard p) s = .next t ∧ Claims.PortOnly s t (p) ∧ (t.port p).discardAt = none ∧
    t.queuedOn p = []) ∧
  (∀ (s : State) (p u id : Nat) (f : Frame), p ≤ 24 → (s.port p).link = .down → (s.port p).discardAt = some u →
    s.queuedOn p = [id] → s.frame id = some f → f.origin.isRx = true →
    s.regBits (prtBase (State.inPort f) + 0xC) 3 1 = 0 → f.egress = [p] → f.wq = none → f.window = false →
    f.slot = none → f.stage = .steered → ∃ t, exec (.linkDownDiscard p) s = .next t ∧
    t = { s with time := t.time, ports := t.ports, ctr := t.ctr, frames := t.frames } ∧ (t.frame id).isNone = true ∧
    t.queuedOn p = [] ∧ t.counter (macCount p 0x1A8) = s.counter (macCount p 0x1A8) + 1) ∧
  (∀ (s : State) (p u : Nat) (b : List Byte), p ≤ 24 → s.portUp p = true → s.asleep = false →
    s.macError p (b.length + 4) false = none → b.length = 60 → beAt b 0 6 = 0x0180C2000001 → beAt b 14 2 = 1 →
    s.fcMode p = 1 → s.rxHonour p = true → Claims.gapRuns s p = true → beAt b 16 2 ≠ 0 → ∃ t,
    exec (.pauseRx p b false u) s = .next t ∧ Claims.PortOnly s t (p) ∧
    Tab.get 0 (t.port p).pauseUntil 8 = s.nowQ + beAt b 16 2 * 64 * s.byteTime p ∧
    t.counter (macCount p 0x168) = s.counter (macCount p 0x168) + 1) ∧
  (∀ (s : State) (p k : Nat), p ≤ 24 → Tab.get 0 (s.port p).pauseUntil k ≠ 0 → Claims.gapRuns s p = true → ∃ t,
    exec (.pauseTimerExpire p k) s = .next t ∧ Claims.PortOnly s t (p) ∧ Tab.get 0 (t.port p).pauseUntil k = 0) ∧
  (∀ (s : State) (p k u : Nat), p ≤ 24 → Tab.get none (s.port p).xoffAt k = some u → s.txGen p = true →
    s.reg (prtBase p + 0x1C) < s.rxHeld p k → (s.port p).wire.isSome = true → ∃ t,
    exec (.pauseRefresh p k) s = .next t ∧ Claims.PortOnly s t (p) ∧
    (t.port p).ctrl = (s.port p).ctrl ++ [if k = 8 then .pause (s.pauseQuanta p) else .pfc k (s.pauseQuanta p)] ∧
    Tab.get none (t.port p).xoffAt k = some t.time.ticks) ∧
  (∀ (s : State) (p : Nat) (w : Wire) (f : Frame), p ≤ 24 → (s.port p).wire = some w → w.kind = .frame →
    w.done = false → w.retry = false → s.frame w.qf.id = some f → f.place = .returning → f.arrived < f.size → ∃ t,
    exec (.txUnderrun p) s = .next t ∧ Claims.PortOnly s t (p) ∧ t.time = s.time ∧
    Tab.get none (t.port p).retry w.cls = some (w.qf, w.flow) ∧ Tab.get 0 (t.port p).threshUp w.cls = min
    (Tab.get 0 (s.port p).threshUp w.cls + 512) (16384 - s.regBits (prtBase p + 0x80 + 4 * w.cls) 0 16) ∧
    ((t.port p).wire.map (·.done)) = some true ∧ t.counter (macCount p 0x1B8) = s.counter (macCount p 0x1B8) + 1) ∧
  (∀ (s : State) (p c : Nat), p ≤ 24 → Tab.get 0 (s.port p).decayAt c ≠ 0 → ∃ t,
    exec (.underrunDecay p c) s = .next t ∧ Claims.PortOnly s t (p) ∧
    Tab.get 0 (t.port p).threshUp c = Tab.get 0 (s.port p).threshUp c - 512 ∧ t.ctr = s.ctr) ∧
  (∀ (s : State) (p : Nat), 16 ≤ p → p ≤ 23 → s.portUp p = true → s.portMode p = 7 →
    s.reg (prtBase p + 0x20) % 2 = 1 → (s.port p).txLpi = false → (s.port p).wire = none → (s.port p).commit = none →
    (s.port p).ctrl = [] → (s.port p).arriving = [] → s.gateScheduled p = false →
    (upto 0 8).all (fun c => !s.classWaits p c) = true → ∃ t, exec (.lpiEnter p) s = .next t ∧
    Claims.PortOnly s t (p) ∧ (t.port p).txLpi = true ∧ (t.port p).lpiSince = t.time.ticks ∧
    t.counter (macCount p 0x278) = s.counter (macCount p 0x278) + 1) ∧
  (∀ (s : State) (p u : Nat) (b : List Byte), p ≤ 24 → s.portUp p = true → s.asleep = false →
    s.macError p (b.length + 4) false = none → s.isKnock p b = true → s.pwr.trans = none → ∃ t,
    exec (.knockRx p b false u) s = .next t ∧ t = { s with ctr := t.ctr } ∧
    t.counter (macCount p 0x198) = s.counter (macCount p 0x198) + 1 ∧
    t.counter (macCount p 0x100) = s.counter (macCount p 0x100) + 1) ∧
  (∀ (s : State) (p u : Nat) (b : List Byte), p ≤ 24 → s.portUp p = true → s.asleep = false →
    s.macError p (b.length + 4) false = none → s.isKnock p b = false → beAt b 12 2 ≠ 0x8808 → s.macsecOn p = false →
    State.cellsOf b.length ≤ s.holdFree → ∃ t, exec (.frameRx p b false false u) s = .next t ∧ t =
    { s with ports := t.ports, ctr := t.ctr, frames := t.frames, nextFrame := t.nextFrame, joinery := t.joinery } ∧
    t.nextFrame = s.nextFrame + 1 ∧
    (t.frame s.nextFrame).map (fun f => (f.bytes, f.whole, f.rxTime, f.rxFlag)) = some (b, true, u, s.time.flag) ∧
    t.counter (macCount p 0x100) = s.counter (macCount p 0x100) + 1) ∧
  (∀ (s : State) (p u : Nat) (b : List Byte) (bad cut : Bool), p ≤ 24 → s.inService p = true → (s.port p).link ≠ .up →
    ∃ t, exec (.frameRx p b bad cut u) s = .next t ∧ t = { s with ctr := t.ctr } ∧
    t.counter (macCount p 0x150) = s.counter (macCount p 0x150) + 1) ∧
  (∀ (s : State) (p : Nat) (r : TsRec) (l : List TsRec), p ≤ 24 → (s.ptime p).tsq = r :: l →
    (s.book (s.regBits (timPort p + 0x28) 0 8)).state = .running →
    State.bookFull (s.book (s.regBits (timPort p + 0x28) 0 8)) = false →
    (s.book (s.regBits (timPort p + 0x28) 0 8)).bitmap = [] →
    s.bent.awaitBci.contains (s.regBits (timPort p + 0x28) 0 8) = false → ∃ t, exec (.tsRecordWrite p) s = .next t ∧
    t = { s with time := t.time, books := t.books, hostMem := t.hostMem } ∧ (t.ptime p).tsq = l ∧
    (t.book (s.regBits (timPort p + 0x28) 0 8)).bpi = (s.book (s.regBits (timPort p + 0x28) 0 8)).bpi + 1) ∧
  (∀ (s : State) (b : Nat), b < 2 → (s.bank b).state = .filling → s.clerk.waiting = [] → ∃ t,
    exec (.stocktakeCopyDone b) s = .next t ∧ t = { s with stock := t.stock, ctr := t.ctr } ∧
    (t.bank b).state = .held ∧ (t.bank b).valid = true ∧ (t.bank b).ctr = (s.bank b).ctr ∧
    t.counter (prtCommon + 0x100) = s.counter (prtCommon + 0x100) + 1)

/-- Timers and fetches of the stream engine (chapter "The stream engine") on a post in no bent. -/
def Obligations.StreamTimersComplete : Prop :=
  (∀ (s : State) (h : Nat), s.bent.role = .solo → (s.entry h).state = 2 → ∃ t, exec (.learnAgeExpire h) s = .next t ∧
    t = { s with time := t.time, stream := t.stream, ctr := t.ctr } ∧ Claims.Passed s t ∧ t.entry h = {} ∧
    t.counter (stmBase + 0x218) = s.counter (stmBase + 0x218) + 1 ∧ t.stream.accounts = s.stream.accounts) ∧
  (∀ (s : State) (r : Nat), s.bent.role = .solo → (s.rcvy r).state ≠ 0 → (s.rcvy r).takeAny = false → ∃ t,
    exec (.rcvyResetTimeout r) s = .next t ∧ t = { s with time := t.time, stream := t.stream, ctr := t.ctr } ∧
    Claims.Passed s t ∧ t.rcvy r = { s.rcvy r with takeAny := true, resets := (s.rcvy r).resets + 1 } ∧
    t.counter (stmBase + 0x258) = s.counter (stmBase + 0x258) + 1) ∧
  (∀ (s : State) (r : Nat), s.bent.role = .solo → (s.rcvy r).state ≠ 0 → (s.rcvy r).leEn = true → State.latent
    (s.rcvy r).paths (modSub 64 (s.rcvy r).passed.toNat (s.rcvy r).leBasePassed)
    (modSub 64 (s.rcvy r).discarded.toNat (s.rcvy r).leBaseDiscarded) (s.rcvy r).leDiff = true → ∃ t,
    exec (.latentErrorTest false r) s = .next t ∧
    t = { s with time := t.time, stream := t.stream, ctr := t.ctr, notices := t.notices } ∧ Claims.Passed s t ∧
    (t.rcvy r).latentErrors = (s.rcvy r).latentErrors + 1 ∧ (t.rcvy r).leBasePassed = (s.rcvy r).passed.toNat ∧
    t.notices.length = s.notices.length + 1) ∧
  (∀ (s : State) (a : Nat), s.bent.role = .solo → (s.account a).defined = true → (s.account a).leEn = true →
    State.latent (((s.account a).paths.filter (·.valid)).length - 1)
    (modSub 64 (s.account a).passed.toNat (s.account a).leBasePassed)
    (modSub 64 (s.account a).duplicate.toNat (s.account a).leBaseDuplicate) (s.account a).leDiff = false → ∃ t,
    exec (.latentErrorTest true a) s = .next t ∧ t = { s with time := t.time, stream := t.stream } ∧
    Claims.Passed s t ∧ (t.account a).leStart = t.time.ticks ∧
    (t.account a).leBasePassed = (s.account a).passed.toNat ∧ (t.account a).latentErrors = (s.account a).latentErrors) ∧
  (∀ (s : State) (a : Nat) (x : HeldPacket), s.bent.role = .solo → (s.account a).held = [x] →
    (s.account a).skipSet = [] → x.seq = (s.account a).next + 1 → x.seq < accountQ (s.account a) → ∃ t,
    exec (.accountHoldExpire a) s = .next t ∧
    t = { s with time := t.time, stream := t.stream, frames := t.frames, joinery := t.joinery, ctr := t.ctr } ∧
    Claims.Passed s t ∧ (t.account a).held = [] ∧ (t.account a).next = (x.seq + 1) % accountQ (s.account a) ∧
    (t.account a).gapSeqs = (s.account a).gapSeqs + 1 ∧ (t.account a).passed = (s.account a).passed + 1 ∧
    t.joinery.released = s.joinery.released ++ [x.frame]) ∧
  (∀ (s : State) (a : Nat), s.bent.role = .solo → (s.account a).defined = true → (s.account a).takeAny = false →
    (s.account a).held = [] → ∃ t, exec (.accountResetTimeout a) s = .next t ∧
    t = { s with time := t.time, stream := t.stream, ctr := t.ctr, notices := t.notices } ∧ Claims.Passed s t ∧
    t.account a = { s.account a with takeAny := true, resets := (s.account a).resets + 1 } ∧
    t.counter (stmBase + 0x2C8) = s.counter (stmBase + 0x2C8) + 1) ∧
  (∀ (s : State) (id h : Nat) (f : Frame), s.stream.waiting = [id] → s.frames = [(id, some f)] → f.handle = some h →
    f.account = none → f.origin = .rx 16 → s.txGen 16 = false → s.threadOf id = none → s.joinery.fences = [] →
    (s.entry h).rcvyEn = true → (s.entry h).unrecovered = false →
    (s.viewOf f).seqOf (s.rcvy (s.entry h).rcvy).format = none → ∃ t, exec (.cacheFetchDone id) s = .next t ∧
    t = { s with stream := t.stream, ctr := t.ctr, frames := t.frames, joinery := t.joinery } ∧
    t.stream.waiting = [] ∧ (t.rcvy (s.entry h).rcvy).tagless = (s.rcvy (s.entry h).rcvy).tagless + 1 ∧
    (t.frame id).isNone = true ∧ t.counter (stmBase + 0x250) = s.counter (stmBase + 0x250) + 1) ∧
  (∀ (s : State) (id k h : Nat) (f : Frame) (x : Stream) (y : Tab DWord), s.engineTurn id = true →
    s.frame id = some f → s.threadOf id = some k → s.joinery.fences = [] →
    (s.identify (State.inPort f) (s.viewOf f) f.bytes).1 = .stream h →
    (s.identify (State.inPort f) (s.viewOf f) f.bytes).2 = { s with stream := x, ctr := y } → x.filters = [] →
    x.waiting = s.stream.waiting → (Tab.get ({} : StreamEntry) x.entries h).rcvyEn = true →
    (Tab.get ({} : StreamEntry) x.entries h).unrecovered = false → ∃ t,
    exec (.streamEngineFrame id true) s = .next t ∧
    t = { s with stream := t.stream, ctr := t.ctr, frames := t.frames } ∧
    t.stream.waiting = s.stream.waiting ++ [id] ∧ (t.frame id).map (·.handle) = some (some h) ∧
    t.counter (stmBase + 0x278) = Tab.get 0 y (stmBase + 0x278) + 1)

/-- Events of the joinery and the frame hold (chapters "The joinery", "Microcode and hooks", "The machine model"). -/
def Obligations.JoineryEventsComplete : Prop :=
  (∀ (s : State) (id src j p : Nat) (f : Frame), s.nextOffer = some (id, false, src) → s.inRun = true →
    s.offerLost = false → s.chooseJoiner = some j → s.thread (4 * j) = none → s.frame id = some f → f.origin = .rx p →
    f.account = none → f.judged = false → s.readsPrp f = true → f.whole = false → ∃ t,
    exec (.frameDispatch []) s = .next t ∧ t = { s with joinery := t.joinery, frames := t.frames, ctr := t.ctr } ∧
    (t.thread (4 * j)).map (fun x => (x.frame, x.wait, x.at_)) = some (id, .frameEnd, .parse) ∧
    (t.frame id).map (·.stage) = some .joinery ∧ t.joinery.turn = src ∧
    t.counter (jnrCount 0) = s.counter (jnrCount 0) + 1) ∧
  (∀ (s : State) (id c src : Nat) (r : Bool), s.nextOffer = some (id, r, src) → s.inRun = true → s.offerLost = false →
    s.chooseJoiner = none → (upto 0 6).find? (fun c => s.joinery.gated.contains c) = some c → ∃ t,
    exec (.frameDispatch []) s = .next t ∧ t = { s with joinery := t.joinery } ∧ t.joinery.gated.contains c = false ∧
    t.joinery.threads = s.joinery.threads ∧ t.joinery.order = s.joinery.order) ∧
  (∀ (s : State) (id n p : Nat) (f : Frame), s.frame id = some f → f.origin = .rx p → f.whole = false →
    f.arrived + n < f.bytes.length → s.threadOf id = none → ∃ t, exec (.frameDataArrival id n) s = .next t ∧
    t = { s with frames := t.frames, joinery := t.joinery } ∧ (t.frame id).map (·.arrived) = some (f.arrived + n) ∧
    (t.frame id).map (·.whole) = some false ∧ t.joinery.threads = s.joinery.threads) ∧
  (∀ (s : State) (k : Nat) (x : Thread) (h : HookRun) (l : List Word) (st : Word), s.thread k = some x →
    x.hook = some h → h.coming = some (l, st) → x.wait = .ready → ∃ t, exec (.lookupAnswer k) s = .next t ∧
    t = { s with joinery := t.joinery } ∧
    t.thread k = some { x with hook := some { h with lk := l, lkst := st, coming := none } }) ∧
  (∀ (s : State) (k p : Nat) (x : Thread) (f : Frame), s.thread k = some x → x.wait ≠ .ready →
    s.frames = [(x.frame, some f)] → f.origin = .rx p → s.txGen p = false → ∃ t, exec (.threadTimeout k) s = .next t ∧
    t =
    { s with time := t.time, stream := t.stream, ctr := t.ctr, flt := t.flt, free := t.free, joinery := t.joinery, frames := t.frames }
    ∧ Claims.Passed s t ∧ t.thread k = none ∧ (t.frame x.frame).isNone = true ∧
    t.stream.waiting.contains x.frame = false ∧ t.counter (jnrCount 18) = s.counter (jnrCount 18) + 1) ∧
  (∀ (s : State) (c a m x : Nat), c < 6 → isCustomer a = true → eccCheck
    (Nat.xor (Tab.get hretWord (s.codeOf (Tab.get 0 s.joinery.loaded c)).1 a) (Nat.xor (s.upset c a) (m % 2 ^ 160))) =
    .corrected x → ∃ t, exec (.csScrub c a m) s = .next t ∧
    t = { s with joinery := t.joinery, ctr := t.ctr, flt := t.flt, free := t.free } ∧ t.upset c a = 0 ∧
    t.counter (jnrCount 19) = s.counter (jnrCount 19) + 1 ∧ t.joinery.words = s.joinery.words) ∧
  (∀ (s : State) (c : Nat), c < 6 → Tab.get 0 s.joinery.loaded c < s.joinery.gen → s.joinery.threads = [] → ∃ t,
    exec (.csRewrite c) s = .next t ∧ t = { s with joinery := t.joinery } ∧
    Tab.get 0 t.joinery.loaded c = Tab.get 0 s.joinery.loaded c + 1 ∧
    t.joinery.upsets.any (fun e => e.1 / 16384 == c) = false ∧ t.joinery.gen = s.joinery.gen) ∧
  (∀ (s : State), s.reg (jnrBase + 0xC) % 2 = 1 →
    (upto 0 48).any (fun j => s.joinerFence j != .none || s.fenced (0x200 + 4 * j)) = false → s.flt.gapJn = none →
    s.inRun = true → ∃ t, exec (.rotationFence) s = .next t ∧ t = { s with joinery := t.joinery } ∧
    t.joinerFence s.joinery.rotNext ≠ .none ∧ t.joinery.rotNext = (s.joinery.rotNext + 1) % 48) ∧
  (∀ (s : State) (j u : Nat), s.joinery.fences = [(j, .test (some u))] → s.flt.tests = [] → ∃ t,
    exec (.rotationTestEnd false) s = .next t ∧
    t = { s with time := t.time, joinery := t.joinery, flt := t.flt, ctr := t.ctr } ∧ Claims.Passed s t ∧
    t.joinerFence j = .none ∧ t.flt.gapJn = some (t.time.ticks + msTicks (s.regBits (fltBase + 0x14) 16 16)) ∧
    t.counter (fltBase + 0x158) = s.counter (fltBase + 0x158) + 1) ∧
  (∀ (s : State) (c : Nat), c < 6 → s.joinery.gated.contains c = false →
    s.regBits (pwrBase + 0x18) 16 3 < 6 - s.joinery.gated.length → s.pwr.state = .run →
    (upto (8 * c) 8).all s.joinerIdle = true → ∃ t, exec (.clusterGate c) s = .next t ∧
    t = { s with joinery := t.joinery, ctr := t.ctr } ∧ t.joinery.gated.contains c = true ∧
    t.joinery.gateWin = some (c, s.time.ticks) ∧ t.counter (pwrBase + 0xD0) = s.counter (pwrBase + 0xD0) + 1) ∧
  (∀ (s : State) (p : Nat) (e : SyncEntry) (l : List SyncEntry), Tab.get [] s.joinery.sync p = e :: l → ∃ t,
    exec (.syncTableExpire p) s = .next t ∧ t = { s with time := t.time, joinery := t.joinery } ∧ Claims.Passed s t ∧
    (Tab.get [] t.joinery.sync p).all (fun x => t.time.ticks < x.until_) = true ∧ e.until_ ≤ t.time.ticks) ∧
  (∀ (s : State) (id : Nat) (f : Frame), s.frames = [(id, some f)] → s.spillable id f = true →
    s.spillHi ≤ s.holdLevel → s.spillLo < s.holdLevel → 256 * State.cellsOf f.size ≤ s.spillSize → s.bent.kept = [] →
    s.flt.tests = [] → ∃ t, exec (.spillStart) s = .next t ∧
    t = { s with frames := t.frames, mem := t.mem, ctr := t.ctr } ∧ (t.frame id).map (·.place) = some .spilled ∧
    t.mem.spilling = true ∧ t.counter (memBase + 0x100) = s.counter (memBase + 0x100) + 1) ∧
  (∀ (s : State) (id n : Nat) (f : Frame), s.frame id = some f → f.place = .spilled → f.egress = [] →
    n < f.bytes.length → State.cellsOf f.size ≤ s.holdFree → ∃ t, exec (.spillReturn id n) s = .next t ∧
    t = { s with frames := t.frames, mem := t.mem } ∧
    (t.frame id).map (fun x => (x.place, x.arrived)) = some (.returning, n) ∧ t.mem.spillStopped = false) ∧
  (∀ (s : State) (e : WindowEntry) (l : List WindowEntry), s.joinery.windowQueue = e :: l → s.windowOn = true →
    s.assay.running = true → s.assay.alive = true → s.assay.sender = [] → s.assay.fifo = [] →
    e.telegram.length ≤ 4096 → ∃ t, exec (.windowHandoff) s = .next t ∧
    t = { s with assay := t.assay, joinery := t.joinery, ctr := t.ctr, frames := t.frames, ports := t.ports } ∧
    t.joinery.windowQueue = l ∧
    t.assay.fifo.map (fun r => (r.typ, r.inseq, r.payload)) = [(1, s.assay.nextInseq, e.telegram)] ∧
    t.assay.nextInseq = s.assay.nextInseq + 1 ∧ t.counter (asyCount 0) = s.counter (asyCount 0) + 1)

/-- Events of work queues and daybooks (chapter "Work queues and daybooks"). -/
def Obligations.QueueEventsComplete : Prop :=
  (∀ (s : State) (fn q : Nat) (v : BitVec 16), s.pwr.state = .run → q < 4096 → s.requesterOfQueue q = fn →
    (s.queue q).state = .running → (s.queue q).fetched = [] → (v - (s.queue q).ci).toNat ≤ 2 ^ (s.queue q).logN →
    (v - (s.queue q).pi).toNat ≤ 2 ^ (s.queue q).logN → ∃ t, exec (.wqDoorbell fn q v) s = .next t ∧
    t = { s with queues := t.queues, bent := t.bent } ∧ t.queue q = { s.queue q with pi := v } ∧
    t.bent = { s.bent with awaitPi := s.bent.awaitPi.filter (· != q) } ∧ ∀ x, x ≠ q → t.queue x = s.queue x) ∧
  (∀ (s : State) (fn q : Nat) (v : BitVec 16), s.pwr.state = .run → q < 4096 → s.requesterOfQueue q = fn →
    (s.queue q).state = .running → 2 ^ (s.queue q).logN < (v - (s.queue q).pi).toNat → s.ringWrites = true → ∃ t,
    exec (.wqDoorbell fn q v) s = .next t ∧ t =
    { s with queues := t.queues, bent := t.bent, hostMem := t.hostMem, flt := t.flt, ctr := t.ctr, free := t.free } ∧
    (t.queue q).state = .error ∧ (t.queue q).cause = (if 32768 < (v - (s.queue q).pi).toNat then 9 else 8) ∧
    (t.queue q).latched = v ∧ (t.queue q).pi = (s.queue q).pi) ∧
  (∀ (s : State) (fn q : Nat) (v : BitVec 32), s.pwr.state = .run → q < 4096 → s.requesterOfQueue q = fn →
    (s.queue q).state = .running → 1 ≤ v.toNat / 65536 → v.toNat / 65536 ≤ 32768 → ∃ t,
    exec (.wqInvalidate fn q v) s = .next t ∧ t = { s with queues := t.queues, hostMem := t.hostMem } ∧
    (t.queue q).invAck = (s.queue q).invAck + 1 ∧ (t.queue q).ci = (s.queue q).ci ∧ (t.queue q).shadowDue = false) ∧
  (∀ (s : State) (fn q b : Nat) (v : BitVec 16), s.pwr.state = .run → q < 4096 → s.requesterOfQueue q = fn →
    s.homeBook q = some b → (s.book b).state = .running → s.bent.awaitBci.contains b = false →
    ((s.book b).bpi - v).toNat ≤ 2 ^ (s.book b).logN →
    ((s.book b).bpi - v).toNat ≤ ((s.book b).bpi - (s.book b).bci).toNat → ∃ t,
    exec (.bookDoorbell fn q v) s = .next t ∧ t = { s with books := t.books } ∧ t.book b = { s.book b with bci := v }) ∧
  (∀ (s : State) (fn q : Nat) (v : BitVec 32), s.pwr.state = .run → s.isCommandQueue q = true → s.fnOfQueue q = fn →
    (s.queue q).state = .disabled → s.regBits (pageBase q + 0x110) 31 1 = 0 → s.homeBook q = none → ∃ t,
    exec (.cqCfgWrite fn q 0x100 v) s = .next t ∧ t = { s with cfg := t.cfg } ∧ t.reg (pageBase q + 0x100) = v.toNat ∧
    t.reg (pageBase q + 0x110) = s.reg (pageBase q + 0x110)) ∧
  (∀ (s : State) (fn q : Nat) (v : BitVec 32), s.pwr.state = .run → s.isCommandQueue q = true → s.fnOfQueue q = fn →
    (s.queue q).state = .disabled → s.regBits (pageBase q + 0x110) 31 1 = 0 → bit v.toNat 31 = true → ∃ t,
    exec (.cqCfgWrite fn q 0x110 v) s = .next t ∧
    t = { s with cfg := t.cfg, queues := t.queues, hostMem := t.hostMem } ∧ (t.queue q).state = .running ∧
    (t.queue q).kind = .command ∧ (t.queue q).pi = (s.queue q).ci ∧ (t.queue q).ci = (s.queue q).ci ∧
    (t.queue q).base = BitVec.ofNat 64 (s.reg64 (pageBase q + 0x100))) ∧
  (∀ (s : State) (q : Nat), (s.queue q).state = .running → (s.queue q).fetched = [] →
    (s.queue q).covered (s.queue q).ci (Fetched.units (s.readEntry q (s.queue q).ci false)) = true →
    s.prefetchUsed + Fetched.units (s.readEntry q (s.queue q).ci false) ≤ 16384 →
    malformedCause (s.queue q) (s.readEntry q (s.queue q).ci false) = 0 → ∃ t,
    exec (.entryFetched q false) s = .next t ∧ t = { s with queues := t.queues } ∧
    (t.queue q).fetched = [s.readEntry q (s.queue q).ci false] ∧ (t.queue q).ci = (s.queue q).ci ∧
    (t.queue q).state = .running) ∧
  (∀ (s : State) (q : Nat) (f : Fetched), s.serves = true → s.bent.role = .solo → s.bent.rerun = [] →
    s.txQueues = [q] → s.startable q = true → 1 ≤ (s.queue q).weight → (s.queue q).burst = 1 →
    (s.queue q).fetched = [f] → hdrKind (entryHdr f.bytes) = 3 → fieldAt f.bytes 4 0 2 ≠ 3 → ∃ t,
    exec (.arbiterRound) s = .next t ∧ t = { s with queues := t.queues, nextSn := t.nextSn } ∧
    (t.queue q).ci = (s.queue q).ci + BitVec.ofNat 16 (Fetched.units f) ∧ (t.queue q).fetched = [] ∧
    (t.queue q).started.map (·.sn) = (s.queue q).started.map (·.sn) ++ [s.nextSn] ∧ t.nextSn = s.nextSn + 1) ∧
  (∀ (s : State) (q : Nat), (s.queue q).shadowDue = true → s.ringWrites = true → ∃ t,
    exec (.shadowWrite q) s = .next t ∧ t = { s with queues := t.queues, hostMem := t.hostMem } ∧
    t.queue q = { s.queue q with shadowDue := false } ∧
    t.readHost (s.fnOfQueue q) (s.queue q).shadow.toNat 16 = State.shadowBytes (s.queue q)) ∧
  (∀ (s : State) (q : Nat), (s.queue q).state = .stopping → (s.queue q).enablePending = false →
    (s.queue q).started = [] → s.isCommandQueue q = false → s.clerk.waiting = [] → s.bent.role = .solo → ∃ t,
    exec (.wqStopped q) s = .next t ∧ t = { s with queues := t.queues, hostMem := t.hostMem } ∧
    (t.queue q).state = .disabled ∧ (t.queue q).pi = (s.queue q).pi) ∧
  (∀ (s : State) (q id p : Nat) (l : List Nat) (f : Frame) (e : Fetched), s.serves = true → s.bent.role = .solo →
    (s.queue q).rxWait = id :: l → (s.queue q).rxWait.contains id = true → l.contains id = false →
    s.frame id = some f → f.origin = .rx p → f.place = .hold → f.handle = none → f.account = none →
    f.tsRecord = false → f.gap = none → f.bytes ≠ [] → f.egress = [] → f.window = false → f.slot = none →
    f.stage = .steered → (s.queue q).state = .running → (s.queue q).kind = .rx →
    (s.chan (State.deliveryChan q)).moving = true → (s.queue q).started = [] → (s.queue q).noticeBook = 0xFF →
    s.isCommandQueue q = false → (s.queue q).fetched = [e] →
    rxPlan (s.queue q) [e] (s.hostBytes f).length [] = .take [e] → hdrKind (entryHdr e.bytes) = 2 →
    (s.hostBytes f).length ≤ fieldAt e.bytes 0x10 0 15 → ∃ t, exec (.rxDelivery q) s = .next t ∧ t =
    { s with queues := t.queues, deliveries := t.deliveries, nextSn := t.nextSn, dray := t.dray, hostMem := t.hostMem, ctr := t.ctr, frames := t.frames, ports := t.ports }
    ∧ (t.queue q).rxWait = l ∧ (t.queue q).fetched = [] ∧ (t.queue q).started = [] ∧
    (t.queue q).ci = (s.queue q).ci + BitVec.ofNat 16 (Fetched.units e) ∧
    (t.queue q).cCompleted = (s.queue q).cCompleted + 1 ∧ (t.frame id).isNone = true) ∧
  (∀ (s : State) (q : Nat) (e : Started), (s.queue q).started = [e] → e.kind = 3 → s.fenceReady e = true →
    s.bent.role = .solo → ∃ t, exec (.wqFenceDone q) s = .next t ∧
    t = { s with queues := t.queues, hostMem := t.hostMem, notices := t.notices } ∧ (t.queue q).started = [] ∧
    (t.queue q).cCompleted = (s.queue q).cCompleted + 1 ∧ (t.queue q).ci = (s.queue q).ci) ∧
  (∀ (s : State) (b : Nat) (n : Notice) (l : List Notice), s.notices = n :: l → n.book = b → n.vector = none →
    (s.book b).state = .running → (s.book b).bitmap = [] → State.bookFull (s.book b) = false →
    s.bent.awaitBci.contains b = false → ∃ t, exec (.daybookRecord b) s = .next t ∧
    t = { s with notices := t.notices, books := t.books, hostMem := t.hostMem } ∧ t.notices = l ∧
    (t.book b).bpi = (s.book b).bpi + 1 ∧ (t.book b).cRecords = (s.book b).cRecords + 1) ∧
  (∀ (s : State) (b : Nat) (n : Notice) (l : List Notice), s.notices = n :: l → n.book = b → n.vector = none →
    (s.book b).state = .error → ∃ t, exec (.daybookRecord b) s = .next t ∧
    t = { s with notices := t.notices, books := t.books, queues := t.queues } ∧ t.notices = l ∧
    (t.book b).bitmap.contains n.source = true ∧ (t.book b).bpi = (s.book b).bpi ∧
    (t.book b).cFoldedTotal = (s.book b).cFoldedTotal + 1) ∧
  (∀ (s : State) (b : Nat) (n : Notice) (l : List Notice), s.notices = n :: l → n.book = b → n.vector = none →
    (s.book b).state = .disabled → ∃ t, exec (.daybookRecord b) s = .next t ∧
    t = { s with notices := t.notices, books := t.books } ∧ t.notices = l ∧
    t.book b = { s.book b with cDropped := (s.book b).cDropped + 1 }) ∧
  (∀ (s : State) (b : Nat), (s.book b).state = .running → State.bookFull (s.book b) = false → (s.book b).bitmap ≠ [] →
    s.bent.awaitBci.contains b = false → ∃ t, exec (.daybookOverflow b) s = .next t ∧
    t = { s with books := t.books, hostMem := t.hostMem } ∧ (t.book b).bitmap = [] ∧ (t.book b).folded = 0 ∧
    (t.book b).bpi = (s.book b).bpi + 1 ∧ (t.book b).cOverflows = (s.book b).cOverflows + 1) ∧
  (∀ (s : State) (b : Nat), 1 ≤ (s.book b).irqCount → (s.book b).irqCount ≤ (s.book b).uncovered → ∃ t,
    exec (.daybookIrq b) s = .next t ∧
    t = { s with books := t.books, hostMem := t.hostMem, msixPending := t.msixPending } ∧ (t.book b).uncovered = 0 ∧
    (t.book b).cMessages = (s.book b).cMessages + 1 ∧ (t.book b).bpi = (s.book b).bpi)

/-- Events of the dray engines (chapter "The dray"). -/
def Obligations.DrayEventsComplete : Prop :=
  (∀ (s : State) (fn e ch : Nat), s.pwr.state = .run → e < 4 → 16 ≤ ch → ch < 32 →
    s.requesterOfChan (32 * e + ch) = fn → (s.chan (32 * e + ch)).state = .parked → ∃ t,
    exec (.dryChannelDoorbell fn e ch) s = .next t ∧ t = { s with dray := t.dray } ∧ t.dray.engines = s.dray.engines ∧
    t.chan (32 * e + ch) = { s.chan (32 * e + ch) with state := .running, fetching := some true, dbPending := false }
    ∧ ∀ k, k ≠ 32 * e + ch → t.chan k = s.chan k) ∧
  (∀ (s : State) (e ch : Nat) (listBad : Bool) (b : List Byte) (ps : List DescPair), e < 4 → ch < 32 →
    (s.chan (32 * e + ch)).state = .running → (s.chan (32 * e + ch)).fetching = some false →
    s.readHost (s.fnOfChan (32 * e + ch)) (s.chan (32 * e + ch)).cur.toNat 64 = b → descFence b = false →
    s.descCheck (32 * e + ch) b listBad = (0, ps) → 0 < dstBytes ps → ∃ t,
    exec (.descFetched e ch false listBad) s = .next t ∧ t = { s with dray := t.dray, ctr := t.ctr } ∧ t.chan
    (32 * e + ch) =
    { s.chan (32 * e + ch) with fetching := none, desc := some { addr := (s.chan (32 * e + ch)).cur.toNat, copy := b, pairs := ps } }
    ∧ ∀ k, k ≠ 32 * e + ch → t.chan k = s.chan k) ∧
  (∀ (s : State) (e ch : Nat) (d : Desc), e < 4 → ch < 32 → (s.chan (32 * e + ch)).state = .running →
    (s.chan (32 * e + ch)).dbPending = false → (s.chan (32 * e + ch)).desc = some d → d.fence = false →
    descEoc d.copy = true → descIrq d.copy = false → ∃ t, exec (.descFinished e ch) s = .next t ∧
    t = { s with dray := t.dray, hostMem := t.hostMem, bulk := t.bulk, mem := t.mem, ctr := t.ctr } ∧
    (t.chan (32 * e + ch)).state = .parked ∧ (t.chan (32 * e + ch)).desc = none ∧
    t.readHost (s.fnOfChan (32 * e + ch)) (d.addr + 0xC) 4 = leBytes 4 1 ∧ t.hostMem =
    ((State.scatter (s.fnOfChan (32 * e + ch)) d.pairs ((s.gather (s.fnOfChan (32 * e + ch)) d.pairs).take (dstBytes d.pairs)) s).writeHost (s.fnOfChan (32 * e + ch)) (d.addr + 0xC) (leBytes 4 1)).hostMem
    ∧ t.bulk =
    (State.scatter (s.fnOfChan (32 * e + ch)) d.pairs ((s.gather (s.fnOfChan (32 * e + ch)) d.pairs).take (dstBytes d.pairs)) s).bulk
    ∧ ∀ k, k ≠ 32 * e + ch → t.chan k = s.chan k) ∧
  (∀ (s : State) (e ch : Nat) (write : Bool) (addr n : Nat) (d : Desc), e < 4 → ch < 32 →
    (s.chan (32 * e + ch)).state = .running → (s.chan (32 * e + ch)).dbPending = false →
    (s.chan (32 * e + ch)).desc = some d → d.fence = false → descEoc d.copy = true → descIrq d.copy = false → ∃ t,
    exec (.descMoveError e ch write addr n) s = .next t ∧
    t = { s with dray := t.dray, hostMem := t.hostMem, bulk := t.bulk, mem := t.mem, ctr := t.ctr, flt := t.flt } ∧
    (t.chan (32 * e + ch)).state = .parked ∧ (t.chan (32 * e + ch)).desc = none ∧
    t.readHost (s.fnOfChan (32 * e + ch)) (d.addr + 0xC) 4 = leBytes 4 (2 + 256 * (if write then 2 else 1)) ∧ t.bulk =
    (State.scatter (s.fnOfChan (32 * e + ch)) d.pairs ((s.gather (s.fnOfChan (32 * e + ch)) d.pairs).take (beatCut d.pairs (min n (dstBytes d.pairs)))) s).bulk) ∧
  (∀ (s : State) (e ch addr : Nat) (d : Desc), e < 4 → ch < 32 → (s.chan (32 * e + ch)).state = .running →
    (s.chan (32 * e + ch)).dbPending = false → (s.chan (32 * e + ch)).desc = some d → d.fence = true →
    descEoc d.copy = true → descIrq d.copy = false → ∃ t, exec (.descFenceDone e ch false addr) s = .next t ∧
    t = { s with dray := t.dray, hostMem := t.hostMem, ctr := t.ctr } ∧ (t.chan (32 * e + ch)).state = .parked ∧
    (t.chan (32 * e + ch)).desc = none ∧ (t.chan (32 * e + ch)).written = [] ∧ (t.chan (32 * e + ch)).lateSince = 0 ∧
    t.hostMem =
    (s.writeHost (s.fnOfChan (32 * e + ch)) (d.addr + 0xC) (leBytes 4 (4 + 65536 * min (s.chan (32 * e + ch)).lateSince 65535))).hostMem) ∧
  (∀ (s : State) (e ch a beat : Nat), e < 4 → ch < 32 → (s.chan (32 * e + ch)).bulkDone.contains a = true →
    (s.chan (32 * e + ch)).lateSeen.contains a = false → ∃ t, exec (.lateError e ch a beat) s = .next t ∧
    t = { s with dray := t.dray, hostMem := t.hostMem, ctr := t.ctr, flt := t.flt } ∧
    (t.chan (32 * e + ch)).lateSince = (s.chan (32 * e + ch)).lateSince + 1 ∧
    (t.chan (32 * e + ch)).lateSeen = a :: (s.chan (32 * e + ch)).lateSeen ∧ t.hostMem =
    (s.writeHost (s.fnOfChan (32 * e + ch)) (a + 0x34) (leBytes 4 (1 + 256 * 2 + 65536 * min beat 65535))).hostMem) ∧
  (∀ (s : State) (e ch : Nat), e < 4 → ch < 32 → (s.chan (32 * e + ch)).state = .stopping →
    (s.chan (32 * e + ch)).desc = none → s.clerk.waiting = [] → ∃ t, exec (.chainStopped e ch) s = .next t ∧
    t = { s with dray := t.dray } ∧ t.chan (32 * e + ch) = { s.chan (32 * e + ch) with state := .disabled }) ∧
  (∀ (s : State) (e ch : Nat), e < 4 → ch < 16 → (s.chan (32 * e + ch)).moving = false →
    s.chanHi (32 * e + ch) ≤ s.chanFill (32 * e + ch) → 0 < s.chanFill (32 * e + ch) → ∃ t,
    exec (.pacingHi e ch) s = .next t ∧ t = { s with dray := t.dray, ctr := t.ctr } ∧
    t.chan (32 * e + ch) = { s.chan (32 * e + ch) with moving := true } ∧ ∀ k, k ≠ 32 * e + ch → t.chan k = s.chan k) ∧
  (∀ (s : State) (e ch b t0 : Nat) (rest : List (Nat × Nat)), e < 4 → ch < 16 →
    (s.chan (32 * e + ch)).moving = false → s.sourceOf (32 * e + ch) = (b, t0) :: rest →
    0 < s.chanFill (32 * e + ch) → ∃ t, exec (.pacingFlush e ch) s = .next t ∧
    t = { s with time := t.time, dray := t.dray, ctr := t.ctr } ∧
    t.chan (32 * e + ch) = { s.chan (32 * e + ch) with moving := true } ∧
    t.time.ticks = max s.time.ticks (rest.foldl (fun m p => min m p.2) t0 + nsTicks (s.chanFlush (32 * e + ch))) ∧
    ∀ k, k ≠ 32 * e + ch → t.chan k = s.chan k) ∧
  (∀ (s : State) (e ch : Nat) (i : DrayItem) (rest : List DrayItem) (f : Frame), e < 4 → ch < 8 →
    (s.chan (32 * e + ch)).moving = true → (s.chan (32 * e + ch)).source = i :: rest →
    (s.startedOf i.queue i.sn).isSome = true → s.frame i.frame = some f → ∃ t,
    exec (.fetchFrameMove e ch false) s = .next t ∧
    t = { s with dray := t.dray, frames := t.frames, joinery := t.joinery, ctr := t.ctr } ∧
    (t.chan (32 * e + ch)).source = rest ∧ (t.chan (32 * e + ch)).framesIn = (s.chan (32 * e + ch)).framesIn - 1 ∧
    t.frame i.frame = some
    { f with bytes := i.segs.flatMap (fun p => s.readHost (s.fnOfQueue i.queue) p.1 p.2), whole := true, stage := .dispatch, since := s.time.ticks })

/-- The commands of the next statement, one row each. -/
noncomputable def Claims.queryRows : List Claims.Row := [
    { code := 0x0000, make := .nop, detail := fun _ _ => some 0 },
    { code := 0x0001, make := .identify, reply := identifyReply },
    { code := 0x0003, make := .echo, detail := fun _ c => some (crc32 c.params), reply := fun _ c => c.params },
    { code := 0x0104, make := .benchStatus
      reply := fun u c =>
        let b := u.bench c.bench.toNat
        let on := b.state == .pegged
        leBytes 4 (u.benchWord c.bench.toNat) ++ leBytes 4 (benchBytes b) ++ leBytes 4 (min b.clamps (2 ^ 32 - 1))
          ++ leBytes 4 (if b.state == .fitted || on then b.stageUs else 0) ++ leBytes 4 (if on then b.pegAt.code else 0)
          ++ leBytes 4 (if on then b.pegCycle.toNat else 0) ++ leBytes 12 (if on then toStamp (u.pegShown b) else 0)
          ++ zeros 12 },
    { code := 0x0200, make := .timeGet
      reply := fun u _ => leBytes 12 u.nowStamp ++ leBytes 4 u.nowCycle.toNat ++ leBytes 4 u.timStatus
        ++ leBytes 4 u.uncert ++ leBytes 4 (ofSigned 32 u.time.offset) ++ zeros 4 },
    { code := 0x0204, make := .timePortRead
      reply := fun u c => (upto 0 22).flatMap (fun i => leBytes 4 (u.timPortWord (c.f 0 0 8) (4 * i))) },
    { code := 0x0300, make := .spanStatus
      reply := fun u _ => leBytes 4 u.spnStatus ++ leBytes 4 u.nowCycle.toNat ++ leBytes 8 u.span.kingId.toNat
        ++ leBytes 4 u.span.setId.toNat ++ leBytes 4 u.span.kingPrio
        ++ leBytes 12 (if u.span.cycValid then toStamp u.span.tn else 0) },
    { code := 0x0304, make := .spanOwnerRead
      reply := fun u c => (upto 0 16).flatMap (fun i => leBytes 4 (u.spnWord (0x80000 + 0x40 * c.f 0 0 12 + 4 * i))) },
    { code := 0x0500, make := .gateStatus
      reply := fun u c =>
        let p := c.f 0 0 8
        leBytes 4 (u.prtWord p 0x8000) ++ leBytes 4 (u.prtWord p 0x8018) ++ leBytes 4 u.nowCycle.toNat
          ++ leBytes 12 (if u.listsRun p then toStamp ((u.nextGateChange p).getD 0) else 0) ++ zeros 8 },
    { code := 0x0600, make := .qsvStatus, reply := fun u c => u.prtCopy (c.f 0 0 8) 0xC000 128 },
    { code := 0x0700, make := .streamStatus
      reply := fun u _ => (upto 0 192).flatMap (fun i => leBytes 4 (u.stmWord (4 * i))) },
    { code := 0x0800, make := .joineryStatus, reply := fun u _ => wordsOf u.jnrWord 0 128 },
    { code := 0x0A00, make := .drayStatus
      reply := fun u c => (upto 0 64).flatMap (fun i => leBytes 4 (u.chanWord (Cmd.chan c) (4 * i))) },
    { code := 0x0B00, make := .bentStatus
      reply := fun u _ => (upto 0 128).flatMap (fun i => leBytes 4 (u.bntWord (4 * i))) },
    { code := 0x0D00, make := .faultStatus, reply := fun u _ => wordsOf u.fltWord 0 256 },
    { code := 0x0E00, make := .powerStatus, reply := fun u _ => wordsOf u.pwrWord 0 256 },
    { code := 0x0F01, make := .stocktakeStatus
      reply := fun u _ => (upto 0 4).flatMap (fun i => leBytes 4 (u.commonWord (4 * i))) } ]

/-- Commands that only read. -/
def Obligations.QueryCommandsAnswer : Prop :=
  Claims.Complete Claims.queryRows

/-- The commands of the next statement, one row each. -/
noncomputable def Claims.objectRows : List Claims.Row := [
    { code := 0x0004, make := .regRead
      holds := fun _ c => c.n 0 4 % 4 == 0 && decide (c.n 0 4 + 4 * c.f 4 0 8 ≤ 0x1000000)
      leaves := fun u c => (u.readWords 2 (u.cmdFn c) (c.n 0 4) (c.f 4 0 8)).2
      reply := fun u c => (u.readWords 2 (u.cmdFn c) (c.n 0 4) (c.f 4 0 8)).1 },
    { code := 0x0400, make := .portStatus, holds := fun u c => u.inService (c.f 0 0 8)
      reply := fun u c => u.prtCopy (c.f 0 0 8) 0 256 },
    { code := 0x0408, make := .macMergeStatus, holds := fun u c => u.inService (c.f 0 0 8)
      reply := fun u c => u.prtCopy (c.f 0 0 8) 0x4000 100 },
    { code := 0x0402, make := .macsecScRead
      holds := fun u c => u.inService (c.f 0 0 8) && (u.secChan (c.f 0 0 8) (c.f 0 8 8)).defined
      reply := fun u c =>
        let k := u.secChan (c.f 0 0 8) (c.f 0 8 8)
        let a (n : Nat) : Option SecAssoc := Tab.get none k.assocs n
        leBytes 8 k.sci.toNat ++ leBytes 4 (flag k.tx + 16 * k.encAn
            + (upto 0 4).foldl (fun m n => m + 2 ^ (8 + n) * flag (a n).isSome) 0) ++ zeros 4
          ++ (upto 0 4).flatMap (fun n => leBytes 8 (match a n with | some x => x.nextPn | none => 0))
          ++ leBytes 8 k.frames.toNat ++ leBytes 8 k.discarded.toNat },
    { code := 0x0601, make := .flowRead
      holds := fun u c => c.f 0 8 1 == 0 && (c.f 0 16 13 == 0 || (u.flowAt (c.f 0 0 8) (c.f 0 9 3) (c.f 0 16 13)).number != 0)
      reply := fun u c => flowBytes u (u.flowAt (c.f 0 0 8) (c.f 0 9 3) (c.f 0 16 13)) },
    { code := 0x0602, make := .filterRead, holds := fun u c => (u.filter (c.f 0 0 18)).enabled
      reply := fun u c =>
        let f := u.filter (c.f 0 0 18)
        filterWords f ++ leBytes 4 (f.meter % 2 ^ 18 + 2 ^ 31 * flag f.noMeter) ++ leBytes 4 (flag f.blocked)
          ++ [f.matched, f.passed, f.blockedCount, f.sduPassed, f.tooLong, f.red, f.yellowDropped].flatMap
            (fun x => leBytes 8 x.toNat) },
    { code := 0x0603, make := .meterRead, holds := fun u c => (u.meter (c.f 0 0 18)).defined
      reply := fun u c =>
        let m := u.meter (c.f 0 0 18)
        leBytes 4 m.cir ++ leBytes 4 m.cbs ++ leBytes 4 m.eir ++ leBytes 4 m.ebs
          ++ leBytes 4 (flag m.couple + 2 * flag m.aware + 4 * flag m.dropYellow + 8 * flag m.markEn + 16 * flag m.markRed)
          ++ zeros 4 ++ tokenWord m.c ++ tokenWord m.e
          ++ [m.green, m.yellow, m.red].flatMap (fun x => leBytes 8 x.toNat) },
    { code := 0x0701, make := .streamRead, holds := fun u c => (u.entry (c.f 0 0 24)).state != 0
      reply := fun u c => entryBytes (u.entry (c.f 0 0 24)) },
    { code := 0x0702, make := .streamFind
      holds := fun u c => (findStream u (c.f 0 0 3) (c.f 0 8 8) (slice c.params 4 40)).isSome
      detail := fun u c => findStream u (c.f 0 0 3) (c.f 0 8 8) (slice c.params 4 40) },
    { code := 0x0703, make := .rcvyRead, holds := fun u c => (u.rcvy (c.f 0 0 20)).state != 0
      reply := fun u c => rcvyBytes (u.rcvy (c.f 0 0 20)) },
    { code := 0x0704, make := .accountRead, holds := fun u c => (u.account (c.f 0 0 22)).defined
      reply := fun u c => accountBytes (c.f 0 0 22) (u.account (c.f 0 0 22)) },
    { code := 0x0900, make := .wqStatus
      holds := fun u c => u.fnOfQueue (c.f 0 0 12) == u.cmdFn c && (u.isCommandQueue (c.f 0 0 12) || u.bent.role == .solo
        || u.bent.role == .active)
      reply := fun u c => wqStatusReply (u.queue (c.f 0 0 12)) },
    { code := 0x0903, make := .bookStatus
      holds := fun u c => u.fnOfBook (c.f 0 0 8) == u.cmdFn c && (u.bent.role == .solo || u.bent.role == .active)
      reply := fun u c => bookStatusReply u (c.f 0 0 8) },
    { code := 0x0C00, make := .asyStatus, leaves := fun u _ => (u.readPort 0xB40000 4).2
      reply := fun u _ => (u.readPort 0xB40000 4).1 },
    { code := 0x0C07, make := .asyRead
      holds := fun _ c => c.n 0 4 % 64 == 0 && c.n 4 4 % 64 == 0 && decide (64 ≤ c.n 4 4 ∧ c.n 4 4 ≤ 1048576 ∧
        0xB40000 ≤ c.n 0 4 ∧ c.n 0 4 + c.n 4 4 ≤ 0x1800000)
      leaves := fun u c => (u.readPort (c.n 0 4) (c.n 4 4 / 64)).2.writeHost (u.cmdFn c) (c.n 8 8)
        (u.readPort (c.n 0 4) (c.n 4 4 / 64)).1
      reply := fun u c => (u.readPort (c.n 0 4) (c.n 4 4 / 64)).1 } ]

/-- Commands that read one object; REG_READ and the ASY reads latch or count as a reader does. -/
def Obligations.ObjectQueriesAnswer : Prop :=
  Claims.Complete Claims.objectRows

/-- The commands of the next statement, one row each. -/
noncomputable def Claims.absentRows : List Claims.RefusedRow := [
    { code := 0x0400, make := .portStatus, fails := fun u c => !u.inService (c.f 0 0 8), status := .notActive },
    { code := 0x0408, make := .macMergeStatus, fails := fun u c => !u.inService (c.f 0 0 8), status := .notActive },
    { code := 0x0402, make := .macsecScRead, fails := fun u c => !u.inService (c.f 0 0 8), status := .notActive },
    { code := 0x0401, make := .linkRestart, fails := fun u c => !u.inService (c.f 0 0 8), status := .notActive },
    { code := 0x0403, make := .threshReset, fails := fun u c => !u.inService (c.f 0 0 8), status := .notActive },
    { code := 0x040A, make := .verifyRestart, fails := fun u c => !u.inService (c.f 0 0 8), status := .notActive },
    { code := 0x0409, make := .macMergePartner, fails := fun u c => !u.inService (c.f 0 0 8), status := .notActive },
    { code := 0x0602, make := .filterRead, fails := fun u c => !(u.filter (c.f 0 0 18)).enabled, status := .notActive },
    { code := 0x0603, make := .meterRead, fails := fun u c => !(u.meter (c.f 0 0 18)).defined, status := .notActive },
    { code := 0x0604, make := .filterUnblock, fails := fun u c => !(u.filter (c.f 0 0 18)).enabled, status := .notActive },
    { code := 0x0605, make := .meterUnmark, fails := fun u c => !(u.meter (c.f 0 0 18)).defined, status := .notActive },
    { code := 0x0601, make := .flowRead
      fails := fun u c => c.f 0 8 1 == 0 && c.f 0 16 13 != 0 && (u.flowAt (c.f 0 0 8) (c.f 0 9 3) (c.f 0 16 13)).number == 0
      status := .notActive },
    { code := 0x0501, make := .gateListRead, fails := fun u c => (u.gateList (c.f 0 0 8) (c.f 0 8 3)).entries.isEmpty
      status := .notActive },
    { code := 0x0701, make := .streamRead, fails := fun u c => (u.entry (c.f 0 0 24)).state == 0, status := .notActive },
    { code := 0x0703, make := .rcvyRead, fails := fun u c => (u.rcvy (c.f 0 0 20)).state == 0, status := .notActive },
    { code := 0x0704, make := .accountRead, fails := fun u c => !(u.account (c.f 0 0 22)).defined, status := .notActive },
    { code := 0x0706, make := .streamForget, fails := fun u c => (u.entry (c.f 0 0 24)).state != 2, status := .inconsistent },
    { code := 0x0004, make := .regRead
      fails := fun _ c => c.n 0 4 % 4 != 0 || decide (0x1000000 < c.n 0 4 + 4 * c.f 4 0 8), status := .inconsistent } ]

/-- Commands on an object that is not there. -/
def Obligations.AbsentObjectsAreRefused : Prop :=
  Claims.Refused Claims.absentRows

/-- The commands of the next statement, one row each. -/
noncomputable def Claims.actionRows : List Claims.Row := [
    { code := 0x0005, make := .regWrite
      holds := fun _ c => c.n 0 4 % 4 == 0 && decide (c.n 0 4 < 0x1000000) && c.n 0 4 != 0x30
      leaves := fun u c => u.writeWord 2 (u.cmdFn c) (c.n 0 4) (c.n 4 4) false },
    { code := 0x0100, make := .benchOpen, holds := fun u _ => (u.bench 0).state == .free
      leaves := fun u c => u.setBench 0 { state := .open, owner := (Cmd.queueOf c).getD 0, scope := c.scope.toNat }
      detail := fun _ _ => some 0 },
    { code := 0x0101, make := .benchDryFit
      holds := fun u c => match u.dryFit (u.bench c.bench.toNat) with | .inl _ => true | .inr _ => false
      leaves := fun u c => match u.dryFit (u.bench c.bench.toNat) with
        | .inl xs => (u.setBench c.bench.toNat { u.bench c.bench.toNat with
            state := .fitted, stageUs := stageUs (u.bench c.bench.toNat) }).writeAccounts xs
        | .inr _ => u
      detail := fun u c => some (stageUs (u.bench c.bench.toNat)) },
    { code := 0x0103, make := .benchDiscard, holds := fun u c => (u.bench c.bench.toNat).state != .pegged
      leaves := fun u c => (u.setBench c.bench.toNat {}).count (cmdCount 8) },
    { code := 0x0201, make := .timeSet
      holds := fun u c => decide (stampNs (c.n 0 12) < 1000000000) && u.ownTime && !u.integrated && c.f 0xC 0 1 == 0
        && u.clerk.waiting.isEmpty
      leaves := fun u c => u.timeSetNow (ofStamp (c.n 0 12)) },
    { code := 0x0202, make := .timeAccept, holds := fun u _ => u.ownTime && u.time.flag != .invalid
      leaves := fun u _ => u.acceptTime },
    { code := 0x0203, make := .timeSlew, holds := fun u _ => u.ownTime && u.time.slew.isNone
      leaves := fun u c => { u with time := { u.time with slew := some { remaining := toSigned 64 (c.n 0 8) * 16777216 } } } },
    { code := 0x0301, make := .spanJoin, holds := fun u _ => u.span.state == .disabled
      leaves := fun u _ => { u with span := { u.span with state := .listen, listenFrom := some u.time.ticks } } },
    { code := 0x0302, make := .spanLeave, holds := fun u _ => u.span.state != .disabled
      leaves := fun u _ => u.leaveCycle .disabled none },
    { code := 0x0401, make := .linkRestart, holds := fun u c => u.inService (c.f 0 0 8)
      leaves := fun u c => u.linkFalls (c.f 0 0 8) },
    { code := 0x0403, make := .threshReset, holds := fun u c => u.inService (c.f 0 0 8)
      leaves := fun u c => u.modPort (c.f 0 0 8) (fun t => { t with threshUp := [], decayAt := [] }) },
    { code := 0x0409, make := .macMergePartner
      holds := fun u c => u.inService (c.f 0 0 8) && u.regBits (mmgBase (c.f 0 0 8) + 4) 6 1 != 0 && c.f 4 16 16 != 0
      leaves := fun u c => u.setPartner (c.f 0 0 8) (c.f 0 8 1 == 1) (c.f 0 9 1 == 1) (c.f 0 16 5) (c.f 0 24 4) (c.f 4 0 8)
        (c.f 4 16 16) },
    { code := 0x040A, make := .verifyRestart, holds := fun u c => u.inService (c.f 0 0 8) && (u.port (c.f 0 0 8)).verify == .failed
      leaves := fun u c => (u.modPort (c.f 0 0 8) (fun t => { t with verify := .waitPartner })).verifyStep (c.f 0 0 8) },
    { code := 0x0604, make := .filterUnblock, holds := fun u c => (u.filter (c.f 0 0 18)).enabled
      leaves := fun u c => u.setFilter (c.f 0 0 18) { u.filter (c.f 0 0 18) with blocked := false } },
    { code := 0x0605, make := .meterUnmark, holds := fun u c => (u.meter (c.f 0 0 18)).defined
      leaves := fun u c => u.setMeter (c.f 0 0 18) { u.meter (c.f 0 0 18) with markRed := false } },
    { code := 0x0705, make := .seqReset, holds := fun u c => c.f 0 0 2 == 0 && (u.rcvy (c.f 4 0 24)).state != 0
      leaves := fun u c => (u.setRcvy (c.f 4 0 24) { u.rcvy (c.f 4 0 24) with takeAny := true }).mirrorRcvyOf (c.f 4 0 24) },
    { code := 0x0705, make := .seqReset, holds := fun u c => c.f 0 0 2 == 1 && (u.entry (c.f 4 0 24)).state != 0
      leaves := fun u c => (u.setEntry (c.f 4 0 24) { u.entry (c.f 4 0 24) with
        genSeq := if (u.entry (c.f 4 0 24)).format == 3 && (u.entry (c.f 4 0 24)).skipZero then 1 else 0 }).mirrorEntryOf (c.f 4 0 24) },
    { code := 0x0705, make := .seqReset
      holds := fun u c => c.f 0 0 2 == 2 && (u.account (c.f 4 0 24)).defined && (u.account (c.f 4 0 24)).held.isEmpty
      leaves := fun u c => (u.setAccount (c.f 4 0 24) { u.account (c.f 4 0 24) with takeAny := true }).mirrorAccountOf (c.f 4 0 24) },
    { code := 0x0706, make := .streamForget, holds := fun u c => (u.entry (c.f 0 0 24)).state == 2
      leaves := fun u c => u.forget (c.f 0 0 24) },
    { code := 0x0501, make := .gateListRead
      holds := fun u c =>
        let l := u.gateList (c.f 0 0 8) (c.f 0 8 3)
        !l.entries.isEmpty && decide ((listImage (c.f 0 0 8) (c.f 0 8 3) l.entries l.cycleNs).length ≤ c.n 0x10 4)
      leaves := fun u c =>
        let l := u.gateList (c.f 0 0 8) (c.f 0 8 3)
        u.writeHost (u.cmdFn c) (c.n 8 8) (listImage (c.f 0 0 8) (c.f 0 8 3) l.entries l.cycleNs) },
    { code := 0x0801, make := .microcodeRead
      holds := fun _ c => decide (1 ≤ c.f 0 16 16 ∧ c.f 0 16 16 ≤ 4096 ∧ 0x3000 ≤ c.f 0 0 16 ∧
        c.f 0 0 16 + c.f 0 16 16 ≤ 0x4000 ∧ 16 + 20 * c.f 0 16 16 ≤ c.n 0x10 4)
      leaves := fun u c => u.writeHost (u.cmdFn c) (c.n 8 8) (mcImage u (c.f 0 0 16) (c.f 0 16 16)) },
    { code := 0x0802, make := .hookTableRead
      holds := fun u c => decide (1 ≤ c.f 4 0 16 ∧ c.f 4 0 16 ≤ 32768 ∧ 32 * c.f 4 0 16 ≤ c.n 0x10 4 ∧
        c.f 0 16 16 + 1 < (Tab.get [] u.joinery.hookTables (c.f 0 0 2)).length)
      leaves := fun u c => u.writeHost (u.cmdFn c) (c.n 8 8)
        ((((Tab.get [] u.joinery.hookTables (c.f 0 0 2)).drop (c.f 0 16 16)).take (c.f 4 0 16)).flatMap hookEntryBytes)
      detail := fun u c => some
        (((Tab.get [] u.joinery.hookTables (c.f 0 0 2)).drop (c.f 0 16 16)).take (c.f 4 0 16)).length } ]

/-- Commands that act at once. -/
def Obligations.ActionCommandsTakeEffect : Prop :=
  Claims.Complete Claims.actionRows

/-- The commands of the next statement, one row each. -/
noncomputable def Claims.ringRows : List Claims.Row := [
    { code := 0x0F02, make := .stocktakeRelease
      holds := fun u c => (u.bank (c.n 0 4 % 2)).state == .held && (u.bank (c.n 0 4 % 2)).seq.toNat == c.n 0 4
      leaves := fun u c => u.setBank (c.n 0 4 % 2) {} },
    { code := 0x0F03, make := .stocktakeCancel
      holds := fun u c => (u.bank (c.n 0 4 % 2)).state == .reserved && (u.bank (c.n 0 4 % 2)).seq.toNat == c.n 0 4
        && u.clerk.waiting.isEmpty
      leaves := fun u c =>
        let v := (u.setBank (c.n 0 4 % 2) {}).count (prtCommon + 0x110)
        let ks := v.span.stocktakes.filter (fun k => k.seq != (u.bank (c.n 0 4 % 2)).seq)
        { v with span := { v.span with stocktakes := ks } } },
    { code := 0x0901, make := .wqEnable
      holds := fun u c => (wqRefusal u c (c.f 0 0 12) true).isNone && wqEnableOk u c
      leaves := fun u c =>
        let q := c.f 0 0 12
        let v := (u.modQueue q (fun w => { w with
          kind := if c.f 0 12 1 = 0 then .tx else .rx
          group := c.f 0 16 8, noticeBook := c.f 0 24 8, logN := c.f 4 0 4, weight := c.f 4 4 5, burst := c.f 4 9 7
          base := BitVec.ofNat 64 (c.n 8 8), shadow := BitVec.ofNat 64 (c.n 0x10 8) })).runQueue q (BitVec.ofNat 16 (c.f 4 16 16))
        v.mirror (.state (ringItem q (v.queue q))) },
    { code := 0x0902, make := .wqDisable
      holds := fun u c => (wqRefusal u c (c.f 0 0 12) true).isNone && (u.queue (c.f 0 0 12)).state == .disabled },
    { code := 0x0905, make := .bookDisable, holds := fun u c => (bookRefusal u c (c.f 0 0 8)).isNone
      leaves := fun u c => (u.stopBook (c.f 0 0 8)).mirror (.state (bookItem (c.f 0 0 8) ((u.stopBook (c.f 0 0 8)).book (c.f 0 0 8)))) },
    { code := 0x0A01, make := .drayStart
      holds := fun u c => chanOwned u c && (u.chan (Cmd.chan c)).state == .disabled && c.n 8 8 % 64 == 0
      leaves := fun u c => (u.setChan (Cmd.chan c) { u.chan (Cmd.chan c) with
        state := .running, cur := BitVec.ofNat 64 (c.n 8 8), errCode := 0, stopCount := 0, desc := none }).issueFetch (Cmd.chan c) false },
    { code := 0x0A02, make := .drayStop
      holds := fun u c => chanOwned u c && (u.chan (Cmd.chan c)).state == .disabled, detail := fun _ _ => some 0 },
    { code := 0x0A02, make := .drayStop
      holds := fun u c => chanOwned u c && (u.chan (Cmd.chan c)).state == .error, detail := fun _ _ => some 0
      leaves := fun u c => u.setChan (Cmd.chan c) { u.chan (Cmd.chan c) with state := .disabled } },
    { code := 0x0A03, make := .drayAbort
      holds := fun u c => chanOwned u c && (u.chan (Cmd.chan c)).state == .disabled, detail := fun _ _ => some 0 },
    { code := 0x0A03, make := .drayAbort
      holds := fun u c => chanOwned u c && (u.chan (Cmd.chan c)).state == .error, detail := fun _ _ => some 0
      leaves := fun u c => u.setChan (Cmd.chan c) { u.chan (Cmd.chan c) with state := .disabled } },
    { code := 0x0B02, make := .bentResign, holds := fun u _ => u.bent.role == .active
      leaves := fun u _ => u.beginResign false },
    { code := 0x0B03, make := .bentResync, holds := fun u _ => u.bent.role == .resigned && !u.bent.resignedFatal
      leaves := fun u _ => u.enterForming },
    { code := 0x0B03, make := .bentResync, holds := fun u _ => u.bent.role == .resync
      leaves := fun u _ => { u.enterResync with bent := { u.enterResync.bent with resyncFails := 0 } } },
    { code := 0x0B04, make := .ledgerRead, holds := fun u c => u.bent.role == .orphan && ledgerRange c
      leaves := fun u c => u.writeHost (u.cmdFn c) (c.n 0x10 8)
        (slice (Config.ledgerBytes (c.f 0 0 3) (c.n 8 8) (c.n 0x18 4) (u.heldRegion (c.f 0 0 3))) 0 (c.n 0x18 4))
      detail := fun u c => some (flag (u.bent.copyDone.contains (c.f 0 0 3))) },
    { code := 0x0B05, make := .ledgerWrite, holds := fun u c => u.bent.role == .forming && ledgerRange c
      leaves := fun u c =>
        let r := c.f 0 0 3
        let items := Config.ledgerItems r (c.n 8 8) (u.readHost (u.cmdFn c) (c.n 0x10 8) (c.n 0x18 4))
        let v := (items.filter (fun i => itemRegion i == r)).foldl State.applyItem u
        { v with bent := { v.bent with
          copyDone := if v.bent.copyDone.contains r then v.bent.copyDone else v.bent.copyDone ++ [r] } } },
    { code := 0x0B06, make := .bentAssume
      holds := fun u c => c.force && (u.bent.role == .orphan || u.bent.role == .forming) && !u.bent.partnerHeld
      leaves := fun u _ => u.takeAnyLeft.takeover true 0 },
    { code := 0x0E01, make := .powerRequest
      holds := fun u c => decide (u.pwr.state.code < (pstateOf (c.f 0 0 3)).code) && u.failTo (pstateOf (c.f 0 0 3)) false == 0
        && u.pwr.trans.isNone
      leaves := fun u c => u.beginEntry (pstateOf (c.f 0 0 3)) } ]

/-- Commands on rings, engines, the bent, stocktakes, the foreman and power. -/
def Obligations.RingAndUnitCommandsTakeEffect : Prop :=
  Claims.Complete Claims.ringRows ∧
  (∀ (s : State) (c : Cmd), Claims.runs s 0x0904 c = true → (bookRefusal (Claims.begun s 0x0904 c) c (c.f 0 0 8)).isNone = true →
    bookEnableOk (Claims.begun s 0x0904 c) c = true →
    ∃ u, exec (.bookEnable c) s = .next (Claims.completed u c 0x0904 none []) ∧ (u.book (c.f 0 0 8)).state = .running ∧
      (u.book (c.f 0 0 8)).homeWq = some (c.f 4 0 12) ∧ (u.book (c.f 0 0 8)).bpi = BitVec.ofNat 16 (c.f 0 16 16) ∧
      (u.book (c.f 0 0 8)).vector = c.f 4 16 12 ∧ u.hostMem = s.hostMem ∧ u.queues = s.queues) ∧
  (∀ (s : State) (c : Cmd), Claims.runs s 0x0D01 c = true → c.f 0 13 1 = 0 → populated (c.f 0 0 12) = true → c.f 0 12 1 = 0 →
    ∃ u, exec (.faultClear c) s = .next (Claims.completed u c 0x0D01 (some u.unclearedCount) []) ∧
      ((u.source (c.f 0 0 12)).uncleared = true → (u.source (c.f 0 0 12)).fatal = true) ∧
      u = { Claims.begun s 0x0D01 c with flt := u.flt } ∧ u.flt.fences = s.flt.fences) ∧
  (∀ (s : State) (c : Cmd), Claims.runs s 0x7F00 c = true → c.force = true → s.bent.role = .solo → s.span.state = .disabled →
    (∀ e ∈ s.queues, s.isCommandQueue e.1 = true ∨ e.2.state = .disabled) → (∀ e ∈ s.dray.chans, e.2.state = .disabled) →
    (∀ p < 25, s.inService p = false) → s.bent.step = .none →
    ∃ u, exec (.maintEnter c) s = .next (Claims.completed u c 0x7F00 none []) ∧ u.flt.maint = true)

/-- The commands of the next statement, one row each. -/
noncomputable def Claims.waitRows : List Claims.WaitRow := [
    { code := 0x0002, make := .fence, kind := fun _ _ => .fence },
    { code := 0x0201, make := .timeSet
      holds := fun u c => decide (stampNs (c.n 0 12) < 1000000000) && u.ownTime && !u.integrated && c.f 0xC 0 1 == 1
        && u.clerk.waiting.isEmpty
      kind := fun u c => .timeSetPps (ofStamp (c.n 0 12)) (u.time.ticks + 859375000) },
    { code := 0x0303, make := .patternChange
      holds := fun u c => u.span.state == .king && u.span.change.isNone && decide (2 ≤ c.f 0 8 8)
        && imgValid u.span.image (c.f 0 0 3) && c.f 0 0 3 != u.span.pattern
        && u.gatedPorts.all (fun q => bellShape u q (c.f 0 0 3) == bellShape u q u.span.pattern)
      leaves := fun u c => { u with span := { u.span with
        change := some { pattern := c.f 0 0 3, target := u.span.cycle + 1 + BitVec.ofNat 32 (c.f 0 8 8)
                         fromCycle := u.span.cycle + 1 } } }
      kind := fun _ _ => .patternChange },
    { code := 0x0902, make := .wqDisable
      holds := fun u c => (wqRefusal u c (c.f 0 0 12) true).isNone && ((u.queue (c.f 0 0 12)).state == .running
        || (u.queue (c.f 0 0 12)).state == .error)
      leaves := fun u c =>
        let v := u.stopQueue (c.f 0 0 12)
        v.mirror (.state (ringItem (c.f 0 0 12) (v.queue (c.f 0 0 12))))
      kind := fun _ c => .wqDisable (c.f 0 0 12) },
    { code := 0x0A02, make := .drayStop
      holds := fun u c => chanOwned u c && ((u.chan (Cmd.chan c)).state == .running || (u.chan (Cmd.chan c)).state == .parked)
      leaves := fun u c => u.setChan (Cmd.chan c) { u.chan (Cmd.chan c) with state := .stopping, stopCount := 0, fetching := none }
      kind := fun _ c => .drayStop (Cmd.chan c / 32) (Cmd.chan c % 32) },
    { code := 0x0A03, make := .drayAbort
      holds := fun u c => chanOwned u c && ((u.chan (Cmd.chan c)).state == .running || (u.chan (Cmd.chan c)).state == .parked)
        && (u.chan (Cmd.chan c)).desc.isNone
      leaves := fun u c => u.setChan (Cmd.chan c) { u.chan (Cmd.chan c) with state := .stopping, stopCount := 0, fetching := none }
      kind := fun _ c => .drayStop (Cmd.chan c / 32) (Cmd.chan c % 32) },
    { code := 0x0B01, make := .bentSwitch, holds := fun u _ => u.braced && u.bent.role == .active
      leaves := fun u c => (u.toPartner 0x0B01 c).2.planHandover true
      kind := fun _ _ => .bentSwitch },
    { code := 0x0C01, make := .asyParam, leaves := fun u c => (u.sendRecord 0x10 (slice c.params 0 16)).2
      kind := fun u _ => .assay u.assay.nextInseq (u.time.ticks + secTicks 1) },
    { code := 0x0C02, make := .asyKey, leaves := fun u c => (u.sendRecord 0x11 (slice c.params 0 48)).2
      kind := fun u _ => .assay u.assay.nextInseq (u.time.ticks + secTicks 1) },
    { code := 0x0C03, make := .asyFirmware, holds := fun _ c => decide (4096 ≤ c.n 8 4 ∧ c.n 8 4 ≤ 8388608)
      leaves := fun u c => (u.sendRecord 0x12 (u.fwChunk c 0)).2
      kind := fun u _ => .assayFw u.assay.nextInseq (u.time.ticks + secTicks 600) 0 },
    { code := 0x0C04, make := .asySnapshot, leaves := fun u c => (u.sendRecord 0x13 (slice c.params 0 4)).2
      kind := fun u _ => .assay u.assay.nextInseq (u.time.ticks + secTicks 1) },
    { code := 0x0C05, make := .asyLegalTime, leaves := fun u c => (u.sendRecord 0x14 (slice c.params 0 8)).2
      kind := fun u _ => .assay u.assay.nextInseq (u.time.ticks + secTicks 1) },
    { code := 0x0C06, make := .asyLogRoll, leaves := fun u _ => (u.sendRecord 0x15 []).2
      kind := fun u _ => .assay u.assay.nextInseq (u.time.ticks + secTicks 1) },
    { code := 0x0D02, make := .faultInject, holds := fun u c => u.forceOk (c.f 0 0 12) (c.f 0 12 8) (c.f 0 20 2)
      leaves := fun u c => (u.count (fltBase + 0x128)).raiseMsg
        { source := c.f 0 0 12, kind := c.f 0 12 8, cls := c.f 0 20 2, forced := true }
      kind := fun _ c => .inject (c.f 0 0 12) },
    { code := 0x7F01, make := .selftest
      holds := fun u c => decide (c.f 0 0 4 < 4) && !u.faultFenced (unitOfIndex (c.f 0 0 4) (c.f 0 8 8))
        && !(c.f 0 0 4 == 0 && u.joinerFence (c.f 0 8 8) == .fault) && !u.kindBusy (c.f 0 0 4) (unitOfIndex (c.f 0 0 4) (c.f 0 8 8))
      leaves := fun u c => u.fenceTest (unitOfIndex (c.f 0 0 4) (c.f 0 8 8)) .selftest
      kind := fun _ c => .unitTest (unitOfIndex (c.f 0 0 4) (c.f 0 8 8)) },
    { code := 0x7F02, make := .memBist, holds := fun u c => u.flt.maint && c.f 0 16 8 != 0 && c.f 0 0 3 == 4
      leaves := fun u c => { u with flt := { u.flt with tests := u.flt.tests ++
        [{ unit_ := 0x380 + 0x10 * c.f 0 8 3, why := .bist, target := 4, index := c.f 0 8 3 }] } }
      kind := fun _ c => .unitTest (0x380 + 0x10 * c.f 0 8 3) },
    { code := 0x7F03, make := .eyeScan
      leaves := fun u c => { u with flt := { u.flt with tests := u.flt.tests ++
        [UnitTest.mk (portSource (c.f 0 0 8) + c.f 0 8 2) .eyeScan 0 none 0 0] } }
      kind := fun _ c => .unitTest (portSource (c.f 0 0 8) + c.f 0 8 2) } ]

/-- Commands that complete later. -/
def Obligations.WaitingCommandsWait : Prop :=
  Claims.Waits Claims.waitRows ∧
  (∀ (s : State) (c : Cmd), Claims.runs s 0x0F00 c = true → c.scope = 0 → c.f 0 0 1 = 1 → c.f 0 16 2 = 0 →
    ((Claims.begun s 0x0F00 c).bank (s.stock.seq.toNat % 2)).state = .free →
    ∃ u, exec (.stocktake c) s = .next (Claims.waitsOn u (Claims.numberOf s 0x0F00 c) 0x0F00 c (.stocktake (s.stock.seq.toNat % 2))) ∧
      u.stock.seq = s.stock.seq + 1 ∧ (u.bank (s.stock.seq.toNat % 2)).seq = s.stock.seq) ∧
  (∀ (s : State) (c : Cmd) (xs : List Setting) (b : Bench), Claims.runs s 0x0102 c = true →
    (Claims.begun s 0x0102 c).pegRefusal c = none →
    (Claims.begun s 0x0102 c).dryFit (s.bench c.bench.toNat) = .inl xs →
    (Claims.begun s 0x0102 c).pegInstant c (stageUs (s.bench c.bench.toNat)) (s.bench c.bench.toNat) = some b →
    exec (.benchPeg c) s = .next (Claims.waitsOn ((Claims.begun s 0x0102 c).pegBench c.bench.toNat b xs false)
      (Claims.numberOf s 0x0102 c) 0x0102 c (.peg c.bench.toNat)))

/-- The commands of the next statement, one row each. -/
noncomputable def Claims.settingRows : List Claims.SettingRow := [
    Claims.ranged 0x0210 .setTimeRef [fenum 0 4 4 7 0],
    Claims.ranged 0x0211 .setDpll [urange 0 0 32 10 100000, urange 4 0 32 0 86400000, urange 8 0 32 1 200000,
      urange 0xC 0 32 1 1000000, urange 0x10 0 32 1 100000],
    { code := 0x0212, make := .setPtpInstance
      params := fun u c =>
        let p := c.f 0 2 4
        let good := if c.f 0 0 2 = 0 then p == 0 else 1 ≤ p && p ≤ 3
        (clampAll [urange 0 8 8 0 127] (setFieldAt c.params 0 4 2 4 (if good then p else (u.ptpInst (c.f 0 0 2)).profile))).1
      clamps := fun u c =>
        let p := c.f 0 2 4
        let good := if c.f 0 0 2 = 0 then p == 0 else 1 ≤ p && p ≤ 3
        let q := if good then p else (u.ptpInst (c.f 0 0 2)).profile
        (if q = p then [] else [⟨0, 2, 4, 3, p, q, false⟩]) ++ (clampAll [urange 0 8 8 0 127] (setFieldAt c.params 0 4 2 4 q)).2 },
    Claims.ranged 0x0213 .setPtpPort [fenum 0 12 2 2 0, srange 4 0 8 (-7) 4, srange 4 8 8 (-7) 5, srange 4 16 8 (-3) 4,
      urange 4 24 8 1 255, srange 8 0 32 (-2048000) 2048000],
    Claims.ranged 0x0214 .setPortLatency [srange 4 0 32 (-25600) 25600, srange 8 0 32 (-25600) 25600],
    Claims.ranged 0x0215 .setSynce [],
    Claims.ranged 0x0216 .setTimeIo [urange 4 0 32 100 500000000, srange 8 0 32 (-25600) 25600],
    Claims.ranged 0x0217 .setTsDaybook [],
    Claims.ranged 0x0310 .setSpanLocal [urange 0 8 8 1 255, urange 4 0 32 1000 60000000, urange 8 0 32 100 1000000],
    Claims.ranged 0x0311 .setSpanPort [],
    { code := 0x0313, make := .setSlotSource
      holds := fun _ c => decide (1 ≤ c.f 0 16 16 ∧ c.f 0 16 16 ≤ (if c.f 0 3 1 = 0 then 4096 else 16383))
      params := fun _ c => c.params },
    { code := 0x0410, make := .setPortMode
      params := fun u c =>
        let m := if modeAllowed (c.f 0 0 8) (c.f 0 8 4) then c.f 0 8 4 else u.portMode (c.f 0 0 8)
        let f := if fecAllowed m (c.f 0 12 2) then c.f 0 12 2 else 0
        setFieldAt (setFieldAt c.params 0 4 8 4 m) 0 4 12 2 f
      clamps := fun u c =>
        let m := if modeAllowed (c.f 0 0 8) (c.f 0 8 4) then c.f 0 8 4 else u.portMode (c.f 0 0 8)
        let f := if fecAllowed m (c.f 0 12 2) then c.f 0 12 2 else 0
        (if m = c.f 0 8 4 then [] else [⟨0, 8, 4, 3, c.f 0 8 4, m, false⟩])
          ++ (if f = c.f 0 12 2 then [] else [⟨0, 12, 2, 3, c.f 0 12 2, f, false⟩]) },
    Claims.ranged 0x0411 .setPortFrame [urange 4 0 14 64 16383, urange 4 16 16 256 16384 256, urange 8 16 16 1 60000,
      urange 0xC 8 16 0 3600],
    Claims.ranged 0x0412 .setFlowControl [fenum 0 8 2 2 0, urange 0 16 16 1 65535, urange 0xC 0 32 1 262144,
      urange 0x10 0 32 0 262143],
    Claims.ranged 0x0413 .setEee [urange 4 0 16 1 65535, urange 8 0 32 1000 1000000],
    Claims.ranged 0x0414 .setPortWake [],
    Claims.ranged 0x0415 .setMacsecPort [fenum 0 9 2 2 0],
    Claims.ranged 0x0416 .setMacsecSc [],
    { code := 0x0417, make := .setMacsecSa
      params := fun u c => (clampAll [urange 8 0 64 1 (if 2 ≤ benchCipher u (u.bench c.bench.toNat).settings (c.f 0 0 8) (c.f 0 8 8)
        then 2 ^ 64 - 1 else 2 ^ 32 - 1)] c.params).1
      clamps := fun u c => (clampAll [urange 8 0 64 1 (if 2 ≤ benchCipher u (u.bench c.bench.toNat).settings (c.f 0 0 8) (c.f 0 8 8)
        then 2 ^ 64 - 1 else 2 ^ 32 - 1)] c.params).2 },
    Claims.ranged 0x0418 .setMacMerge [urange 4 16 8 1 128, urange 4 24 8 1 255],
    Claims.ranged 0x0511 .setGatePort [urange 4 0 32 0 1000000000, urange 8 16 8 20 255, urange 0xC 0 32 0 1000000000],
    Claims.ranged 0x0610 .setQsvPort [srange 0 8 9 (-64) 255, urange 8 0 32 0 3600000],
    { code := 0x0611, make := .setClassService
      params := fun u c => (clampAll [urange 4 0 32 1 (slopeLimit u c), urange 8 0 16 1 65535, srange 8 16 8 (-32) 127,
        urange 0xC 0 16 1 65535, urange 0x10 0 32 0 100000000, urange 0x14 0 32 0 16777216] c.params).1
      clamps := fun u c => (clampAll [urange 4 0 32 1 (slopeLimit u c), urange 8 0 16 1 65535, srange 8 16 8 (-32) 127,
        urange 0xC 0 16 1 65535, urange 0x10 0 32 0 100000000, urange 0x14 0 32 0 16777216] c.params).2 },
    Claims.ranged 0x0612 .setFlow [urange 8 0 16 1 65535, srange 8 16 8 (-32) 127, urange 0xC 0 32 0 100000000,
      urange 0x10 0 32 0 16777216],
    Claims.ranged 0x0620 .setStreamFilter [⟨8, 0, 14, .zeroOr 64 16383⟩],
    Claims.ranged 0x0621 .setFlowMeter [urange 4 0 32 0 100000000, urange 8 0 32 0 16777216, urange 0xC 0 32 0 100000000,
      urange 0x10 0 32 0 16777216],
    Claims.ranged 0x0714 .setLearnRule [fenum 0 5 2 2 0, urange 0 8 8 0 24, urange 0 16 8 0 24, urange 4 16 11 2 1024,
      urange 8 0 16 1 65535, urange 8 16 16 10 65535, urange 0xC 0 16 1 65535],
    Claims.ranged 0x0715 .setStreamGlobal [urange 0 0 16 1 65535, urange 4 0 32 1000 3600000],
    Claims.ranged 0x0811 .setHook [urange 0 16 14 0x3000 0x3FFF, urange 4 0 13 1 4096],
    { code := 0x0910, make := .setWqService, holds := fun u c => (wqRefusal u c (c.f 0 0 12) true).isNone
      params := fun _ c => (clampAll [urange 0 16 5 1 16, urange 0 24 7 1 64] c.params).1
      clamps := fun _ c => (clampAll [urange 0 16 5 1 16, urange 0 24 7 1 64] c.params).2 },
    { code := 0x0A10, make := .setDrayChannel
      params := fun _ c => (clampAll (drayFields (Cmd.chan c)) c.params).1
      clamps := fun _ c => (clampAll (drayFields (Cmd.chan c)) c.params).2 },
    Claims.ranged 0x0B10 .setBent [urange 0 8 8 2 10, urange 0 16 16 1 65535, urange 0xC 0 32 10 10000,
      urange 0x10 0 32 100 1000000, urange 0x14 0 32 100 100000, urange 0x18 0 32 10 10000],
    { code := 0x0D10, make := .setFaultKind
      params := fun _ c => (clampAll [fenum 0 8 3 4 (((kindReset.find? (fun p => p.1 == c.f 0 0 8)).map (·.2)).getD 0)] c.params).1
      clamps := fun _ c => (clampAll [fenum 0 8 3 4 (((kindReset.find? (fun p => p.1 == c.f 0 0 8)).map (·.2)).getD 0)] c.params).2 },
    Claims.ranged 0x0D11 .setFaultGlobal [urange 4 0 6 0 48, urange 4 6 6 0 32, urange 4 12 4 0 8, urange 4 16 3 0 4],
    Claims.ranged 0x7F10 .setSelftest [urange 0 16 16 10 60000, urange 4 0 32 0 67108864],
    Claims.ranged 0x0E10 .setPower [urange 0 8 3 1 6, ⟨4, 0, 32, .zeroOr 1 1000000⟩, ⟨8, 0, 32, .zeroOr 1 3600000⟩,
      ⟨0xC, 0, 32, .zeroOr 1 86400⟩, ⟨0x10, 0, 32, .zeroOr 1 86400⟩, urange 0x18 0 32 1 1000000] ]

/-- Bench commands without an image. -/
def Obligations.BenchSettingsAreClampedAndHeld : Prop :=
  Claims.Accepts Claims.settingRows

/-- The commands of the next statement, one row each. -/
noncomputable def Claims.imageRows : List Claims.SettingRow :=
  let arrays (code : Nat) (make : Cmd → Instr) (n : List Byte → Nat) (p : FieldSpec) (addr size : Nat)
      (fields : List FieldSpec) : Claims.SettingRow :=
    { code := code, make := make
      params := fun _ c => (clampAll [p] c.params).1
      image := fun u c =>
        let b := (clampAll [p] c.params).1
        (clampArray fields size (n b) 0 (readImage u c (leAt b addr 8) (size * n b))).1
      clamps := fun u c =>
        let b := (clampAll [p] c.params).1
        (clampAll [p] c.params).2 ++ (clampArray fields size (n b) 0 (readImage u c (leAt b addr 8) (size * n b))).2 }
  let mcFields : List FieldSpec := [urange 8 0 16 0x3000 0x3FFF, urange 0xA 0 16 1 4096]
  let mcParams (c : Cmd) : List Byte × List Clamp := clampAll [urange 8 0 32 36 81936] c.params
  let mcRead (u : State) (c : Cmd) : List Byte := readImage u c (leAt (mcParams c).1 0 8) (leAt (mcParams c).1 8 4)
  let spParams (c : Cmd) : List Byte × List Clamp := clampAll [urange 8 0 32 64 393520] c.params
  let spRead (u : State) (c : Cmd) : List Byte := readImage u c (c.n 0 8) (leAt (spParams c).1 8 4)
  let spFields (b : List Byte) : List FieldSpec :=
    (spanFields ++ (upto 0 8).flatMap (fun p => recordFields b (0x40 + 0x20 * p))).filter (fun f => f.off + 4 ≤ b.length)
  let clParams (c : Cmd) : List Byte × List Clamp := clampAll [urange 0x10 0 32 24 32784] c.params
  let clImage (u : State) (c : Cmd) : List Byte × List Clamp :=
    let n := leAt (clParams c).1 0x10 4
    clampArray [urange 0 0 32 8 1000000000] 8 ((n - 16) / 8) 16 (readImage u c (c.n 8 8) n)
  [
    { code := 0x0312, make := .setPatternSet, params := fun _ c => (spParams c).1
      image := fun u c => (clampAll (spFields (spRead u c)) (spRead u c)).1
      clamps := fun u c => (spParams c).2 ++ (clampAll (spFields (spRead u c)) (spRead u c)).2.map (fun k => { k with image := true }) },
    { code := 0x0510, make := .setCuttingList, holds := fun _ c => c.f 0 11 1 == 0, params := fun _ c => (clParams c).1
      image := fun u c => (clImage u c).1, clamps := fun u c => (clParams c).2 ++ (clImage u c).2 },
    { code := 0x0510, make := .setCuttingList, holds := fun _ c => c.f 0 11 1 == 1, params := fun _ c => c.params },
    arrays 0x0710 .setStreams (fun b => leAt b 8 4) (urange 8 0 32 1 65536) 0 64
      [fenum 0 2 3 4 0, fenum 0 5 2 2 0, ⟨0, 8, 8, .anyPort⟩],
    arrays 0x0711 .setRecovery (fun b => leAt b 8 4) (urange 8 0 32 1 65536) 0 16
      [urange 4 16 11 2 1024, urange 8 0 16 1 65535, urange 8 16 16 10 65535, urange 0xC 0 16 1 65535],
    arrays 0x0712 .setAccounts (fun b => leAt b 8 4) (urange 8 0 32 1 65536) 0 128
      [urange 4 0 9 1 256, urange 4 16 16 1 65535, urange 8 0 32 1000 10000000, urange 0x10 0 16 10 65535,
        urange 0x10 16 16 1 65535],
    { code := 0x0713, make := .setMaskRule, params := fun _ c => c.params
      image := fun u c => if c.f 0 31 1 = 1 then [] else readImage u c (c.n 0x10 8) 128 },
    { code := 0x0810, make := .setMicrocode, params := fun _ c => (mcParams c).1
      image := fun u c => (clampAll mcFields (mcRead u c)).1
      clamps := fun u c => (mcParams c).2 ++ (clampAll mcFields (mcRead u c)).2.map (fun k => { k with image := true }) },
    arrays 0x0812 .setClassRules (fun b => fieldAt b 8 16 10) (urange 8 16 10 1 512) 0 32 [],
    arrays 0x0813 .setSteerEntries (fun b => fieldAt b 8 16 13) (urange 8 16 13 1 4096) 0 32
      [fenum 0 6 2 2 0, urange 0xC 16 8 0 254],
    arrays 0x0814 .setHookTable (fun b => fieldAt b 8 16 16) (urange 8 16 16 0 32768) 0 32 [] ]

/-- Bench commands with an image or array. -/
def Obligations.BenchImagesAreClampedAndHeld : Prop :=
  Claims.Accepts Claims.imageRows

/-- Events of the clerk (chapter "Commands"). -/
def Obligations.ClerkEventsComplete : Prop :=
  (∀ (s : State) (f : Fetched), s.clerk.ready = true → s.inRun = true → s.glb.hostSplit = false →
    s.clerk.waiting = [] → s.clerk.taken = [] → (s.queue 0).state = .running → s.cmdHead 0 = f →
    (s.queue 0).covered (s.queue 0).ci f.units = true → malformedCause (s.queue 0) f = 0 →
    hdrKind (entryHdr f.bytes) = 4 → s.precheck (packetOf 0 f).1 (packetOf 0 f).2 = none → ∃ t,
    exec (.commandTake) s = .next t ∧
    t = { s with queues := t.queues, clerk := t.clerk, ctr := t.ctr, nextSn := t.nextSn } ∧
    (t.queue 0).ci = (s.queue 0).ci + BitVec.ofNat 16 f.units ∧ t.clerk =
    { s.clerk with turn := 0, takeNo := s.clerk.takeNo + 1, taken := [{ no := s.clerk.takeNo, opcode := (packetOf 0 f).1, cmd := (packetOf 0 f).2 }] }
    ∧ t.counter (cmdCount 0) = s.counter (cmdCount 0) + 1 ∧ t.nextSn = s.nextSn + 1) ∧
  (∀ (s : State) (h : Nat), (s.bench h).state = .pegged → (s.bench h).staged = false →
    (s.bench h).ownerPartner = false → ∃ t, exec (.benchStaged h) s = .next t ∧
    t = { s with time := t.time, clerk := t.clerk } ∧ t.bench h = { s.bench h with staged := true } ∧
    t.clerk.waiting = s.clerk.waiting ∧ s.time.ticks ≤ t.time.ticks) ∧
  (∀ (s : State) (h k : Nat), (s.bench h).state = .pegged → (s.bench h).settings = [] → (s.bench h).pegTick = some k →
    s.ports = [] → s.clerk.waiting = [] → ∃ t, exec (.benchPegInstant h) s = .next t ∧ t =
    { s with time := t.time, clerk := t.clerk, ctr := t.ctr, ports := t.ports, span := t.span, flt := t.flt, free := t.free }
    ∧ t.clerk = (s.setBench h {}).clerk ∧ t.time.ticks = max s.time.ticks k ∧
    t.counter (cmdCount 5) = s.counter (cmdCount 5) + 1) ∧
  (∀ (s : State) (ref : Nat) (c : Cmd), s.bent.role ≠ .solo → s.clerk.ready = true → s.clerk.taken = [] →
    s.clerk.waiting = [] → s.precheck 0 { c with origin := .partner ref, partner := false } = none →
    State.laneFree s.bent.lane0 = true → ∃ t, exec (.partnerCommandRx ref 0 c) s = .next t ∧
    t = { s with bent := t.bent, clerk := t.clerk, ctr := t.ctr } ∧ t.bent =
    { s.bent with lastHeard := s.time.ticks, hbLost := false, lane0 := { s.bent.lane0 with inFlight := s.bent.lane0.inFlight ++ [.reply ref 0 0 0 []] } }
    ∧ t.clerk = { s.clerk with takeNo := s.clerk.takeNo + 1 }) ∧

    (∀ (s : State) (ref clamps detail : Nat) (st : Status) (reply : List Byte) (w : Waiting) (until_ q : Nat) (i : BitVec 16), s.clerk.waiting = [w] →
    w.kind = .partner ref until_ → w.cmd.origin = .queue q i → w.discard = false → st ≠ .ok ∨ clamps = 0 → ∃ t,
    exec (.partnerReplyRx ref st clamps detail reply) s = .next t ∧
    t = { s with clerk := t.clerk, queues := t.queues, hostMem := t.hostMem, ctr := t.ctr, notices := t.notices } ∧
    t.clerk = { s.clerk with waiting := [] } ∧ (t.queue q).cCompleted = (s.queue q).cCompleted + 1 ∧
    t.counter (cmdCount 1) = s.counter (cmdCount 1) + 1 ∧ t.readHost (s.fnOfQueue q) ((s.queue q).addr i) 16 = leBytes
    4 (doneHdr (lapParity (s.queue q).logN i + 2 * w.cmd.len + 65536 * w.cmd.tag.toNat) 0x84) ++ State.cmdDoneBytes st
    clamps (!(reply.take w.cmd.replyLen.toNat).isEmpty) ((reply.take w.cmd.replyLen.toNat).length < reply.length)
    false detail (reply.take w.cmd.replyLen.toNat).length) ∧
  (∀ (s : State) (w : Waiting) (ref until_ q : Nat) (i : BitVec 16), s.clerk.waiting = [w] →
    w.kind = .partner ref until_ → w.cmd.origin = .queue q i → w.discard = false → ∃ t,
    exec (.partnerReplyTimeout) s = .next t ∧ t =
    { s with time := t.time, clerk := t.clerk, queues := t.queues, hostMem := t.hostMem, ctr := t.ctr, notices := t.notices, free := t.free }
    ∧ t.clerk = { s.clerk with waiting := [] } ∧ t.time.ticks = max s.time.ticks until_ ∧
    (t.queue q).cCompleted = (s.queue q).cCompleted + 1 ∧ t.readHost (s.fnOfQueue q) ((s.queue q).addr i) 8 = leBytes
    4 (doneHdr (lapParity (s.queue q).logN i + 2 * w.cmd.len + 65536 * w.cmd.tag.toNat) 0x84) ++ leBytes 4
    (12 + 256 * min w.clamps 255))

/-- Events of the tie beam, the mirror stream and the copy (chapter "Bents"). -/
def Obligations.BentStreamEventsComplete : Prop :=
  (∀ (s : State) (k : Nat), s.bent.role = .forming → s.bent.formAt = some k → s.bent.partnerHeld = false →
    s.bent.partnerRole ≠ some .orphan → s.bentHome = false → s.flt.sources.any (fun e => e.2.resign) = false → ∃ t,
    exec (.formWaitExpire) s = .next t ∧ t = { s with time := t.time, bent := t.bent } ∧
    t.bent = { s.bent with role := .active, controlHeld := true, inSync := false, formAt := none, step := .none } ∧
    t.time.ticks = max s.time.ticks k) ∧
  (∀ (s : State) (p : TbPacket), s.bent.role ≠ .solo → State.laneFree s.bent.lane0 = true → s.bent.lane1.up = false →
    p = .heartbeat (Role.code s.bent.role) s.bent.inSync s.bentHome s.fallbackMode s.bent.cold (s.bent.hbCount + 1) →
    ∃ t, exec (.heartbeatTx) s = .next t ∧ t = { s with bent := t.bent } ∧ t.bent =
    { s.bent with hbCount := s.bent.hbCount + 1, lane0 := { s.bent.lane0 with inFlight := s.bent.lane0.inFlight ++ [p] } }) ∧
  (∀ (s : State) (role : Nat) (inSync cold : Bool), s.bent.role = .standby → ∃ t,
    exec (.heartbeatRx false role inSync cold) s = .next t ∧ t = { s with bent := t.bent } ∧ t.bent =
    { s.bent with lastHeard := s.time.ticks, hbLost := false, partnerRole := roleOf role, partnerCold := cold && role == 3 }) ∧
  (∀ (s : State) (role : Nat) (inSync cold : Bool), ∃ t, exec (.heartbeatRx true role inSync cold) s = .next t ∧
    t = { s with ctr := t.ctr } ∧ t.counter (bntCount 17) = s.counter (bntCount 17) + 1) ∧
  (∀ (s : State), s.bent.role ≠ .solo → s.bent.role ≠ .standby → s.bent.hbLost = false → ∃ t,
    exec (.heartbeatLoss) s = .next t ∧
    t = { s with time := t.time, bent := t.bent, ctr := t.ctr, flt := t.flt, free := t.free } ∧
    t.bent = { s.bent with hbLost := true } ∧ t.time.ticks = max s.time.ticks (s.bent.lastHeard + s.hbLimit) ∧
    t.counter (bntCount 4) = s.counter (bntCount 4) + 1) ∧
  (∀ (s : State) (n : Nat), s.bent.role = .active → s.bent.unacked.all (fun u => u.wait == .none) = true → ∃ t,
    exec (.ackRx n) s = .next t ∧ t = { s with bent := t.bent } ∧ t.bent =
    { s.bent with lastHeard := s.time.ticks, hbLost := false, mseqConfirmed := max s.bent.mseqConfirmed (min n s.bent.mseqSent), unacked := s.bent.unacked.filter (fun u => n < u.mseq) }) ∧
  (∀ (s : State) (u : Unacked) (rest : List Unacked), s.bent.role = .active → s.bent.inSync = true →
    s.bent.unacked = u :: rest → s.bent.unacked.all (fun u => u.wait == .none) = true → ∃ t,
    exec (.ackOverdue) s = .next t ∧ t = { s with time := t.time, bent := t.bent, ctr := t.ctr } ∧
    t.bent = { s.bent with inSync := false } ∧ t.time.ticks = max s.time.ticks (u.sentAt + s.ackLimit) ∧
    t.counter (bntCount 7) = s.counter (bntCount 7) + 1) ∧
  (∀ (s : State), ∃ t, exec (.tbLaneDown 0) s = .next t ∧
    t = { s with bent := t.bent, ctr := t.ctr, flt := t.flt, free := t.free } ∧ t.bent = { s.bent with lane0 := {} }) ∧
  (∀ (s : State), ∃ t, exec (.tbLaneDown 1) s = .next t ∧
    t = { s with bent := t.bent, ctr := t.ctr, flt := t.flt, free := t.free } ∧ t.bent = { s.bent with lane1 := {} }) ∧
  (∀ (s : State), s.bent.lane0.up = false → s.fenced 0x0C0 = false → s.bent.waiting = [] → ∃ t,
    exec (.tbLaneUp 0) s = .next t ∧ t = { s with bent := t.bent } ∧ t.bent = { s.bent with lane0 := { up := true } }) ∧
  (∀ (s : State), s.bent.lane1.up = false → s.fenced 0x0C8 = false → s.bent.waiting = [] → ∃ t,
    exec (.tbLaneUp 1) s = .next t ∧ t = { s with bent := t.bent } ∧ t.bent = { s.bent with lane1 := { up := true } }) ∧
  (∀ (s : State) (n : Nat), s.bent.waiting = [] → s.bent.copying = false → ∃ t,
    exec (.tbCreditReturn 0 n) s = .next t ∧ t = { s with bent := t.bent } ∧
    t.bent = { s.bent with lane0 := { s.bent.lane0 with inFlight := s.bent.lane0.inFlight.drop n } }) ∧
  (∀ (s : State) (n q : Nat) (i : BitVec 16), s.bent.role = .standby → s.bent.cold = false → n = s.bent.mseqSent + 1 →
    s.bent.journal = [] → State.laneFree s.bent.lane0 = true → ∃ t,
    exec (.mirrorRx false n [.wqDone q i]) s = .next t ∧ t = { s with bent := t.bent } ∧ t.bent.mseqSent = n ∧
    t.bent.lane0 = { s.bent.lane0 with inFlight := s.bent.lane0.inFlight ++ [.ack n] } ∧ (t.ringOf q).done = i ∧
    (t.ringOf q).window = (s.ringOf q).window.filter (fun a => (a.index - i).toNat < 32768)) ∧
  (∀ (s : State), s.bent.role = .active → s.bent.partnerRole = some .resync → s.bent.copying = false →
    s.bent.lane0.up = true → s.mirrorCredit = false → ∃ t, exec (.resyncStart) s = .next t ∧
    t = { s with bent := t.bent } ∧
    t.bent = { s.bent with copying := true, syncSent := false, copyQueue := s.copyKeys }) ∧
  (∀ (s : State), ∃ t, exec (.resyncStart) s = .next t ∧ t = { s with bent := t.bent }) ∧
  (∀ (s : State) (n h : Nat) (b : List Byte), s.bent.role = .resync → s.bent.joined = true → n = s.bent.mseqSent + 1 →
    (entryOf b).state ≠ 0 → ∃ t, exec (.copyRx false n [.stream h b]) s = .next t ∧
    t = { s with bent := t.bent, stream := t.stream, free := t.free } ∧ t.bent.mseqSent = n ∧ t.bent.copying = true ∧
    t.entry h = { entryOf b with lastSeen := (s.entry h).lastSeen } ∧ t.bent.role = .resync) ∧
  (∀ (s : State) (n : Nat), s.bent.role = .resync → s.bent.joined = true → s.bent.mseqSent = n → s.bentHome = false →
    ∃ t, exec (.syncDoneRx n) s = .next t ∧ t = { s with bent := t.bent, ctr := t.ctr } ∧ t.bent =
    { s.bent with lastHeard := s.time.ticks, hbLost := false, role := .standby, inSync := true, copying := false, copyUntil := none, copyLeft := 0, resyncFails := 0, copyDone := upto 0 6, retryAt := none }
    ∧ t.counter (bntCount 15) = s.counter (bntCount 15) + 1) ∧
  (∀ (s : State), s.bent.role = .resync → ∃ t, exec (.copyFail false) s = .next t ∧
    t = { s with bent := t.bent, ctr := t.ctr, flt := t.flt, free := t.free } ∧ t.bent =
    { s.bent with copying := false, joined := false, copyUntil := none, copyLeft := 0, resyncFails := min 2 (s.bent.resyncFails + 1), fallback := s.bent.fallback || min 2 (s.bent.resyncFails + 1) == 2, retryAt := some (s.time.ticks + secTicks 1) }
    ∧ t.counter (bntCount 16) = s.counter (bntCount 16) + 1) ∧
  (∀ (s : State) (k : Nat), s.bent.role = .resync → s.bent.retryAt = some k → s.queues = [] → s.books = [] → ∃ t,
    exec (.resyncRetry) s = .next t ∧ t = { s with time := t.time, bent := t.bent, deliveries := t.deliveries } ∧
    t.bent =
    { s.bent with inSync := false, joined := false, copying := false, holdOffAt := none, retryAt := none, formAt := none }
    ∧ t.time.ticks = max s.time.ticks k) ∧
  (∀ (s : State) (cycle : BitVec 32) (start pattern : Nat), s.bent.role = .standby → s.span.state = .member →
    s.span.kingId = s.bent.bentId → s.span.cycle = cycle → ∃ t,
    exec (.spanStateRx cycle start pattern none) s = .next t ∧ t = { s with bent := t.bent, span := t.span } ∧
    t.span = { s.span with tn := start, pattern := pattern, change := none } ∧
    t.bent = { s.bent with lastHeard := s.time.ticks, hbLost := false })

/-- Events of resignation, takeover and handover (chapter "Bents"). -/
def Obligations.BentControlEventsComplete : Prop :=
  (∀ (s : State) (flushed : Bool), s.bent.step = .resignFlush → s.span.state = .member → s.clerk.waiting = [] →
    State.laneFree s.bent.lane0 = true → ∃ t, exec (.resignFlushDone flushed) s = .next t ∧
    t = { s with bent := t.bent } ∧ t.bent =
    { s.bent with step := .none, controlHeld := false, role := .resigned, inSync := false, copying := false, copyQueue := [], unacked := [], resignedFatal := s.bent.resignFatal, lane0 := { s.bent.lane0 with inFlight := s.bent.lane0.inFlight ++ [.resign s.bent.mseqSent flushed s.bent.resignFatal] } }) ∧
  (∀ (s : State) (n : Nat) (flushed fatal : Bool), s.bent.role = .standby → s.bent.cold = false →
    s.bent.inSync = true → s.flt.sources = [] → ∃ t, exec (.resignRx n flushed fatal) s = .next t ∧ t =
    { s with bent := t.bent, time := t.time, span := t.span, ctr := t.ctr, flt := t.flt, free := t.free, hostMem := t.hostMem, msixPending := t.msixPending }
    ∧ t.bent.role = .active ∧ t.bent.controlHeld = true ∧ t.bent.inSync = false ∧ t.bent.takeTo = n ∧
    t.bent.step = if flushed then .takeWindow else .takeSettle (s.time.ticks + usTicks (s.reg (bntBase + 8)))) ∧
  (∀ (s : State), s.bent.role = .standby → s.bent.cold = false → s.bent.inSync = true → s.flt.sources = [] → ∃ t,
    exec (.partnerHeldLow) s = .next t ∧ t =
    { s with bent := t.bent, time := t.time, span := t.span, ctr := t.ctr, flt := t.flt, free := t.free, hostMem := t.hostMem, msixPending := t.msixPending }
    ∧ t.bent.role = .active ∧ t.bent.controlHeld = true ∧ t.bent.partnerHeld = false ∧
    t.bent.step = .takeSettle (s.time.ticks + usTicks (s.reg (bntBase + 8)))) ∧
  (∀ (s : State), s.bent.role = .active → s.bentHome = true → ∃ t, exec (.partnerHeldHigh) s = .next t ∧
    t = { s with bent := t.bent, ctr := t.ctr, flt := t.flt, free := t.free } ∧
    t.bent = { s.bent with partnerHeld := true } ∧ t.counter (bntCount 5) = s.counter (bntCount 5) + 1) ∧
  (∀ (s : State), s.bent.role = .active → s.bentHome = false → s.span.state = .member → s.clerk.waiting = [] → ∃ t,
    exec (.partnerHeldHigh) s = .next t ∧ t = { s with bent := t.bent, ctr := t.ctr, flt := t.flt, free := t.free } ∧
    t.bent.role = .resigned ∧ t.bent.controlHeld = false ∧ t.bent.partnerHeld = true ∧
    t.counter (bntCount 5) = s.counter (bntCount 5) + 1) ∧
  (∀ (s : State) (k : Nat), s.bent.step = .takeSettle k → ∃ t, exec (.takeoverSettleExpire) s = .next t ∧
    t = { s with time := t.time, bent := t.bent } ∧ t.bent = { s.bent with step := .takeWindow } ∧
    t.time.ticks = max s.time.ticks k) ∧

    (∀ (s : State) (r : RingLedger) (q kind group book logN weight burst base shadow st : Nat) (ci dn : BitVec 16) (window : List (BitVec 16 × Nat × Bool × Nat)), s.bent.step = .takeWindow →
    s.bent.takeTo ≤ s.bent.mseqSent → s.bent.rings = [(q, r)] →
    r.cfg = some (.ring q kind group book logN weight burst base shadow st ci dn window) → s.bent.journal = [] →
    s.bent.kept = [] → s.bent.ledger = [] → ∃ t, exec (.takeoverWindowRead) s = .next t ∧
    t = { s with bent := t.bent, queues := t.queues, hostMem := t.hostMem } ∧ t.bent.step = .none ∧
    t.bent.rings = [] ∧ t.bent.takeTo = 0 ∧ (t.queue q).pi = r.ci ∧ (t.queue q).ci = r.ci ∧
    (t.queue q).base = BitVec.ofNat 64 base ∧ (t.queue q).state = State.queueState (bits st 0 4) ∧
    (t.queue q).started = [] ∧ (t.queue q).fetched = []) ∧
  (∀ (s : State) (x : Kept) (rest : List Kept) (f : Frame), s.bent.kept = x :: rest → s.frame x.frame = some f → ∃ t,
    exec (.shadowKeepExpire) s = .next t ∧
    t = { s with time := t.time, bent := t.bent, frames := t.frames, ctr := t.ctr, ports := t.ports } ∧
    t.bent = { s.bent with kept := rest } ∧ t.frame x.frame = none ∧ t.time.ticks = max s.time.ticks x.until_ ∧
    t.counter (bntCount 13) = s.counter (bntCount 13) + 1) ∧
  (∀ (s : State) (k : Nat), s.bent.holdOffAt = some k → s.bent.role = .standby → s.bentHome = true →
    s.bent.inSync = true → s.fallbackMode = false → State.laneFree s.bent.lane0 = true → ∃ t,
    exec (.holdOffExpire) s = .next t ∧ t = { s with time := t.time, bent := t.bent } ∧ t.bent =
    { s.bent with holdOffAt := some (k + secTicks (s.regBits (bntBase + 4) 16 16)), lane0 := { s.bent.lane0 with inFlight := s.bent.lane0.inFlight ++ [.reclaim] } }
    ∧ t.time.ticks = max s.time.ticks k) ∧
  (∀ (s : State), s.bent.role = .active → s.braced = true → s.bent.step = .none → s.bent.handoverCycle = none →
    s.bent.handoverTime = none → s.span.cycValid = true → ∃ t, exec (.reclaimRx) s = .next t ∧
    t = { s with bent := t.bent } ∧ t.bent =
    { s.bent with lastHeard := s.time.ticks, hbLost := false, handoverCycle := some (s.span.cycle + 1), handoverBySwitch := false }) ∧
  (∀ (s : State) (k : Nat), s.bent.step = .drain k → s.bent.handoverTime = none → s.drained = true → s.queues = [] →
    s.books = [] → s.stream.accounts = [] → s.clerk.waiting = [] → s.span.state = .member →
    State.laneFree s.bent.lane0 = true → ∃ t, exec (.handoverDrained) s = .next t ∧
    t = { s with time := t.time, bent := t.bent, ctr := t.ctr, free := t.free } ∧ t.bent.role = .standby ∧
    t.bent.controlHeld = false ∧ t.bent.inSync = true ∧ t.bent.step = .none ∧
    t.bent.lane0 = { s.bent.lane0 with inFlight := s.bent.lane0.inFlight ++ [.handover s.bent.mseqSent] } ∧
    t.counter (bntCount 2) = s.counter (bntCount 2) + 1) ∧
  (∀ (s : State) (k : Nat), s.bent.step = .drain k → s.bent.handoverTime = none → s.clerk.waiting = [] → ∃ t,
    exec (.handoverAbandon) s = .next t ∧ t = { s with time := t.time, bent := t.bent, ctr := t.ctr } ∧
    t.bent = { s.bent with step := .none, handoverBySwitch := false } ∧ t.time.ticks = max s.time.ticks k ∧
    t.counter (bntCount 3) = s.counter (bntCount 3) + 1) ∧
  (∀ (s : State) (n : Nat), s.bent.role = .standby → s.bent.cold = false → s.bent.inSync = true →
    s.bent.mseqSent = n → s.bent.rings = [] → s.bent.kept = [] → s.bent.ledger = [] → s.flt.sources = [] → ∃ t,
    exec (.handoverRx n) s = .next t ∧ t =
    { s with time := t.time, bent := t.bent, span := t.span, ctr := t.ctr, flt := t.flt, free := t.free, hostMem := t.hostMem, msixPending := t.msixPending }
    ∧ t.bent.role = .active ∧ t.bent.controlHeld = true ∧ t.bent.inSync = true ∧ t.bent.step = .none ∧
    t.bent.mseqConfirmed = n ∧ t.bent.partnerRole = some .standby)

/-- Records that the Assay island takes from its input FIFO (chapter "The Assay metrology island"). -/
def Obligations.IslandRecordEventsComplete : Prop :=
  (∀ (s : State) (r : AsyRec) (rest : List AsyRec), s.islandWrites = true → s.assay.fifo = r :: rest → r.typ = 1 →
    s.assay.sender = [] → ∃ t, exec (.telegramRecord) s = .next t ∧ t = { s with assay := t.assay } ∧
    t.assay.fifo = rest ∧ t.assay.lastInseq = r.inseq ∧
    t.assay = { s.assay with fifo := rest, lastInseq := r.inseq }.telegram r.point r.payload s.legal) ∧
  (∀ (s : State) (r : AsyRec) (rest : List AsyRec), s.islandWrites = true → s.assay.fifo = r :: rest → r.typ = 1 →
    s.assay.sender = [] → (s.assay.point r.point).enabled = false → ∃ t, exec (.telegramRecord) s = .next t ∧
    t = { s with assay := t.assay } ∧ t.assay.fifo = rest ∧ t.assay.lastInseq = r.inseq ∧
    (t.assay.point r.point).diag.refused = satAdd 32 (s.assay.point r.point).diag.refused 1 ∧
    (t.assay.point r.point).diag.lastReason = 1 ∧ (t.assay.point r.point).regs = (s.assay.point r.point).regs) ∧
  (∀ (s : State) (r : AsyRec) (rest : List AsyRec) (code target v old : Nat), s.islandWrites = true →
    s.assay.fifo = r :: rest → r.typ = 0x10 → s.assay.sender = [] → s.clerk.waiting = [] → r.payload.length = 16 →
    leAt r.payload 0 2 = code → fieldAt r.payload 4 0 17 = target → leAt r.payload 8 8 = v → code / 256 ≠ 1 →
    s.assay.param code target = some old → s.assay.sealOpen = true ∨ code = 5 → Assay.paramRange code v = true →
    s.assay.logClosed = false → ∃ t, exec (.paramRecord) s = .next t ∧ t = { s with assay := t.assay } ∧
    t.assay.fifo = rest ∧ t.assay.lastInseq = r.inseq ∧ t.assay.resultHead = (s.assay.resultHead + 1) % 2 ^ 32 ∧
    t.assay.param code target = some v ∧ t.assay.log.length = s.assay.log.length + 1 ∧
    t.assay.logSeq = s.assay.logSeq + 1 ∧ t.assay.audit = s.assay.audit + 1 ∧ Tab.get [] t.assay.results
    (s.assay.resultHead % 1024) = leBytes 4 r.inseq.toNat ++ leBytes 4 (0 + 256 * 0x10) ++ leBytes 4 (s.assay.logSeq)
    ++ zeros 4) ∧
  (∀ (s : State) (r : AsyRec) (rest : List AsyRec) (old : Nat), s.islandWrites = true → s.assay.fifo = r :: rest →
    r.typ = 0x10 → s.assay.sender = [] → s.clerk.waiting = [] → r.payload.length = 16 → leAt r.payload 0 2 ≠ 5 →
    s.assay.param (leAt r.payload 0 2) (fieldAt r.payload 4 0 17) = some old → s.assay.sealOpen = false → ∃ t,
    exec (.paramRecord) s = .next t ∧ t = { s with assay := t.assay, free := t.free } ∧ t.assay.fifo = rest ∧
    t.assay.lastInseq = r.inseq ∧ t.assay.resultHead = (s.assay.resultHead + 1) % 2 ^ 32 ∧
    t.assay.points = s.assay.points ∧ t.assay.profiles = s.assay.profiles ∧ t.assay.log = s.assay.log ∧
    Tab.get 0 t.assay.counts 6 = (Tab.get 0 s.assay.counts 6 + 1) % 2 ^ 64 ∧
    (Tab.get [] t.assay.results (s.assay.resultHead % 1024)).take 8 = leBytes 4 r.inseq.toNat ++ leBytes 4
    (1 + 256 * 0x10)) ∧
  (∀ (s : State) (r : AsyRec) (rest : List AsyRec), s.islandWrites = true → s.assay.fifo = r :: rest → r.typ = 0x11 →
    s.assay.sender = [] → s.clerk.waiting = [] → r.payload.length = 48 → fieldAt r.payload 0 0 2 = 1 →
    s.assay.sealOpen = true → s.assay.logClosed = false → ∃ t, exec (.keyRecord) s = .next t ∧
    t = { s with assay := t.assay } ∧ t.assay.fifo = rest ∧ t.assay.lastInseq = r.inseq ∧
    t.assay.resultHead = (s.assay.resultHead + 1) % 2 ^ 32 ∧ t.assay.loadKey = slice r.payload 8 16 ∧
    t.assay.log.length = s.assay.log.length + 1 ∧ Tab.get [] t.assay.results (s.assay.resultHead % 1024) = leBytes 4
    r.inseq.toNat ++ leBytes 4 (0 + 256 * 0x11) ++ leBytes 4 (s.assay.logSeq) ++ zeros 4) ∧
  (∀ (s : State) (r : AsyRec) (rest : List AsyRec) (total : Nat), s.islandWrites = true → s.assay.fifo = r :: rest →
    r.typ = 0x12 → s.assay.sender = [] → s.clerk.waiting = [] → 8 ≤ r.payload.length → r.payload.length ≤ 4104 →
    leAt r.payload 0 4 = 0 → leAt r.payload 4 4 = total → r.payload.length - 8 < total → s.assay.sealOpen = true →
    ∃ t, exec (.fwChunkRecord) s = .next t ∧ t = { s with assay := t.assay, free := t.free } ∧ t.assay.fifo = rest ∧
    t.assay.lastInseq = r.inseq ∧ t.assay.resultHead = (s.assay.resultHead + 1) % 2 ^ 32 ∧
    t.assay.load = some { total := total, data := r.payload.drop 8 } ∧ t.assay.pendingImage = s.assay.pendingImage ∧
    (Tab.get [] t.assay.results (s.assay.resultHead % 1024)).take 8 = leBytes 4 r.inseq.toNat ++ leBytes 4
    (0 + 256 * 0x12)) ∧
  (∀ (s : State) (r : AsyRec) (rest : List AsyRec) (x : AsySnap), s.islandWrites = true → s.assay.fifo = r :: rest →
    r.typ = 0x13 → s.assay.sender = [] → s.clerk.waiting = [] → r.payload.length = 4 →
    (Tab.get [] s.assay.snaps (fieldAt r.payload 0 0 17))[fieldAt r.payload 0 24 4]? = some x → ∃ t,
    exec (.snapshotFetchRecord) s = .next t ∧ t = { s with assay := t.assay } ∧ t.assay.fifo = rest ∧
    t.assay.lastInseq = r.inseq ∧ t.assay.resultHead = (s.assay.resultHead + 1) % 2 ^ 32 ∧ Tab.get [] t.assay.readout
    (s.assay.resultHead % 1024) = leBytes 4 r.inseq.toNat ++ leBytes 4
    (fieldAt r.payload 0 0 17 + 2 ^ 24 * fieldAt r.payload 0 24 4) ++ leBytes 4 x.utc ++ leBytes 4 x.audit.toNat ++
    leBytes 4 x.digest.toNat ++ leBytes 4 x.ver.toNat ++ zeros 40 ++ Assay.regsBytes x.regs ∧ Tab.get []
    t.assay.results (s.assay.resultHead % 1024) = leBytes 4 r.inseq.toNat ++ leBytes 4 (0 + 256 * 0x13) ++ leBytes 4
    (s.assay.resultHead % 1024) ++ zeros 4) ∧
  (∀ (s : State) (r : AsyRec) (rest : List AsyRec), s.islandWrites = true → s.assay.fifo = r :: rest → r.typ = 0x13 →
    s.assay.sender = [] → s.clerk.waiting = [] → r.payload.length = 4 →
    (Tab.get [] s.assay.snaps (fieldAt r.payload 0 0 17))[fieldAt r.payload 0 24 4]? = none → ∃ t,
    exec (.snapshotFetchRecord) s = .next t ∧ t = { s with assay := t.assay, free := t.free } ∧ t.assay.fifo = rest ∧
    t.assay.lastInseq = r.inseq ∧ t.assay.resultHead = (s.assay.resultHead + 1) % 2 ^ 32 ∧
    t.assay.readout = s.assay.readout ∧ (Tab.get [] t.assay.results (s.assay.resultHead % 1024)).take 8 = leBytes 4
    r.inseq.toNat ++ leBytes 4 (8 + 256 * 0x13)) ∧
  (∀ (s : State) (r : AsyRec) (rest : List AsyRec), s.islandWrites = true → s.assay.fifo = r :: rest → r.typ = 0x14 →
    s.assay.sender = [] → s.clerk.waiting = [] → r.payload.length = 8 → s.assay.sealOpen = true →
    fieldAt r.payload 4 0 10 ≤ 999 → s.assay.logClosed = false → ∃ t, exec (.legalTimeSetRecord) s = .next t ∧
    t = { s with assay := t.assay } ∧ t.assay.fifo = rest ∧ t.assay.lastInseq = r.inseq ∧
    t.assay.resultHead = (s.assay.resultHead + 1) % 2 ^ 32 ∧ t.assay.ltValid = true ∧
    t.assay.ltBase = (leAt r.payload 0 4 * 1000 + fieldAt r.payload 4 0 10) * 1000000 ∧
    t.assay.ltTick = s.time.ticks ∧ t.assay.log.length = s.assay.log.length + 1 ∧ t.assay.audit = s.assay.audit + 1 ∧
    Tab.get [] t.assay.results (s.assay.resultHead % 1024) = leBytes 4 r.inseq.toNat ++ leBytes 4 (0 + 256 * 0x14) ++
    leBytes 4 (s.assay.logSeq) ++ zeros 4) ∧
  (∀ (s : State) (r : AsyRec) (rest : List AsyRec), s.islandWrites = true → s.assay.fifo = r :: rest → r.typ = 0x15 →
    s.assay.sender = [] → s.clerk.waiting = [] → r.payload = [] → s.assay.sealOpen = true → s.assay.journal = [] →
    ∃ t, exec (.logRollRecord) s = .next t ∧ t = { s with assay := t.assay } ∧ t.assay.fifo = rest ∧
    t.assay.lastInseq = r.inseq ∧ t.assay.resultHead = (s.assay.resultHead + 1) % 2 ^ 32 ∧
    t.assay.archives = (s.assay.log :: s.assay.archives).take 16 ∧ t.assay.log.length = 1 ∧
    t.assay.logRolls = (s.assay.logRolls + 1) % 2 ^ 32 ∧ Tab.get [] t.assay.results (s.assay.resultHead % 1024) =
    leBytes 4 r.inseq.toNat ++ leBytes 4 (0 + 256 * 0x15) ++ leBytes 4 (s.assay.logSeq) ++ zeros 4)

/-- Events of the Assay island and the counter window (chapter "The Assay metrology island"). -/
def Obligations.IslandEventsComplete : Prop :=
  (∀ (s : State) (w : Waiting) (n : BitVec 32) (k q : Nat) (i : BitVec 16), s.clerk.waiting = [w] →
    w.kind = .assay n k → w.cmd.origin = .queue q i → w.discard = false → ∃ t, exec (.asyResultTimeout) s = .next t ∧
    t =
    { s with time := t.time, clerk := t.clerk, queues := t.queues, hostMem := t.hostMem, ctr := t.ctr, notices := t.notices, free := t.free }
    ∧ t.clerk = { s.clerk with waiting := [] } ∧ t.time.ticks = max s.time.ticks k ∧
    (t.queue q).cCompleted = (s.queue q).cCompleted + 1 ∧ t.readHost (s.fnOfQueue q) ((s.queue q).addr i) 8 = leBytes
    4 (doneHdr (lapParity (s.queue q).logN i + 2 * w.cmd.len + 65536 * w.cmd.tag.toNat) 0x84) ++ leBytes 4
    (12 + 256 * min w.clamps 255)) ∧
  (∀ (s : State), s.glb.metrology = true → s.timeOff = false → s.time.flag ≠ .invalid →
    s.assay.running = false ∨ s.time.flag = .coarse → ∃ t, exec (.timeSample) s = .next t ∧
    t = { s with time := t.time, ctr := t.ctr } ∧ t.counter (asyCount 1) = s.counter (asyCount 1) + 1 ∧
    s.time.ticks ≤ t.time.ticks) ∧
  (∀ (s : State), s.glb.metrology = true → s.timeOff = false → s.time.flag = .valid → s.assay.running = true → ∃ t,
    exec (.timeSample) s = .next t ∧ t = { s with time := t.time, ctr := t.ctr, assay := t.assay, free := t.free } ∧
    t.counter (asyCount 1) = s.counter (asyCount 1) + 1 ∧
    t.assay.samples = (t.assay.lastD :: s.assay.samples).take 60 ∧ s.time.ticks ≤ t.time.ticks) ∧
  (∀ (s : State) (m : Nat), s.assay.running = true → s.assay.ltValid = true → (upto (s.assay.closedMin + 1) 60).find?
    (fun m => s.assay.points.any (fun e => (s.assay.prof e.2.profile).maxpMin != 0 && m % (s.assay.prof e.2.profile).maxpMin == 0))
    = some m → ∃ t, exec (.powerPeriodClose) s = .next t ∧ t = { s with time := t.time, assay := t.assay } ∧
    t.assay = { s.assay with closedMin := m }.closePeriods m ∧ s.time.ticks ≤ t.time.ticks) ∧
  (∀ (s : State) (profile : Nat) (u : Int), s.islandWrites = true → s.assay.ltValid = true → profile < 256 →
    s.assay.nextBilling (s.assay.prof profile) (max s.assay.stepAt (Tab.get 0 s.assay.billed profile) : Nat) = some u
    → ∃ t, exec (.billingSnapshot profile) s = .next t ∧ t = { s with time := t.time, assay := t.assay } ∧
    t.assay = s.assay.snapshot profile u ∧ s.time.ticks ≤ t.time.ticks) ∧
  (∀ (s : State), s.islandWrites = true → ∃ t, exec (.checkpointRotation) s = .next t ∧
    t = { s with assay := t.assay } ∧ t.assay.ckptPoints = s.assay.points ∧ t.assay.ckptMs = s.legal ∧
    Tab.get 0 t.assay.counts 7 = (Tab.get 0 s.assay.counts 7 + 1) % 2 ^ 64 ∧ t.assay.points = s.assay.points) ∧
  (∀ (s : State) (open_ : Bool), s.islandWrites = true → s.assay.sealOpen ≠ open_ → s.assay.logFull = false → ∃ t,
    exec (.sealChange open_) s = .next t ∧ t = { s with assay := t.assay } ∧ t.assay.sealOpen = open_ ∧
    Tab.get 0 t.assay.counts 9 = (Tab.get 0 s.assay.counts 9 + 1) % 2 ^ 64 ∧
    t.assay.log.length = s.assay.log.length + 1 ∧ t.assay.points = s.assay.points) ∧
  (∀ (s : State), s.assay.running = true → ∃ t, exec (.statusPageRewrite) s = .next t ∧
    t = { s with assay := t.assay } ∧ t.assay = { s.assay with pageMs := s.legal }) ∧
  (∀ (s : State) (selfTest : Bool), s.glb.metrology = true → s.assay.running = false → s.assay.pfail = false →
    s.assay.pendingImage = none → s.assay.sender = [] → s.assay.logFull = false → ∃ t,
    exec (.islandBoot selfTest) s = .next t ∧ t = { s with assay := t.assay, free := t.free } ∧
    t.assay.running = true ∧ t.assay.ltValid = false ∧ t.assay.log.length = s.assay.log.length + 1 ∧
    t.assay.image = s.assay.image ∧ t.assay.fifo = s.assay.fifo) ∧
  (∀ (s : State), ∃ t, exec (.islandPowerLoss) s = .next t ∧ t = { s with assay := t.assay } ∧
    t.assay.running = false ∧ t.assay.points = [] ∧ t.assay.fifo = [] ∧ t.assay.ltValid = false ∧
    t.assay.log = s.assay.log ∧ t.assay.ckptPoints = s.assay.ckptPoints ∧ t.assay.snaps = s.assay.snaps) ∧
  (∀ (s : State), ∃ t, exec (.asyRstNAssert) s = .next t ∧ t = { s with assay := t.assay } ∧ t.assay.running = false ∧
    t.assay.points = [] ∧ t.assay.fifo = [] ∧ t.assay.ltValid = false ∧ t.assay.log = s.assay.log ∧
    t.assay.ckptPoints = s.assay.ckptPoints ∧ t.assay.snaps = s.assay.snaps) ∧
  (∀ (s : State), ∃ t, exec (.asyPfail) s = .next t ∧ t = { s with assay := t.assay } ∧
    t.assay = { s.assay with pfail := true }) ∧
  (∀ (s : State), ∃ t, exec (.asyPfailRelease) s = .next t ∧ t = { s with assay := t.assay } ∧
    t.assay = { s.assay with pfail := false }) ∧
  (∀ (s : State), s.assay.alive = true → s.assay.running = false → ∃ t, exec (.aliveLost) s = .next t ∧
    t = { s with assay := t.assay, ctr := t.ctr, flt := t.flt, free := t.free } ∧
    t.assay = { s.assay with alive := false } ∧ t.counter (asyCount 5) = s.counter (asyCount 5) + 1) ∧
  (∀ (s : State), s.windowOn = true → s.assay.alive = true → s.assay.running = true → ∃ t,
    exec (.hallmarkMirrorRead) s = .next t ∧ t = { s with glb := t.glb, ctr := t.ctr } ∧ t.glb =
    { s.glb with hallmark := Assay.hallmarkOf s.assay.image, hallmarkVer := Assay.versionOf s.assay.image, hallmarkValid := true }
    ∧ t.counter (asyCount 3) = s.counter (asyCount 3) + 1) ∧
  (∀ (s : State) (addr n : Nat), s.windowOn = true → ∃ t, exec (.readPortAccess addr n) s = .next t ∧
    t = { s with readData := t.readData, readBad := t.readBad, ctr := t.ctr } ∧
    t.readData = (s.readPort (addr % 2 ^ 26 / 64 * 64) n).1 ∧ t.readBad = false ∧
    t.counter (asyCount 3) = s.counter (asyCount 3) + BitVec.ofNat 64 n)

/-- Events of the foreman (chapter "Fault collection and self-test"). -/
def Obligations.ForemanEventsComplete : Prop :=
  (∀ (s : State) (lost : List Nat) (n : Nat) (m : FaultMsg), s.nextMessage = some (n, m) → m.cls < 2 →
    s.reactionOf m.kind = 0 → s.clerk.waiting = [] → ∃ t, exec (.foremanTake lost) s = .next t ∧
    t = { s with flt := t.flt, ctr := t.ctr, notices := t.notices } ∧ t.flt.hseq = s.flt.hseq + 1 ∧
    t.flt.lastTaken = n ∧ t.flt.history = ((m, s.flt.hseq.toNat, 0) :: s.flt.history).take 16 ∧
    (t.source n).slot = none ∧ (t.source n).uncleared = ((s.source n).uncleared || m.cls != 0) ∧
    t.counter (kindCounter m.kind) = s.counter (kindCounter m.kind) + 1 ∧ t.flt.fences = s.flt.fences) ∧
  (∀ (s : State) (lost : List Nat) (n : Nat) (m : FaultMsg), s.nextMessage = some (n, m) → m.cls = 1 →
    s.reactionOf m.kind = 2 → fenceKind m.source = some 2 → s.faultFenced (s.unitOf m.source) = false →
    s.clerk.waiting = [] → ∃ t, exec (.foremanTake lost) s = .next t ∧
    t = { s with flt := t.flt, ctr := t.ctr, notices := t.notices, free := t.free } ∧ t.flt.hseq = s.flt.hseq + 1 ∧
    t.faultFenced (s.unitOf m.source) = true ∧ t.flt.stopped = s.flt.stopped) ∧
  (∀ (s : State) (lost : List Nat) (n : Nat) (m : FaultMsg), s.nextMessage = some (n, m) → m.cls = 2 →
    s.flt.stopped = false → s.bent.role = .solo → s.ports = [] → s.clerk.waiting = [] → ∃ t,
    exec (.foremanTake lost) s = .next t ∧ t = { s with flt := t.flt, ctr := t.ctr, notices := t.notices } ∧
    t.flt.hseq = s.flt.hseq + 1 ∧ t.flt.fatal = true ∧ t.flt.fatalSource = m.source ∧ t.flt.fatalKind = m.kind ∧
    t.flt.stopped = true ∧ t.flt.stopSource = m.source ∧ (t.source n).slot = none ∧ (t.source n).fatal = true) ∧
  (∀ (s : State) (source kind cls : Nat), source < 4096 → s.regBits (fltBase + 0x10) 0 8 = kind →
    s.regBits (fltBase + 0x10) 8 2 = cls → s.forceOk source kind cls = true → escalates kind = false →
    (s.source source).slot = none → ∃ t, exec (.faultForceWrite source) s = .next t ∧
    t = { s with flt := t.flt, ctr := t.ctr } ∧
    (t.source source).slot.map (fun m => (m.source, m.kind, m.cls, m.forced)) = some (source, kind, cls, true) ∧
    t.counter (fltBase + 0x128) = s.counter (fltBase + 0x128) + 1) ∧

    (∀ (s : State) (source : Nat), s.forceOk (source % 4096) (s.regBits (fltBase + 0x10) 0 8) (s.regBits (fltBase + 0x10) 8 2) = false →
    ∃ t, exec (.faultForceWrite source) s = .next t ∧ t = { s with ctr := t.ctr } ∧
    t.counter (fltBase + 0x130) = s.counter (fltBase + 0x130) + 1) ∧
  (∀ (s : State), s.flt.warmWarn = false → (s.source 0x003).slot = none → s.underTest 0x003 = false → ∃ t,
    exec (.thermalCrossing 0 true) s = .next t ∧ t = { s with flt := t.flt, ctr := t.ctr, free := t.free } ∧
    t.flt.warmWarn = true ∧ (t.source 0x003).slot.map (fun m => (m.source, m.kind, m.cls)) = some (0x003, 0x0C, 0)) ∧
  (∀ (s : State), s.flt.warmLimit = false → (s.source 0x003).slot = none → s.underTest 0x003 = false → ∃ t,
    exec (.thermalCrossing 1 true) s = .next t ∧ t = { s with flt := t.flt, ctr := t.ctr, free := t.free } ∧
    t.flt.warmLimit = true ∧ (t.source 0x003).slot.map (fun m => (m.source, m.kind, m.cls)) = some (0x003, 0x0D, 1)) ∧
  (∀ (s : State), s.flt.warmTrip = false → (s.source 0x003).slot = none → s.underTest 0x003 = false → ∃ t,
    exec (.thermalCrossing 2 true) s = .next t ∧ t = { s with flt := t.flt, ctr := t.ctr, free := t.free } ∧
    t.flt.warmTrip = true ∧ (t.source 0x003).slot.map (fun m => (m.source, m.kind, m.cls)) = some (0x003, 0x0E, 2)) ∧
  (∀ (s : State), ∃ t, exec (.thermalCrossing 1 false) s = .next t ∧ t = { s with flt := t.flt } ∧
    t.flt = { s.flt with warmLimit := false, throttled := false }) ∧
  (∀ (s : State) (source dv dt : Nat), isMonitor source = true → (s.source source).slot = none →
    s.underTest source = false → ∃ t, exec (.islandMonitorEvent source false dv dt) s = .next t ∧
    t = { s with pwr := t.pwr, flt := t.flt, ctr := t.ctr, free := t.free } ∧
    t.pwr = { s.pwr with spreadV := dv, spreadT := dt } ∧ (t.source source).slot.map
    (fun m => (m.source, m.kind, m.cls)) = some (source, 0x09, if source < 0x030 then 2 else 1)) ∧
  (∀ (s : State) (source addr : Nat) (critical : Bool), 0x600 ≤ source → source ≤ 0x65F →
    (s.source source).slot = none → s.underTest source = false → ∃ t,
    exec (.crossingFail source addr critical) s = .next t ∧ t = { s with flt := t.flt, ctr := t.ctr } ∧
    (t.source source).slot.map (fun m => (m.source, m.kind, m.cls, m.address)) = some
    (source, 0x0B, if critical then 2 else 1, addr % 2 ^ 48)) ∧
  (∀ (s : State), s.flt.rotFh < 32 → s.regBits (fltBase + 0x14) 0 1 = 1 → s.flt.gapFh = none → s.awake = true →
    s.kindBusy 1 0 = false → s.holdLevel ≤ s.reg (fltBase + 0x18) → ∃ t, exec (.fhTestStart) s = .next t ∧
    t = { s with flt := t.flt, ctr := t.ctr, free := t.free } ∧ t.flt.tests = s.flt.tests ++ [UnitTest.mk
    (0x300 + 2 * s.flt.rotFh) .rotation 2000 (some (s.time.ticks + usTicks 2000)) 0 0] ∧
    t.flt.fences = s.flt.fences ++ [Fence.mk (0x300 + 2 * s.flt.rotFh) .test false]) ∧
  (∀ (s : State), s.flt.rotTc < 8 → s.regBits (fltBase + 0x14) 1 1 = 1 → s.flt.gapTc = none → s.awake = true →
    s.kindBusy 2 0 = false → ∃ t, exec (.tcTestStart) s = .next t ∧ t = { s with flt := t.flt } ∧ t.flt.tests =
    s.flt.tests ++ [UnitTest.mk (0x340 + 2 * s.flt.rotTc) .rotation 1000 (some (s.time.ticks + usTicks 1000)) 0 0] ∧
    t.flt.fences = s.flt.fences ++ [Fence.mk (0x340 + 2 * s.flt.rotTc) .test false]) ∧
  (∀ (s : State) (fail : Bool) (u us e : Nat), s.flt.tests = [UnitTest.mk u .rotation us (some e) 0 0] →
    unitRange 2 u = true → ∃ t, exec (.rotationTestDone false fail) s = .next t ∧
    t = { s with time := t.time, flt := t.flt, ctr := t.ctr, free := t.free } ∧ t.flt.tests = [] ∧
    t.flt.fences = s.flt.fences.filter (fun f => f.unit_ != u) ∧ t.flt.rotTc = (s.flt.rotTc + 1) % 8 ∧
    t.flt.gapTc = some (t.time.ticks + msTicks (s.regBits (fltBase + 0x14) 16 16)) ∧
    t.time.ticks = max s.time.ticks e) ∧
  (∀ (s : State) (k : Nat), s.flt.gapTc = some k → s.regBits (fltBase + 0x14) 1 1 = 0 → ∃ t,
    exec (.rotationGapExpire 1) s = .next t ∧ t = { s with time := t.time, flt := t.flt } ∧
    t.flt = { s.flt with gapTc := none } ∧ t.time.ticks = max s.time.ticks k) ∧
  (∀ (s : State) (k : Nat), s.flt.gapFh = some k → s.regBits (fltBase + 0x14) 0 1 = 0 → ∃ t,
    exec (.rotationGapExpire 0) s = .next t ∧ t = { s with time := t.time, flt := t.flt } ∧
    t.flt = { s.flt with gapFh := none } ∧ t.time.ticks = max s.time.ticks k) ∧
  (∀ (s : State) (u a b us e : Nat), s.flt.tests = [UnitTest.mk u .selftest us (some e) 0 0] → fenceKind u = some 2 →
    s.clerk.waiting = [] → ∃ t, exec (.unitTestDone u false a b) s = .next t ∧
    t = { s with time := t.time, flt := t.flt, ctr := t.ctr, free := t.free } ∧ t.flt.tests = [] ∧
    t.flt.fences = s.flt.fences.filter (fun f => f.unit_ != u) ∧ t.time.ticks = max s.time.ticks e) ∧

    (∀ (s : State) (u a b : Nat) (fail : Bool) (w : Waiting) (q : Nat) (i : BitVec 16), s.flt.tests = [UnitTest.mk u .eyeScan 0 none 0 0] →
    s.clerk.waiting = [w] → w.kind = .unitTest u → w.cmd.origin = .queue q i → w.discard = false → ∃ t,
    exec (.unitTestDone u fail a b) s = .next t ∧ t =
    { s with flt := t.flt, clerk := t.clerk, queues := t.queues, hostMem := t.hostMem, ctr := t.ctr, notices := t.notices, free := t.free }
    ∧ t.flt = { s.flt with tests := [] } ∧ t.clerk = { s.clerk with waiting := [] } ∧
    (t.queue q).cCompleted = (s.queue q).cCompleted + 1)

/-- Events of the power sequencer (chapter "Power"). -/
def Obligations.PowerEventsComplete : Prop :=
  (∀ (s : State), s.pwr.trans = none → s.board.inReset = false → s.pwr.state = .run → s.idleValue .idle ≠ 0 →
    s.failFor .idle true = 0 → ∃ t, exec (.idleTimerExpire 1) s = .next t ∧
    t = { s with time := t.time, pwr := t.pwr } ∧
    t.pwr = { s.pwr with trans := some { from_ := .run, dest := .idle, wake := false }, etelo := false } ∧
    t.time.ticks = max s.time.ticks (Tab.get 0 s.pwr.idleFrom 1 + s.idleValue .idle)) ∧
  (∀ (s : State) (n : Nat), s.pwr.trans = none → s.board.inReset = false → s.pwr.state.code + 1 = n → n < 5 →
    s.idleValue (pstateOf n) ≠ 0 → s.failFor (pstateOf n) true ≠ 0 → ∃ t, exec (.idleTimerExpire n) s = .next t ∧
    t = { s with pwr := t.pwr } ∧ t.pwr = { s.pwr with idleFrom := Tab.set 0 s.pwr.idleFrom n s.time.ticks }) ∧
  (∀ (s : State) (x : Transition), s.pwr.trans = some x → x.wake = false → x.step = 0 → x.dest = .idle →
    s.pwr.slot = none → s.heldLevel .idle = none → ∃ t, exec (.entryDone) s = .next t ∧
    t = { s with pwr := t.pwr, ctr := t.ctr } ∧ t.pwr.state = .idle ∧ t.pwr.trans = none ∧
    t.pwr.idleFrom = (upto 1 4).map (fun k => (k, s.time.ticks)) ∧
    t.counter (pwrCount 0) = s.counter (pwrCount 0) + 1) ∧
  (∀ (s : State) (source port : Nat), s.board.inReset = false → s.pwr.trans = none → s.levelHolds source port = true →
    s.wakeArmed source port = true → State.wakesFrom source s.pwr.state = true → s.pwr.state ≠ .off → ∃ t,
    exec (.wakeEvent source port) s = .next t ∧ t = { s with pwr := t.pwr } ∧ t.pwr =
    { s.pwr with trans := some { from_ := s.pwr.state, dest := .run, wake := true, step := State.firstStep s.pwr.state, rail := 0, stepBy := s.stepDeadline s.pwr.state (State.firstStep s.pwr.state) }, wakeSource := source, wakePort := (if 2 ≤ source ∧
    source ≤ 4 then port else 0), wakeFrom := s.pwr.state.code, wakeStep := 0 }) ∧
  (∀ (s : State) (r : Nat) (x : Transition), s.pwr.trans = some x → x.wake = true → x.from_ = .off → x.step = 1 →
    x.rail = r → s.board.inReset = false → 1 ≤ r → r < 4 → ∃ t, exec (.railGood r) s = .next t ∧
    t = { s with pwr := t.pwr } ∧ t.pwr =
    { s.pwr with railGood := Tab.set false s.pwr.railGood r true, railEn := Tab.set false s.pwr.railEn (r + 1) true, trans := some { x with rail := r + 1, stepBy := s.time.ticks + msTicks 20 } }) ∧
  (∀ (s : State) (x : Transition), s.pwr.trans = some x → x.wake = true → x.from_ = .off → x.step = 1 → x.rail = 4 →
    s.board.inReset = false → ∃ t, exec (.railGood 4) s = .next t ∧ t = { s with pwr := t.pwr } ∧ t.pwr =
    { s.pwr with railGood := Tab.set false s.pwr.railGood 4 true, trans := some { x with step := 2, stepBy := s.stepDeadline .off 2 } }) ∧
  (∀ (s : State) (x : Transition), s.pwr.trans = some x → x.wake = false → x.step = 1 → x.rail ≠ 0 →
    s.board.inReset = false → ∃ t, exec (.railGoodTimeout) s = .next t ∧ t = { s with time := t.time, pwr := t.pwr } ∧
    t.pwr.railGood = Tab.set false s.pwr.railGood x.rail false ∧
    t.pwr.railEn = Tab.set false s.pwr.railEn (x.rail - 1) false ∧
    t.pwr.trans = some { x with rail := x.rail - 1, stepBy := t.time.ticks + msTicks 20 } ∧
    t.time.ticks = max s.time.ticks x.stepBy) ∧
  (∀ (s : State) (r : Nat) (x : Transition), s.pwr.trans = some x → x.wake = false → x.step = 1 → x.rail = r → r ≠ 0 →
    ∃ t, exec (.railGoodFall r) s = .next t ∧ t = { s with pwr := t.pwr } ∧
    t.pwr.railGood = Tab.set false s.pwr.railGood r false ∧ t.pwr.railEn = Tab.set false s.pwr.railEn (r - 1) false ∧
    t.pwr.trans = some { x with rail := r - 1, stepBy := s.time.ticks + msTicks 20 }) ∧
  (∀ (s : State) (x : Transition), s.pwr.trans = some x → x.wake = true → x.step = 2 → s.board.inReset = false →
    x.from_ ≠ .deep ∨ s.pwr.etelo = false → ∃ t, exec (.oscReady) s = .next t ∧ t = { s with pwr := t.pwr } ∧
    t.pwr = { s.pwr with oscReady := true, trans := some { x with step := 3, stepBy := s.stepDeadline x.from_ 3 } }) ∧
  (∀ (s : State) (gib width ranks rate : Nat) (x : Transition), s.pwr.trans = some x → x.wake = true → x.step = 3 →
    s.board.inReset = false → s.mem.popError = false → s.mem.ready = false →
    State.populationOk gib width ranks rate = true → ∃ t, exec (.memReady gib width ranks rate false) s = .next t ∧
    t = { s with pwr := t.pwr, mem := t.mem } ∧ t.mem =
    { s.mem with trained := 0xFF, ready := true, popError := false, gibPerChannel := gib, devWidth := width, ranks := ranks, rate := rate }
    ∧ t.pwr = { s.pwr with memReady := true, trans := some { x with step := 4, stepBy := s.stepDeadline x.from_ 4 } }) ∧
  (∀ (s : State) (gib width ranks rate : Nat) (popError : Bool) (x : Transition), s.pwr.trans = some x →
    x.wake = true → x.step = 3 → s.board.inReset = false → s.mem.popError = false → s.mem.ready = false →
    popError = true ∨ State.populationOk gib width ranks rate = false → ∃ t,
    exec (.memReady gib width ranks rate popError) s = .next t ∧ t = { s with mem := t.mem } ∧
    t.mem = { s.mem with popError := true }) ∧
  (∀ (s : State) (x : Transition), s.pwr.trans = some x → x.wake = true → x.stepBy ≠ 0 → x.step = 2 ∨ x.step = 3 →
    x.from_ ≠ .off → s.board.inReset = false → s.pwr.slot = none → s.heldLevel s.pwr.state = none → ∃ t,
    exec (.wakeStepTimeout) s = .next t ∧ t = { s with time := t.time, pwr := t.pwr, ctr := t.ctr } ∧
    t.pwr.trans = none ∧ t.pwr.state = s.pwr.state ∧ t.pwr.wakeStep = x.step ∧
    t.time.ticks = max s.time.ticks x.stepBy ∧ t.counter (pwrCount 7) = s.counter (pwrCount 7) + 1) ∧
  (∀ (s : State) (x : Transition), s.pwr.trans = some x → x.wake = true → x.step = 4 →
    x.from_ = .sleep ∨ x.from_ = .idle → x.dest = .run → s.board.inReset = false → s.pwr.slot = none →
    s.pwr.warmAfter = false → s.bent.role ≠ .standby → s.regBits (pwrBase + 0x18) 2 1 = 0 → ∃ t,
    exec (.logicReady) s = .next t ∧ t = { s with pwr := t.pwr, ctr := t.ctr, host := t.host } ∧ t.pwr.state = .run ∧
    t.pwr.trans = none ∧ t.pwr.logicReady = true ∧ t.pwr.wakeTime = s.nowStamp ∧
    t.counter (pwrCount 3) = s.counter (pwrCount 3) + 1)

/-- Events of host links, BARs and bulk memory (chapters "Host interface and bulk memory" and "Register map"). -/
def Obligations.HostAndMemoryEventsComplete : Prop :=
  (∀ (s : State) (fn : Nat), s.hasFn fn = true → (s.hostFn fn).up = false → ∃ t, exec (.perstAssert fn) s = .next t ∧
    t = { s with host := t.host } ∧ t.hostFn fn = { s.hostFn fn with perst := true }) ∧
  (∀ (s : State) (fn : Nat), s.hasFn fn = true → (s.hostFn fn).up = true → s.queues = [] → s.books = [] →
    s.dray.chans = [] → s.clerk.taken = [] → s.clerk.waiting = [] → (s.source (hostSource fn)).slot = none → ∃ t,
    exec (.hostLinkDown fn) s = .next t ∧ t =
    { s with cfg := t.cfg, msixPending := t.msixPending, latches := t.latches, host := t.host, ctr := t.ctr, flt := t.flt, free := t.free }
    ∧ t.hostFn fn =
    { s.hostFn fn with up := false, speed := 0, width := 0, pm := 0, vfEnabled := 0, vfErr := [], vfHeld := [] } ∧
    t.counter (hstKey fn + 0x130) = s.counter (hstKey fn + 0x130) + 1) ∧
  (∀ (s : State) (fn speed width : Nat), s.hasFn fn = true → (s.hostFn fn).up = false → s.flt.slowLink = false →
    1 ≤ speed → speed ≤ 5 → [1, 2, 4, 8].contains width = true → ∃ t, exec (.hostLinkUp fn speed width) s = .next t ∧
    t = { s with host := t.host, pwr := t.pwr } ∧
    t.hostFn fn = { s.hostFn fn with up := true, perst := false, pm := 0, width := width, speed := speed }) ∧
  (∀ (s : State) (fn : Nat) (corrected : Bool), s.hasFn fn = true → (s.source (hostSource fn)).slot = none → ∃ t,
    exec (.aerError fn corrected) s = .next t ∧ t = { s with ctr := t.ctr, flt := t.flt, free := t.free } ∧
    t.counter (hstKey fn + 0x110) = s.counter (hstKey fn + 0x110) + (if corrected then 1 else 0) ∧
    t.counter (hstKey fn + 0x118) = s.counter (hstKey fn + 0x118) + (if corrected then 0 else 1)) ∧
  (∀ (s : State) (fn addr : Nat) (timeout : Bool), s.hasFn fn = true → (s.source (hostSource fn)).slot = none →
    s.underTest (hostSource fn) = false → ∃ t, exec (.completionError fn timeout addr) s = .next t ∧
    t = { s with ctr := t.ctr, flt := t.flt } ∧
    t.counter (hstKey fn + 0x128) = s.counter (hstKey fn + 0x128) + (if timeout then 1 else 0) ∧
    t.counter (hstKey fn + 0x120) = s.counter (hstKey fn + 0x120) + (if timeout then 0 else 1) ∧
    (t.source (hostSource fn)).slot.map (fun m => (m.source, m.kind, m.cls, m.address)) = some
    (hostSource fn, 0x15, 1, addr % 2 ^ 48)) ∧
  (∀ (s : State) (fn n : Nat), s.hasFn fn = true → 0 < n → n ≤ 64 → (s.hostFn fn).vfEnabled = 0 → ∃ t,
    exec (.vfEnable fn n) s = .next t ∧ t = { s with host := t.host } ∧
    t.hostFn fn = { s.hostFn fn with vfEnabled := n, vfHeld := (s.vfGive fn n).1, vfErr := (s.vfGive fn n).2 }) ∧
  (∀ (s : State) (fn : Nat), s.hasFn fn = true → ∃ t, exec (.vfEnable fn 0) s = .next t ∧
    t = { s with host := t.host } ∧ t.hostFn fn = { s.hostFn fn with vfEnabled := 0, vfHeld := [] }) ∧
  (∀ (s : State) (fn off : Nat) (v : BitVec 32) (r : RegRow), s.pwr.state = .run → s.hasFn fn = true → 0x1000 ≤ off →
    off < 0x1800 → regRow (hstKey fn + off) = some r → (s.hostFn fn).vfEnabled = 0 → ∃ t,
    exec (.hstVfWrite fn off v) s = .next t ∧ t = { s with cfg := t.cfg } ∧
    t.reg (hstKey fn + off) = Nat.land v.toNat r.rw) ∧
  (∀ (s : State) (fn off : Nat) (v : BitVec 32) (r : RegRow), s.pwr.state = .run → s.hasFn fn = true → 0x1000 ≤ off →
    off < 0x1800 → regRow (hstKey fn + off) = some r → (s.hostFn fn).vfEnabled ≠ 0 → ∃ t,
    exec (.hstVfWrite fn off v) s = .next t ∧ t = { s with ctr := t.ctr } ∧
    t.counter (hstKey fn + 0x150) = s.counter (hstKey fn + 0x150) + 1) ∧
  (∀ (s : State) (fn x n o : Nat) (data : List Byte), s.pwr.state = .run → s.hasFn fn = true → s.glb.bar4En = true →
    x + n ≤ 2 ^ 36 → o = s.swBase + s.regBits (hstKey fn + 4) 0 8 * GiB + x → o + n ≤ s.swEnd → data.length = n → ∃ t,
    exec (.bar4Access fn x n true data) s = .next t ∧ t = { s with bulk := t.bulk, mem := t.mem } ∧
    t.bulk = writeBytes s.bulk o data ∧ t.readBulk o n = data ∧
    t.mem.poisoned = s.mem.poisoned.filter (fun p => !(decide (o ≤ p) && decide (p + 64 ≤ o + n)))) ∧
  (∀ (s : State) (fn x n o : Nat) (data : List Byte), s.pwr.state = .run → s.hasFn fn = true → s.glb.bar4En = true →
    x + n ≤ 2 ^ 36 → o = s.swBase + s.regBits (hstKey fn + 4) 0 8 * GiB + x → o + n ≤ s.swEnd →
    s.poisonIn o n = none → ∃ t, exec (.bar4Access fn x n false data) s = .next t ∧
    t = { s with readData := t.readData, readBad := t.readBad } ∧ t.readData = s.readBulk o n ∧ t.readBad = false) ∧
  (∀ (s : State) (fn x n : Nat) (data : List Byte), s.pwr.state = .run → s.hasFn fn = true → s.glb.bar4En = true →
    x + n ≤ 2 ^ 36 → s.swEnd < s.swBase + s.regBits (hstKey fn + 4) 0 8 * GiB + x + n → ∃ t,
    exec (.bar4Access fn x n false data) s = .next t ∧
    t = { s with readData := t.readData, readBad := t.readBad, ctr := t.ctr } ∧ t.readData = List.replicate n 0xFF ∧
    t.readBad = false ∧ t.counter (hstKey fn + 0x140) = s.counter (hstKey fn + 0x140) + 1) ∧
  (∀ (s : State) (fn off : Nat), s.pwr.state = .run → s.hasFn fn = true → ∃ t, exec (.bar2Write fn off) s = .next t ∧
    t = { s with ctr := t.ctr } ∧ t.counter (hstKey fn + 0x148) = s.counter (hstKey fn + 0x148) + 1) ∧
  (∀ (s : State) (fn off : Nat) (read : Bool), s.pwr.state = .run → s.hasRequester fn = true → fn < 2 →
    off < 0x4000000 → ∃ t, exec (.bar0BadAccess fn off read) s = .next t ∧
    t = { s with glb := t.glb, ctr := t.ctr, readData := t.readData, readBad := t.readBad } ∧
    t.glb = { s.glb with lastIgnored := BitVec.ofNat 32 (off + 2 ^ 26 * fn + 2 ^ 28) } ∧
    t.counter 0x108 = s.counter 0x108 + 1 ∧ t.readBad = (read || s.readBad)) ∧
  (∀ (s : State) (fn off : Nat), s.pwr.state = .run → s.hasRequester fn = true → fn < 2 → off % 4 = 0 →
    off < hstBase → latchOf off = none → ∃ t, exec (.latchingRead fn off 4) s = .next t ∧
    t = { s with readData := t.readData, readBad := t.readBad } ∧ t.readData = leBytes 4 (s.bar0Word fn off) ∧
    t.readBad = false) ∧
  (∀ (s : State) (fn off k : Nat) (v : BitVec 64) (r : RegRow), s.pwr.state = .run → s.hasRequester fn = true →
    fn < 2 → off % 4 = 0 → off < 0x700000 → off ≠ 0x30 → s.rowAt fn off = some (r, k) → r.rw ≠ 0 →
    s.changesRwl fn off (v.toNat % 2 ^ 32) = false → ∃ t, exec (.registerWrite fn off 4 v) s = .next t ∧
    t = { s with cfg := t.cfg } ∧
    t.reg k = (s.reg k - Nat.land (s.reg k) r.rw + Nat.land (v.toNat % 2 ^ 32) r.rw) % 2 ^ 32) ∧
  (∀ (s : State) (fn off k : Nat) (v : BitVec 64) (r : RegRow), s.pwr.state = .run → s.hasRequester fn = true →
    fn < 2 → off % 4 = 0 → off < 0x700000 → off ≠ 0x30 → s.rowAt fn off = some (r, k) → r.rw = 0 →
    s.changesRwl fn off (v.toNat % 2 ^ 32) = true → ∃ t, exec (.registerWrite fn off 4 v) s = .next t ∧
    t = { s with glb := t.glb, ctr := t.ctr } ∧ t.counter 0x100 = s.counter 0x100 + 1 ∧ t.cfg = s.cfg) ∧
  (∀ (s : State) (v : BitVec 32), s.pwr.state = .run → bits v.toNat 16 16 < bits v.toNat 0 16 →
    bits v.toNat 0 16 ≤ 1024 → ∃ t, exec (.memSpillMarksWrite v) s = .next t ∧ t = { s with cfg := t.cfg } ∧
    t.reg (memBase + 0x30) = v.toNat) ∧
  (∀ (s : State) (v : BitVec 32), s.pwr.state = .run →
    bits v.toNat 0 16 ≤ bits v.toNat 16 16 ∨ 1024 < bits v.toNat 0 16 → ∃ t,
    exec (.memSpillMarksWrite v) s = .next t ∧ t = { s with ctr := t.ctr } ∧
    t.counter (memBase + 0x128) = s.counter (memBase + 0x128) + 1) ∧
  (∀ (s : State) (v : BitVec 32), s.pwr.state = .run → 1 ≤ v.toNat % 256 → v.toNat % 256 ≤ 168 → ∃ t,
    exec (.memScrubHoursWrite v) s = .next t ∧ t = { s with cfg := t.cfg } ∧ t.reg (memBase + 0x34) = v.toNat % 256) ∧
  (∀ (s : State) (off : Nat), off < s.memCap → s.mem.ready = true → s.mem.poisoned.contains (off - off % 64) = false →
    ∃ t, exec (.scrubRead off 2) s = .next t ∧ t = { s with mem := t.mem, ctr := t.ctr } ∧ t.mem =
    { s.mem with scrubAt := off - off % 64, scrubDone := (off - off % 64) * 100 / s.memCap, poisoned := State.addBit (off - off % 64) s.mem.poisoned }
    ∧ t.counter (channelCount (channelOf off) 3) = s.counter (channelCount (channelOf off) 3) + 1) ∧
  (∀ (s : State) (off : Nat), off < s.memCap → s.mem.ready = true → ∃ t, exec (.scrubRead off 0) s = .next t ∧
    t = { s with mem := t.mem } ∧
    t.mem = { s.mem with scrubAt := off - off % 64, scrubDone := (off - off % 64) * 100 / s.memCap }) ∧
  (∀ (s : State) (off master : Nat), off < s.memCap → off < retentionBase →
    s.mem.poisoned.contains (off - off % 64) = true → (s.source (memSource (channelOf off))).slot = none →
    s.underTest (memSource (channelOf off)) = false → ∃ t, exec (.poisonedRead off master true) s = .next t ∧
    t = { s with ctr := t.ctr, flt := t.flt } ∧ t.counter (memBase + 0x120) = s.counter (memBase + 0x120) + 1 ∧
    (t.source (memSource (channelOf off))).slot.map (fun m => (m.kind, m.cls, m.address, m.master)) = some
    (0x02, 2, off - off % 64, master))

/-- Events of boot, resets, pins and the debug port (chapters "Register map" and "Pins, package and electrical"). -/
def Obligations.ResetAndDebugEventsComplete : Prop :=
  (∀ (s : State) (a b : List Byte), s.bootRuns = true → leAt a 0 4 ≠ 0x3146575A → leAt b 0 4 ≠ 0x3146575A → ∃ t,
    exec (.bootDone a b) s = .next t ∧ t = { s with board := t.board } ∧
    t.board = { s.board with bootFailed := true }) ∧
  (∀ (s : State) (a b : List Byte), s.bootRuns = true → ∃ t, exec (.bootDone a b) s = .next t ∧
    t = { s with glb := t.glb, clerk := t.clerk, pwr := t.pwr, board := t.board, free := t.free } ∧
    ∀ i, s.bootSlot a b = some i → t.glb.fwVer = BitVec.ofNat 32 (slotVersion i) ∧
    t.clerk = { s.clerk with ready := true } ∧ t.pwr = { s.pwr with booted := true } ∧
    t.glb.rollback = BitVec.ofNat 8 (max s.glb.rollback.toNat (slotRollback i)) ∧ (s.bootSlot a b = none →
    t.board.bootFailed = true)) ∧
  (∀ (s : State), ∃ t, exec (.aonResetRelease) s = .next t ∧ t.board.aonReady = true ∧ t.pwr =
    { state := .off, trans := some { from_ := .off, dest := .run, wake := true, step := 1, stepBy := s.time.ticks + msTicks 20 }, railEn := [(0, true)] }
    ∧ t.queues = [] ∧ t.books = [] ∧ t.frames = [] ∧ t.ports = [] ∧ t.cfg = [] ∧ t.ctr = [] ∧ t.clerk = {} ∧
    t.flt = {} ∧ t.hostMem = s.hostMem ∧ t.pending = s.pending ∧ t.time = { ticks := s.time.ticks }) ∧
  (∀ (s : State) (split bar4 : Bool), s.pwr.trans = none → ∃ t, exec (.powerOn split bar4) s = .next t ∧
    t.glb.hostSplit = split ∧ t.glb.bar4En = bar4 ∧ t.glb.resetCause = 1 ∧ t.pwr =
    { state := .off, trans := some { from_ := .off, dest := .run, wake := true, step := 1, rail := 1, stepBy := s.time.ticks + msTicks 20 }, railEn := [(0, true), (1, true)], railGood := [(0, true)] }
    ∧ t.queues = [] ∧ t.cfg = [] ∧ t.ctr = [] ∧ t.clerk = {} ∧ t.hostMem = s.hostMem ∧ t.pending = s.pending) ∧
  (∀ (s : State), s.board.wakeN = true → ∃ t, exec (.pwrGoodCoreFall) s = .next t ∧ t.pwr = { state := .off } ∧
    t.queues = [] ∧ t.frames = [] ∧ t.cfg = [] ∧ t.ctr = [] ∧ t.flt = {} ∧ t.hostMem = s.hostMem ∧
    t.pending = s.pending) ∧
  (∀ (s : State), s.pwr.state ≠ .off → s.bent.role = .solo → s.flt.fatal = false → ∃ t,
    exec (.sysRstNAssert) s = .next t ∧ t.board.inReset = true ∧ t.board.sysRstN = false ∧ t.glb.resetCause = 2 ∧
    t.queues = [] ∧ t.cfg = [] ∧ t.ctr = [] ∧ t.clerk = {} ∧ t.flt = {} ∧ t.hostMem = s.hostMem ∧
    t.pending = s.pending) ∧
  (∀ (s : State) (split bar4 : Bool), s.board.inReset = true → s.pwr.trans = none → s.bent.role = .solo →
    s.flt.fatal = false → ∃ t, exec (.sysRstNRelease split bar4) s = .next t ∧ t.board.inReset = false ∧
    t.board.sysRstN = true ∧ t.glb.hostSplit = split ∧ t.glb.bar4En = bar4 ∧ t.glb.resetCause = 2 ∧
    t.pwr.state = .off ∧ t.pwr.trans.map (fun x => (x.from_, x.dest, x.wake, x.step)) = some (.off, .run, true, 2) ∧
    t.hostMem = s.hostMem ∧ t.pending = s.pending) ∧
  (∀ (s : State) (stays : Bool), s.board.inReset = false → s.pwr.trans = none →
    s.pwr.state = .sleep ∨ s.pwr.state = .deep → ∃ t, exec (.wakeNAssert stays) s = .next t ∧
    t = { s with board := t.board, pwr := t.pwr } ∧ t.board = { s.board with wakeN := !stays } ∧
    t.pwr.wakeSource = 1 ∧ t.pwr.state = s.pwr.state ∧ t.pwr.trans.map (fun x => (x.from_, x.dest, x.wake, x.step)) =
    some (s.pwr.state, .run, true, State.firstStep s.pwr.state)) ∧
  (∀ (s : State), s.board.inReset = false → s.pwr.state = .run → s.pwr.trans = none → ∃ t,
    exec (.warmReset) s = .next t ∧ t.board.warming = true ∧ t.latches = [] ∧ t.flt.stopped = false ∧
    t.flt.maint = false ∧ t.assay.sender = [] ∧ t.glb.resetCause = BitVec.ofNat 32 (16 + 256 * flag t.flt.fatal)) ∧
  (∀ (s : State), s.board.warming = true → ∃ t, exec (.warmResetDone) s = .next t ∧
    t = { s with board := t.board, clerk := t.clerk, ctr := t.ctr } ∧ t.board = { s.board with warming := false } ∧
    t.clerk = { s.clerk with ready := true } ∧ t.counter 0x110 = s.counter 0x110 + 1) ∧
  (∀ (s : State) (split bar4 : Bool), s.pwr.state ≠ .off → s.bent.role = .solo → s.flt.fatal = false → ∃ t,
    exec (.coldReset split bar4) s = .next t ∧ t.glb.hostSplit = split ∧ t.glb.bar4En = bar4 ∧ t.glb.resetCause = 4 ∧
    t.pwr.state = .off ∧ t.pwr.trans.map (fun x => (x.from_, x.dest, x.wake, x.step)) = some (.off, .run, true, 2) ∧
    t.queues = [] ∧ t.cfg = [] ∧ t.ctr = [] ∧ t.clerk = {} ∧ t.hostMem = s.hostMem ∧ t.pending = s.pending) ∧
  (∀ (s : State) (q : Nat) (w : WorkQueue), s.glb.hostSplit = false → s.queues = [(q, w)] → w.state ≠ .disabled →
    s.bent.role = .solo → s.books = [] → s.dray.chans = [] → s.clerk.taken = [] → s.clerk.waiting = [] → ∃ t,
    exec (.functionLevelReset 0 none) s = .next t ∧ t =
    { s with cfg := t.cfg, msixPending := t.msixPending, latches := t.latches, host := t.host, queues := t.queues } ∧
    t.queue q =
    { w with state := .disabled, fetched := [], accepting := none, enablePending := false, stalled := false, shadowDue := false, started := [] }
    ∧ t.hostFn 0 = { s.hostFn 0 with vfEnabled := 0, vfErr := [], vfHeld := [] } ∧
    t.msixPending = s.msixPending.filter (fun m => m.fn != 0)) ∧
  (∀ (s : State) (fn n : Nat), s.hasFn fn = true → n < 64 → (s.hostFn fn).vfHeld.contains n = false → ∃ t,
    exec (.functionLevelReset fn (some n)) s = .next t ∧ t = { s with cfg := t.cfg } ∧
    t.cfg = s.cfg.filter (fun e => e.1 < vfTable fn n || vfTable fn n + 0x1000 ≤ e.1)) ∧
  (∀ (s : State), s.board.badResponses < 3 → ∃ t, exec (.dbgChallenge) s = .next t ∧
    t = { s with board := t.board, readData := t.readData, readBad := t.readBad, free := t.free } ∧
    t.board = { s.board with challenge := some t.readData } ∧ t.readData.length = 48 ∧ t.readBad = false) ∧
  (∀ (s : State) (signature key : List Byte), s.board.challenge = none → ∃ t,
    exec (.dbgResponse signature key) s = .next t ∧ t = { s with board := t.board } ∧
    t.board = { s.board with badResponses := min 3 (s.board.badResponses + 1) }) ∧
  (∀ (s : State) (signature key ch : List Byte), s.board.challenge = some ch → ∃ t,
    exec (.dbgResponse signature key) s = .next t ∧ t = { s with board := t.board } ∧ t.board.challenge = none ∧
    (s.responseValid signature key = true → t.board = { s.board with challenge := none, debugOpen := true }) ∧
    (s.responseValid signature key = false →
    t.board = { s.board with challenge := none, badResponses := min 3 (s.board.badResponses + 1) })) ∧
  (∀ (s : State), ∃ t, exec (.trstAssert) s = .next t ∧ t = { s with board := t.board } ∧
    t.board = { s.board with challenge := none, trstN := true })

/-- R594. -/
def Obligations.FullBenchesRefuse : Prop :=
  Claims.Overflows Claims.settingRows ∧ Claims.Overflows Claims.imageRows

/-- R659. -/
def Obligations.BentAssumeAnswers : Prop :=
  (∀ (s : State) (c : Cmd), Claims.runs s 0x0B06 c = true →
    (c.force = false ∨ (s.bent.role ≠ .orphan ∧ s.bent.role ≠ .forming) ∨ s.bent.partnerHeld = true) →
    ∃ st, ((st = Status.inconsistent ∧ c.force = false) ∨ (st = Status.notActive ∧ s.bent.role ≠ .orphan ∧ s.bent.role ≠ .forming) ∨
        (st = Status.busy ∧ s.bent.partnerHeld = true)) ∧
      exec (.bentAssume c) s = .next (Claims.completedAs (Claims.begun s 0x0B06 c) c 0x0B06 st none [] 0)) ∧
  (∀ (s : State) (c : Cmd), Claims.runs s 0x0B06 c = true → c.force = true → (s.bent.role = .orphan ∨ s.bent.role = .forming) →
    s.bent.partnerHeld = false →
    exec (.bentAssume c) s = .next (Claims.completed (((Claims.begun s 0x0B06 c).takeAnyLeft).takeover true 0) c 0x0B06 none []))

/-- R46. -/
def Obligations.SpanTimesOutOfRangeAreRefused : Prop :=
  (∀ (s : State) (c : Cmd), Claims.runs s 0x0201 c = true → 1000000000 ≤ stampNs (c.n 0 12) →
    exec (.timeSet c) s = .next (Claims.completedAs (Claims.begun s 0x0201 c) c 0x0201 .inconsistent none [] 0)) ∧
  (∀ (s : State) (c : Cmd), Claims.runs s 0x0102 c = true → c.f 0 0 2 = 2 → 1000000000 ≤ stampNs (c.n 8 12) →
    exec (.benchPeg c) s = .next (Claims.completedAs (Claims.begun s 0x0102 c) c 0x0102 .inconsistent none [] 0)) ∧
  (∀ (s : State) (c : Cmd), Claims.runs s 0x0F00 c = true → c.scope = 0 → c.f 0 16 2 = 2 → 1000000000 ≤ stampNs (c.n 8 12) →
    ∃ d, exec (.stocktake c) s = .next (Claims.completedAs (Claims.begun s 0x0F00 c) c 0x0F00 .inconsistent d [] 0))

/-- R107. -/
def Obligations.TimeSetAndSlewExcludeEachOther : Prop :=
  (∀ (s : State) (c : Cmd) (w : Slew), Claims.runs s 0x0203 c = true → (Claims.begun s 0x0203 c).ownTime = true →
    s.time.slew = some w → w.remaining ≠ 0 →
    exec (.timeSlew c) s = .next (Claims.completedAs (Claims.begun s 0x0203 c) c 0x0203 .busy none [] 0)) ∧
  (∀ (s : State) (u : Nat), (s.timeSetNow u).time.slew = none) ∧
  (∀ (s : State) (c : Cmd) (w : Waiting) (u d : Nat), Claims.runs s 0x0201 c = true → stampNs (c.n 0 12) < 1000000000 →
    (Claims.begun s 0x0201 c).ownTime = true → s.integrated = false → w ∈ s.clerk.waiting → w.kind = .timeSetPps u d →
    exec (.timeSet c) s = .next (Claims.completedAs (Claims.begun s 0x0201 c) c 0x0201 .busy none [] 0) ∧
      (Claims.begun s 0x0201 c).clerk.waiting = s.clerk.waiting)

/-- R52. -/
def Obligations.CycleCounterReadsZeroOutsideACycle : Prop :=
  ∀ (s : State) (req f : Nat),
    (((s.readWord req f 0x100000).2.readWord req f 0x10000C).1 = if s.integrated then s.span.cycle.toNat else 0) ∧
    bits (s.readWord req f 0x100010).1 2 1 = flag s.integrated

/-- R806. -/
def Obligations.ReservedOffsetsReadZero : Prop :=
  ∀ (s : State) (fn off n : Nat) (v : BitVec 64), s.hasFn fn = true → fn < 2 → (n = 4 ∨ n = 8) → off % n = 0 →
    ((0x490000 ≤ off ∧ off < 0x4F0000) ∨ (0x800000 ≤ off ∧ off < 0x900000) ∨ (0x2000000 ≤ off ∧ off < 0x4000000)) →
    exec (.latchingRead fn off n) s = .next { s.hostTouch with readData := zeros n, readBad := false } ∧
    exec (.registerWrite fn off n v) s = .next s.hostTouch

/-- R807. -/
def Obligations.BadWritesAreCountedOnly : Prop :=
  (∀ (s : State) (fn off n : Nat) (v : BitVec 64), s.hasRequester fn = true → off + n ≤ State.barSize fn →
    ¬ ((n = 4 ∧ off % 4 = 0) ∨ (n = 8 ∧ off % 8 = 0)) →
    ∃ w, exec (.registerWrite fn off n v) s = .next { s.hostTouch with
        glb := { s.hostTouch.glb with lastIgnored := w }
        ctr := Tab.set 0 s.hostTouch.ctr 0x108 (s.hostTouch.counter 0x108 + 1) }) ∧
  (∀ (s : State) (fn off : Nat), s.hasRequester fn = true → off < State.barSize fn →
    ∃ w, exec (.bar0BadAccess fn off false) s = .next { s.hostTouch with
        glb := { s.hostTouch.glb with lastIgnored := w }
        ctr := Tab.set 0 s.hostTouch.ctr 0x108 (s.hostTouch.counter 0x108 + 1) })
end

