-- ==== Sys2Proof/Laws/Clerk.lean ====
section
/-!
SUPPORT. What running a command does, once for all commands: a command that runs and acts at once leaves its effect and
its completion, and one that waits is held.
-/

namespace Sys2Proof.Machine

open Sys2Proof.Claims

theorem State.runCmd_eq (code : Nat) (c : Cmd) (s : State) (eff : State → Eff) :
    s.runCmd code c eff =
      let discard := ((takenAs s code c).map (·.discard)).getD false
      match (begun s code c).precheck code c with
      | some (st, d) => (((begun s code c).count (cmdCount 2)).finishCmd c code st d [] 0 false discard).fenceSweep
      | none =>
        if c.partner then
          let r := (begun s code c).toPartner code c
          r.2.addWaiting { no := numberOf s code c, opcode := code, cmd := c, discard := discard
                           kind := .partner r.1 (s.time.ticks + msTicks 10) }
        else match eff (begun s code c) with
          | .done u st d reply clamps dis =>
            let v := u.detailWord d
            let d := v.1
            let u := v.2.countN (cmdCount 3) clamps
            if c.scope == 1 && (Cmd.queueOf c).isSome then
              let r := u.toPartner code (if code == 0x0100 then { c with bench := BitVec.ofNat 2 d } else c)
              r.2.addWaiting { no := numberOf s code c, opcode := code, cmd := c, clamps := clamps, discard := discard, reply := reply
                               kind := .bent r.1 (if st == .ok && 0 < clamps then .okClamped else st) d clamps }
            else (u.finishCmd c code st d reply clamps dis discard).fenceSweep
          | .wait u k clamps =>
            (u.addWaiting { no := numberOf s code c, opcode := code, cmd := c, clamps := clamps, kind := k
                            discard := discard }).fenceSweep := rfl

/-- The conditions of `passes`. -/
theorem passes_iff (s : State) (code : Nat) (c : Cmd) : passes s code c = true ↔
    (Cmd.queueOf c).isSome = true ∧ c.partner = false ∧ ((takenAs s code c).map (·.discard)).getD false = false ∧
      (begun s code c).precheck code c = none := by
  simp only [passes, Bool.and_eq_true, Bool.not_eq_true', Option.isNone_iff_eq_none, and_assoc]

/-- A command that runs and acts at once completes with what it answers. -/
theorem runStep_done {s u : State} {code : Nat} {c : Cmd} {eff : State → Eff} {st : Status} {d : Option Nat}
    {reply : List Byte} {clamps : Nat} (h : runs s code c = true)
    (e : eff (begun s code c) = .done u st d reply clamps false) :
    runStep code c s eff = .next (completedAs u c code st d reply clamps) := by
  simp only [runs, Bool.and_eq_true, bne_iff_ne, ne_eq] at h
  obtain ⟨-, h2, h4, h5⟩ := (passes_iff s code c).1 h.1
  have h6 : (c.scope == 1) = false := beq_eq_false_iff_ne.2 h.2
  simp only [runStep, ok, State.runCmd_eq, h5, h2, e, h4, h6, Bool.false_and, Bool.false_eq_true, if_false, completedAs]

/-- A command that passes its checks and waits is held with what it waits for. -/
theorem runStep_wait {s u : State} {code : Nat} {c : Cmd} {eff : State → Eff} {k : WaitKind} (h : passes s code c = true)
    (e : eff (begun s code c) = .wait u k 0) :
    runStep code c s eff = .next (waitsOn u (numberOf s code c) code c k) := by
  obtain ⟨-, h2, h4, h5⟩ := (passes_iff s code c).1 h
  simp only [runStep, ok, State.runCmd_eq, h5, h2, e, h4, Bool.false_eq_true, if_false, waitsOn]

end Sys2Proof.Machine
end

