-- ==== Sys2Proof/Laws/Tab.lean ====
section
/-!
SUPPORT. Laws of the sparse table: a read after a write, and the canonical form that every write keeps. The read laws hold
of every table, canonical or not.
-/

namespace Sys2Proof.Machine

variable {α : Type}

theorem Tab.get_put_same (d : α) (t : Tab α) (i : Nat) (v : α) : Tab.get d (Tab.put t i v) i = v := by
  induction t with
  | nil => simp [Tab.put, Tab.get]
  | cons e t ih =>
    obtain ⟨k, w⟩ := e
    simp only [Tab.put]
    split
    · next h => simp [Tab.get, h]
    · split
      · simp [Tab.get]
      · next h _ => simp [Tab.get, h, ih]

theorem Tab.get_put_other (d : α) (t : Tab α) (i j : Nat) (v : α) (h : j ≠ i) :
    Tab.get d (Tab.put t i v) j = Tab.get d t j := by
  induction t with
  | nil => simp [Tab.put, Tab.get, h]
  | cons e t ih =>
    obtain ⟨k, w⟩ := e
    simp only [Tab.put]
    split
    · next g => subst g; simp [Tab.get, h]
    · split
      · simp [Tab.get, h]
      · simp [Tab.get, ih]

theorem Tab.get_filter_same (d : α) (t : Tab α) (i : Nat) :
    Tab.get d (t.filter (fun p => p.1 != i)) i = d := by
  induction t with
  | nil => rfl
  | cons e t ih =>
    obtain ⟨k, w⟩ := e
    by_cases h : k = i
    · simpa [h] using ih
    · simp only [ne_eq, h, not_false_eq_true, bne_iff_ne, List.filter_cons_of_pos, Tab.get]
      simp [Ne.symm h, ih]

theorem Tab.get_filter_other (d : α) (t : Tab α) (i j : Nat) (h : j ≠ i) :
    Tab.get d (t.filter (fun p => p.1 != i)) j = Tab.get d t j := by
  induction t with
  | nil => rfl
  | cons e t ih =>
    obtain ⟨k, w⟩ := e
    by_cases g : k = i
    · subst g; simp [Tab.get, h, ih]
    · simp [g, Tab.get, ih]

variable [DecidableEq α]

/-- A key reads as what was written to it. -/
@[simp] theorem Tab.get_set_same (d : α) (t : Tab α) (i : Nat) (v : α) : Tab.get d (Tab.set d t i v) i = v := by
  unfold Tab.set
  split
  · next h => rw [Tab.get_filter_same, h]
  · exact Tab.get_put_same d t i v

/-- A write leaves every other key as it was. -/
theorem Tab.get_set_other (d e : α) (t : Tab α) (i j : Nat) (v : α) (h : j ≠ i) :
    Tab.get e (Tab.set d t i v) j = Tab.get e t j := by
  unfold Tab.set
  split
  · exact Tab.get_filter_other e t i j h
  · exact Tab.get_put_other e t i j v h

theorem Tab.get_set (d : α) (t : Tab α) (i j : Nat) (v : α) :
    Tab.get d (Tab.set d t i v) j = if j = i then v else Tab.get d t j := by
  split
  · next h => rw [h, Tab.get_set_same]
  · next h => exact Tab.get_set_other d d t i j v h

/-! ### The canonical form -/

omit [DecidableEq α] in
theorem Tab.above_weaken (t : Tab α) (a b : Nat) (h : a ≤ b) (g : Tab.above b t = true) : Tab.above a t = true := by
  cases t with
  | nil => rfl
  | cons e t =>
    obtain ⟨k, w⟩ := e
    simp only [Tab.above, Bool.and_eq_true, decide_eq_true_eq] at g ⊢
    exact ⟨by omega, g.2⟩

omit [DecidableEq α] in
theorem Tab.above_filter (t : Tab α) (f : Nat × α → Bool) (b : Nat) (g : Tab.above b t = true) :
    Tab.above b (t.filter f) = true := by
  induction t generalizing b with
  | nil => rfl
  | cons e t ih =>
    obtain ⟨k, w⟩ := e
    simp only [Tab.above, Bool.and_eq_true, decide_eq_true_eq] at g
    simp only [List.filter_cons]
    split
    · simp only [Tab.above, Bool.and_eq_true, decide_eq_true_eq]
      exact ⟨g.1, ih (k + 1) g.2⟩
    · exact ih b (by
        have := ih (k + 1) g.2
        have h := g.2
        clear this ih
        induction t generalizing k with
        | nil => rfl
        | cons e t _ =>
          obtain ⟨k', w'⟩ := e
          simp only [Tab.above, Bool.and_eq_true, decide_eq_true_eq] at h ⊢
          exact ⟨by omega, h.2⟩)

omit [DecidableEq α] in
theorem Tab.above_put (t : Tab α) (i b : Nat) (v : α) (h : b ≤ i) (g : Tab.above b t = true) :
    Tab.above b (Tab.put t i v) = true := by
  induction t generalizing b with
  | nil => simp [Tab.put, Tab.above, h]
  | cons e t ih =>
    obtain ⟨k, w⟩ := e
    simp only [Tab.above, Bool.and_eq_true, decide_eq_true_eq] at g
    simp only [Tab.put]
    split
    · simp [Tab.above, g]
    · split
      · simp only [Tab.above, Bool.and_eq_true, decide_eq_true_eq]
        exact ⟨h, by omega, g.2⟩
      · simp only [Tab.above, Bool.and_eq_true, decide_eq_true_eq]
        exact ⟨g.1, ih (k + 1) (by omega) g.2⟩

omit [DecidableEq α] in
theorem Tab.all_put (t : Tab α) (i : Nat) (v : α) (f : Nat × α → Bool) (hv : f (i, v) = true) (g : t.all f = true) :
    (Tab.put t i v).all f = true := by
  induction t with
  | nil => simp [Tab.put, hv]
  | cons e t ih =>
    obtain ⟨k, w⟩ := e
    simp only [List.all_cons, Bool.and_eq_true] at g
    simp only [Tab.put]
    split
    · next h => subst h; simp [hv, g.2]
    · split
      · simp [hv, g.1, g.2]
      · simp [g.1, ih g.2]

/-- A write keeps the canonical form. -/
theorem Tab.wf_set (d : α) (t : Tab α) (i : Nat) (v : α) (h : Tab.wf d t = true) : Tab.wf d (Tab.set d t i v) = true := by
  simp only [Tab.wf, Bool.and_eq_true] at h ⊢
  unfold Tab.set
  split
  · refine ⟨Tab.above_filter t _ 0 h.1, ?_⟩
    simp only [List.all_eq_true] at h ⊢
    intro p hp
    exact h.2 p (List.mem_filter.mp hp).1
  · next g => exact ⟨Tab.above_put t i 0 v (Nat.zero_le i) h.1, Tab.all_put t i v _ (by simp [g]) h.2⟩

/-- A byte write keeps the canonical form. -/
theorem writeBytes_wf (m : Tab Byte) (a : Nat) (bs : List Byte) (h : Tab.wf 0 m = true) :
    Tab.wf 0 (writeBytes m a bs) = true := by
  induction bs generalizing m a with
  | nil => exact h
  | cons b bs ih => exact ih _ _ (Tab.wf_set 0 m a b h)

/-- Bytes outside a write read as before. -/
theorem writeBytes_get_outside (m : Tab Byte) (a : Nat) (bs : List Byte) (x : Nat) (h : x < a ∨ a + bs.length ≤ x) :
    Tab.get 0 (writeBytes m a bs) x = Tab.get 0 m x := by
  induction bs generalizing m a with
  | nil => rfl
  | cons b bs ih =>
    simp only [List.length_cons] at h
    simp only [writeBytes]
    rw [ih _ _ (by omega), Tab.get_set_other 0 0 m a x b (by omega)]

/-- A write of bytes is read back. -/
theorem readBytes_writeBytes (m : Tab Byte) (a : Nat) (bs : List Byte) :
    readBytes (writeBytes m a bs) a bs.length = bs := by
  induction bs generalizing m a with
  | nil => rfl
  | cons b bs ih =>
    simp only [writeBytes, List.length_cons, readBytes]
    rw [ih, writeBytes_get_outside _ _ _ _ (by omega), Tab.get_set_same]

end Sys2Proof.Machine
end

