-- ==== Sys2Proof/Laws/State.lean ====
section
/-!
SUPPORT. The named updates of the state: each field after each update, and what a table holds after an update of it.
-/

namespace Sys2Proof.Machine.State

variable (s : State)

/-! ### setReg changes cfg -/

@[simp] theorem setReg_pending (o v : Nat) : (s.setReg o v).pending = s.pending := rfl
@[simp] theorem setReg_free (o v : Nat) : (s.setReg o v).free = s.free := rfl
@[simp] theorem setReg_ctr (o v : Nat) : (s.setReg o v).ctr = s.ctr := rfl
@[simp] theorem setReg_latches (o v : Nat) : (s.setReg o v).latches = s.latches := rfl
@[simp] theorem setReg_hostMem (o v : Nat) : (s.setReg o v).hostMem = s.hostMem := rfl
@[simp] theorem setReg_bulk (o v : Nat) : (s.setReg o v).bulk = s.bulk := rfl
@[simp] theorem setReg_glb (o v : Nat) : (s.setReg o v).glb = s.glb := rfl
@[simp] theorem setReg_time (o v : Nat) : (s.setReg o v).time = s.time := rfl
@[simp] theorem setReg_queues (o v : Nat) : (s.setReg o v).queues = s.queues := rfl
@[simp] theorem setReg_books (o v : Nat) : (s.setReg o v).books = s.books := rfl
@[simp] theorem setReg_notices (o v : Nat) : (s.setReg o v).notices = s.notices := rfl
@[simp] theorem setReg_nextSn (o v : Nat) : (s.setReg o v).nextSn = s.nextSn := rfl
@[simp] theorem setReg_deliveries (o v : Nat) : (s.setReg o v).deliveries = s.deliveries := rfl
@[simp] theorem setReg_msixPending (o v : Nat) : (s.setReg o v).msixPending = s.msixPending := rfl
@[simp] theorem setReg_clerk (o v : Nat) : (s.setReg o v).clerk = s.clerk := rfl
@[simp] theorem setReg_span (o v : Nat) : (s.setReg o v).span = s.span := rfl
@[simp] theorem setReg_ports (o v : Nat) : (s.setReg o v).ports = s.ports := rfl
@[simp] theorem setReg_frames (o v : Nat) : (s.setReg o v).frames = s.frames := rfl
@[simp] theorem setReg_nextFrame (o v : Nat) : (s.setReg o v).nextFrame = s.nextFrame := rfl
@[simp] theorem setReg_flt (o v : Nat) : (s.setReg o v).flt = s.flt := rfl
@[simp] theorem setReg_pwr (o v : Nat) : (s.setReg o v).pwr = s.pwr := rfl
@[simp] theorem setReg_host (o v : Nat) : (s.setReg o v).host = s.host := rfl
@[simp] theorem setReg_mem (o v : Nat) : (s.setReg o v).mem = s.mem := rfl
@[simp] theorem setReg_stock (o v : Nat) : (s.setReg o v).stock = s.stock := rfl
@[simp] theorem setReg_board (o v : Nat) : (s.setReg o v).board = s.board := rfl
@[simp] theorem setReg_dray (o v : Nat) : (s.setReg o v).dray = s.dray := rfl
@[simp] theorem setReg_bent (o v : Nat) : (s.setReg o v).bent = s.bent := rfl
@[simp] theorem setReg_stream (o v : Nat) : (s.setReg o v).stream = s.stream := rfl
@[simp] theorem setReg_joinery (o v : Nat) : (s.setReg o v).joinery = s.joinery := rfl
@[simp] theorem setReg_assay (o v : Nat) : (s.setReg o v).assay = s.assay := rfl
@[simp] theorem setReg_readData (o v : Nat) : (s.setReg o v).readData = s.readData := rfl
@[simp] theorem setReg_readBad (o v : Nat) : (s.setReg o v).readBad = s.readBad := rfl

/-! ### countN changes ctr -/

@[simp] theorem countN_pending (o n : Nat) : (s.countN o n).pending = s.pending := rfl
@[simp] theorem countN_free (o n : Nat) : (s.countN o n).free = s.free := rfl
@[simp] theorem countN_cfg (o n : Nat) : (s.countN o n).cfg = s.cfg := rfl
@[simp] theorem countN_latches (o n : Nat) : (s.countN o n).latches = s.latches := rfl
@[simp] theorem countN_hostMem (o n : Nat) : (s.countN o n).hostMem = s.hostMem := rfl
@[simp] theorem countN_bulk (o n : Nat) : (s.countN o n).bulk = s.bulk := rfl
@[simp] theorem countN_glb (o n : Nat) : (s.countN o n).glb = s.glb := rfl
@[simp] theorem countN_time (o n : Nat) : (s.countN o n).time = s.time := rfl
@[simp] theorem countN_queues (o n : Nat) : (s.countN o n).queues = s.queues := rfl
@[simp] theorem countN_books (o n : Nat) : (s.countN o n).books = s.books := rfl
@[simp] theorem countN_notices (o n : Nat) : (s.countN o n).notices = s.notices := rfl
@[simp] theorem countN_nextSn (o n : Nat) : (s.countN o n).nextSn = s.nextSn := rfl
@[simp] theorem countN_deliveries (o n : Nat) : (s.countN o n).deliveries = s.deliveries := rfl
@[simp] theorem countN_msixPending (o n : Nat) : (s.countN o n).msixPending = s.msixPending := rfl
@[simp] theorem countN_clerk (o n : Nat) : (s.countN o n).clerk = s.clerk := rfl
@[simp] theorem countN_span (o n : Nat) : (s.countN o n).span = s.span := rfl
@[simp] theorem countN_ports (o n : Nat) : (s.countN o n).ports = s.ports := rfl
@[simp] theorem countN_frames (o n : Nat) : (s.countN o n).frames = s.frames := rfl
@[simp] theorem countN_nextFrame (o n : Nat) : (s.countN o n).nextFrame = s.nextFrame := rfl
@[simp] theorem countN_flt (o n : Nat) : (s.countN o n).flt = s.flt := rfl
@[simp] theorem countN_pwr (o n : Nat) : (s.countN o n).pwr = s.pwr := rfl
@[simp] theorem countN_host (o n : Nat) : (s.countN o n).host = s.host := rfl
@[simp] theorem countN_mem (o n : Nat) : (s.countN o n).mem = s.mem := rfl
@[simp] theorem countN_stock (o n : Nat) : (s.countN o n).stock = s.stock := rfl
@[simp] theorem countN_board (o n : Nat) : (s.countN o n).board = s.board := rfl
@[simp] theorem countN_dray (o n : Nat) : (s.countN o n).dray = s.dray := rfl
@[simp] theorem countN_bent (o n : Nat) : (s.countN o n).bent = s.bent := rfl
@[simp] theorem countN_stream (o n : Nat) : (s.countN o n).stream = s.stream := rfl
@[simp] theorem countN_joinery (o n : Nat) : (s.countN o n).joinery = s.joinery := rfl
@[simp] theorem countN_assay (o n : Nat) : (s.countN o n).assay = s.assay := rfl
@[simp] theorem countN_readData (o n : Nat) : (s.countN o n).readData = s.readData := rfl
@[simp] theorem countN_readBad (o n : Nat) : (s.countN o n).readBad = s.readBad := rfl

/-! ### count changes ctr -/

@[simp] theorem count_pending (o : Nat) : (s.count o).pending = s.pending := rfl
@[simp] theorem count_free (o : Nat) : (s.count o).free = s.free := rfl
@[simp] theorem count_cfg (o : Nat) : (s.count o).cfg = s.cfg := rfl
@[simp] theorem count_latches (o : Nat) : (s.count o).latches = s.latches := rfl
@[simp] theorem count_hostMem (o : Nat) : (s.count o).hostMem = s.hostMem := rfl
@[simp] theorem count_bulk (o : Nat) : (s.count o).bulk = s.bulk := rfl
@[simp] theorem count_glb (o : Nat) : (s.count o).glb = s.glb := rfl
@[simp] theorem count_time (o : Nat) : (s.count o).time = s.time := rfl
@[simp] theorem count_queues (o : Nat) : (s.count o).queues = s.queues := rfl
@[simp] theorem count_books (o : Nat) : (s.count o).books = s.books := rfl
@[simp] theorem count_notices (o : Nat) : (s.count o).notices = s.notices := rfl
@[simp] theorem count_nextSn (o : Nat) : (s.count o).nextSn = s.nextSn := rfl
@[simp] theorem count_deliveries (o : Nat) : (s.count o).deliveries = s.deliveries := rfl
@[simp] theorem count_msixPending (o : Nat) : (s.count o).msixPending = s.msixPending := rfl
@[simp] theorem count_clerk (o : Nat) : (s.count o).clerk = s.clerk := rfl
@[simp] theorem count_span (o : Nat) : (s.count o).span = s.span := rfl
@[simp] theorem count_ports (o : Nat) : (s.count o).ports = s.ports := rfl
@[simp] theorem count_frames (o : Nat) : (s.count o).frames = s.frames := rfl
@[simp] theorem count_nextFrame (o : Nat) : (s.count o).nextFrame = s.nextFrame := rfl
@[simp] theorem count_flt (o : Nat) : (s.count o).flt = s.flt := rfl
@[simp] theorem count_pwr (o : Nat) : (s.count o).pwr = s.pwr := rfl
@[simp] theorem count_host (o : Nat) : (s.count o).host = s.host := rfl
@[simp] theorem count_mem (o : Nat) : (s.count o).mem = s.mem := rfl
@[simp] theorem count_stock (o : Nat) : (s.count o).stock = s.stock := rfl
@[simp] theorem count_board (o : Nat) : (s.count o).board = s.board := rfl
@[simp] theorem count_dray (o : Nat) : (s.count o).dray = s.dray := rfl
@[simp] theorem count_bent (o : Nat) : (s.count o).bent = s.bent := rfl
@[simp] theorem count_stream (o : Nat) : (s.count o).stream = s.stream := rfl
@[simp] theorem count_joinery (o : Nat) : (s.count o).joinery = s.joinery := rfl
@[simp] theorem count_assay (o : Nat) : (s.count o).assay = s.assay := rfl
@[simp] theorem count_readData (o : Nat) : (s.count o).readData = s.readData := rfl
@[simp] theorem count_readBad (o : Nat) : (s.count o).readBad = s.readBad := rfl

/-! ### setPort changes ports -/

@[simp] theorem setPort_pending (p : Nat) (v : Port) : (s.setPort p v).pending = s.pending := rfl
@[simp] theorem setPort_free (p : Nat) (v : Port) : (s.setPort p v).free = s.free := rfl
@[simp] theorem setPort_cfg (p : Nat) (v : Port) : (s.setPort p v).cfg = s.cfg := rfl
@[simp] theorem setPort_ctr (p : Nat) (v : Port) : (s.setPort p v).ctr = s.ctr := rfl
@[simp] theorem setPort_latches (p : Nat) (v : Port) : (s.setPort p v).latches = s.latches := rfl
@[simp] theorem setPort_hostMem (p : Nat) (v : Port) : (s.setPort p v).hostMem = s.hostMem := rfl
@[simp] theorem setPort_bulk (p : Nat) (v : Port) : (s.setPort p v).bulk = s.bulk := rfl
@[simp] theorem setPort_glb (p : Nat) (v : Port) : (s.setPort p v).glb = s.glb := rfl
@[simp] theorem setPort_time (p : Nat) (v : Port) : (s.setPort p v).time = s.time := rfl
@[simp] theorem setPort_queues (p : Nat) (v : Port) : (s.setPort p v).queues = s.queues := rfl
@[simp] theorem setPort_books (p : Nat) (v : Port) : (s.setPort p v).books = s.books := rfl
@[simp] theorem setPort_notices (p : Nat) (v : Port) : (s.setPort p v).notices = s.notices := rfl
@[simp] theorem setPort_nextSn (p : Nat) (v : Port) : (s.setPort p v).nextSn = s.nextSn := rfl
@[simp] theorem setPort_deliveries (p : Nat) (v : Port) : (s.setPort p v).deliveries = s.deliveries := rfl
@[simp] theorem setPort_msixPending (p : Nat) (v : Port) : (s.setPort p v).msixPending = s.msixPending := rfl
@[simp] theorem setPort_clerk (p : Nat) (v : Port) : (s.setPort p v).clerk = s.clerk := rfl
@[simp] theorem setPort_span (p : Nat) (v : Port) : (s.setPort p v).span = s.span := rfl
@[simp] theorem setPort_frames (p : Nat) (v : Port) : (s.setPort p v).frames = s.frames := rfl
@[simp] theorem setPort_nextFrame (p : Nat) (v : Port) : (s.setPort p v).nextFrame = s.nextFrame := rfl
@[simp] theorem setPort_flt (p : Nat) (v : Port) : (s.setPort p v).flt = s.flt := rfl
@[simp] theorem setPort_pwr (p : Nat) (v : Port) : (s.setPort p v).pwr = s.pwr := rfl
@[simp] theorem setPort_host (p : Nat) (v : Port) : (s.setPort p v).host = s.host := rfl
@[simp] theorem setPort_mem (p : Nat) (v : Port) : (s.setPort p v).mem = s.mem := rfl
@[simp] theorem setPort_stock (p : Nat) (v : Port) : (s.setPort p v).stock = s.stock := rfl
@[simp] theorem setPort_board (p : Nat) (v : Port) : (s.setPort p v).board = s.board := rfl
@[simp] theorem setPort_dray (p : Nat) (v : Port) : (s.setPort p v).dray = s.dray := rfl
@[simp] theorem setPort_bent (p : Nat) (v : Port) : (s.setPort p v).bent = s.bent := rfl
@[simp] theorem setPort_stream (p : Nat) (v : Port) : (s.setPort p v).stream = s.stream := rfl
@[simp] theorem setPort_joinery (p : Nat) (v : Port) : (s.setPort p v).joinery = s.joinery := rfl
@[simp] theorem setPort_assay (p : Nat) (v : Port) : (s.setPort p v).assay = s.assay := rfl
@[simp] theorem setPort_readData (p : Nat) (v : Port) : (s.setPort p v).readData = s.readData := rfl
@[simp] theorem setPort_readBad (p : Nat) (v : Port) : (s.setPort p v).readBad = s.readBad := rfl

/-! ### setQueue changes queues -/

@[simp] theorem setQueue_pending (q : Nat) (v : WorkQueue) : (s.setQueue q v).pending = s.pending := rfl
@[simp] theorem setQueue_free (q : Nat) (v : WorkQueue) : (s.setQueue q v).free = s.free := rfl
@[simp] theorem setQueue_cfg (q : Nat) (v : WorkQueue) : (s.setQueue q v).cfg = s.cfg := rfl
@[simp] theorem setQueue_ctr (q : Nat) (v : WorkQueue) : (s.setQueue q v).ctr = s.ctr := rfl
@[simp] theorem setQueue_latches (q : Nat) (v : WorkQueue) : (s.setQueue q v).latches = s.latches := rfl
@[simp] theorem setQueue_hostMem (q : Nat) (v : WorkQueue) : (s.setQueue q v).hostMem = s.hostMem := rfl
@[simp] theorem setQueue_bulk (q : Nat) (v : WorkQueue) : (s.setQueue q v).bulk = s.bulk := rfl
@[simp] theorem setQueue_glb (q : Nat) (v : WorkQueue) : (s.setQueue q v).glb = s.glb := rfl
@[simp] theorem setQueue_time (q : Nat) (v : WorkQueue) : (s.setQueue q v).time = s.time := rfl
@[simp] theorem setQueue_books (q : Nat) (v : WorkQueue) : (s.setQueue q v).books = s.books := rfl
@[simp] theorem setQueue_notices (q : Nat) (v : WorkQueue) : (s.setQueue q v).notices = s.notices := rfl
@[simp] theorem setQueue_nextSn (q : Nat) (v : WorkQueue) : (s.setQueue q v).nextSn = s.nextSn := rfl
@[simp] theorem setQueue_deliveries (q : Nat) (v : WorkQueue) : (s.setQueue q v).deliveries = s.deliveries := rfl
@[simp] theorem setQueue_msixPending (q : Nat) (v : WorkQueue) : (s.setQueue q v).msixPending = s.msixPending := rfl
@[simp] theorem setQueue_clerk (q : Nat) (v : WorkQueue) : (s.setQueue q v).clerk = s.clerk := rfl
@[simp] theorem setQueue_span (q : Nat) (v : WorkQueue) : (s.setQueue q v).span = s.span := rfl
@[simp] theorem setQueue_ports (q : Nat) (v : WorkQueue) : (s.setQueue q v).ports = s.ports := rfl
@[simp] theorem setQueue_frames (q : Nat) (v : WorkQueue) : (s.setQueue q v).frames = s.frames := rfl
@[simp] theorem setQueue_nextFrame (q : Nat) (v : WorkQueue) : (s.setQueue q v).nextFrame = s.nextFrame := rfl
@[simp] theorem setQueue_flt (q : Nat) (v : WorkQueue) : (s.setQueue q v).flt = s.flt := rfl
@[simp] theorem setQueue_pwr (q : Nat) (v : WorkQueue) : (s.setQueue q v).pwr = s.pwr := rfl
@[simp] theorem setQueue_host (q : Nat) (v : WorkQueue) : (s.setQueue q v).host = s.host := rfl
@[simp] theorem setQueue_mem (q : Nat) (v : WorkQueue) : (s.setQueue q v).mem = s.mem := rfl
@[simp] theorem setQueue_stock (q : Nat) (v : WorkQueue) : (s.setQueue q v).stock = s.stock := rfl
@[simp] theorem setQueue_board (q : Nat) (v : WorkQueue) : (s.setQueue q v).board = s.board := rfl
@[simp] theorem setQueue_dray (q : Nat) (v : WorkQueue) : (s.setQueue q v).dray = s.dray := rfl
@[simp] theorem setQueue_bent (q : Nat) (v : WorkQueue) : (s.setQueue q v).bent = s.bent := rfl
@[simp] theorem setQueue_stream (q : Nat) (v : WorkQueue) : (s.setQueue q v).stream = s.stream := rfl
@[simp] theorem setQueue_joinery (q : Nat) (v : WorkQueue) : (s.setQueue q v).joinery = s.joinery := rfl
@[simp] theorem setQueue_assay (q : Nat) (v : WorkQueue) : (s.setQueue q v).assay = s.assay := rfl
@[simp] theorem setQueue_readData (q : Nat) (v : WorkQueue) : (s.setQueue q v).readData = s.readData := rfl
@[simp] theorem setQueue_readBad (q : Nat) (v : WorkQueue) : (s.setQueue q v).readBad = s.readBad := rfl

/-! ### setBook changes books -/

@[simp] theorem setBook_pending (b : Nat) (v : Daybook) : (s.setBook b v).pending = s.pending := rfl
@[simp] theorem setBook_free (b : Nat) (v : Daybook) : (s.setBook b v).free = s.free := rfl
@[simp] theorem setBook_cfg (b : Nat) (v : Daybook) : (s.setBook b v).cfg = s.cfg := rfl
@[simp] theorem setBook_ctr (b : Nat) (v : Daybook) : (s.setBook b v).ctr = s.ctr := rfl
@[simp] theorem setBook_latches (b : Nat) (v : Daybook) : (s.setBook b v).latches = s.latches := rfl
@[simp] theorem setBook_hostMem (b : Nat) (v : Daybook) : (s.setBook b v).hostMem = s.hostMem := rfl
@[simp] theorem setBook_bulk (b : Nat) (v : Daybook) : (s.setBook b v).bulk = s.bulk := rfl
@[simp] theorem setBook_glb (b : Nat) (v : Daybook) : (s.setBook b v).glb = s.glb := rfl
@[simp] theorem setBook_time (b : Nat) (v : Daybook) : (s.setBook b v).time = s.time := rfl
@[simp] theorem setBook_queues (b : Nat) (v : Daybook) : (s.setBook b v).queues = s.queues := rfl
@[simp] theorem setBook_notices (b : Nat) (v : Daybook) : (s.setBook b v).notices = s.notices := rfl
@[simp] theorem setBook_nextSn (b : Nat) (v : Daybook) : (s.setBook b v).nextSn = s.nextSn := rfl
@[simp] theorem setBook_deliveries (b : Nat) (v : Daybook) : (s.setBook b v).deliveries = s.deliveries := rfl
@[simp] theorem setBook_msixPending (b : Nat) (v : Daybook) : (s.setBook b v).msixPending = s.msixPending := rfl
@[simp] theorem setBook_clerk (b : Nat) (v : Daybook) : (s.setBook b v).clerk = s.clerk := rfl
@[simp] theorem setBook_span (b : Nat) (v : Daybook) : (s.setBook b v).span = s.span := rfl
@[simp] theorem setBook_ports (b : Nat) (v : Daybook) : (s.setBook b v).ports = s.ports := rfl
@[simp] theorem setBook_frames (b : Nat) (v : Daybook) : (s.setBook b v).frames = s.frames := rfl
@[simp] theorem setBook_nextFrame (b : Nat) (v : Daybook) : (s.setBook b v).nextFrame = s.nextFrame := rfl
@[simp] theorem setBook_flt (b : Nat) (v : Daybook) : (s.setBook b v).flt = s.flt := rfl
@[simp] theorem setBook_pwr (b : Nat) (v : Daybook) : (s.setBook b v).pwr = s.pwr := rfl
@[simp] theorem setBook_host (b : Nat) (v : Daybook) : (s.setBook b v).host = s.host := rfl
@[simp] theorem setBook_mem (b : Nat) (v : Daybook) : (s.setBook b v).mem = s.mem := rfl
@[simp] theorem setBook_stock (b : Nat) (v : Daybook) : (s.setBook b v).stock = s.stock := rfl
@[simp] theorem setBook_board (b : Nat) (v : Daybook) : (s.setBook b v).board = s.board := rfl
@[simp] theorem setBook_dray (b : Nat) (v : Daybook) : (s.setBook b v).dray = s.dray := rfl
@[simp] theorem setBook_bent (b : Nat) (v : Daybook) : (s.setBook b v).bent = s.bent := rfl
@[simp] theorem setBook_stream (b : Nat) (v : Daybook) : (s.setBook b v).stream = s.stream := rfl
@[simp] theorem setBook_joinery (b : Nat) (v : Daybook) : (s.setBook b v).joinery = s.joinery := rfl
@[simp] theorem setBook_assay (b : Nat) (v : Daybook) : (s.setBook b v).assay = s.assay := rfl
@[simp] theorem setBook_readData (b : Nat) (v : Daybook) : (s.setBook b v).readData = s.readData := rfl
@[simp] theorem setBook_readBad (b : Nat) (v : Daybook) : (s.setBook b v).readBad = s.readBad := rfl

/-! ### setPtime changes time -/

@[simp] theorem setPtime_pending (p : Nat) (v : PortTime) : (s.setPtime p v).pending = s.pending := rfl
@[simp] theorem setPtime_free (p : Nat) (v : PortTime) : (s.setPtime p v).free = s.free := rfl
@[simp] theorem setPtime_cfg (p : Nat) (v : PortTime) : (s.setPtime p v).cfg = s.cfg := rfl
@[simp] theorem setPtime_ctr (p : Nat) (v : PortTime) : (s.setPtime p v).ctr = s.ctr := rfl
@[simp] theorem setPtime_latches (p : Nat) (v : PortTime) : (s.setPtime p v).latches = s.latches := rfl
@[simp] theorem setPtime_hostMem (p : Nat) (v : PortTime) : (s.setPtime p v).hostMem = s.hostMem := rfl
@[simp] theorem setPtime_bulk (p : Nat) (v : PortTime) : (s.setPtime p v).bulk = s.bulk := rfl
@[simp] theorem setPtime_glb (p : Nat) (v : PortTime) : (s.setPtime p v).glb = s.glb := rfl
@[simp] theorem setPtime_queues (p : Nat) (v : PortTime) : (s.setPtime p v).queues = s.queues := rfl
@[simp] theorem setPtime_books (p : Nat) (v : PortTime) : (s.setPtime p v).books = s.books := rfl
@[simp] theorem setPtime_notices (p : Nat) (v : PortTime) : (s.setPtime p v).notices = s.notices := rfl
@[simp] theorem setPtime_nextSn (p : Nat) (v : PortTime) : (s.setPtime p v).nextSn = s.nextSn := rfl
@[simp] theorem setPtime_deliveries (p : Nat) (v : PortTime) : (s.setPtime p v).deliveries = s.deliveries := rfl
@[simp] theorem setPtime_msixPending (p : Nat) (v : PortTime) : (s.setPtime p v).msixPending = s.msixPending := rfl
@[simp] theorem setPtime_clerk (p : Nat) (v : PortTime) : (s.setPtime p v).clerk = s.clerk := rfl
@[simp] theorem setPtime_span (p : Nat) (v : PortTime) : (s.setPtime p v).span = s.span := rfl
@[simp] theorem setPtime_ports (p : Nat) (v : PortTime) : (s.setPtime p v).ports = s.ports := rfl
@[simp] theorem setPtime_frames (p : Nat) (v : PortTime) : (s.setPtime p v).frames = s.frames := rfl
@[simp] theorem setPtime_nextFrame (p : Nat) (v : PortTime) : (s.setPtime p v).nextFrame = s.nextFrame := rfl
@[simp] theorem setPtime_flt (p : Nat) (v : PortTime) : (s.setPtime p v).flt = s.flt := rfl
@[simp] theorem setPtime_pwr (p : Nat) (v : PortTime) : (s.setPtime p v).pwr = s.pwr := rfl
@[simp] theorem setPtime_host (p : Nat) (v : PortTime) : (s.setPtime p v).host = s.host := rfl
@[simp] theorem setPtime_mem (p : Nat) (v : PortTime) : (s.setPtime p v).mem = s.mem := rfl
@[simp] theorem setPtime_stock (p : Nat) (v : PortTime) : (s.setPtime p v).stock = s.stock := rfl
@[simp] theorem setPtime_board (p : Nat) (v : PortTime) : (s.setPtime p v).board = s.board := rfl
@[simp] theorem setPtime_dray (p : Nat) (v : PortTime) : (s.setPtime p v).dray = s.dray := rfl
@[simp] theorem setPtime_bent (p : Nat) (v : PortTime) : (s.setPtime p v).bent = s.bent := rfl
@[simp] theorem setPtime_stream (p : Nat) (v : PortTime) : (s.setPtime p v).stream = s.stream := rfl
@[simp] theorem setPtime_joinery (p : Nat) (v : PortTime) : (s.setPtime p v).joinery = s.joinery := rfl
@[simp] theorem setPtime_assay (p : Nat) (v : PortTime) : (s.setPtime p v).assay = s.assay := rfl
@[simp] theorem setPtime_readData (p : Nat) (v : PortTime) : (s.setPtime p v).readData = s.readData := rfl
@[simp] theorem setPtime_readBad (p : Nat) (v : PortTime) : (s.setPtime p v).readBad = s.readBad := rfl

/-! ### setPtpInst changes time -/

@[simp] theorem setPtpInst_pending (i : Nat) (v : PtpInst) : (s.setPtpInst i v).pending = s.pending := rfl
@[simp] theorem setPtpInst_free (i : Nat) (v : PtpInst) : (s.setPtpInst i v).free = s.free := rfl
@[simp] theorem setPtpInst_cfg (i : Nat) (v : PtpInst) : (s.setPtpInst i v).cfg = s.cfg := rfl
@[simp] theorem setPtpInst_ctr (i : Nat) (v : PtpInst) : (s.setPtpInst i v).ctr = s.ctr := rfl
@[simp] theorem setPtpInst_latches (i : Nat) (v : PtpInst) : (s.setPtpInst i v).latches = s.latches := rfl
@[simp] theorem setPtpInst_hostMem (i : Nat) (v : PtpInst) : (s.setPtpInst i v).hostMem = s.hostMem := rfl
@[simp] theorem setPtpInst_bulk (i : Nat) (v : PtpInst) : (s.setPtpInst i v).bulk = s.bulk := rfl
@[simp] theorem setPtpInst_glb (i : Nat) (v : PtpInst) : (s.setPtpInst i v).glb = s.glb := rfl
@[simp] theorem setPtpInst_queues (i : Nat) (v : PtpInst) : (s.setPtpInst i v).queues = s.queues := rfl
@[simp] theorem setPtpInst_books (i : Nat) (v : PtpInst) : (s.setPtpInst i v).books = s.books := rfl
@[simp] theorem setPtpInst_notices (i : Nat) (v : PtpInst) : (s.setPtpInst i v).notices = s.notices := rfl
@[simp] theorem setPtpInst_nextSn (i : Nat) (v : PtpInst) : (s.setPtpInst i v).nextSn = s.nextSn := rfl
@[simp] theorem setPtpInst_deliveries (i : Nat) (v : PtpInst) : (s.setPtpInst i v).deliveries = s.deliveries := rfl
@[simp] theorem setPtpInst_msixPending (i : Nat) (v : PtpInst) : (s.setPtpInst i v).msixPending = s.msixPending := rfl
@[simp] theorem setPtpInst_clerk (i : Nat) (v : PtpInst) : (s.setPtpInst i v).clerk = s.clerk := rfl
@[simp] theorem setPtpInst_span (i : Nat) (v : PtpInst) : (s.setPtpInst i v).span = s.span := rfl
@[simp] theorem setPtpInst_ports (i : Nat) (v : PtpInst) : (s.setPtpInst i v).ports = s.ports := rfl
@[simp] theorem setPtpInst_frames (i : Nat) (v : PtpInst) : (s.setPtpInst i v).frames = s.frames := rfl
@[simp] theorem setPtpInst_nextFrame (i : Nat) (v : PtpInst) : (s.setPtpInst i v).nextFrame = s.nextFrame := rfl
@[simp] theorem setPtpInst_flt (i : Nat) (v : PtpInst) : (s.setPtpInst i v).flt = s.flt := rfl
@[simp] theorem setPtpInst_pwr (i : Nat) (v : PtpInst) : (s.setPtpInst i v).pwr = s.pwr := rfl
@[simp] theorem setPtpInst_host (i : Nat) (v : PtpInst) : (s.setPtpInst i v).host = s.host := rfl
@[simp] theorem setPtpInst_mem (i : Nat) (v : PtpInst) : (s.setPtpInst i v).mem = s.mem := rfl
@[simp] theorem setPtpInst_stock (i : Nat) (v : PtpInst) : (s.setPtpInst i v).stock = s.stock := rfl
@[simp] theorem setPtpInst_board (i : Nat) (v : PtpInst) : (s.setPtpInst i v).board = s.board := rfl
@[simp] theorem setPtpInst_dray (i : Nat) (v : PtpInst) : (s.setPtpInst i v).dray = s.dray := rfl
@[simp] theorem setPtpInst_bent (i : Nat) (v : PtpInst) : (s.setPtpInst i v).bent = s.bent := rfl
@[simp] theorem setPtpInst_stream (i : Nat) (v : PtpInst) : (s.setPtpInst i v).stream = s.stream := rfl
@[simp] theorem setPtpInst_joinery (i : Nat) (v : PtpInst) : (s.setPtpInst i v).joinery = s.joinery := rfl
@[simp] theorem setPtpInst_assay (i : Nat) (v : PtpInst) : (s.setPtpInst i v).assay = s.assay := rfl
@[simp] theorem setPtpInst_readData (i : Nat) (v : PtpInst) : (s.setPtpInst i v).readData = s.readData := rfl
@[simp] theorem setPtpInst_readBad (i : Nat) (v : PtpInst) : (s.setPtpInst i v).readBad = s.readBad := rfl

/-! ### setBench changes clerk -/

@[simp] theorem setBench_pending (b : Nat) (v : Bench) : (s.setBench b v).pending = s.pending := rfl
@[simp] theorem setBench_free (b : Nat) (v : Bench) : (s.setBench b v).free = s.free := rfl
@[simp] theorem setBench_cfg (b : Nat) (v : Bench) : (s.setBench b v).cfg = s.cfg := rfl
@[simp] theorem setBench_ctr (b : Nat) (v : Bench) : (s.setBench b v).ctr = s.ctr := rfl
@[simp] theorem setBench_latches (b : Nat) (v : Bench) : (s.setBench b v).latches = s.latches := rfl
@[simp] theorem setBench_hostMem (b : Nat) (v : Bench) : (s.setBench b v).hostMem = s.hostMem := rfl
@[simp] theorem setBench_bulk (b : Nat) (v : Bench) : (s.setBench b v).bulk = s.bulk := rfl
@[simp] theorem setBench_glb (b : Nat) (v : Bench) : (s.setBench b v).glb = s.glb := rfl
@[simp] theorem setBench_time (b : Nat) (v : Bench) : (s.setBench b v).time = s.time := rfl
@[simp] theorem setBench_queues (b : Nat) (v : Bench) : (s.setBench b v).queues = s.queues := rfl
@[simp] theorem setBench_books (b : Nat) (v : Bench) : (s.setBench b v).books = s.books := rfl
@[simp] theorem setBench_notices (b : Nat) (v : Bench) : (s.setBench b v).notices = s.notices := rfl
@[simp] theorem setBench_nextSn (b : Nat) (v : Bench) : (s.setBench b v).nextSn = s.nextSn := rfl
@[simp] theorem setBench_deliveries (b : Nat) (v : Bench) : (s.setBench b v).deliveries = s.deliveries := rfl
@[simp] theorem setBench_msixPending (b : Nat) (v : Bench) : (s.setBench b v).msixPending = s.msixPending := rfl
@[simp] theorem setBench_span (b : Nat) (v : Bench) : (s.setBench b v).span = s.span := rfl
@[simp] theorem setBench_ports (b : Nat) (v : Bench) : (s.setBench b v).ports = s.ports := rfl
@[simp] theorem setBench_frames (b : Nat) (v : Bench) : (s.setBench b v).frames = s.frames := rfl
@[simp] theorem setBench_nextFrame (b : Nat) (v : Bench) : (s.setBench b v).nextFrame = s.nextFrame := rfl
@[simp] theorem setBench_flt (b : Nat) (v : Bench) : (s.setBench b v).flt = s.flt := rfl
@[simp] theorem setBench_pwr (b : Nat) (v : Bench) : (s.setBench b v).pwr = s.pwr := rfl
@[simp] theorem setBench_host (b : Nat) (v : Bench) : (s.setBench b v).host = s.host := rfl
@[simp] theorem setBench_mem (b : Nat) (v : Bench) : (s.setBench b v).mem = s.mem := rfl
@[simp] theorem setBench_stock (b : Nat) (v : Bench) : (s.setBench b v).stock = s.stock := rfl
@[simp] theorem setBench_board (b : Nat) (v : Bench) : (s.setBench b v).board = s.board := rfl
@[simp] theorem setBench_dray (b : Nat) (v : Bench) : (s.setBench b v).dray = s.dray := rfl
@[simp] theorem setBench_bent (b : Nat) (v : Bench) : (s.setBench b v).bent = s.bent := rfl
@[simp] theorem setBench_stream (b : Nat) (v : Bench) : (s.setBench b v).stream = s.stream := rfl
@[simp] theorem setBench_joinery (b : Nat) (v : Bench) : (s.setBench b v).joinery = s.joinery := rfl
@[simp] theorem setBench_assay (b : Nat) (v : Bench) : (s.setBench b v).assay = s.assay := rfl
@[simp] theorem setBench_readData (b : Nat) (v : Bench) : (s.setBench b v).readData = s.readData := rfl
@[simp] theorem setBench_readBad (b : Nat) (v : Bench) : (s.setBench b v).readBad = s.readBad := rfl

/-! ### setFrame changes frames -/

@[simp] theorem setFrame_pending (i : Nat) (v : Option Frame) : (s.setFrame i v).pending = s.pending := rfl
@[simp] theorem setFrame_free (i : Nat) (v : Option Frame) : (s.setFrame i v).free = s.free := rfl
@[simp] theorem setFrame_cfg (i : Nat) (v : Option Frame) : (s.setFrame i v).cfg = s.cfg := rfl
@[simp] theorem setFrame_ctr (i : Nat) (v : Option Frame) : (s.setFrame i v).ctr = s.ctr := rfl
@[simp] theorem setFrame_latches (i : Nat) (v : Option Frame) : (s.setFrame i v).latches = s.latches := rfl
@[simp] theorem setFrame_hostMem (i : Nat) (v : Option Frame) : (s.setFrame i v).hostMem = s.hostMem := rfl
@[simp] theorem setFrame_bulk (i : Nat) (v : Option Frame) : (s.setFrame i v).bulk = s.bulk := rfl
@[simp] theorem setFrame_glb (i : Nat) (v : Option Frame) : (s.setFrame i v).glb = s.glb := rfl
@[simp] theorem setFrame_time (i : Nat) (v : Option Frame) : (s.setFrame i v).time = s.time := rfl
@[simp] theorem setFrame_queues (i : Nat) (v : Option Frame) : (s.setFrame i v).queues = s.queues := rfl
@[simp] theorem setFrame_books (i : Nat) (v : Option Frame) : (s.setFrame i v).books = s.books := rfl
@[simp] theorem setFrame_notices (i : Nat) (v : Option Frame) : (s.setFrame i v).notices = s.notices := rfl
@[simp] theorem setFrame_nextSn (i : Nat) (v : Option Frame) : (s.setFrame i v).nextSn = s.nextSn := rfl
@[simp] theorem setFrame_deliveries (i : Nat) (v : Option Frame) : (s.setFrame i v).deliveries = s.deliveries := rfl
@[simp] theorem setFrame_msixPending (i : Nat) (v : Option Frame) : (s.setFrame i v).msixPending = s.msixPending := rfl
@[simp] theorem setFrame_clerk (i : Nat) (v : Option Frame) : (s.setFrame i v).clerk = s.clerk := rfl
@[simp] theorem setFrame_span (i : Nat) (v : Option Frame) : (s.setFrame i v).span = s.span := rfl
@[simp] theorem setFrame_ports (i : Nat) (v : Option Frame) : (s.setFrame i v).ports = s.ports := rfl
@[simp] theorem setFrame_nextFrame (i : Nat) (v : Option Frame) : (s.setFrame i v).nextFrame = s.nextFrame := rfl
@[simp] theorem setFrame_flt (i : Nat) (v : Option Frame) : (s.setFrame i v).flt = s.flt := rfl
@[simp] theorem setFrame_pwr (i : Nat) (v : Option Frame) : (s.setFrame i v).pwr = s.pwr := rfl
@[simp] theorem setFrame_host (i : Nat) (v : Option Frame) : (s.setFrame i v).host = s.host := rfl
@[simp] theorem setFrame_mem (i : Nat) (v : Option Frame) : (s.setFrame i v).mem = s.mem := rfl
@[simp] theorem setFrame_stock (i : Nat) (v : Option Frame) : (s.setFrame i v).stock = s.stock := rfl
@[simp] theorem setFrame_board (i : Nat) (v : Option Frame) : (s.setFrame i v).board = s.board := rfl
@[simp] theorem setFrame_dray (i : Nat) (v : Option Frame) : (s.setFrame i v).dray = s.dray := rfl
@[simp] theorem setFrame_bent (i : Nat) (v : Option Frame) : (s.setFrame i v).bent = s.bent := rfl
@[simp] theorem setFrame_stream (i : Nat) (v : Option Frame) : (s.setFrame i v).stream = s.stream := rfl
@[simp] theorem setFrame_joinery (i : Nat) (v : Option Frame) : (s.setFrame i v).joinery = s.joinery := rfl
@[simp] theorem setFrame_assay (i : Nat) (v : Option Frame) : (s.setFrame i v).assay = s.assay := rfl
@[simp] theorem setFrame_readData (i : Nat) (v : Option Frame) : (s.setFrame i v).readData = s.readData := rfl
@[simp] theorem setFrame_readBad (i : Nat) (v : Option Frame) : (s.setFrame i v).readBad = s.readBad := rfl

/-! ### setHostFn changes host -/

@[simp] theorem setHostFn_pending (f : Nat) (v : HostFn) : (s.setHostFn f v).pending = s.pending := rfl
@[simp] theorem setHostFn_free (f : Nat) (v : HostFn) : (s.setHostFn f v).free = s.free := rfl
@[simp] theorem setHostFn_cfg (f : Nat) (v : HostFn) : (s.setHostFn f v).cfg = s.cfg := rfl
@[simp] theorem setHostFn_ctr (f : Nat) (v : HostFn) : (s.setHostFn f v).ctr = s.ctr := rfl
@[simp] theorem setHostFn_latches (f : Nat) (v : HostFn) : (s.setHostFn f v).latches = s.latches := rfl
@[simp] theorem setHostFn_hostMem (f : Nat) (v : HostFn) : (s.setHostFn f v).hostMem = s.hostMem := rfl
@[simp] theorem setHostFn_bulk (f : Nat) (v : HostFn) : (s.setHostFn f v).bulk = s.bulk := rfl
@[simp] theorem setHostFn_glb (f : Nat) (v : HostFn) : (s.setHostFn f v).glb = s.glb := rfl
@[simp] theorem setHostFn_time (f : Nat) (v : HostFn) : (s.setHostFn f v).time = s.time := rfl
@[simp] theorem setHostFn_queues (f : Nat) (v : HostFn) : (s.setHostFn f v).queues = s.queues := rfl
@[simp] theorem setHostFn_books (f : Nat) (v : HostFn) : (s.setHostFn f v).books = s.books := rfl
@[simp] theorem setHostFn_notices (f : Nat) (v : HostFn) : (s.setHostFn f v).notices = s.notices := rfl
@[simp] theorem setHostFn_nextSn (f : Nat) (v : HostFn) : (s.setHostFn f v).nextSn = s.nextSn := rfl
@[simp] theorem setHostFn_deliveries (f : Nat) (v : HostFn) : (s.setHostFn f v).deliveries = s.deliveries := rfl
@[simp] theorem setHostFn_msixPending (f : Nat) (v : HostFn) : (s.setHostFn f v).msixPending = s.msixPending := rfl
@[simp] theorem setHostFn_clerk (f : Nat) (v : HostFn) : (s.setHostFn f v).clerk = s.clerk := rfl
@[simp] theorem setHostFn_span (f : Nat) (v : HostFn) : (s.setHostFn f v).span = s.span := rfl
@[simp] theorem setHostFn_ports (f : Nat) (v : HostFn) : (s.setHostFn f v).ports = s.ports := rfl
@[simp] theorem setHostFn_frames (f : Nat) (v : HostFn) : (s.setHostFn f v).frames = s.frames := rfl
@[simp] theorem setHostFn_nextFrame (f : Nat) (v : HostFn) : (s.setHostFn f v).nextFrame = s.nextFrame := rfl
@[simp] theorem setHostFn_flt (f : Nat) (v : HostFn) : (s.setHostFn f v).flt = s.flt := rfl
@[simp] theorem setHostFn_pwr (f : Nat) (v : HostFn) : (s.setHostFn f v).pwr = s.pwr := rfl
@[simp] theorem setHostFn_mem (f : Nat) (v : HostFn) : (s.setHostFn f v).mem = s.mem := rfl
@[simp] theorem setHostFn_stock (f : Nat) (v : HostFn) : (s.setHostFn f v).stock = s.stock := rfl
@[simp] theorem setHostFn_board (f : Nat) (v : HostFn) : (s.setHostFn f v).board = s.board := rfl
@[simp] theorem setHostFn_dray (f : Nat) (v : HostFn) : (s.setHostFn f v).dray = s.dray := rfl
@[simp] theorem setHostFn_bent (f : Nat) (v : HostFn) : (s.setHostFn f v).bent = s.bent := rfl
@[simp] theorem setHostFn_stream (f : Nat) (v : HostFn) : (s.setHostFn f v).stream = s.stream := rfl
@[simp] theorem setHostFn_joinery (f : Nat) (v : HostFn) : (s.setHostFn f v).joinery = s.joinery := rfl
@[simp] theorem setHostFn_assay (f : Nat) (v : HostFn) : (s.setHostFn f v).assay = s.assay := rfl
@[simp] theorem setHostFn_readData (f : Nat) (v : HostFn) : (s.setHostFn f v).readData = s.readData := rfl
@[simp] theorem setHostFn_readBad (f : Nat) (v : HostFn) : (s.setHostFn f v).readBad = s.readBad := rfl

/-! ### setBank changes stock -/

@[simp] theorem setBank_pending (b : Nat) (v : Bank) : (s.setBank b v).pending = s.pending := rfl
@[simp] theorem setBank_free (b : Nat) (v : Bank) : (s.setBank b v).free = s.free := rfl
@[simp] theorem setBank_cfg (b : Nat) (v : Bank) : (s.setBank b v).cfg = s.cfg := rfl
@[simp] theorem setBank_ctr (b : Nat) (v : Bank) : (s.setBank b v).ctr = s.ctr := rfl
@[simp] theorem setBank_latches (b : Nat) (v : Bank) : (s.setBank b v).latches = s.latches := rfl
@[simp] theorem setBank_hostMem (b : Nat) (v : Bank) : (s.setBank b v).hostMem = s.hostMem := rfl
@[simp] theorem setBank_bulk (b : Nat) (v : Bank) : (s.setBank b v).bulk = s.bulk := rfl
@[simp] theorem setBank_glb (b : Nat) (v : Bank) : (s.setBank b v).glb = s.glb := rfl
@[simp] theorem setBank_time (b : Nat) (v : Bank) : (s.setBank b v).time = s.time := rfl
@[simp] theorem setBank_queues (b : Nat) (v : Bank) : (s.setBank b v).queues = s.queues := rfl
@[simp] theorem setBank_books (b : Nat) (v : Bank) : (s.setBank b v).books = s.books := rfl
@[simp] theorem setBank_notices (b : Nat) (v : Bank) : (s.setBank b v).notices = s.notices := rfl
@[simp] theorem setBank_nextSn (b : Nat) (v : Bank) : (s.setBank b v).nextSn = s.nextSn := rfl
@[simp] theorem setBank_deliveries (b : Nat) (v : Bank) : (s.setBank b v).deliveries = s.deliveries := rfl
@[simp] theorem setBank_msixPending (b : Nat) (v : Bank) : (s.setBank b v).msixPending = s.msixPending := rfl
@[simp] theorem setBank_clerk (b : Nat) (v : Bank) : (s.setBank b v).clerk = s.clerk := rfl
@[simp] theorem setBank_span (b : Nat) (v : Bank) : (s.setBank b v).span = s.span := rfl
@[simp] theorem setBank_ports (b : Nat) (v : Bank) : (s.setBank b v).ports = s.ports := rfl
@[simp] theorem setBank_frames (b : Nat) (v : Bank) : (s.setBank b v).frames = s.frames := rfl
@[simp] theorem setBank_nextFrame (b : Nat) (v : Bank) : (s.setBank b v).nextFrame = s.nextFrame := rfl
@[simp] theorem setBank_flt (b : Nat) (v : Bank) : (s.setBank b v).flt = s.flt := rfl
@[simp] theorem setBank_pwr (b : Nat) (v : Bank) : (s.setBank b v).pwr = s.pwr := rfl
@[simp] theorem setBank_host (b : Nat) (v : Bank) : (s.setBank b v).host = s.host := rfl
@[simp] theorem setBank_mem (b : Nat) (v : Bank) : (s.setBank b v).mem = s.mem := rfl
@[simp] theorem setBank_board (b : Nat) (v : Bank) : (s.setBank b v).board = s.board := rfl
@[simp] theorem setBank_dray (b : Nat) (v : Bank) : (s.setBank b v).dray = s.dray := rfl
@[simp] theorem setBank_bent (b : Nat) (v : Bank) : (s.setBank b v).bent = s.bent := rfl
@[simp] theorem setBank_stream (b : Nat) (v : Bank) : (s.setBank b v).stream = s.stream := rfl
@[simp] theorem setBank_joinery (b : Nat) (v : Bank) : (s.setBank b v).joinery = s.joinery := rfl
@[simp] theorem setBank_assay (b : Nat) (v : Bank) : (s.setBank b v).assay = s.assay := rfl
@[simp] theorem setBank_readData (b : Nat) (v : Bank) : (s.setBank b v).readData = s.readData := rfl
@[simp] theorem setBank_readBad (b : Nat) (v : Bank) : (s.setBank b v).readBad = s.readBad := rfl

/-! ### advance changes time -/

@[simp] theorem advance_pending (k : Nat) : (s.advance k).pending = s.pending := rfl
@[simp] theorem advance_free (k : Nat) : (s.advance k).free = s.free := rfl
@[simp] theorem advance_cfg (k : Nat) : (s.advance k).cfg = s.cfg := rfl
@[simp] theorem advance_ctr (k : Nat) : (s.advance k).ctr = s.ctr := rfl
@[simp] theorem advance_latches (k : Nat) : (s.advance k).latches = s.latches := rfl
@[simp] theorem advance_hostMem (k : Nat) : (s.advance k).hostMem = s.hostMem := rfl
@[simp] theorem advance_bulk (k : Nat) : (s.advance k).bulk = s.bulk := rfl
@[simp] theorem advance_glb (k : Nat) : (s.advance k).glb = s.glb := rfl
@[simp] theorem advance_queues (k : Nat) : (s.advance k).queues = s.queues := rfl
@[simp] theorem advance_books (k : Nat) : (s.advance k).books = s.books := rfl
@[simp] theorem advance_notices (k : Nat) : (s.advance k).notices = s.notices := rfl
@[simp] theorem advance_nextSn (k : Nat) : (s.advance k).nextSn = s.nextSn := rfl
@[simp] theorem advance_deliveries (k : Nat) : (s.advance k).deliveries = s.deliveries := rfl
@[simp] theorem advance_msixPending (k : Nat) : (s.advance k).msixPending = s.msixPending := rfl
@[simp] theorem advance_clerk (k : Nat) : (s.advance k).clerk = s.clerk := rfl
@[simp] theorem advance_span (k : Nat) : (s.advance k).span = s.span := rfl
@[simp] theorem advance_ports (k : Nat) : (s.advance k).ports = s.ports := rfl
@[simp] theorem advance_frames (k : Nat) : (s.advance k).frames = s.frames := rfl
@[simp] theorem advance_nextFrame (k : Nat) : (s.advance k).nextFrame = s.nextFrame := rfl
@[simp] theorem advance_flt (k : Nat) : (s.advance k).flt = s.flt := rfl
@[simp] theorem advance_pwr (k : Nat) : (s.advance k).pwr = s.pwr := rfl
@[simp] theorem advance_host (k : Nat) : (s.advance k).host = s.host := rfl
@[simp] theorem advance_mem (k : Nat) : (s.advance k).mem = s.mem := rfl
@[simp] theorem advance_stock (k : Nat) : (s.advance k).stock = s.stock := rfl
@[simp] theorem advance_board (k : Nat) : (s.advance k).board = s.board := rfl
@[simp] theorem advance_dray (k : Nat) : (s.advance k).dray = s.dray := rfl
@[simp] theorem advance_bent (k : Nat) : (s.advance k).bent = s.bent := rfl
@[simp] theorem advance_stream (k : Nat) : (s.advance k).stream = s.stream := rfl
@[simp] theorem advance_joinery (k : Nat) : (s.advance k).joinery = s.joinery := rfl
@[simp] theorem advance_assay (k : Nat) : (s.advance k).assay = s.assay := rfl
@[simp] theorem advance_readData (k : Nat) : (s.advance k).readData = s.readData := rfl
@[simp] theorem advance_readBad (k : Nat) : (s.advance k).readBad = s.readBad := rfl

/-! ### writeHost changes hostMem -/

@[simp] theorem writeHost_pending (f a : Nat) (v : List Byte) : (s.writeHost f a v).pending = s.pending := rfl
@[simp] theorem writeHost_free (f a : Nat) (v : List Byte) : (s.writeHost f a v).free = s.free := rfl
@[simp] theorem writeHost_cfg (f a : Nat) (v : List Byte) : (s.writeHost f a v).cfg = s.cfg := rfl
@[simp] theorem writeHost_ctr (f a : Nat) (v : List Byte) : (s.writeHost f a v).ctr = s.ctr := rfl
@[simp] theorem writeHost_latches (f a : Nat) (v : List Byte) : (s.writeHost f a v).latches = s.latches := rfl
@[simp] theorem writeHost_bulk (f a : Nat) (v : List Byte) : (s.writeHost f a v).bulk = s.bulk := rfl
@[simp] theorem writeHost_glb (f a : Nat) (v : List Byte) : (s.writeHost f a v).glb = s.glb := rfl
@[simp] theorem writeHost_time (f a : Nat) (v : List Byte) : (s.writeHost f a v).time = s.time := rfl
@[simp] theorem writeHost_queues (f a : Nat) (v : List Byte) : (s.writeHost f a v).queues = s.queues := rfl
@[simp] theorem writeHost_books (f a : Nat) (v : List Byte) : (s.writeHost f a v).books = s.books := rfl
@[simp] theorem writeHost_notices (f a : Nat) (v : List Byte) : (s.writeHost f a v).notices = s.notices := rfl
@[simp] theorem writeHost_nextSn (f a : Nat) (v : List Byte) : (s.writeHost f a v).nextSn = s.nextSn := rfl
@[simp] theorem writeHost_deliveries (f a : Nat) (v : List Byte) : (s.writeHost f a v).deliveries = s.deliveries := rfl
@[simp] theorem writeHost_msixPending (f a : Nat) (v : List Byte) : (s.writeHost f a v).msixPending = s.msixPending := rfl
@[simp] theorem writeHost_clerk (f a : Nat) (v : List Byte) : (s.writeHost f a v).clerk = s.clerk := rfl
@[simp] theorem writeHost_span (f a : Nat) (v : List Byte) : (s.writeHost f a v).span = s.span := rfl
@[simp] theorem writeHost_ports (f a : Nat) (v : List Byte) : (s.writeHost f a v).ports = s.ports := rfl
@[simp] theorem writeHost_frames (f a : Nat) (v : List Byte) : (s.writeHost f a v).frames = s.frames := rfl
@[simp] theorem writeHost_nextFrame (f a : Nat) (v : List Byte) : (s.writeHost f a v).nextFrame = s.nextFrame := rfl
@[simp] theorem writeHost_flt (f a : Nat) (v : List Byte) : (s.writeHost f a v).flt = s.flt := rfl
@[simp] theorem writeHost_pwr (f a : Nat) (v : List Byte) : (s.writeHost f a v).pwr = s.pwr := rfl
@[simp] theorem writeHost_host (f a : Nat) (v : List Byte) : (s.writeHost f a v).host = s.host := rfl
@[simp] theorem writeHost_mem (f a : Nat) (v : List Byte) : (s.writeHost f a v).mem = s.mem := rfl
@[simp] theorem writeHost_stock (f a : Nat) (v : List Byte) : (s.writeHost f a v).stock = s.stock := rfl
@[simp] theorem writeHost_board (f a : Nat) (v : List Byte) : (s.writeHost f a v).board = s.board := rfl
@[simp] theorem writeHost_dray (f a : Nat) (v : List Byte) : (s.writeHost f a v).dray = s.dray := rfl
@[simp] theorem writeHost_bent (f a : Nat) (v : List Byte) : (s.writeHost f a v).bent = s.bent := rfl
@[simp] theorem writeHost_stream (f a : Nat) (v : List Byte) : (s.writeHost f a v).stream = s.stream := rfl
@[simp] theorem writeHost_joinery (f a : Nat) (v : List Byte) : (s.writeHost f a v).joinery = s.joinery := rfl
@[simp] theorem writeHost_assay (f a : Nat) (v : List Byte) : (s.writeHost f a v).assay = s.assay := rfl
@[simp] theorem writeHost_readData (f a : Nat) (v : List Byte) : (s.writeHost f a v).readData = s.readData := rfl
@[simp] theorem writeHost_readBad (f a : Nat) (v : List Byte) : (s.writeHost f a v).readBad = s.readBad := rfl

/-! ### notify changes notices -/

@[simp] theorem notify_pending (n : Notice) : (s.notify n).pending = s.pending := rfl
@[simp] theorem notify_free (n : Notice) : (s.notify n).free = s.free := rfl
@[simp] theorem notify_cfg (n : Notice) : (s.notify n).cfg = s.cfg := rfl
@[simp] theorem notify_ctr (n : Notice) : (s.notify n).ctr = s.ctr := rfl
@[simp] theorem notify_latches (n : Notice) : (s.notify n).latches = s.latches := rfl
@[simp] theorem notify_hostMem (n : Notice) : (s.notify n).hostMem = s.hostMem := rfl
@[simp] theorem notify_bulk (n : Notice) : (s.notify n).bulk = s.bulk := rfl
@[simp] theorem notify_glb (n : Notice) : (s.notify n).glb = s.glb := rfl
@[simp] theorem notify_time (n : Notice) : (s.notify n).time = s.time := rfl
@[simp] theorem notify_queues (n : Notice) : (s.notify n).queues = s.queues := rfl
@[simp] theorem notify_books (n : Notice) : (s.notify n).books = s.books := rfl
@[simp] theorem notify_nextSn (n : Notice) : (s.notify n).nextSn = s.nextSn := rfl
@[simp] theorem notify_deliveries (n : Notice) : (s.notify n).deliveries = s.deliveries := rfl
@[simp] theorem notify_msixPending (n : Notice) : (s.notify n).msixPending = s.msixPending := rfl
@[simp] theorem notify_clerk (n : Notice) : (s.notify n).clerk = s.clerk := rfl
@[simp] theorem notify_span (n : Notice) : (s.notify n).span = s.span := rfl
@[simp] theorem notify_ports (n : Notice) : (s.notify n).ports = s.ports := rfl
@[simp] theorem notify_frames (n : Notice) : (s.notify n).frames = s.frames := rfl
@[simp] theorem notify_nextFrame (n : Notice) : (s.notify n).nextFrame = s.nextFrame := rfl
@[simp] theorem notify_flt (n : Notice) : (s.notify n).flt = s.flt := rfl
@[simp] theorem notify_pwr (n : Notice) : (s.notify n).pwr = s.pwr := rfl
@[simp] theorem notify_host (n : Notice) : (s.notify n).host = s.host := rfl
@[simp] theorem notify_mem (n : Notice) : (s.notify n).mem = s.mem := rfl
@[simp] theorem notify_stock (n : Notice) : (s.notify n).stock = s.stock := rfl
@[simp] theorem notify_board (n : Notice) : (s.notify n).board = s.board := rfl
@[simp] theorem notify_dray (n : Notice) : (s.notify n).dray = s.dray := rfl
@[simp] theorem notify_bent (n : Notice) : (s.notify n).bent = s.bent := rfl
@[simp] theorem notify_stream (n : Notice) : (s.notify n).stream = s.stream := rfl
@[simp] theorem notify_joinery (n : Notice) : (s.notify n).joinery = s.joinery := rfl
@[simp] theorem notify_assay (n : Notice) : (s.notify n).assay = s.assay := rfl
@[simp] theorem notify_readData (n : Notice) : (s.notify n).readData = s.readData := rfl
@[simp] theorem notify_readBad (n : Notice) : (s.notify n).readBad = s.readBad := rfl

/-! ### setSource changes flt -/

@[simp] theorem setSource_pending (n : Nat) (v : FaultSource) : (s.setSource n v).pending = s.pending := rfl
@[simp] theorem setSource_free (n : Nat) (v : FaultSource) : (s.setSource n v).free = s.free := rfl
@[simp] theorem setSource_cfg (n : Nat) (v : FaultSource) : (s.setSource n v).cfg = s.cfg := rfl
@[simp] theorem setSource_ctr (n : Nat) (v : FaultSource) : (s.setSource n v).ctr = s.ctr := rfl
@[simp] theorem setSource_latches (n : Nat) (v : FaultSource) : (s.setSource n v).latches = s.latches := rfl
@[simp] theorem setSource_hostMem (n : Nat) (v : FaultSource) : (s.setSource n v).hostMem = s.hostMem := rfl
@[simp] theorem setSource_bulk (n : Nat) (v : FaultSource) : (s.setSource n v).bulk = s.bulk := rfl
@[simp] theorem setSource_glb (n : Nat) (v : FaultSource) : (s.setSource n v).glb = s.glb := rfl
@[simp] theorem setSource_time (n : Nat) (v : FaultSource) : (s.setSource n v).time = s.time := rfl
@[simp] theorem setSource_queues (n : Nat) (v : FaultSource) : (s.setSource n v).queues = s.queues := rfl
@[simp] theorem setSource_books (n : Nat) (v : FaultSource) : (s.setSource n v).books = s.books := rfl
@[simp] theorem setSource_notices (n : Nat) (v : FaultSource) : (s.setSource n v).notices = s.notices := rfl
@[simp] theorem setSource_nextSn (n : Nat) (v : FaultSource) : (s.setSource n v).nextSn = s.nextSn := rfl
@[simp] theorem setSource_deliveries (n : Nat) (v : FaultSource) : (s.setSource n v).deliveries = s.deliveries := rfl
@[simp] theorem setSource_msixPending (n : Nat) (v : FaultSource) : (s.setSource n v).msixPending = s.msixPending := rfl
@[simp] theorem setSource_clerk (n : Nat) (v : FaultSource) : (s.setSource n v).clerk = s.clerk := rfl
@[simp] theorem setSource_span (n : Nat) (v : FaultSource) : (s.setSource n v).span = s.span := rfl
@[simp] theorem setSource_ports (n : Nat) (v : FaultSource) : (s.setSource n v).ports = s.ports := rfl
@[simp] theorem setSource_frames (n : Nat) (v : FaultSource) : (s.setSource n v).frames = s.frames := rfl
@[simp] theorem setSource_nextFrame (n : Nat) (v : FaultSource) : (s.setSource n v).nextFrame = s.nextFrame := rfl
@[simp] theorem setSource_pwr (n : Nat) (v : FaultSource) : (s.setSource n v).pwr = s.pwr := rfl
@[simp] theorem setSource_host (n : Nat) (v : FaultSource) : (s.setSource n v).host = s.host := rfl
@[simp] theorem setSource_mem (n : Nat) (v : FaultSource) : (s.setSource n v).mem = s.mem := rfl
@[simp] theorem setSource_stock (n : Nat) (v : FaultSource) : (s.setSource n v).stock = s.stock := rfl
@[simp] theorem setSource_board (n : Nat) (v : FaultSource) : (s.setSource n v).board = s.board := rfl
@[simp] theorem setSource_dray (n : Nat) (v : FaultSource) : (s.setSource n v).dray = s.dray := rfl
@[simp] theorem setSource_bent (n : Nat) (v : FaultSource) : (s.setSource n v).bent = s.bent := rfl
@[simp] theorem setSource_stream (n : Nat) (v : FaultSource) : (s.setSource n v).stream = s.stream := rfl
@[simp] theorem setSource_joinery (n : Nat) (v : FaultSource) : (s.setSource n v).joinery = s.joinery := rfl
@[simp] theorem setSource_assay (n : Nat) (v : FaultSource) : (s.setSource n v).assay = s.assay := rfl
@[simp] theorem setSource_readData (n : Nat) (v : FaultSource) : (s.setSource n v).readData = s.readData := rfl
@[simp] theorem setSource_readBad (n : Nat) (v : FaultSource) : (s.setSource n v).readBad = s.readBad := rfl

/-! ### setEntry changes stream -/

@[simp] theorem setEntry_pending (h : Nat) (v : StreamEntry) : (s.setEntry h v).pending = s.pending := rfl
@[simp] theorem setEntry_free (h : Nat) (v : StreamEntry) : (s.setEntry h v).free = s.free := rfl
@[simp] theorem setEntry_cfg (h : Nat) (v : StreamEntry) : (s.setEntry h v).cfg = s.cfg := rfl
@[simp] theorem setEntry_ctr (h : Nat) (v : StreamEntry) : (s.setEntry h v).ctr = s.ctr := rfl
@[simp] theorem setEntry_latches (h : Nat) (v : StreamEntry) : (s.setEntry h v).latches = s.latches := rfl
@[simp] theorem setEntry_hostMem (h : Nat) (v : StreamEntry) : (s.setEntry h v).hostMem = s.hostMem := rfl
@[simp] theorem setEntry_bulk (h : Nat) (v : StreamEntry) : (s.setEntry h v).bulk = s.bulk := rfl
@[simp] theorem setEntry_glb (h : Nat) (v : StreamEntry) : (s.setEntry h v).glb = s.glb := rfl
@[simp] theorem setEntry_time (h : Nat) (v : StreamEntry) : (s.setEntry h v).time = s.time := rfl
@[simp] theorem setEntry_queues (h : Nat) (v : StreamEntry) : (s.setEntry h v).queues = s.queues := rfl
@[simp] theorem setEntry_books (h : Nat) (v : StreamEntry) : (s.setEntry h v).books = s.books := rfl
@[simp] theorem setEntry_notices (h : Nat) (v : StreamEntry) : (s.setEntry h v).notices = s.notices := rfl
@[simp] theorem setEntry_nextSn (h : Nat) (v : StreamEntry) : (s.setEntry h v).nextSn = s.nextSn := rfl
@[simp] theorem setEntry_deliveries (h : Nat) (v : StreamEntry) : (s.setEntry h v).deliveries = s.deliveries := rfl
@[simp] theorem setEntry_msixPending (h : Nat) (v : StreamEntry) : (s.setEntry h v).msixPending = s.msixPending := rfl
@[simp] theorem setEntry_clerk (h : Nat) (v : StreamEntry) : (s.setEntry h v).clerk = s.clerk := rfl
@[simp] theorem setEntry_span (h : Nat) (v : StreamEntry) : (s.setEntry h v).span = s.span := rfl
@[simp] theorem setEntry_ports (h : Nat) (v : StreamEntry) : (s.setEntry h v).ports = s.ports := rfl
@[simp] theorem setEntry_frames (h : Nat) (v : StreamEntry) : (s.setEntry h v).frames = s.frames := rfl
@[simp] theorem setEntry_nextFrame (h : Nat) (v : StreamEntry) : (s.setEntry h v).nextFrame = s.nextFrame := rfl
@[simp] theorem setEntry_flt (h : Nat) (v : StreamEntry) : (s.setEntry h v).flt = s.flt := rfl
@[simp] theorem setEntry_pwr (h : Nat) (v : StreamEntry) : (s.setEntry h v).pwr = s.pwr := rfl
@[simp] theorem setEntry_host (h : Nat) (v : StreamEntry) : (s.setEntry h v).host = s.host := rfl
@[simp] theorem setEntry_mem (h : Nat) (v : StreamEntry) : (s.setEntry h v).mem = s.mem := rfl
@[simp] theorem setEntry_stock (h : Nat) (v : StreamEntry) : (s.setEntry h v).stock = s.stock := rfl
@[simp] theorem setEntry_board (h : Nat) (v : StreamEntry) : (s.setEntry h v).board = s.board := rfl
@[simp] theorem setEntry_dray (h : Nat) (v : StreamEntry) : (s.setEntry h v).dray = s.dray := rfl
@[simp] theorem setEntry_bent (h : Nat) (v : StreamEntry) : (s.setEntry h v).bent = s.bent := rfl
@[simp] theorem setEntry_joinery (h : Nat) (v : StreamEntry) : (s.setEntry h v).joinery = s.joinery := rfl
@[simp] theorem setEntry_assay (h : Nat) (v : StreamEntry) : (s.setEntry h v).assay = s.assay := rfl
@[simp] theorem setEntry_readData (h : Nat) (v : StreamEntry) : (s.setEntry h v).readData = s.readData := rfl
@[simp] theorem setEntry_readBad (h : Nat) (v : StreamEntry) : (s.setEntry h v).readBad = s.readBad := rfl

/-! ### setRcvy changes stream -/

@[simp] theorem setRcvy_pending (r : Nat) (v : Recovery) : (s.setRcvy r v).pending = s.pending := rfl
@[simp] theorem setRcvy_free (r : Nat) (v : Recovery) : (s.setRcvy r v).free = s.free := rfl
@[simp] theorem setRcvy_cfg (r : Nat) (v : Recovery) : (s.setRcvy r v).cfg = s.cfg := rfl
@[simp] theorem setRcvy_ctr (r : Nat) (v : Recovery) : (s.setRcvy r v).ctr = s.ctr := rfl
@[simp] theorem setRcvy_latches (r : Nat) (v : Recovery) : (s.setRcvy r v).latches = s.latches := rfl
@[simp] theorem setRcvy_hostMem (r : Nat) (v : Recovery) : (s.setRcvy r v).hostMem = s.hostMem := rfl
@[simp] theorem setRcvy_bulk (r : Nat) (v : Recovery) : (s.setRcvy r v).bulk = s.bulk := rfl
@[simp] theorem setRcvy_glb (r : Nat) (v : Recovery) : (s.setRcvy r v).glb = s.glb := rfl
@[simp] theorem setRcvy_time (r : Nat) (v : Recovery) : (s.setRcvy r v).time = s.time := rfl
@[simp] theorem setRcvy_queues (r : Nat) (v : Recovery) : (s.setRcvy r v).queues = s.queues := rfl
@[simp] theorem setRcvy_books (r : Nat) (v : Recovery) : (s.setRcvy r v).books = s.books := rfl
@[simp] theorem setRcvy_notices (r : Nat) (v : Recovery) : (s.setRcvy r v).notices = s.notices := rfl
@[simp] theorem setRcvy_nextSn (r : Nat) (v : Recovery) : (s.setRcvy r v).nextSn = s.nextSn := rfl
@[simp] theorem setRcvy_deliveries (r : Nat) (v : Recovery) : (s.setRcvy r v).deliveries = s.deliveries := rfl
@[simp] theorem setRcvy_msixPending (r : Nat) (v : Recovery) : (s.setRcvy r v).msixPending = s.msixPending := rfl
@[simp] theorem setRcvy_clerk (r : Nat) (v : Recovery) : (s.setRcvy r v).clerk = s.clerk := rfl
@[simp] theorem setRcvy_span (r : Nat) (v : Recovery) : (s.setRcvy r v).span = s.span := rfl
@[simp] theorem setRcvy_ports (r : Nat) (v : Recovery) : (s.setRcvy r v).ports = s.ports := rfl
@[simp] theorem setRcvy_frames (r : Nat) (v : Recovery) : (s.setRcvy r v).frames = s.frames := rfl
@[simp] theorem setRcvy_nextFrame (r : Nat) (v : Recovery) : (s.setRcvy r v).nextFrame = s.nextFrame := rfl
@[simp] theorem setRcvy_flt (r : Nat) (v : Recovery) : (s.setRcvy r v).flt = s.flt := rfl
@[simp] theorem setRcvy_pwr (r : Nat) (v : Recovery) : (s.setRcvy r v).pwr = s.pwr := rfl
@[simp] theorem setRcvy_host (r : Nat) (v : Recovery) : (s.setRcvy r v).host = s.host := rfl
@[simp] theorem setRcvy_mem (r : Nat) (v : Recovery) : (s.setRcvy r v).mem = s.mem := rfl
@[simp] theorem setRcvy_stock (r : Nat) (v : Recovery) : (s.setRcvy r v).stock = s.stock := rfl
@[simp] theorem setRcvy_board (r : Nat) (v : Recovery) : (s.setRcvy r v).board = s.board := rfl
@[simp] theorem setRcvy_dray (r : Nat) (v : Recovery) : (s.setRcvy r v).dray = s.dray := rfl
@[simp] theorem setRcvy_bent (r : Nat) (v : Recovery) : (s.setRcvy r v).bent = s.bent := rfl
@[simp] theorem setRcvy_joinery (r : Nat) (v : Recovery) : (s.setRcvy r v).joinery = s.joinery := rfl
@[simp] theorem setRcvy_assay (r : Nat) (v : Recovery) : (s.setRcvy r v).assay = s.assay := rfl
@[simp] theorem setRcvy_readData (r : Nat) (v : Recovery) : (s.setRcvy r v).readData = s.readData := rfl
@[simp] theorem setRcvy_readBad (r : Nat) (v : Recovery) : (s.setRcvy r v).readBad = s.readBad := rfl

/-! ### setAccount changes stream -/

@[simp] theorem setAccount_pending (a : Nat) (v : Account) : (s.setAccount a v).pending = s.pending := rfl
@[simp] theorem setAccount_free (a : Nat) (v : Account) : (s.setAccount a v).free = s.free := rfl
@[simp] theorem setAccount_cfg (a : Nat) (v : Account) : (s.setAccount a v).cfg = s.cfg := rfl
@[simp] theorem setAccount_ctr (a : Nat) (v : Account) : (s.setAccount a v).ctr = s.ctr := rfl
@[simp] theorem setAccount_latches (a : Nat) (v : Account) : (s.setAccount a v).latches = s.latches := rfl
@[simp] theorem setAccount_hostMem (a : Nat) (v : Account) : (s.setAccount a v).hostMem = s.hostMem := rfl
@[simp] theorem setAccount_bulk (a : Nat) (v : Account) : (s.setAccount a v).bulk = s.bulk := rfl
@[simp] theorem setAccount_glb (a : Nat) (v : Account) : (s.setAccount a v).glb = s.glb := rfl
@[simp] theorem setAccount_time (a : Nat) (v : Account) : (s.setAccount a v).time = s.time := rfl
@[simp] theorem setAccount_queues (a : Nat) (v : Account) : (s.setAccount a v).queues = s.queues := rfl
@[simp] theorem setAccount_books (a : Nat) (v : Account) : (s.setAccount a v).books = s.books := rfl
@[simp] theorem setAccount_notices (a : Nat) (v : Account) : (s.setAccount a v).notices = s.notices := rfl
@[simp] theorem setAccount_nextSn (a : Nat) (v : Account) : (s.setAccount a v).nextSn = s.nextSn := rfl
@[simp] theorem setAccount_deliveries (a : Nat) (v : Account) : (s.setAccount a v).deliveries = s.deliveries := rfl
@[simp] theorem setAccount_msixPending (a : Nat) (v : Account) : (s.setAccount a v).msixPending = s.msixPending := rfl
@[simp] theorem setAccount_clerk (a : Nat) (v : Account) : (s.setAccount a v).clerk = s.clerk := rfl
@[simp] theorem setAccount_span (a : Nat) (v : Account) : (s.setAccount a v).span = s.span := rfl
@[simp] theorem setAccount_ports (a : Nat) (v : Account) : (s.setAccount a v).ports = s.ports := rfl
@[simp] theorem setAccount_frames (a : Nat) (v : Account) : (s.setAccount a v).frames = s.frames := rfl
@[simp] theorem setAccount_nextFrame (a : Nat) (v : Account) : (s.setAccount a v).nextFrame = s.nextFrame := rfl
@[simp] theorem setAccount_flt (a : Nat) (v : Account) : (s.setAccount a v).flt = s.flt := rfl
@[simp] theorem setAccount_pwr (a : Nat) (v : Account) : (s.setAccount a v).pwr = s.pwr := rfl
@[simp] theorem setAccount_host (a : Nat) (v : Account) : (s.setAccount a v).host = s.host := rfl
@[simp] theorem setAccount_mem (a : Nat) (v : Account) : (s.setAccount a v).mem = s.mem := rfl
@[simp] theorem setAccount_stock (a : Nat) (v : Account) : (s.setAccount a v).stock = s.stock := rfl
@[simp] theorem setAccount_board (a : Nat) (v : Account) : (s.setAccount a v).board = s.board := rfl
@[simp] theorem setAccount_dray (a : Nat) (v : Account) : (s.setAccount a v).dray = s.dray := rfl
@[simp] theorem setAccount_bent (a : Nat) (v : Account) : (s.setAccount a v).bent = s.bent := rfl
@[simp] theorem setAccount_joinery (a : Nat) (v : Account) : (s.setAccount a v).joinery = s.joinery := rfl
@[simp] theorem setAccount_assay (a : Nat) (v : Account) : (s.setAccount a v).assay = s.assay := rfl
@[simp] theorem setAccount_readData (a : Nat) (v : Account) : (s.setAccount a v).readData = s.readData := rfl
@[simp] theorem setAccount_readBad (a : Nat) (v : Account) : (s.setAccount a v).readBad = s.readBad := rfl

/-! ### setFilter changes stream -/

@[simp] theorem setFilter_pending (n : Nat) (v : StreamFilter) : (s.setFilter n v).pending = s.pending := rfl
@[simp] theorem setFilter_free (n : Nat) (v : StreamFilter) : (s.setFilter n v).free = s.free := rfl
@[simp] theorem setFilter_cfg (n : Nat) (v : StreamFilter) : (s.setFilter n v).cfg = s.cfg := rfl
@[simp] theorem setFilter_ctr (n : Nat) (v : StreamFilter) : (s.setFilter n v).ctr = s.ctr := rfl
@[simp] theorem setFilter_latches (n : Nat) (v : StreamFilter) : (s.setFilter n v).latches = s.latches := rfl
@[simp] theorem setFilter_hostMem (n : Nat) (v : StreamFilter) : (s.setFilter n v).hostMem = s.hostMem := rfl
@[simp] theorem setFilter_bulk (n : Nat) (v : StreamFilter) : (s.setFilter n v).bulk = s.bulk := rfl
@[simp] theorem setFilter_glb (n : Nat) (v : StreamFilter) : (s.setFilter n v).glb = s.glb := rfl
@[simp] theorem setFilter_time (n : Nat) (v : StreamFilter) : (s.setFilter n v).time = s.time := rfl
@[simp] theorem setFilter_queues (n : Nat) (v : StreamFilter) : (s.setFilter n v).queues = s.queues := rfl
@[simp] theorem setFilter_books (n : Nat) (v : StreamFilter) : (s.setFilter n v).books = s.books := rfl
@[simp] theorem setFilter_notices (n : Nat) (v : StreamFilter) : (s.setFilter n v).notices = s.notices := rfl
@[simp] theorem setFilter_nextSn (n : Nat) (v : StreamFilter) : (s.setFilter n v).nextSn = s.nextSn := rfl
@[simp] theorem setFilter_deliveries (n : Nat) (v : StreamFilter) : (s.setFilter n v).deliveries = s.deliveries := rfl
@[simp] theorem setFilter_msixPending (n : Nat) (v : StreamFilter) : (s.setFilter n v).msixPending = s.msixPending := rfl
@[simp] theorem setFilter_clerk (n : Nat) (v : StreamFilter) : (s.setFilter n v).clerk = s.clerk := rfl
@[simp] theorem setFilter_span (n : Nat) (v : StreamFilter) : (s.setFilter n v).span = s.span := rfl
@[simp] theorem setFilter_ports (n : Nat) (v : StreamFilter) : (s.setFilter n v).ports = s.ports := rfl
@[simp] theorem setFilter_frames (n : Nat) (v : StreamFilter) : (s.setFilter n v).frames = s.frames := rfl
@[simp] theorem setFilter_nextFrame (n : Nat) (v : StreamFilter) : (s.setFilter n v).nextFrame = s.nextFrame := rfl
@[simp] theorem setFilter_flt (n : Nat) (v : StreamFilter) : (s.setFilter n v).flt = s.flt := rfl
@[simp] theorem setFilter_pwr (n : Nat) (v : StreamFilter) : (s.setFilter n v).pwr = s.pwr := rfl
@[simp] theorem setFilter_host (n : Nat) (v : StreamFilter) : (s.setFilter n v).host = s.host := rfl
@[simp] theorem setFilter_mem (n : Nat) (v : StreamFilter) : (s.setFilter n v).mem = s.mem := rfl
@[simp] theorem setFilter_stock (n : Nat) (v : StreamFilter) : (s.setFilter n v).stock = s.stock := rfl
@[simp] theorem setFilter_board (n : Nat) (v : StreamFilter) : (s.setFilter n v).board = s.board := rfl
@[simp] theorem setFilter_dray (n : Nat) (v : StreamFilter) : (s.setFilter n v).dray = s.dray := rfl
@[simp] theorem setFilter_bent (n : Nat) (v : StreamFilter) : (s.setFilter n v).bent = s.bent := rfl
@[simp] theorem setFilter_joinery (n : Nat) (v : StreamFilter) : (s.setFilter n v).joinery = s.joinery := rfl
@[simp] theorem setFilter_assay (n : Nat) (v : StreamFilter) : (s.setFilter n v).assay = s.assay := rfl
@[simp] theorem setFilter_readData (n : Nat) (v : StreamFilter) : (s.setFilter n v).readData = s.readData := rfl
@[simp] theorem setFilter_readBad (n : Nat) (v : StreamFilter) : (s.setFilter n v).readBad = s.readBad := rfl

/-! ### setMeter changes stream -/

@[simp] theorem setMeter_pending (n : Nat) (v : FlowMeter) : (s.setMeter n v).pending = s.pending := rfl
@[simp] theorem setMeter_free (n : Nat) (v : FlowMeter) : (s.setMeter n v).free = s.free := rfl
@[simp] theorem setMeter_cfg (n : Nat) (v : FlowMeter) : (s.setMeter n v).cfg = s.cfg := rfl
@[simp] theorem setMeter_ctr (n : Nat) (v : FlowMeter) : (s.setMeter n v).ctr = s.ctr := rfl
@[simp] theorem setMeter_latches (n : Nat) (v : FlowMeter) : (s.setMeter n v).latches = s.latches := rfl
@[simp] theorem setMeter_hostMem (n : Nat) (v : FlowMeter) : (s.setMeter n v).hostMem = s.hostMem := rfl
@[simp] theorem setMeter_bulk (n : Nat) (v : FlowMeter) : (s.setMeter n v).bulk = s.bulk := rfl
@[simp] theorem setMeter_glb (n : Nat) (v : FlowMeter) : (s.setMeter n v).glb = s.glb := rfl
@[simp] theorem setMeter_time (n : Nat) (v : FlowMeter) : (s.setMeter n v).time = s.time := rfl
@[simp] theorem setMeter_queues (n : Nat) (v : FlowMeter) : (s.setMeter n v).queues = s.queues := rfl
@[simp] theorem setMeter_books (n : Nat) (v : FlowMeter) : (s.setMeter n v).books = s.books := rfl
@[simp] theorem setMeter_notices (n : Nat) (v : FlowMeter) : (s.setMeter n v).notices = s.notices := rfl
@[simp] theorem setMeter_nextSn (n : Nat) (v : FlowMeter) : (s.setMeter n v).nextSn = s.nextSn := rfl
@[simp] theorem setMeter_deliveries (n : Nat) (v : FlowMeter) : (s.setMeter n v).deliveries = s.deliveries := rfl
@[simp] theorem setMeter_msixPending (n : Nat) (v : FlowMeter) : (s.setMeter n v).msixPending = s.msixPending := rfl
@[simp] theorem setMeter_clerk (n : Nat) (v : FlowMeter) : (s.setMeter n v).clerk = s.clerk := rfl
@[simp] theorem setMeter_span (n : Nat) (v : FlowMeter) : (s.setMeter n v).span = s.span := rfl
@[simp] theorem setMeter_ports (n : Nat) (v : FlowMeter) : (s.setMeter n v).ports = s.ports := rfl
@[simp] theorem setMeter_frames (n : Nat) (v : FlowMeter) : (s.setMeter n v).frames = s.frames := rfl
@[simp] theorem setMeter_nextFrame (n : Nat) (v : FlowMeter) : (s.setMeter n v).nextFrame = s.nextFrame := rfl
@[simp] theorem setMeter_flt (n : Nat) (v : FlowMeter) : (s.setMeter n v).flt = s.flt := rfl
@[simp] theorem setMeter_pwr (n : Nat) (v : FlowMeter) : (s.setMeter n v).pwr = s.pwr := rfl
@[simp] theorem setMeter_host (n : Nat) (v : FlowMeter) : (s.setMeter n v).host = s.host := rfl
@[simp] theorem setMeter_mem (n : Nat) (v : FlowMeter) : (s.setMeter n v).mem = s.mem := rfl
@[simp] theorem setMeter_stock (n : Nat) (v : FlowMeter) : (s.setMeter n v).stock = s.stock := rfl
@[simp] theorem setMeter_board (n : Nat) (v : FlowMeter) : (s.setMeter n v).board = s.board := rfl
@[simp] theorem setMeter_dray (n : Nat) (v : FlowMeter) : (s.setMeter n v).dray = s.dray := rfl
@[simp] theorem setMeter_bent (n : Nat) (v : FlowMeter) : (s.setMeter n v).bent = s.bent := rfl
@[simp] theorem setMeter_joinery (n : Nat) (v : FlowMeter) : (s.setMeter n v).joinery = s.joinery := rfl
@[simp] theorem setMeter_assay (n : Nat) (v : FlowMeter) : (s.setMeter n v).assay = s.assay := rfl
@[simp] theorem setMeter_readData (n : Nat) (v : FlowMeter) : (s.setMeter n v).readData = s.readData := rfl
@[simp] theorem setMeter_readBad (n : Nat) (v : FlowMeter) : (s.setMeter n v).readBad = s.readBad := rfl

/-! ### setChan changes dray -/

@[simp] theorem setChan_pending (k : Nat) (v : DrayChan) : (s.setChan k v).pending = s.pending := rfl
@[simp] theorem setChan_free (k : Nat) (v : DrayChan) : (s.setChan k v).free = s.free := rfl
@[simp] theorem setChan_cfg (k : Nat) (v : DrayChan) : (s.setChan k v).cfg = s.cfg := rfl
@[simp] theorem setChan_ctr (k : Nat) (v : DrayChan) : (s.setChan k v).ctr = s.ctr := rfl
@[simp] theorem setChan_latches (k : Nat) (v : DrayChan) : (s.setChan k v).latches = s.latches := rfl
@[simp] theorem setChan_hostMem (k : Nat) (v : DrayChan) : (s.setChan k v).hostMem = s.hostMem := rfl
@[simp] theorem setChan_bulk (k : Nat) (v : DrayChan) : (s.setChan k v).bulk = s.bulk := rfl
@[simp] theorem setChan_glb (k : Nat) (v : DrayChan) : (s.setChan k v).glb = s.glb := rfl
@[simp] theorem setChan_time (k : Nat) (v : DrayChan) : (s.setChan k v).time = s.time := rfl
@[simp] theorem setChan_queues (k : Nat) (v : DrayChan) : (s.setChan k v).queues = s.queues := rfl
@[simp] theorem setChan_books (k : Nat) (v : DrayChan) : (s.setChan k v).books = s.books := rfl
@[simp] theorem setChan_notices (k : Nat) (v : DrayChan) : (s.setChan k v).notices = s.notices := rfl
@[simp] theorem setChan_nextSn (k : Nat) (v : DrayChan) : (s.setChan k v).nextSn = s.nextSn := rfl
@[simp] theorem setChan_deliveries (k : Nat) (v : DrayChan) : (s.setChan k v).deliveries = s.deliveries := rfl
@[simp] theorem setChan_msixPending (k : Nat) (v : DrayChan) : (s.setChan k v).msixPending = s.msixPending := rfl
@[simp] theorem setChan_clerk (k : Nat) (v : DrayChan) : (s.setChan k v).clerk = s.clerk := rfl
@[simp] theorem setChan_span (k : Nat) (v : DrayChan) : (s.setChan k v).span = s.span := rfl
@[simp] theorem setChan_ports (k : Nat) (v : DrayChan) : (s.setChan k v).ports = s.ports := rfl
@[simp] theorem setChan_frames (k : Nat) (v : DrayChan) : (s.setChan k v).frames = s.frames := rfl
@[simp] theorem setChan_nextFrame (k : Nat) (v : DrayChan) : (s.setChan k v).nextFrame = s.nextFrame := rfl
@[simp] theorem setChan_flt (k : Nat) (v : DrayChan) : (s.setChan k v).flt = s.flt := rfl
@[simp] theorem setChan_pwr (k : Nat) (v : DrayChan) : (s.setChan k v).pwr = s.pwr := rfl
@[simp] theorem setChan_host (k : Nat) (v : DrayChan) : (s.setChan k v).host = s.host := rfl
@[simp] theorem setChan_mem (k : Nat) (v : DrayChan) : (s.setChan k v).mem = s.mem := rfl
@[simp] theorem setChan_stock (k : Nat) (v : DrayChan) : (s.setChan k v).stock = s.stock := rfl
@[simp] theorem setChan_board (k : Nat) (v : DrayChan) : (s.setChan k v).board = s.board := rfl
@[simp] theorem setChan_bent (k : Nat) (v : DrayChan) : (s.setChan k v).bent = s.bent := rfl
@[simp] theorem setChan_stream (k : Nat) (v : DrayChan) : (s.setChan k v).stream = s.stream := rfl
@[simp] theorem setChan_joinery (k : Nat) (v : DrayChan) : (s.setChan k v).joinery = s.joinery := rfl
@[simp] theorem setChan_assay (k : Nat) (v : DrayChan) : (s.setChan k v).assay = s.assay := rfl
@[simp] theorem setChan_readData (k : Nat) (v : DrayChan) : (s.setChan k v).readData = s.readData := rfl
@[simp] theorem setChan_readBad (k : Nat) (v : DrayChan) : (s.setChan k v).readBad = s.readBad := rfl

/-! ### Reading a table after an update of it -/

@[simp] theorem port_setPort (p : Nat) (v : Port) : (s.setPort p v).port p = v := Tab.get_set_same _ _ _ _
theorem port_setPort_other (p x : Nat) (v : Port) (h : x ≠ p) : (s.setPort p v).port x = s.port x :=
  Tab.get_set_other _ _ _ _ _ _ h
@[simp] theorem queue_setQueue (q : Nat) (v : WorkQueue) : (s.setQueue q v).queue q = v := Tab.get_set_same _ _ _ _
theorem queue_setQueue_other (q x : Nat) (v : WorkQueue) (h : x ≠ q) : (s.setQueue q v).queue x = s.queue x :=
  Tab.get_set_other _ _ _ _ _ _ h
@[simp] theorem book_setBook (b : Nat) (v : Daybook) : (s.setBook b v).book b = v := Tab.get_set_same _ _ _ _
theorem book_setBook_other (b x : Nat) (v : Daybook) (h : x ≠ b) : (s.setBook b v).book x = s.book x :=
  Tab.get_set_other _ _ _ _ _ _ h
@[simp] theorem ptime_setPtime (p : Nat) (v : PortTime) : (s.setPtime p v).ptime p = v := Tab.get_set_same _ _ _ _
theorem ptime_setPtime_other (p x : Nat) (v : PortTime) (h : x ≠ p) : (s.setPtime p v).ptime x = s.ptime x :=
  Tab.get_set_other _ _ _ _ _ _ h
@[simp] theorem ptpInst_setPtpInst (i : Nat) (v : PtpInst) : (s.setPtpInst i v).ptpInst i = v := Tab.get_set_same _ _ _ _
theorem ptpInst_setPtpInst_other (i x : Nat) (v : PtpInst) (h : x ≠ i) : (s.setPtpInst i v).ptpInst x = s.ptpInst x :=
  Tab.get_set_other _ _ _ _ _ _ h
@[simp] theorem bench_setBench (b : Nat) (v : Bench) : (s.setBench b v).bench b = v := Tab.get_set_same _ _ _ _
theorem bench_setBench_other (b x : Nat) (v : Bench) (h : x ≠ b) : (s.setBench b v).bench x = s.bench x :=
  Tab.get_set_other _ _ _ _ _ _ h
@[simp] theorem frame_setFrame (i : Nat) (v : Option Frame) : (s.setFrame i v).frame i = v := Tab.get_set_same _ _ _ _
theorem frame_setFrame_other (i x : Nat) (v : Option Frame) (h : x ≠ i) : (s.setFrame i v).frame x = s.frame x :=
  Tab.get_set_other _ _ _ _ _ _ h
@[simp] theorem hostFn_setHostFn (f : Nat) (v : HostFn) : (s.setHostFn f v).hostFn f = v := Tab.get_set_same _ _ _ _
theorem hostFn_setHostFn_other (f x : Nat) (v : HostFn) (h : x ≠ f) : (s.setHostFn f v).hostFn x = s.hostFn x :=
  Tab.get_set_other _ _ _ _ _ _ h
@[simp] theorem bank_setBank (b : Nat) (v : Bank) : (s.setBank b v).bank b = v := Tab.get_set_same _ _ _ _
theorem bank_setBank_other (b x : Nat) (v : Bank) (h : x ≠ b) : (s.setBank b v).bank x = s.bank x :=
  Tab.get_set_other _ _ _ _ _ _ h
@[simp] theorem source_setSource (n : Nat) (v : FaultSource) : (s.setSource n v).source n = v := Tab.get_set_same _ _ _ _
theorem source_setSource_other (n x : Nat) (v : FaultSource) (h : x ≠ n) : (s.setSource n v).source x = s.source x :=
  Tab.get_set_other _ _ _ _ _ _ h
@[simp] theorem entry_setEntry (e : Nat) (v : StreamEntry) : (s.setEntry e v).entry e = v := Tab.get_set_same _ _ _ _
theorem entry_setEntry_other (e x : Nat) (v : StreamEntry) (h : x ≠ e) : (s.setEntry e v).entry x = s.entry x :=
  Tab.get_set_other _ _ _ _ _ _ h
@[simp] theorem rcvy_setRcvy (r : Nat) (v : Recovery) : (s.setRcvy r v).rcvy r = v := Tab.get_set_same _ _ _ _
theorem rcvy_setRcvy_other (r x : Nat) (v : Recovery) (h : x ≠ r) : (s.setRcvy r v).rcvy x = s.rcvy x :=
  Tab.get_set_other _ _ _ _ _ _ h
@[simp] theorem account_setAccount (a : Nat) (v : Account) : (s.setAccount a v).account a = v := Tab.get_set_same _ _ _ _
theorem account_setAccount_other (a x : Nat) (v : Account) (h : x ≠ a) : (s.setAccount a v).account x = s.account x :=
  Tab.get_set_other _ _ _ _ _ _ h
@[simp] theorem filter_setFilter (n : Nat) (v : StreamFilter) : (s.setFilter n v).filter n = v := Tab.get_set_same _ _ _ _
theorem filter_setFilter_other (n x : Nat) (v : StreamFilter) (h : x ≠ n) : (s.setFilter n v).filter x = s.filter x :=
  Tab.get_set_other _ _ _ _ _ _ h
@[simp] theorem meter_setMeter (n : Nat) (v : FlowMeter) : (s.setMeter n v).meter n = v := Tab.get_set_same _ _ _ _
theorem meter_setMeter_other (n x : Nat) (v : FlowMeter) (h : x ≠ n) : (s.setMeter n v).meter x = s.meter x :=
  Tab.get_set_other _ _ _ _ _ _ h
@[simp] theorem chan_setChan (k : Nat) (v : DrayChan) : (s.setChan k v).chan k = v := Tab.get_set_same _ _ _ _
theorem chan_setChan_other (k x : Nat) (v : DrayChan) (h : x ≠ k) : (s.setChan k v).chan x = s.chan x :=
  Tab.get_set_other _ _ _ _ _ _ h

/-- A settings word reads back as written, in 32 bits. -/
@[simp] theorem reg_setReg (o v : Nat) : (s.setReg o v).reg o = v % 2 ^ 32 := by simp [reg, setReg]

/-- Every other settings word is as before. -/
theorem reg_setReg_other (o x v : Nat) (h : x ≠ o) : (s.setReg o v).reg x = s.reg x := by
  simp [reg, setReg, Tab.get_set_other _ _ _ _ _ _ h]

/-- A counter after counting; it wraps at 64 bits. -/
@[simp] theorem counter_countN (o n : Nat) : (s.countN o n).counter o = s.counter o + BitVec.ofNat 64 n :=
  Tab.get_set_same _ _ _ _

@[simp] theorem counter_count (o : Nat) : (s.count o).counter o = s.counter o + 1 := Tab.get_set_same _ _ _ _

/-- Every other counter is as before. -/
theorem counter_countN_other (o x n : Nat) (h : x ≠ o) : (s.countN o n).counter x = s.counter x :=
  Tab.get_set_other _ _ _ _ _ _ h

/-- The clock after k ticks. -/
@[simp] theorem advance_ticks (k : Nat) : (s.advance k).time.ticks = s.time.ticks + k := rfl

/-- Passing time changes nothing of the time island but its clock. -/
theorem advance_time (k : Nat) : (s.advance k).time =
    { s.time with ticks := s.time.ticks + k, count := s.countAfter k, slew := (s.advance k).time.slew } := rfl

end Sys2Proof.Machine.State
end

