-- ==== Sys2Proof/Laws/Shared.lean ====
section
/-!
SUPPORT. The shared operations: that each keeps the canonical form of memory and counters, what each can change, and
that host memory reads back what was written.
-/

namespace Sys2Proof.Machine

/-! ### The canonical form of memory and counters -/

/-- The three parts of `Memory.wf`. -/
theorem wf_iff (s : State) : Memory.wf s = true ↔
    Tab.wf 0 s.hostMem = true ∧ Tab.wf 0 s.bulk = true ∧ Tab.wf 0 s.ctr = true := by
  simp only [Memory.wf, Bool.and_eq_true, and_assoc]

/-- A state with the same host memory, bulk memory and counters is as canonical. -/
theorem wf_of_same {s t : State} (h : Memory.wf s = true) (h1 : t.hostMem = s.hostMem) (h2 : t.bulk = s.bulk)
    (h3 : t.ctr = s.ctr) : Memory.wf t = true := by
  rw [wf_iff] at h ⊢
  rw [h1, h2, h3]
  exact h

/-- Host memory lists nothing at reset. -/
theorem reset_hostMem : State.reset.hostMem = [] := rfl

theorem writeHost_wf {s : State} (h : Memory.wf s = true) (f a : Nat) (v : List Byte) : Memory.wf (s.writeHost f a v) = true := by
  rw [wf_iff] at h ⊢
  exact ⟨writeBytes_wf _ _ _ h.1, h.2⟩

theorem writeBulk_wf {s : State} (h : Memory.wf s = true) (a : Nat) (v : List Byte) : Memory.wf (s.writeBulk a v) = true := by
  rw [wf_iff] at h ⊢
  exact ⟨h.1, writeBytes_wf _ _ _ h.2.1, h.2.2⟩

theorem countN_wf {s : State} (h : Memory.wf s = true) (o n : Nat) : Memory.wf (s.countN o n) = true := by
  rw [wf_iff] at h ⊢
  exact ⟨h.1, h.2.1, Tab.wf_set _ _ _ _ h.2.2⟩

theorem count_wf {s : State} (h : Memory.wf s = true) (o : Nat) : Memory.wf (s.count o) = true := countN_wf h o 1

theorem advance_wf {s : State} (h : Memory.wf s = true) (k : Nat) : Memory.wf (s.advance k) = true := h

theorem notify_wf {s : State} (h : Memory.wf s = true) (n : Notice) : Memory.wf (s.notify n) = true := h

theorem touchTlp_wf {s : State} (h : Memory.wf s = true) (f : Nat) : Memory.wf (s.touchTlp f) = true := by
  rw [wf_iff] at h ⊢
  exact ⟨h.1, h.2.1, Tab.wf_set _ _ _ _ (Tab.wf_set _ _ _ _ h.2.2)⟩

theorem sendMsix_wf {s : State} (h : Memory.wf s = true) (f v : Nat) : Memory.wf (s.sendMsix f v) = true := by
  unfold State.sendMsix
  simp only
  split
  · split
    · exact h
    · exact h
  · exact writeHost_wf h _ _ _

theorem fillSlot_wf {s : State} (h : Memory.wf s = true) (m : FaultMsg) : Memory.wf (s.fillSlot m) = true := by
  unfold State.fillSlot
  simp only
  split
  · exact h
  · exact count_wf (count_wf (count_wf (s := s.setSource _ _) h _) _) _

theorem escalate_wf {s : State} (h : Memory.wf s = true) (m : FaultMsg) : Memory.wf (s.escalate m).2 = true := by
  unfold State.escalate
  simp only
  split
  · exact h
  · split
    · exact count_wf (s := s.setSource _ _) h _
    · exact h

theorem raiseMsg_wf {s : State} (h : Memory.wf s = true) (m : FaultMsg) : Memory.wf (s.raiseMsg m) = true := by
  unfold State.raiseMsg
  split
  · exact h
  · exact fillSlot_wf (escalate_wf h _) _

theorem sendTb_wf {s : State} (h : Memory.wf s = true) (p : TbPacket) : Memory.wf (s.sendTb p) = true := by
  unfold State.sendTb
  simp only
  split
  · exact h
  · split
    · exact h
    · split <;> exact h

theorem completionNotice_wf {s : State} (h : Memory.wf s = true) (q : Nat) (i : BitVec 16) (k st tag : Nat)
    (sn : Option Nat) : Memory.wf (s.completionNotice q i k st tag sn) = true := by
  unfold State.completionNotice
  simp only
  split <;> exact h

theorem finishCmd_wf {s : State} (h : Memory.wf s = true) (c : Cmd) (code : Nat) (st : Status) (d : Nat)
    (reply : List Byte) (n : Nat) (x y : Bool) : Memory.wf (s.finishCmd c code st d reply n x y) = true := by
  unfold State.finishCmd
  simp only
  split
  · split
    · exact h
    · refine completionNotice_wf (count_wf ?_ _) _ _ _ _ _ _
      exact writeHost_wf (s := ite _ _ _) (by split; exacts [h, writeHost_wf (s := s.modQueue _ _) h _ _ _]) _ _ _
  · split <;> exact h
  · exact sendTb_wf h _

theorem fenceSweep_wf {s : State} (h : Memory.wf s = true) : Memory.wf s.fenceSweep = true := by
  unfold State.fenceSweep
  generalize s.clerk.waiting = l
  induction l generalizing s with
  | nil => exact h
  | cons w l ih =>
    rw [List.foldl_cons]
    refine ih ?_
    simp only
    split
    · exact h
    · split
      · exact h
      · refine finishCmd_wf ?_ _ _ _ _ _ _ _ _
        exact h

theorem detailWord_wf {s : State} (h : Memory.wf s = true) (d : Option Nat) : Memory.wf (s.detailWord d).2 = true := by
  cases d <;> exact h

/-- A completion keeps the canonical form. -/
theorem completedAs_wf {u : State} (h : Memory.wf u = true) (c : Cmd) (code : Nat) (st : Status) (d : Option Nat)
    (reply : List Byte) (n : Nat) : Memory.wf (Claims.completedAs u c code st d reply n) = true :=
  fenceSweep_wf (finishCmd_wf (countN_wf (detailWord_wf h d) _ _) _ _ _ _ _ _ _ _)

theorem toPartner_wf {s : State} (h : Memory.wf s = true) (code : Nat) (c : Cmd) : Memory.wf (s.toPartner code c).2 = true := by
  unfold State.toPartner
  simp only
  refine sendTb_wf (count_wf ?_ _) _
  exact h

theorem addWaiting_wf {s : State} (h : Memory.wf s = true) (w : Waiting) : Memory.wf (s.addWaiting w) = true := h

/-- Running a command keeps the canonical form if its effect does. -/
theorem runCmd_wf {s : State} (h : Memory.wf s = true) (code : Nat) (c : Cmd) (eff : State → Eff)
    (done_ : ∀ u v st d reply n x, Memory.wf u = true → eff u = .done v st d reply n x → Memory.wf v = true)
    (wait_ : ∀ u v k n, Memory.wf u = true → eff u = .wait v k n → Memory.wf v = true) :
    Memory.wf (s.runCmd code c eff) = true := by
  have hb : Memory.wf (Claims.begun s code c) = true := h
  rw [State.runCmd_eq]
  simp only
  split
  · exact fenceSweep_wf (finishCmd_wf (count_wf hb _) _ _ _ _ _ _ _ _)
  · split
    · exact toPartner_wf hb code c
    · split
      · next u st d reply n x g =>
        have hv := countN_wf (detailWord_wf (done_ _ u st d reply n x hb g) d) (cmdCount 3) n
        split
        · exact toPartner_wf hv _ _
        · exact fenceSweep_wf (finishCmd_wf hv _ _ _ _ _ _ _ _)
      · next u k n g =>
        have g' := wait_ _ u k n hb g
        exact fenceSweep_wf (addWaiting_wf g' _)

/-! ### What an operation can change -/

/-- An MSI-X message changes host memory or the messages held back. -/
theorem sendMsix_frame (s : State) (f v : Nat) :
    s.sendMsix f v = { s with hostMem := (s.sendMsix f v).hostMem, msixPending := (s.sendMsix f v).msixPending } := by
  unfold State.sendMsix
  simp only
  split
  · split <;> rfl
  · rfl

/-- A fault message changes the foreman's slots and counters: every part p of the state that is neither is kept. -/
theorem fillSlot_keeps {α : Type} (p : State → α) (s : State) (m : FaultMsg)
    (hf : ∀ (u : State) v, p { u with flt := v } = p u) (hc : ∀ (u : State) v, p { u with ctr := v } = p u) :
    p (s.fillSlot m) = p s := by
  have hs' : ∀ (u : State) n v, p (u.setSource n v) = p u := fun u n v => hf u _
  have hc' : ∀ (u : State) o, p (u.count o) = p u := fun u o => hc u _
  unfold State.fillSlot
  simp only
  split
  · exact hs' _ _ _
  · rw [hc', hc', hc', hs']

/-- A packet for the tie beam changes the bent's lanes. -/
theorem sendTb_frame (s : State) (p : TbPacket) : s.sendTb p = { s with bent := (s.sendTb p).bent } := by
  unfold State.sendTb
  simp only
  split
  · rfl
  · split
    · rfl
    · split <;> rfl

/-- A completion notice adds a notice. -/
theorem completionNotice_frame (s : State) (q : Nat) (i : BitVec 16) (k st tag : Nat) (sn : Option Nat) :
    s.completionNotice q i k st tag sn = { s with notices := (s.completionNotice q i k st tag sn).notices } := by
  unfold State.completionNotice
  simp only
  split <;> rfl

/-- A completion changes the queue, host memory, counters and notices, the replies that wait, and the tie beam: every
part p of the state that is none of these is kept. -/
theorem finishCmd_keeps {α : Type} (p : State → α) (s : State) (c : Cmd) (code : Nat) (st : Status) (d : Nat)
    (reply : List Byte) (n : Nat) (x y : Bool) (hq : ∀ (u : State) v, p { u with queues := v } = p u)
    (hm : ∀ (u : State) v, p { u with hostMem := v } = p u) (hc : ∀ (u : State) v, p { u with ctr := v } = p u)
    (hn : ∀ (u : State) v, p { u with notices := v } = p u) (hk : ∀ (u : State) v, p { u with clerk := v } = p u)
    (hb : ∀ (u : State) v, p { u with bent := v } = p u) : p (s.finishCmd c code st d reply n x y) = p s := by
  have hq' : ∀ (u : State) q f, p (u.modQueue q f) = p u := fun u q f => hq u _
  have hm' : ∀ (u : State) f a v, p (u.writeHost f a v) = p u := fun u f a v => hm u _
  have hc' : ∀ (u : State) o, p (u.count o) = p u := fun u o => hc u _
  unfold State.finishCmd
  simp only
  split
  · split
    · exact hq' _ _ _
    · rw [completionNotice_frame, hn, hc', hq', hm']
      split
      · exact hq' _ _ _
      · rw [hm', hq']
  · split
    · rfl
    · exact hk _ _
  · rw [sendTb_frame]
    exact hb _ _

/-! ### Host memory -/

/-- What was written reads back. -/
theorem readHost_writeHost (s : State) (f a : Nat) (v : List Byte) : (s.writeHost f a v).readHost f a v.length = v :=
  readBytes_writeBytes _ _ _

/-- A byte outside the written range is as before. -/
theorem writeHost_outside (s : State) (f a x : Nat) (v : List Byte) (h : x < State.hostKey f a ∨ State.hostKey f a + v.length ≤ x) :
    Tab.get 0 (s.writeHost f a v).hostMem x = Tab.get 0 s.hostMem x :=
  writeBytes_get_outside _ _ _ _ h

end Sys2Proof.Machine
end

