-- ==== Sys2Proof/WellFormed.lean ====
section
/-!
DEFINITION. What a well-formed command or event is: a packet whose LEN and parameter area agree (R477, R565) from one of the
command queues, and numbers inside the ranges the spec gives their kind (R474, R533, the port indices).
-/

namespace Sys2Proof

/-- A packet as R565 allows it: LEN 1 to 8, and 32 bytes a unit less the 24 before the parameter area. -/
def Cmd.wf (c : Cmd) : Bool :=
  1 ≤ c.len && c.len ≤ 8 && c.params.length + 24 == 32 * c.len &&
    (match c.origin with | .queue q _ => q == 0 || q == 2048 | _ => true)

/-- The well-formed commands and events. -/
def Instr.wf (i : Instr) : Bool :=
  match i with
  | .nop c => c.wf
  | .identify c => c.wf
  | .fence c => c.wf
  | .echo c => c.wf
  | .regRead c => c.wf
  | .regWrite c => c.wf
  | .benchOpen c => c.wf
  | .benchDryFit c => c.wf
  | .benchPeg c => c.wf
  | .benchDiscard c => c.wf
  | .benchStatus c => c.wf
  | .benchStaged _ => true
  | .benchPegInstant _ => true
  | .commandTake => true
  | .carriedCommandRx _ _ => true
  | .carriedReplyRx _ _ => true
  | .partnerCommandRx _ _ _ => true
  | .partnerReplyRx _ _ _ _ _ => true
  | .partnerReplyTimeout => true
  | .timeGet c => c.wf
  | .timeSet c => c.wf
  | .timeAccept c => c.wf
  | .timeSlew c => c.wf
  | .timePortRead c => c.wf
  | .timeSetPpsTimeout => true
  | .setTimeRef c => c.wf
  | .setDpll c => c.wf
  | .setPtpInstance c => c.wf
  | .setPtpPort c => c.wf
  | .setPortLatency c => c.wf
  | .setSynce c => c.wf
  | .setTimeIo c => c.wf
  | .setTsDaybook c => c.wf
  | .slewDone => true
  | .timeBusLoad => true
  | .timeBusRecal => true
  | .dpllUpdate _ => true
  | .refQualified _ _ => true
  | .refDisqualified _ _ => true
  | .holdoverLimitExpire => true
  | .ppsInEdge => true
  | .todMessageRx _ _ => true
  | .secondBoundary => true
  | .syncTx p => p ≤ 26
  | .announceTx p => p ≤ 26
  | .syncRx p _ _ _ _ => p ≤ 26
  | .announceRx p _ _ => p ≤ 26
  | .pdelayReqTx p => p ≤ 26
  | .pdelayReqRx p _ _ => p ≤ 26
  | .pdelayRespRx p _ _ _ => p ≤ 26
  | .pdelayLost p => p ≤ 26
  | .syncTimeout p => p ≤ 26
  | .phaseReportTx p => p ≤ 26
  | .phaseReportRx p _ _ => p ≤ 26
  | .esmcRx p _ => p ≤ 26
  | .esmcTx p => p ≤ 26
  | .spanStatus c => c.wf
  | .spanJoin c => c.wf
  | .spanLeave c => c.wf
  | .patternChange c => c.wf
  | .spanOwnerRead c => c.wf
  | .setSpanLocal c => c.wf
  | .setSpanPort c => c.wf
  | .setPatternSet c => c.wf
  | .setSlotSource c => c.wf
  | .listenTimerExpire => true
  | .cycleBoundary => true
  | .bellRx p _ _ _ => p ≤ 26
  | .bellMissing => true
  | .slotReadyLead _ => true
  | .spanLaunch => true
  | .minislotEnd => true
  | .slotEnd _ => true
  | .slotCopyRx p _ _ _ => p ≤ 26
  | .dynCopyRx p _ _ _ => p ≤ 26
  | .carryRx p _ _ _ => p ≤ 26
  | .relayLaunch => true
  | .gateEntryChange p => p ≤ 26
  | .gateStatus c => c.wf
  | .gateListRead c => c.wf
  | .setCuttingList c => c.wf
  | .setGatePort c => c.wf
  | .wireFree p => p ≤ 26
  | .fragmentEnd p => p ≤ 26
  | .frameTxEnd p => p ≤ 26
  | .cbsCreditEligible p _ => p ≤ 26
  | .shaperEligible p _ _ => p ≤ 26
  | .enqueueComplete p => p ≤ 26
  | .flowAgeExpire p _ => p ≤ 26
  | .qsvStatus c => c.wf
  | .flowRead c => c.wf
  | .filterRead c => c.wf
  | .meterRead c => c.wf
  | .filterUnblock c => c.wf
  | .meterUnmark c => c.wf
  | .setQsvPort c => c.wf
  | .setClassService c => c.wf
  | .setFlow c => c.wf
  | .setStreamFilter c => c.wf
  | .setFlowMeter c => c.wf
  | .pauseRx p _ _ _ => p ≤ 26
  | .pauseTimerExpire p _ => p ≤ 26
  | .pauseRefresh p _ => p ≤ 26
  | .macMergeStatus c => c.wf
  | .macMergePartner c => c.wf
  | .verifyRestart c => c.wf
  | .setMacMerge c => c.wf
  | .verifySend p => p ≤ 26
  | .verifyTimeout p => p ≤ 26
  | .verifyMpacketRx p _ => p ≤ 26
  | .respondMpacketRx p _ => p ≤ 26
  | .fragmentRx p _ _ _ _ _ => p ≤ 26
  | .lldpTx p => p ≤ 26
  | .lldpduRx p _ _ => p ≤ 26
  | .partnerValuesExpire p => p ≤ 26
  | .operationModeChange p => p ≤ 26
  | .portStatus c => c.wf
  | .linkRestart c => c.wf
  | .macsecScRead c => c.wf
  | .threshReset c => c.wf
  | .setPortMode c => c.wf
  | .setPortFrame c => c.wf
  | .setFlowControl c => c.wf
  | .setEee c => c.wf
  | .setPortWake c => c.wf
  | .setMacsecPort c => c.wf
  | .setMacsecSc c => c.wf
  | .setMacsecSa c => c.wf
  | .pcsLinkUp p => p ≤ 26
  | .pcsLinkDown p _ _ => p ≤ 26
  | .linkDebounceExpire p => p ≤ 26
  | .linkDownDiscard p => p ≤ 26
  | .frameRx p _ _ _ _ => p ≤ 26
  | .tsRecordWrite p => p ≤ 26
  | .txUnderrun p => p ≤ 26
  | .underrunDecay p _ => p ≤ 26
  | .lpiEnter p => p ≤ 26
  | .knockRx p _ _ _ => p ≤ 26
  | .stocktake c => c.wf
  | .stocktakeStatus c => c.wf
  | .stocktakeRelease c => c.wf
  | .stocktakeCancel c => c.wf
  | .stocktakeCopyDone _ => true
  | .frameDispatch _ => true
  | .frameDataArrival _ _ => true
  | .lookupAnswer _ => true
  | .streamEngineFrame _ _ => true
  | .cacheFetchDone _ => true
  | .learnAgeExpire _ => true
  | .rcvyResetTimeout _ => true
  | .latentErrorTest _ _ => true
  | .accountHoldExpire _ => true
  | .accountResetTimeout _ => true
  | .streamStatus c => c.wf
  | .streamRead c => c.wf
  | .streamFind c => c.wf
  | .rcvyRead c => c.wf
  | .accountRead c => c.wf
  | .seqReset c => c.wf
  | .streamForget c => c.wf
  | .setStreams c => c.wf
  | .setRecovery c => c.wf
  | .setAccounts c => c.wf
  | .setMaskRule c => c.wf
  | .setLearnRule c => c.wf
  | .setStreamGlobal c => c.wf
  | .threadTimeout _ => true
  | .csScrub _ _ _ => true
  | .csRewrite _ => true
  | .rotationFence => true
  | .rotationTestEnd _ => true
  | .clusterGate _ => true
  | .joineryStatus c => c.wf
  | .microcodeRead c => c.wf
  | .hookTableRead c => c.wf
  | .setMicrocode c => c.wf
  | .setHook c => c.wf
  | .setClassRules c => c.wf
  | .setSteerEntries c => c.wf
  | .setHookTable c => c.wf
  | .spillStart => true
  | .spillReturn _ _ => true
  | .windowHandoff => true
  | .wqDoorbell fn q _ => fn < 130 && q < 4096
  | .wqInvalidate fn q _ => fn < 130 && q < 4096
  | .bookDoorbell fn q _ => fn < 130 && q < 4096
  | .cqCfgWrite fn q _ _ => fn < 2 && q < 4096
  | .entryFetched q _ => q < 4096
  | .arbiterRound => true
  | .shadowWrite q => q < 4096
  | .wqStopped q => q < 4096
  | .rxDelivery q => q < 4096
  | .wqFenceDone q => q < 4096
  | .daybookRecord b => b < 256
  | .daybookOverflow b => b < 256
  | .daybookIrq b => b < 256
  | .wqStatus c => c.wf
  | .wqEnable c => c.wf
  | .wqDisable c => c.wf
  | .bookStatus c => c.wf
  | .bookEnable c => c.wf
  | .bookDisable c => c.wf
  | .setWqService c => c.wf
  | .fetchFrameMove e ch _ => e < 4 && ch < 32
  | .dryChannelDoorbell fn e ch => fn < 130 && e < 4 && ch < 32
  | .descFetched e ch _ _ => e < 4 && ch < 32
  | .descFinished e ch => e < 4 && ch < 32
  | .descMoveError e ch _ _ _ => e < 4 && ch < 32
  | .descFenceDone e ch _ _ => e < 4 && ch < 32
  | .lateError e ch _ _ => e < 4 && ch < 32
  | .chainStopped e ch => e < 4 && ch < 32
  | .pacingHi e ch => e < 4 && ch < 32
  | .pacingFlush e ch => e < 4 && ch < 32
  | .drayStatus c => c.wf
  | .drayStart c => c.wf
  | .drayStop c => c.wf
  | .drayAbort c => c.wf
  | .setDrayChannel c => c.wf
  | .bentStatus c => c.wf
  | .bentSwitch c => c.wf
  | .bentResign c => c.wf
  | .bentResync c => c.wf
  | .ledgerRead c => c.wf
  | .ledgerWrite c => c.wf
  | .bentAssume c => c.wf
  | .setBent c => c.wf
  | .formWaitExpire => true
  | .heartbeatTx => true
  | .heartbeatRx _ _ _ _ => true
  | .heartbeatLoss => true
  | .mirrorRx _ _ _ => true
  | .ackRx _ => true
  | .ackOverdue => true
  | .tbCreditReturn _ _ => true
  | .tbLaneDown _ => true
  | .resignFlushDone _ => true
  | .resignRx _ _ _ => true
  | .partnerHeldLow => true
  | .partnerHeldHigh => true
  | .takeoverSettleExpire => true
  | .takeoverWindowRead => true
  | .shadowKeepExpire => true
  | .holdOffExpire => true
  | .reclaimRx => true
  | .handoverDrained => true
  | .handoverAbandon => true
  | .handoverRx _ => true
  | .resyncStart => true
  | .copyRx _ _ _ => true
  | .syncDoneRx _ => true
  | .copyFail _ => true
  | .resyncRetry => true
  | .spanStateRx _ _ _ _ => true
  | .asyStatus c => c.wf
  | .asyParam c => c.wf
  | .asyKey c => c.wf
  | .asyFirmware c => c.wf
  | .asySnapshot c => c.wf
  | .asyLegalTime c => c.wf
  | .asyLogRoll c => c.wf
  | .asyRead c => c.wf
  | .asyResultTimeout => true
  | .telegramRecord => true
  | .paramRecord => true
  | .keyRecord => true
  | .fwChunkRecord => true
  | .snapshotFetchRecord => true
  | .legalTimeSetRecord => true
  | .logRollRecord => true
  | .timeSample => true
  | .powerPeriodClose => true
  | .billingSnapshot _ => true
  | .checkpointRotation => true
  | .sealChange _ => true
  | .statusPageRewrite => true
  | .islandBoot _ => true
  | .asyPfail => true
  | .aliveLost => true
  | .hallmarkMirrorRead => true
  | .readPortAccess _ _ => true
  | .foremanTake _ => true
  | .faultForceWrite _ => true
  | .thermalCrossing _ _ => true
  | .islandMonitorEvent _ _ _ _ => true
  | .crossingFail _ _ _ => true
  | .fhTestStart => true
  | .tcTestStart => true
  | .rotationTestDone _ _ => true
  | .rotationGapExpire _ => true
  | .faultStatus c => c.wf
  | .faultClear c => c.wf
  | .faultInject c => c.wf
  | .setFaultKind c => c.wf
  | .setFaultGlobal c => c.wf
  | .maintEnter c => c.wf
  | .selftest c => c.wf
  | .memBist c => c.wf
  | .eyeScan c => c.wf
  | .setSelftest c => c.wf
  | .unitTestDone _ _ _ b => b < 256
  | .powerStatus c => c.wf
  | .powerRequest c => c.wf
  | .setPower c => c.wf
  | .idleTimerExpire _ => true
  | .entryDone => true
  | .wakeEvent _ _ => true
  | .railGood _ => true
  | .railGoodTimeout => true
  | .oscReady => true
  | .memReady _ _ _ _ _ => true
  | .wakeStepTimeout => true
  | .logicReady => true
  | .bootDone _ _ => true
  | .aonResetRelease => true
  | .powerOn _ _ => true
  | .pwrGoodCoreFall => true
  | .sysRstNAssert => true
  | .wakeNAssert _ => true
  | .asyRstNAssert => true
  | .warmReset => true
  | .coldReset _ _ => true
  | .warmResetDone => true
  | .functionLevelReset fn _ => fn < 2
  | .perstAssert fn => fn < 2
  | .hostLinkDown fn => fn < 2
  | .aerError fn _ => fn < 2
  | .completionError fn _ _ => fn < 2
  | .vfEnable fn _ => fn < 2
  | .hstVfWrite fn _ _ => fn < 2
  | .bar4Access fn _ _ _ _ => fn < 2
  | .bar2Write fn _ => fn < 2
  | .bar0BadAccess fn _ _ => fn < 130
  | .latchingRead fn _ _ => fn < 130
  | .registerWrite fn _ _ _ => fn < 130
  | .memSpillMarksWrite _ => true
  | .memScrubHoursWrite _ => true
  | .scrubRead _ _ => true
  | .poisonedRead _ _ _ => true
  | .dbgChallenge => true
  | .dbgResponse _ _ => true
  | .trstAssert => true
  | .syncTableExpire p => p ≤ 26
  | .hostLinkUp fn _ _ => fn < 2
  | .tbLaneUp _ => true
  | .sysRstNRelease _ _ => true
  | .railGoodFall _ => true
  | .islandPowerLoss => true
  | .asyPfailRelease => true
  | .delayReqTx p => p ≤ 26
  | .delayReqRx p _ _ => p ≤ 26
  | .delayRespRx p _ => p ≤ 26

end Sys2Proof
end

