-- ==== Sys2Proof/Tests/Slice0.lean ====
section
/-!
SUPPORT. Tests: a term that each well-formedness check refuses,
    packets and records written out from the spec's layouts,
single steps, and for every statement with hypotheses a state and operands that meet them all.
-/

open Sys2Proof Sys2Proof.Machine

namespace Sys2Proof.Tests
set_option Elab.async false

/-- A post whose port p runs at 1 Gb/s with its link up and otherwise stands as t says. -/
def upPort (p : Nat) (t : Port) : State :=
  ({ State.reset with ports := [(p, { t with link := .up, pcs := true })] }).setRegBits (prtBase p + 4) 8 4 7

/-- A transmission whose last bit has left. -/
def gapWire : Wire := { kind := .frame, qf := { id := 1, len := 64 }, start := 0, dataEnd := 0, gapEnd := 0, done := true }

/-- A frame in the frame hold, all of it, from a port. -/
def heldFrame (p : Nat) : Frame := { origin := .rx p, bytes := zeros 60, size := 60, stage := .steered, egress := [p] }

/-- A post with one static stream entry, and a frame of it that waits for the stream engine. -/
def engineState : State :=
  { State.reset with
    stream := { entries := [(7, { state := 1, rcvyEn := true, method := 1, tagging := 2, key := zeros 40, port := 0xFF })] }
    frames := [(1, some { heldFrame 16 with stage := .joinery })]
    joinery := { threads := [(0, some { frame := 1, wait := .verdict, at_ := .request })], order := [(16, [1])] } }

/-- What the stream engine makes of that frame. -/
def engineFound : State.Ident × State :=
  engineState.identify 16 (engineState.viewOf { heldFrame 16 with stage := .joinery }) (zeros 60)

/-- A descriptor at EOC that copies 64 bytes from host address 0x2000 to 0x3000. -/
def dryDesc : List Byte :=
  zeros 8 ++ leBytes 4 1 ++ zeros 4 ++ leBytes 8 0x2000 ++ leBytes 4 64 ++ leBytes 8 0x3000 ++
      leBytes 4 0x1000040 ++ zeros 24

/-- Chain channel 16 of engine 0 fetches that descriptor from host address 0x1000. -/
def dryState : State :=
  { State.reset with dray := { chans := [(16, { state := .running, cur := 0x1000, fetching := some false })] } }.writeHost
    0 0x1000 dryDesc

/-- The descriptor in hand. -/
def dryInHand : Desc := { addr := 0x1000, copy := dryDesc, pairs := inlinePairs dryDesc }

/-- The channel has the descriptor in hand. -/
def dryBusy : State :=
  { dryState with dray := { chans := [(16, { state := .running, cur := 0x1000, desc := some dryInHand })] } }

/-- FETCH channel 3 of engine 0 with one frame in its source queue, HI at 1. -/
def dryFetch (moving : Bool) : State :=
  { State.reset with
    frames := [(4, some { heldFrame 16 with bytes := [] })]
    queues := [(5, { state := .running, kind := .tx, started := [{ index := 0, sn := 1 }] })]
    dray := { chans := [(3, { moving := moving, source := [{ queue := 5, sn := 1, frame := 4, bytes := 1000, since := 7, segs := [(0x2000, 8)] }] })] } }.setReg
    (chanReg 3 + 8) 1

/-- The command queue runs with a NOP packet at its head. -/
def clerkState : State :=
  { State.reset with
    clerk := { ready := true }
    queues := [(0,
        { state := .running, kind := .command, logN := 6, pi := 3, fetched := [{ index := 0, bytes := leBytes 4 0x402 ++ zeros 28 }] })] }

/-- A command of the command queue that waits for the partner. -/
def partnerWait : Waiting :=
  { no := 1, opcode := 0x0400, cmd := { origin := .queue 0 5, tag := 7, partner := true, replyLen := 2, replyAddr := 0x9000 }
    kind := .partner 3 1000 }

/-- A ring as the ledger of a standby holds it. -/
def takenRing : RingLedger := { done := 9, ci := 9, cfg := some (.ring 5 0 0 255 6 1 1 4096 64 1 9 9 []) }

/-- A record in the island's input FIFO. -/
def asyRec (typ : Nat) (payload : List Byte) : AsyRec := { typ := typ, inseq := 9, point := 7, payload := payload }

/-- A snapshot that the island keeps. -/
def asySnap : AsySnap := { utc := 1000, audit := 2, digest := 3, ver := 4, regs := { energy := 5 } }

/-- A post in which one source has a message pending. -/
def fltPending (m : FaultMsg) : State := { State.reset with flt := { sources := [(m.source, { slot := some m })] } }

/-- A post with 8 GiB on each memory channel. -/
def memState : State := { State.reset with mem := { ready := true, trained := 0xFF, gibPerChannel := 8 } }

/-- A pattern set image of one pattern with two static slots, of owner 0xAA and of owner 0xBB, and one mini-slot. -/
def testImage : List Byte :=
  zeros 6 ++ leBytes 2 2 ++ zeros 56 ++ leBytes 2 2 ++ leBytes 2 1 ++ leBytes 4 1000 ++ leBytes 4 1000 ++
      leBytes 4 1000
    ++ leBytes 2 64 ++ leBytes 2 1 ++ [1] ++ zeros 235 ++ leBytes 8 0xAA ++ zeros 8 ++ leBytes 8 0xBB ++ zeros 8
    ++ leBytes 2 0 ++ leBytes 2 1 ++ leBytes 2 1

/-- A command of command queue 0 with room for any reply; its parameter area begins with the bytes given. -/
def wcmd (ps : List Byte) : Cmd := { replyLen := 65536, params := ps ++ zeros 160 }

/-- A part with the Assay island whose clerk is ready and whose bench 0 is open. -/
def wbench : State :=
  { State.reset with clerk := { ready := true, benches := [(0, { state := .open })] }, glb := { State.reset.glb with metrology := true } }

/-! ### Well-formedness: each check refuses a term -/

/-- A packet of one unit. -/
def unitPacket : Cmd := { len := 1, params := zeros 8 }

theorem test_wf_accepts : (Instr.nop unitPacket).wf = true := by decide
theorem test_wf_refuses_len_zero : (Instr.nop { unitPacket with len := 0, params := [] }).wf = false := by decide
theorem test_wf_refuses_len_nine : (Instr.nop { unitPacket with len := 9, params := zeros 264 }).wf = false := by decide
theorem test_wf_refuses_short_params : (Instr.nop { unitPacket with params := zeros 7 }).wf = false := by decide
theorem test_wf_refuses_other_queue : (Instr.nop { unitPacket with origin := .queue 5 0 }).wf = false := by decide

/-! ### Layouts written out from the spec's tables -/

/-- R477 and R565: LEN 1, KIND 4, TAG 0xABCD; OPCODE 0x0203, SCOPE 1, PARTNER 0, FORCE 1,
    BENCH 2; REPLY_ADDR 0x1122334455667788;
REPLY_LEN 64; parameters 1 to 8. -/
def packetRow : List Byte :=
  [0x02, 0x04, 0xCD, 0xAB, 0x03, 0x02, 0x29, 0x00, 0x88, 0x77, 0x66, 0x55, 0x44, 0x33, 0x22, 0x11,
   0x40, 0x00, 0x00, 0x00, 0x00, 0x00, 0x00, 0x00, 1, 2, 3, 4, 5, 6, 7, 8]

theorem test_packet_layout : packetOf 0 { index := 9, bytes := packetRow } =
    (0x0203, { origin := .queue 0 9, tag := 0xABCD, len := 1, scope := 1, force := true, bench := 2
               replyAddr := 0x1122334455667788, replyLen := 64, params := [1, 2, 3, 4, 5, 6, 7, 8] }) := by decide

theorem test_packet_encoded : packetBytes 0x0203 (packetOf 0 { index := 9, bytes := packetRow }).2 = packetRow := by decide

/-- R44: 1 s, 2 ns and 3 units of 2^-16 ns. -/
theorem test_stamp_layout : toStamp ((1000000000 + 2) * 65536 + 3) = 2 ^ 48 + 2 * 2 ^ 16 + 3 := by decide

/-! ### Single steps -/

/-- The state in a next state, or the state before. -/
def after (c : Instr) (s : State) : State := match exec c s with
  | .next t => t
  | _ => s

/-- With no command waiting a step is one tick (log entry 1). -/
theorem test_idle_step : (match step State.reset with | .next t => t.time.ticks | _ => 0) = 1 := by decide
/-- The example of chapter "Work queues and daybooks", time t4: a queue started at 45 gets the doorbell 50. -/
theorem test_doorbell : ((after (.wqDoorbell 0 5 50) { State.reset with
    queues := [(5,
        { state := .running, kind := .tx, logN := 6, pi := 45, ci := 45 })] }).queue 5).pi = 50 := by decide

/-- R482: a doorbell that moves PI past the ring puts the queue in ERROR. -/
theorem test_doorbell_overrun : ((after (.wqDoorbell 0 5 200) { State.reset with
    queues := [(5,
        { state := .running, kind := .tx, logN := 6, pi := 45, ci := 45 })] }).queue 5).state = .error := by decide

/-! ### Witnesses: commands, by the tables of the statements -/

/-- What holds of the rows of a table and of the members of a list one by one holds of each row with some member. -/
theorem exists_of_zip {α β : Type} (p : α → β → Bool) : ∀ (l : List α) (w : List β), l.length = w.length →
    (List.zipWith p l w).all id = true → ∀ x ∈ l, ∃ y, p x y = true
  | [], _, _, _ => by simp
  | _ :: _, [], h, _ => by simp at h
  | x :: l, y :: w, h, g => by
    simp only [List.zipWith_cons_cons, List.all_cons, Bool.and_eq_true, id_eq] at g
    intro z hz
    rcases List.mem_cons.1 hz with rfl | hz
    · exact ⟨y, g.1⟩
    · exact exists_of_zip p l w (by simpa using h) g.2 z hz

/-- States and commands that meet the hypotheses of the rows of QueryCommandsAnswer. -/
def queryRowsMet : List (State × Cmd) := [
  (wbench, wcmd []), (wbench, wcmd []), (wbench, wcmd []), (wbench, wcmd []), (wbench, wcmd []), (wbench, wcmd []),
  (wbench, wcmd []), (wbench, wcmd []), (wbench, wcmd []), (wbench, wcmd []), (wbench, wcmd []), (wbench, wcmd []),
  (wbench, wcmd []), (wbench, wcmd []), (wbench, wcmd []), (wbench, wcmd []), (wbench, wcmd []) ]

theorem witness_QueryCommandsAnswer : ∀ r ∈ Claims.queryRows, ∃ y : State × Cmd,
    (Claims.runs y.1 r.code y.2 && r.holds (Claims.begun y.1 r.code y.2) y.2) = true :=
  exists_of_zip _ _ queryRowsMet (by decide +kernel) (by decide +kernel)

/-- States and commands that meet the hypotheses of the rows of ObjectQueriesAnswer. -/
def objectRowsMet : List (State × Cmd) := [
  (wbench, wcmd (zeros 4 ++ [1])), (wbench.setRegBits (prtBase 16 + 4) 8 4 7, wcmd ([16])),
  (wbench.setRegBits (prtBase 16 + 4) 8 4 7, wcmd ([16])),
  ({ wbench with ports := [(16, { sec := [(0, { defined := true })] })] }.setRegBits (prtBase 16 + 4) 8 4 7,
      wcmd ([16])),
  (wbench, wcmd []), ({ wbench with stream := { filters := [(0, { enabled := true })] } }, wcmd ([])),
  ({ wbench with stream := { meters := [(0, { defined := true })] } }, wcmd ([])),
  ({ wbench with stream := { entries := [(0, { state := 1 })] } }, wcmd ([])),
  ({ wbench with stream := { entries := [(0, { state := 1, key := zeros 40 })] } }, wcmd ([])),
  ({ wbench with stream := { rcvy := [(0, { state := 1 })] } }, wcmd ([])),
  ({ wbench with stream := { accounts := [(0, { defined := true })] } }, wcmd ([])), (wbench, wcmd []),
  (wbench, wcmd []), (wbench, wcmd []), (wbench, wcmd (leBytes 4 0xB40000 ++ leBytes 4 64)) ]

theorem witness_ObjectQueriesAnswer : ∀ r ∈ Claims.objectRows, ∃ y : State × Cmd,
    (Claims.runs y.1 r.code y.2 && r.holds (Claims.begun y.1 r.code y.2) y.2) = true :=
  exists_of_zip _ _ objectRowsMet (by decide +kernel) (by decide +kernel)

/-- States and commands that meet the hypotheses of the rows of AbsentObjectsAreRefused. -/
def absentRowsMet : List (State × Cmd) := [
  (wbench, wcmd []), (wbench, wcmd []), (wbench, wcmd []), (wbench, wcmd []), (wbench, wcmd []), (wbench, wcmd []),
  (wbench, wcmd []), (wbench, wcmd []), (wbench, wcmd []), (wbench, wcmd []), (wbench, wcmd []),
  (wbench, wcmd ([0, 0, 1])), (wbench, wcmd []), (wbench, wcmd []), (wbench, wcmd []), (wbench, wcmd []),
  (wbench, wcmd []), (wbench, wcmd ([2, 0, 0, 0, 1])) ]

theorem witness_AbsentObjectsAreRefused : ∀ r ∈ Claims.absentRows, ∃ y : State × Cmd,
    (Claims.runs y.1 r.code y.2 && r.fails (Claims.begun y.1 r.code y.2) y.2) = true :=
  exists_of_zip _ _ absentRowsMet (by decide +kernel) (by decide +kernel)

/-- States and commands that meet the hypotheses of the rows of ActionCommandsTakeEffect. -/
def actionRowsMet : List (State × Cmd) := [
  (wbench, wcmd []), ({ wbench with clerk := { ready := true } }, wcmd ([])), (wbench, wcmd ([])), (wbench, wcmd []),
  (wbench, wcmd []), ({ wbench with time := { State.reset.time with flag := .valid } }, wcmd ([])), (wbench, wcmd []),
  (wbench, wcmd []), ({ wbench with span := { State.reset.span with state := .listen } }, wcmd ([])),
  (wbench.setRegBits (prtBase 16 + 4) 8 4 7, wcmd ([16])), (wbench.setRegBits (prtBase 16 + 4) 8 4 7, wcmd ([16])),
  ((wbench.setRegBits (prtBase 16 + 4) 8 4 7).setRegBits (mmgBase 16 + 4) 6 1 1, wcmd ([16, 1, 2, 3, 64, 0, 5])),
  ({ wbench with ports := [(16, { verify := .failed })] }.setRegBits (prtBase 16 + 4) 8 4 7, wcmd ([16])),
  ({ wbench with stream := { filters := [(0, { enabled := true, blocked := true })] } }, wcmd ([])),
  ({ wbench with stream := { meters := [(0, { defined := true, markRed := true })] } }, wcmd ([])),
  ({ wbench with stream := { rcvy := [(0, { state := 1 })] } }, wcmd ([])),
  ({ wbench with stream := { entries := [(0, { state := 1 })] } }, wcmd ([1])),
  ({ wbench with stream := { accounts := [(0, { defined := true })] } }, wcmd ([2])),
  ({ wbench with stream := { entries := [(0, { state := 2 })] } }, wcmd ([])),
  ({ wbench with ports := [(16, { lists := [(0, { entries := [{ gates := 1, interval := 1000 }], cycleNs := 1000 })] })] }.setRegBits (prtBase 16 + 4) 8 4 7,
      wcmd ([16] ++ zeros 15 ++ leBytes 4 4096)),
  (wbench, wcmd (leBytes 2 0x3000 ++ leBytes 2 1 ++ zeros 12 ++ leBytes 4 4096)),
  ({ wbench with joinery := { hookTables := [(0, [{ key := zeros 16, lk := [] }, { key := zeros 16, lk := [] }])] } },
      wcmd (zeros 4 ++ leBytes 2 1 ++ zeros 10 ++ leBytes 4 4096)) ]

theorem witness_ActionCommandsTakeEffect : ∀ r ∈ Claims.actionRows, ∃ y : State × Cmd,
    (Claims.runs y.1 r.code y.2 && r.holds (Claims.begun y.1 r.code y.2) y.2) = true :=
  exists_of_zip _ _ actionRowsMet (by decide +kernel) (by decide +kernel)

/-- States and commands that meet the hypotheses of the rows of RingAndUnitCommandsTakeEffect. -/
def ringRowsMet : List (State × Cmd) := [
  ({ wbench with stock := { banks := [(0, { state := .held, seq := 6 })] } }, wcmd (leBytes 4 6)),
  ({ wbench with stock := { banks := [(0, { state := .reserved, seq := 6 })] } }, wcmd (leBytes 4 6)),
  (wbench, wcmd ([5, 0, 0, 0xFF] ++ leBytes 4 0x216)), (wbench, wcmd ([5])), (wbench, wcmd []),
  (wbench, wcmd ([0, 16])), (wbench, wcmd ([0, 16])),
  ({ wbench with dray := { chans := [(16, { state := .error })] } }, wcmd ([0, 16])), (wbench, wcmd ([0, 16])),
  ({ wbench with dray := { chans := [(16, { state := .error })] } }, wcmd ([0, 16])),
  ({ wbench with bent := { role := .active } }, wcmd ([])),
  ({ wbench with bent := { role := .resigned } }, wcmd ([])),
  ({ wbench with bent := { role := .resync } }, wcmd ([])),
  ({ wbench with bent := { role := .orphan } }, wcmd (zeros 24 ++ leBytes 4 16)),
  ({ wbench with bent := { role := .forming } }, wcmd (zeros 24 ++ leBytes 4 16)),
  ({ wbench with bent := { role := .forming } }, { wcmd ([]) with force := true }), (wbench, wcmd ([1])) ]

theorem witness_RingAndUnitCommandsTakeEffect : ∀ r ∈ Claims.ringRows, ∃ y : State × Cmd,
    (Claims.runs y.1 r.code y.2 && r.holds (Claims.begun y.1 r.code y.2) y.2) = true :=
  exists_of_zip _ _ ringRowsMet (by decide +kernel) (by decide +kernel)

/-- States and commands that meet the hypotheses of the rows of WaitingCommandsWait. -/
def waitRowsMet : List (State × Cmd) := [
  (wbench, wcmd []), (wbench, wcmd (zeros 12 ++ [1])),
  ({ wbench with span := { State.reset.span with state := .king, cycValid := true, image := zeros 0x74 ++ [1] ++ zeros 200 } },
      { wcmd ([1, 2]) with scope := 2 }),
  ({ wbench with queues := [(5, { state := .running })] }, wcmd ([5])),
  ({ wbench with dray := { chans := [(16, { state := .running })] } }, wcmd ([0, 16])),
  ({ wbench with dray := { chans := [(16, { state := .running })] } }, wcmd ([0, 16])),
  ({ wbench with bent := { role := .active, inSync := true, lane0 := { up := true }, partnerRole := some .standby } },
      { wcmd ([]) with scope := 1 }),
  (wbench, wcmd []), (wbench, wcmd []), (wbench, wcmd (zeros 8 ++ leBytes 4 4096)), (wbench, wcmd []),
  (wbench, wcmd []), (wbench, wcmd []), (wbench, wcmd (leBytes 4 0x1380)), (wbench, wcmd []),
  ({ wbench with flt := { maint := true } }, wcmd ([4, 0, 1])), (wbench, wcmd []) ]

theorem witness_WaitingCommandsWait : ∀ r ∈ Claims.waitRows, ∃ y : State × Cmd,
    (Claims.passes y.1 r.code y.2 && r.holds (Claims.begun y.1 r.code y.2) y.2) = true :=
  exists_of_zip _ _ waitRowsMet (by decide +kernel) (by decide +kernel)

/-- States and commands that meet the hypotheses of the rows of BenchSettingsAreClampedAndHeld. -/
def settingRowsMet : List (State × Cmd) := [
  (wbench, wcmd []), (wbench, wcmd []), (wbench, wcmd []), (wbench, wcmd []), (wbench, wcmd []), (wbench, wcmd []),
  (wbench, wcmd []), (wbench, wcmd []), (wbench, wcmd []), (wbench, wcmd []), (wbench, wcmd ([0, 0, 1])),
  (wbench, wcmd []), (wbench, wcmd []), (wbench, wcmd []), (wbench, wcmd []), (wbench, wcmd []), (wbench, wcmd []),
  (wbench, wcmd []), (wbench, wcmd []), (wbench, wcmd []), (wbench, wcmd []), (wbench, wcmd []), (wbench, wcmd []),
  (wbench, wcmd []), (wbench, wcmd []), (wbench, wcmd []), (wbench, wcmd []), (wbench, wcmd []), (wbench, wcmd ([1])),
  (wbench, wcmd ([5])), (wbench, wcmd []), (wbench, wcmd []), (wbench, wcmd []), (wbench, wcmd []), (wbench, wcmd []),
  (wbench, wcmd []) ]

theorem witness_BenchSettingsAreClampedAndHeld : ∀ r ∈ Claims.settingRows, ∃ y : State × Cmd,
    (Claims.runs y.1 r.code y.2 && r.holds (Claims.begun y.1 r.code y.2) y.2 &&
      decide (((Claims.begun y.1 r.code y.2).bench y.2.bench.toNat).settings.length < 4096) &&
      decide (benchBytes ((Claims.begun y.1 r.code y.2).bench y.2.bench.toNat)
        + (r.image (Claims.begun y.1 r.code y.2) y.2).length ≤ 67108864)) = true :=
  exists_of_zip _ _ settingRowsMet (by decide +kernel) (by decide +kernel)

/-- States and commands that meet the hypotheses of the rows of BenchImagesAreClampedAndHeld. -/
def imageRowsMet : List (State × Cmd) := [
  ({ wbench with clerk := { ready := true, benches := [(0, { state := .open, scope := 2 })] }, span := { State.reset.span with state := .king } },
      { wcmd ([]) with scope := 2 }),
  (wbench, wcmd []), (wbench, wcmd ([0, 8])), (wbench, wcmd []), (wbench, wcmd []), (wbench, wcmd []),
  (wbench, wcmd []), (wbench, wcmd []), (wbench, wcmd []), (wbench, wcmd []), (wbench, wcmd []) ]

theorem witness_BenchImagesAreClampedAndHeld : ∀ r ∈ Claims.imageRows, ∃ y : State × Cmd,
    (Claims.runs y.1 r.code y.2 && r.holds (Claims.begun y.1 r.code y.2) y.2 &&
      decide (((Claims.begun y.1 r.code y.2).bench y.2.bench.toNat).settings.length < 4096) &&
      decide (benchBytes ((Claims.begun y.1 r.code y.2).bench y.2.bench.toNat)
        + (r.image (Claims.begun y.1 r.code y.2) y.2).length ≤ 67108864)) = true :=
  exists_of_zip _ _ imageRowsMet (by decide +kernel) (by decide +kernel)

/-! ### Witnesses: the other statements, clause by clause -/

theorem witness_TimeIslandEventsComplete_1 : ∃ (s : State) (w : Slew), s.time.slew = some w :=
  ⟨{ State.reset with time := { State.reset.time with slew := some { remaining := 5 } } }, { remaining := 5 },
      by decide⟩

theorem witness_TimeIslandEventsComplete_4 : ∃ (s : State) (off : Int), s.time.dpll = .locked ∧
    s.integrated = false ∧ s.isMember = false ∧ 65536000 < off.natAbs :=
  ⟨{ State.reset with time := { State.reset.time with dpll := .locked } }, (-70000000), by decide⟩

theorem witness_TimeIslandEventsComplete_5 : ∃ (s : State) (kind source : Nat), 1 ≤ kind ∧ kind ≤ 7 :=
  ⟨State.reset, 3, 0, by decide⟩

theorem witness_TimeIslandEventsComplete_7 : ∃ (s : State), s.time.dpll = .holdover ∧ s.time.flag = .valid :=
  ⟨{ State.reset with time := { State.reset.time with dpll := .holdover, flag := .valid } }, by decide⟩

theorem witness_TimeIslandEventsComplete_8 : ∃ (s : State), s.time.todLabel = none ∧ s.clerk.waiting = [] :=
  ⟨State.reset, by decide⟩

theorem witness_TimeIslandEventsComplete_9 : ∃ (s : State) (sec : Nat), s.time.ppsInTick = none ∧
    s.regBits (timBase + 0x80) 1 1 = 1 :=
  ⟨State.reset.setReg (timBase + 0x80) 2, 1000, by decide⟩

theorem witness_TimeIslandEventsComplete_11 : ∃ (s : State) (w : Waiting) (u d q : Nat) (i : BitVec 16),
    s.clerk.waiting = [w] ∧ w.kind = .timeSetPps u d ∧ w.cmd.origin = .queue q i :=
  ⟨{ State.reset with clerk := { waiting := [{ no := 1, opcode := 0x0201, cmd := {}, kind := .timeSetPps 77 1000 }] } },
      { no := 1, opcode := 0x0201, cmd := {}, kind := .timeSetPps 77 1000 }, 77, 1000, 0, 0, by decide⟩

theorem witness_PtpMessagesAreQueued_1 : ∃ (s : State) (p : Nat), p ≤ 23 ∧ s.ptpSends p = true ∧
    (s.port p).wire.isSome = true ∧ (s.port p).txLpi = false :=
  ⟨{ upPort 16 { wire := some gapWire } with time := { (upPort 16 {}).time with flag := .valid, ports := [(16, { joined := some 0, role := .master })] } },
      16, by decide⟩

theorem witness_PtpMessagesAreQueued_2 : ∃ (s : State) (p : Nat), p ≤ 23 ∧ s.ptpSends p = true ∧
    (s.port p).wire.isSome = true ∧ (s.port p).txLpi = false :=
  ⟨{ upPort 16 { wire := some gapWire } with time := { (upPort 16 {}).time with flag := .valid, ports := [(16, { joined := some 0, role := .master })] } },
      16, by decide⟩

theorem witness_PtpMessagesAreQueued_3 : ∃ (s : State) (p : Nat), p ≤ 23 ∧ (s.ptime p).joined.isSome = true ∧
    (s.ptime p).e2e = false ∧ s.portUp p = true ∧ (s.port p).wire.isSome = true ∧ (s.port p).txLpi = false :=
  ⟨{ upPort 16 { wire := some gapWire } with time := { (upPort 16 {}).time with flag := .valid, ports := [(16, { joined := some 0, role := .master })] } },
      16, by decide⟩

theorem witness_PtpMessagesAreQueued_4 : ∃ (s : State) (p u : Nat) (m : PtpMsg), p ≤ 23 ∧
    (s.ptime p).joined.isSome = true ∧ (s.ptime p).e2e = false ∧ s.portUp p = true ∧ (s.port p).wire.isSome = true ∧
    (s.port p).txLpi = false :=
  ⟨{ upPort 16 { wire := some gapWire } with time := { (upPort 16 {}).time with flag := .valid, ports := [(16, { joined := some 0, role := .master })] } },
      16, 7, {}, by decide⟩

theorem witness_PtpMessagesAreQueued_5 : ∃ (s : State) (p : Nat), p ≤ 23 ∧ (s.ptime p).joined.isSome = true ∧
    (s.ptime p).e2e = true ∧ (s.ptime p).role = .slave ∧ s.portUp p = true ∧ (s.port p).wire.isSome = true ∧
    (s.port p).txLpi = false :=
  ⟨{ upPort 16 { wire := some gapWire } with time := { (upPort 16 {}).time with flag := .valid, ports := [(16, { joined := some 1, e2e := true, role := .slave })] } },
      16, by decide⟩

theorem witness_PtpMessagesAreQueued_6 : ∃ (s : State) (p u : Nat) (m : PtpMsg), p ≤ 23 ∧
    (s.ptime p).joined.isSome = true ∧ (s.ptime p).e2e = true ∧ (s.ptime p).role = .master ∧ s.portUp p = true ∧
    (s.port p).wire.isSome = true ∧ (s.port p).txLpi = false :=
  ⟨{ upPort 16 { wire := some gapWire } with time := { (upPort 16 {}).time with flag := .valid, ports := [(16, { joined := some 1, e2e := true, role := .master })] } },
      16, 7, {}, by decide⟩

theorem witness_PtpMessagesAreQueued_7 : ∃ (s : State) (p : Nat), p ≤ 15 ∧ (s.ptime p).joined.isSome = true ∧
    s.portUp p = true ∧ (s.port p).wire.isSome = true ∧ (s.port p).txLpi = false :=
  ⟨{ upPort 0 { wire := some gapWire } with time := { (upPort 0 {}).time with flag := .valid, ports := [(0, { joined := some 0, role := .master })] } },
      0, by decide⟩

theorem witness_PtpMessagesAreQueued_8 : ∃ (s : State) (p : Nat), p ≤ 23 ∧ (s.ptime p).synceEsmc = true ∧
    s.portUp p = true ∧ (s.port p).wire.isSome = true ∧ (s.port p).txLpi = false :=
  ⟨{ upPort 16 { wire := some gapWire } with time := { (upPort 16 {}).time with flag := .valid, ports := [(16, { synceEsmc := true })] } },
      16, by decide⟩

theorem witness_SyncGivesOffsetToParent_1 : ∃ (s : State) (p i u : Nat) (m : PtpMsg), p ≤ 23 ∧
    (s.ptime p).joined = some i ∧ (s.ptpInst i).domain = m.domain ∧ (s.ptime p).role = .slave ∧ s.portUp p = true ∧
    m.twoStep = false ∧ s.time.phRef ≠ some (State.slaveRef (s.ptime p)) :=
  ⟨{ upPort 16 {} with time := { (upPort 16 {}).time with ports := [(16, { joined := some 1, role := .slave })] } },
      16, 1, 1000, { stamp := 400, correction := 3 }, by decide⟩

theorem witness_PtpMessagesAreTaken_1 : ∃ (s : State) (p i : Nat) (a : Announce), p ≤ 23 ∧ s.portUp p = true ∧
    (s.ptime p).joined = some i ∧ a.gmId ≠ s.ownId ∧ a.senderId ≠ s.ownId :=
  ⟨{ upPort 16 {} with time := { (upPort 16 {}).time with ports := [(16, { joined := some 1 })] } }, 16, 1,
      { gmId := 5, senderId := 6 }, by decide⟩

theorem witness_PtpMessagesAreTaken_2 : ∃ (s : State) (p u t1 : Nat) (m : PtpMsg), p ≤ 23 ∧ s.portUp p = true ∧
    (s.ptime p).joined.isSome = true ∧ (s.ptime p).e2e = false ∧ (s.ptime p).timeCapable = true ∧
    m.twoStep = false ∧ m.reqId = (s.ptpMsg p 0).senderId ∧ m.reqPort = p ∧ m.seq + 1 = (s.ptime p).pdelaySeq ∧
    (s.ptime p).pdelayT1 = some t1 :=
  ⟨{ upPort 16 {} with glb := { State.reset.glb with clockId := 0xAA }, time := { (upPort 16 {}).time with ports := [(16, { joined := some 1, timeCapable := true, pdelayOpen := true, pdelaySeq := 1, pdelayT1 := some 100 })] } },
      16, 300, 100, { stamp := 200, reqId := 0xAA, reqPort := 16 }, by decide⟩

theorem witness_PtpMessagesAreTaken_3 : ∃ (s : State) (p t3 : Nat) (m : PtpMsg), p ≤ 23 ∧ s.portUp p = true ∧
    (s.ptime p).joined.isSome = true ∧ (s.ptime p).e2e = true ∧ (s.ptime p).role = .slave ∧
    m.seq = (s.ptime p).delayReqSeq ∧ m.reqId = (s.ptpMsg p 0).senderId ∧ m.reqPort = p ∧
    (s.ptime p).delayReqT3 = some t3 :=
  ⟨{ upPort 16 {} with glb := { State.reset.glb with clockId := 0xAA }, time := { (upPort 16 {}).time with ports := [(16, { joined := some 1, e2e := true, role := .slave, delayReqSeq := 4, delayReqT3 := some 100 })] } },
      16, 100, { seq := 4, stamp := 200, reqId := 0xAA, reqPort := 16 }, by decide⟩

theorem witness_PtpMessagesAreTaken_4 : ∃ (s : State) (p : Nat), p ≤ 23 ∧ (s.ptime p).joined.isSome = true ∧
    (s.ptime p).e2e = false ∧ (s.ptime p).pdelayOpen = true ∧ (s.ptime p).lostRun + 1 < (s.ptime p).allowedLost :=
  ⟨{ upPort 16 {} with time := { (upPort 16 {}).time with ports := [(16, { joined := some 1, pdelayOpen := true })] } },
      16, by decide⟩

theorem witness_PtpMessagesAreTaken_5 : ∃ (s : State) (p u : Nat), p ≤ 23 ∧ (s.ptime p).role = .slave ∧
    (s.ptime p).lastSync = some u :=
  ⟨{ upPort 16 {} with time := { (upPort 16 {}).time with ports := [(16, { joined := some 1, role := .slave, lastSync := some 7 })] } },
      16, 7, by decide⟩

theorem witness_PtpMessagesAreTaken_6 : ∃ (s : State) (p fwd : Nat) (r : PhaseReport), p ≤ 15 ∧ s.portUp p = true ∧
    (s.ptime p).role ≠ .slave :=
  ⟨{ upPort 0 {} with time := { (upPort 0 {}).time with ports := [(0, { joined := some 0, role := .master })] } },
      0, 5, { phase := 12, valid := true, seq := 3 }, by decide⟩

theorem witness_PtpMessagesAreTaken_7 : ∃ (s : State) (p ql : Nat), p ≤ 23 ∧ (s.ptime p).synceEsmc = true ∧
    s.portUp p = true :=
  ⟨{ upPort 16 {} with time := { (upPort 16 {}).time with ports := [(16, { synceEsmc := true })] } }, 16, 4,
      by decide⟩

theorem witness_SpanEngineEventsComplete_1 : ∃ (s : State) (u : Nat), s.span.state = .listen ∧
    s.span.listenFrom = some u ∧ s.kingCapable = false :=
  ⟨({ State.reset with span := { State.reset.span with state := .listen, listenFrom := some 5 } }).setReg (spnBase + 0x40) 0,
      5, by decide⟩

theorem witness_SpanEngineEventsComplete_2 : ∃ (s : State) (u r : Nat), s.span.state = .listen ∧
    s.span.listenFrom = some u ∧ s.kingCapable = true ∧ s.time.flag ≠ .invalid ∧ s.span.imageValid = true ∧
    s.raisePattern = some r :=
  ⟨({ ({ State.reset with span := { State.reset.span with state := .listen, listenFrom := some 5, image := testImage, imageValid := true } }) with time := { State.reset.time with flag := .valid } }).setReg (spnBase + 0x40) 1,
      5, 0, by decide⟩

theorem witness_SpanEngineEventsComplete_3 : ∃ (s : State), s.integrated = true ∧ s.awake = true ∧
    s.span.yieldTo = none ∧ s.span.begun = true ∧ s.span.state = .member ∧ s.span.change = none ∧
    s.bent.role = .solo ∧ s.bent.handoverCycle = none ∧ s.clerk.benches = [] ∧ s.clerk.waiting = [] ∧
    s.stock.banks = [] ∧ s.span.stocktakes = [] :=
  ⟨{ State.reset with glb := { State.reset.glb with clockId := 0xAA }, span := { State.reset.span with cycValid := true, state := .member, begun := true, image := testImage, imageValid := true } },
      by decide⟩

theorem witness_SpanEngineEventsComplete_4 : ∃ (s : State), s.isMember = true ∧ s.span.bellSeen = false ∧
    s.accepts 0x31 0 = false ∧ s.span.change = none ∧ s.span.missedRun + 1 < s.bellLossLimit :=
  ⟨({ State.reset with glb := { State.reset.glb with clockId := 0xAA }, span := { State.reset.span with cycValid := true, state := .member, begun := true, image := testImage, imageValid := true } }).setReg (spnBase + 0x40) 0x300,
      by decide⟩

theorem witness_SpanEngineEventsComplete_5 : ∃ (s : State) (slot : Nat), s.integrated = true ∧ s.span.begun = true ∧
    s.maySend = true ∧ s.ownsSlot s.span.pattern slot = true ∧ s.accepts 0x22 slot = false ∧
    s.statBound s.span.pattern slot = 255 ∧ s.clerk.carriedReplies = [] ∧ s.span.change = none :=
  ⟨{ State.reset with glb := { State.reset.glb with clockId := 0xAA }, span := { State.reset.span with cycValid := true, state := .member, begun := true, image := testImage, imageValid := true } },
      1, by decide⟩

theorem witness_SpanEngineEventsComplete_6 : ∃ (s : State) (slot o : Nat),
    s.slotOwner s.span.pattern slot = some o ∧ s.integrated = true ∧ s.span.begun = true ∧
    s.accepts 0x12 slot = false ∧ s.accepts 2 slot = false ∧ s.ownsSlot s.span.pattern slot = false :=
  ⟨{ State.reset with glb := { State.reset.glb with clockId := 0xAA }, span := { State.reset.span with cycValid := true, state := .member, begun := true, image := testImage, imageValid := true } },
      2, 1, by decide⟩

theorem witness_SpanEngineEventsComplete_7 : ∃ (s : State), s.integrated = true ∧ s.span.begun = true ∧
    s.span.miniCount = 0 ∧ imgM s.span.image s.span.pattern ≠ 0 ∧ s.maySend = false :=
  ⟨{ State.reset with glb := { State.reset.glb with clockId := 0xAA }, span := { State.reset.span with cycValid := true, state := .member, begun := true, image := testImage, imageValid := true, silenced := true } },
      by decide⟩

theorem witness_SpanCopiesAreJudged_1 : ∃ (s : State) (p u : Nat) (h : SpanHdr) (b : Bell), s.isSpanPort p = true ∧
    s.inService p = true ∧ (s.port p).link = .up ∧ s.asleep = false ∧ s.span.state = .listen ∧
    s.span.cycValid = false ∧ s.span.imageValid = false ∧ h.version = 1 ∧ h.subtype = 1 ∧ h.hops = 1 ∧
    h.number = 0 ∧ 1 ≤ b.hopLimit ∧ placed b.pi b.dhop b.start 1 u ≠ .misplaced ∧ s.span.heard.contains (h.owner,
    h.cycle, b.start) = false ∧ s.sendsAs h.owner.toNat = false :=
  ⟨({ upPort 0 {} with glb := { State.reset.glb with clockId := 0xAA }, span := { State.reset.span with state := .listen, listenFrom := some 5 } }).setReg (spnBase + 0x80) 1,
      0, 1000, { subtype := 1, owner := 0xBB, cycle := 3 }, { start := 900, pi := 1000, hopLimit := 8 }, by decide⟩

theorem witness_SpanCopiesAreJudged_2 : ∃ (s : State) (p u tref o : Nat) (h : SpanHdr), s.inService p = true ∧
    (s.port p).link = .up ∧ s.asleep = false ∧ p ≤ 15 ∧ s.headerOk p 2 s.span.hopLimit h = true ∧
    s.chanOk p h = true ∧ s.copyRef h false = some (tref, o) ∧ o < 4096 ∧
    placed s.span.pi s.span.dhop tref h.hops u = .valid ∧ h.payload = 2 :=
  ⟨({ upPort 0 {} with glb := { State.reset.glb with clockId := 0xAA }, span := { State.reset.span with cycValid := true, state := .member, begun := true, image := testImage, imageValid := true, hopLimit := 8, pi := 1000 } }).setReg (spnBase + 0x80) 1,
      0, 65537000, 65536000, 1, { subtype := 2, channel := true, number := 2, owner := 0xBB, payload := 2 },
      by decide⟩

theorem witness_SpanCopiesAreJudged_3 : ∃ (s : State) (p u tref o : Nat) (h : SpanHdr) (data : List Byte),
    s.inService p = true ∧ (s.port p).link = .up ∧ s.asleep = false ∧ p ≤ 15 ∧
    s.headerOk p 3 s.span.hopLimit h = true ∧ s.chanOk p h = true ∧ s.copyRef h true = some (tref, o) ∧
    placed s.span.pi s.span.dhop tref h.hops u ≠ .misplaced ∧ s.integrated = true ∧ s.span.miniCount ≠ h.number :=
  ⟨({ upPort 0 {} with glb := { State.reset.glb with clockId := 0xAA }, span := { State.reset.span with cycValid := true, state := .member, begun := true, image := testImage, imageValid := true, hopLimit := 8, pi := 1000, miniCount := 5 } }).setReg (spnBase + 0x80) 1,
      0, 131073000, 131072000, 1, { subtype := 3, channel := true, number := 1, owner := 0xBB }, zeros 8, by decide⟩

theorem witness_SpanCopiesAreJudged_4 : ∃ (s : State) (p u : Nat) (h : SpanHdr) (c : Carry) (k : KeptBell),
    s.inService p = true ∧ (s.port p).link = .up ∧ s.asleep = false ∧ p ≤ 15 ∧ s.integrated = false ∧
    s.span.lastBell = some k ∧ k.body.setId = c.tag ∧ s.span.imageValid = false ∧
    s.headerOk p 4 s.span.hopLimit h = true ∧ h.number = 0 ∧
    placed s.span.pi s.span.dhop c.ref h.hops u ≠ .misplaced ∧ s.sendsAs h.owner.toNat = false ∧ c.kind = 0 ∧
    c.part < c.parts ∧ 2 ≤ c.parts ∧ s.span.asm = [] ∧ c.data ≠ [] :=
  ⟨({ upPort 0 {} with glb := { State.reset.glb with clockId := 0xAA }, span := { State.reset.span with lastBell := some { owner := 0xBB, cycle := 3, body := { setId := 77 } }, hopLimit := 8, pi := 1000 } }).setReg (spnBase + 0x80) 1,
      0, 1000, { subtype := 4, owner := 0xBB }, { ref := 900, parts := 2, tag := 77, data := [1, 2] },
      { owner := 0xBB, cycle := 3, body := { setId := 77 } }, by decide⟩

theorem witness_SpanCopiesAreJudged_5 : ∃ (s : State) (owner : Nat) (data : List Byte), s.isKing = true ∧
    beAt data 4 2 ≠ 0x0F00 :=
  ⟨{ State.reset with span := { State.reset.span with state := .king } }, 1, zeros 16, by decide⟩

theorem witness_SpanCopiesAreJudged_6 : ∃ (s : State) (c : Carry) (seq : BitVec 32) (cmd : Cmd),
    carriedCmd c = some (0, seq, cmd) ∧ s.clerk.ready = true ∧ s.span.cycValid = true ∧ s.isKing = false ∧
    s.clerk.carryKing = s.span.kingId ∧ s.clerk.carryDone.contains seq = false ∧ s.clerk.taken = [] ∧
    s.clerk.waiting = [] :=
  ⟨{ ({ State.reset with span := { State.reset.span with cycValid := true, state := .member, kingId := 0xBB } }) with clerk := { ready := true, carryKing := 0xBB } },
      { kind := 1, tag := 9, data := zeros 4 ++ beBytes 4 9 ++ beBytes 2 8 ++ zeros 10 }, 9,
      { origin := .carried 9, len := 1, params := zeros 8 }, by decide⟩

theorem witness_LaunchesStartAtTheirInstant_1 : ∃ (s : State) (l : Launch), s.span.launches = [l] ∧
    l.relay = false ∧ l.hdr.subtype = 1 ∧ l.frame = none ∧ s.portUp l.port = true ∧ s.txAsleep = false ∧ 0 ≤ l.at_ ∧
    (s.advanceToU l.at_.toNat).nowU ≤ l.at_.toNat + 98304 ∧ (s.port l.port).wire = none ∧
    (s.port l.port).commit = none ∧ (s.port l.port).wakeAt ≤ l.at_.toNat * unitQ ∧ s.macsecOn l.port = false :=
  ⟨{ upPort 0 {} with span := { State.reset.span with launches := [{ port := 0, hdr := { subtype := 1 }, bell := some {}, at_ := 100000 }] } },
      { port := 0, hdr := { subtype := 1 }, bell := some {}, at_ := 100000 }, by decide⟩

theorem witness_LaunchesStartAtTheirInstant_2 : ∃ (s : State) (l : Launch), s.span.launches = [l] ∧ l.relay = true ∧
    l.frame = none ∧ s.portUp l.port = true ∧ s.txAsleep = false ∧ 0 ≤ l.at_ ∧
    (s.advanceToU l.at_.toNat).nowU ≤ l.at_.toNat + 98304 ∧ (s.port l.port).wire = none ∧
    (s.port l.port).commit = none ∧ (s.port l.port).wakeAt ≤ l.at_.toNat * unitQ ∧ s.macsecOn l.port = false :=
  ⟨{ upPort 0 {} with span := { State.reset.span with launches := [{ port := 0, hdr := { subtype := 2, hops := 2 }, at_ := 100000, relay := true }] } },
      { port := 0, hdr := { subtype := 2, hops := 2 }, at_ := 100000, relay := true }, by decide⟩

theorem witness_RingAndUnitCommandsTakeEffect_2 : ∃ (s : State) (c : Cmd), Claims.runs s 0x0904 c = true ∧
    (bookRefusal (Claims.begun s 0x0904 c) c (c.f 0 0 8)).isNone = true ∧
    bookEnableOk (Claims.begun s 0x0904 c) c = true :=
  ⟨wbench, wcmd ([3, 4] ++ zeros 2 ++ leBytes 4 5), by decide +kernel⟩

theorem witness_RingAndUnitCommandsTakeEffect_3 : ∃ (s : State) (c : Cmd), Claims.runs s 0x0D01 c = true ∧
    c.f 0 13 1 = 0 ∧ populated (c.f 0 0 12) = true ∧ c.f 0 12 1 = 0 :=
  ⟨wbench, wcmd (leBytes 4 0x381), by decide +kernel⟩

theorem witness_RingAndUnitCommandsTakeEffect_4 : ∃ (s : State) (c : Cmd), Claims.runs s 0x7F00 c = true ∧
    c.force = true ∧ s.bent.role = .solo ∧ s.span.state = .disabled ∧ (∀ e ∈ s.queues,
    s.isCommandQueue e.1 = true ∨ e.2.state = .disabled) ∧ (∀ e ∈ s.dray.chans, e.2.state = .disabled) ∧ (∀ p < 25,
    s.inService p = false) ∧ s.bent.step = .none :=
  ⟨wbench, { wcmd [] with force := true }, by decide +kernel⟩

theorem witness_WaitingCommandsWait_2 : ∃ (s : State) (c : Cmd), Claims.runs s 0x0F00 c = true ∧ c.scope = 0 ∧
    c.f 0 0 1 = 1 ∧ c.f 0 16 2 = 0 ∧ ((Claims.begun s 0x0F00 c).bank (s.stock.seq.toNat % 2)).state = .free :=
  ⟨wbench, wcmd [1], by decide +kernel⟩

theorem witness_WaitingCommandsWait_3 : ∃ (s : State) (c : Cmd) (xs : List Setting) (b : Bench),
    Claims.runs s 0x0102 c = true ∧ (Claims.begun s 0x0102 c).pegRefusal c = none ∧
    (Claims.begun s 0x0102 c).dryFit (s.bench c.bench.toNat) = .inl xs ∧
    (Claims.begun s 0x0102 c).pegInstant c (stageUs (s.bench c.bench.toNat)) (s.bench c.bench.toNat) = some b :=
  ⟨wbench, wcmd [], [],
      { State.bench wbench 0 with pegAt := .safe, pegTime := wbench.countAfter (usTicks (stageUs (wbench.bench 0))), pegTick := some (wbench.time.ticks + usTicks (stageUs (wbench.bench 0))) },
      by decide +kernel⟩

theorem witness_EmptyQueueTicks : ∃ s : State, s.pending = [] := ⟨State.reset, rfl⟩

theorem witness_EveryStepKeepsTheCanonicalForm : ∃ s t : State, Memory.wf s = true ∧ step s = .next t :=
  ⟨State.reset.writeHost 0 0x1000 [1, 2], (State.reset.writeHost 0 0x1000 [1, 2]).advance 1, by decide, rfl⟩

theorem witness_PacketsDecodeAsEncoded : ∃ (code : Nat) (c : Cmd), Claims.wellMade code c :=
  ⟨0xFFFF, { unitPacket with len := 8, params := zeros 232 }, by decide, by decide, by decide, by decide +kernel⟩

theorem witness_StampsDecodeAsEncoded_2 : ∃ u, u < 2 ^ 48 * 1000000000 * 65536 := ⟨2 ^ 48 * 1000000000 * 65536 - 1,
    by decide⟩

theorem witness_StampsDecodeAsEncoded_3 : ∃ v, v < 2 ^ 96 ∧
    stampNs v < 1000000000 := ⟨2 ^ 96 - 2 ^ 48 + 999999999 * 65536 + 65535, by decide⟩

theorem witness_FailedChecksRefuseTheCommand : ∃ (r : Nat × (Cmd → Instr)) (s : State) (c : Cmd) (st : Status) (d : Nat),
    r ∈ Claims.commands ∧ Claims.answers s r.1 c = true ∧ (Claims.begun s r.1 c).precheck r.1 c = some (st, d) :=
  ⟨(0x0000, .nop), wbench, { wcmd [] with scope := 3 }, .inconsistent, 4, by simp [Claims.commands],
      by decide +kernel, by decide +kernel⟩

/-- An active post whose partner answers. -/
def partnered : State :=
  { wbench with bent := { role := .active, inSync := true, lane0 := { up := true }, partnerRole := some .standby } }

theorem witness_PartnerCommandsCrossTheTieBeam : ∃ (r : Nat × (Cmd → Instr)) (s : State) (c : Cmd),
    r ∈ Claims.commands ∧ Claims.answers s r.1 c = true ∧ c.partner = true ∧
        (Claims.begun s r.1 c).precheck r.1 c = none :=
  ⟨(0x0000, .nop), partnered, { wcmd [] with partner := true }, by simp [Claims.commands], by decide +kernel,
      by decide +kernel,
    by decide +kernel⟩

theorem witness_AssayCommandsOnNPartsAreNotActive_1 : ∃ (r : Nat × (Cmd → Instr)) (s : State) (c : Cmd) (o : Op),
    r ∈ Claims.commands ∧ r.1 / 256 = 0x0C ∧ Claims.answers s r.1 c = true ∧ s.glb.metrology = false ∧
        s.flt.stopped = false ∧
    opInfo r.1 = some o ∧ o.len ≤ c.params.length ∧ c.scope = 0 ∧ c.partner = false :=
  ⟨(0x0C00, .asyStatus), { wbench with glb := { wbench.glb with metrology := false } }, wcmd [],
      { code := 0x0C00, reply := 256 },
    by simp [Claims.commands], rfl, by decide +kernel, rfl, rfl, by decide +kernel, by decide +kernel, rfl, rfl⟩

theorem witness_AssayCommandsOnNPartsAreNotActive_2 : ∃ s : State, s.glb.metrology = false :=
  ⟨{ wbench with glb := { wbench.glb with metrology := false } }, rfl⟩

theorem witness_BentResignAnswers_2 : ∃ (s : State) (c : Cmd), Claims.runs s 0x0B02 c = true ∧
    s.bent.role ≠ .active :=
  ⟨wbench, wcmd [], by decide +kernel⟩

theorem witness_BentResignAnswers_3 : ∃ (s : State) (c : Cmd), Claims.runs s 0x0B02 c = true ∧
    s.bent.role = .active :=
  ⟨partnered, wcmd [], by decide +kernel⟩

/-- WQ_ENABLE of queue 5 with a ring address of low bits b and notice book n. -/
def enableCmd (b n : Byte) : Cmd := wcmd ([5, 0, 0, n] ++ leBytes 4 0x216 ++ [b, 0, 0, 0])

theorem witness_WqEnableRefusals_1 : ∃ (s : State) (c : Cmd), Claims.runs s 0x0901 c = true ∧
    (wqRefusal s c (c.f 0 0 12) true).isNone = true ∧ (s.queue (c.f 0 0 12)).state ≠ .disabled :=
  ⟨{ wbench with queues := [(5, { state := .running })] }, enableCmd 0 0xFF, by decide +kernel⟩

theorem witness_WqEnableRefusals_2 : ∃ (s : State) (c : Cmd), Claims.runs s 0x0901 c = true ∧
    (wqRefusal s c (c.f 0 0 12) true).isNone = true ∧ c.n 8 8 % 4096 ≠ 0 :=
  ⟨wbench, enableCmd 1 0xFF, by decide +kernel⟩

theorem witness_WqEnableRefusals_3 : ∃ (s : State) (c : Cmd), Claims.runs s 0x0901 c = true ∧
    (wqRefusal s c (c.f 0 0 12) true).isNone = true ∧ c.n 0x10 8 % 16 ≠ 0 :=
  ⟨wbench, wcmd ([5, 0, 0, 0xFF] ++ leBytes 4 0x216 ++ zeros 8 ++ [8]), by decide +kernel⟩

theorem witness_WqEnableRefusals_4 : ∃ (s : State) (c : Cmd), Claims.runs s 0x0901 c = true ∧
    (wqRefusal s c (c.f 0 0 12) true).isNone = true ∧ c.f 0 24 8 ≠ 0xFF ∧ s.fnOfBook (c.f 0 24 8) ≠ s.cmdFn c :=
  ⟨{ wbench with glb := { wbench.glb with hostSplit := true } }, enableCmd 0 0xFE, by decide +kernel⟩

/-- A bench that holds 4,096 settings. -/
def fullBench : Bench := { state := .open, settings := List.replicate 4096 { opcode := 0x0215, params := [] } }

theorem witness_FullBenchesRefuse : ∃ (s : State) (c : Cmd), Claims.runs s 0x0215 c = true ∧
    4096 ≤ ((Claims.begun s 0x0215 c).bench c.bench.toNat).settings.length :=
  ⟨{ wbench with clerk := { ready := true, benches := [(0, fullBench)] } }, wcmd [], by decide +kernel,
      by decide +kernel⟩

theorem witness_BentAssumeAnswers_1 : ∃ (s : State) (c : Cmd), Claims.runs s 0x0B06 c = true ∧ c.force = false :=
  ⟨wbench, wcmd [], by decide +kernel⟩

theorem witness_BentAssumeAnswers_2 : ∃ (s : State) (c : Cmd), Claims.runs s 0x0B06 c = true ∧ s.bent.role ≠ .orphan ∧
    s.bent.role ≠ .forming :=
  ⟨wbench, wcmd [], by decide +kernel⟩

/-- An orphan whose partner holds control, or does not. -/
def orphan (held : Bool) : State := { wbench with bent := { role := .orphan, partnerHeld := held } }

theorem witness_BentAssumeAnswers_3 : ∃ (s : State) (c : Cmd), Claims.runs s 0x0B06 c = true ∧
    s.bent.partnerHeld = true :=
  ⟨orphan true, wcmd [], by decide +kernel⟩

theorem witness_BentAssumeAnswers_4 : ∃ (s : State) (c : Cmd), Claims.runs s 0x0B06 c = true ∧ c.force = true ∧
    (s.bent.role = .orphan ∨ s.bent.role = .forming) ∧ s.bent.partnerHeld = false :=
  ⟨orphan false, { wcmd [] with force := true }, by decide +kernel⟩

/-- A span time of 1,000,000,000 ns. -/
def badTime : List Byte := zeros 2 ++ leBytes 4 1000000000 ++ zeros 6

theorem witness_SpanTimesOutOfRangeAreRefused_1 : ∃ (s : State) (c : Cmd), Claims.runs s 0x0201 c = true ∧
    1000000000 ≤ stampNs (c.n 0 12) :=
  ⟨wbench, wcmd badTime, by decide +kernel⟩

theorem witness_SpanTimesOutOfRangeAreRefused_2 : ∃ (s : State) (c : Cmd), Claims.runs s 0x0102 c = true ∧
    c.f 0 0 2 = 2 ∧
    1000000000 ≤ stampNs (c.n 8 12) :=
  ⟨wbench, wcmd ([2] ++ zeros 7 ++ badTime), by decide +kernel⟩

theorem witness_SpanTimesOutOfRangeAreRefused_3 : ∃ (s : State) (c : Cmd), Claims.runs s 0x0F00 c = true ∧
    c.scope = 0 ∧
    c.f 0 16 2 = 2 ∧ 1000000000 ≤ stampNs (c.n 8 12) :=
  ⟨wbench, wcmd ([1, 0, 2] ++ zeros 5 ++ badTime), by decide +kernel⟩

theorem witness_TimeSetAndSlewExcludeEachOther_1 : ∃ (s : State) (c : Cmd) (w : Slew), Claims.runs s 0x0203 c = true ∧
    (Claims.begun s 0x0203 c).ownTime = true ∧ s.time.slew = some w ∧ w.remaining ≠ 0 :=
  ⟨{ wbench with time := { wbench.time with slew := some { remaining := -1 } } }, wcmd [], { remaining := -1 },
      by decide +kernel⟩

theorem witness_TimeSetAndSlewExcludeEachOther_3 : ∃ (s : State) (c : Cmd) (w : Waiting) (u d : Nat),
    Claims.runs s 0x0201 c = true ∧ stampNs (c.n 0 12) < 1000000000 ∧ (Claims.begun s 0x0201 c).ownTime = true ∧
    s.integrated = false ∧ w ∈ s.clerk.waiting ∧ w.kind = .timeSetPps u d :=
  let w : Waiting := { no := 1, opcode := 0x0201, cmd := {}, kind := .timeSetPps 77 1000 }
  ⟨{ wbench with clerk := { wbench.clerk with waiting := [w] } }, wcmd [], w, 77, 1000, by decide +kernel⟩

theorem witness_ReservedOffsetsReadZero : ∃ (s : State) (fn off n : Nat), s.hasFn fn = true ∧ fn < 2 ∧
    (n = 4 ∨ n = 8) ∧
    off % n = 0 ∧ ((0x490000 ≤ off ∧ off < 0x4F0000) ∨ (0x800000 ≤ off ∧ off < 0x900000) ∨ (0x2000000 ≤ off ∧
        off < 0x4000000)) :=
  ⟨wbench, 0, 0x4EFFF8, 8, by decide +kernel⟩

theorem witness_BadWritesAreCountedOnly_1 : ∃ (s : State) (fn off n : Nat), s.hasRequester fn = true ∧
    off + n ≤ State.barSize fn ∧
    ¬ ((n = 4 ∧ off % 4 = 0) ∨ (n = 8 ∧ off % 8 = 0)) :=
  ⟨wbench, 0, 0x100004, 8, by decide +kernel⟩

theorem witness_BadWritesAreCountedOnly_2 : ∃ (s : State) (fn off : Nat), s.hasRequester fn = true ∧
    off < State.barSize fn :=
  ⟨wbench, 0, 0x3FFFFFC, by decide +kernel⟩

theorem witness_PortSchedulerEventsComplete_1 : ∃ (s : State) (p : Nat), p ≤ 24 ∧ Claims.gapRuns s p = true :=
  ⟨(upPort 16 { wire := some gapWire }), 16, by decide⟩

theorem witness_PortSchedulerEventsComplete_2 : ∃ (s : State) (p : Nat) (w v : Wire), p ≤ 24 ∧
    (s.port p).wire = some w ∧ w.done = true ∧ (s.port p).commit = some v :=
  ⟨(upPort 16 { wire := some gapWire, commit := some { gapWire with done := false } }), 16, gapWire,
      { gapWire with done := false }, by decide⟩

theorem witness_PortSchedulerEventsComplete_3 : ∃ (s : State) (p : Nat), p ≤ 24 ∧ (s.port p).wire = none ∧
    (s.port p).commit = none ∧ s.txHalted = false ∧ s.portUp p = true ∧ s.macsecOn p = false ∧
    s.gateScheduled p = false ∧ (s.port p).ctrl = [.respond] :=
  ⟨(upPort 16 { ctrl := [.respond] }), 16, by decide⟩

theorem witness_PortSchedulerEventsComplete_4 : ∃ (s : State) (p : Nat) (w : Wire), p ≤ 24 ∧
    (s.port p).wire = some w ∧ w.kind = .frame ∧ w.final = false ∧ w.done = false ∧ s.mmgActive p = true ∧
    s.portUp p = true :=
  ⟨(upPort 16 { wire := some { gapWire with done := false, final := false }, verify := .succeeded }), 16,
      { gapWire with done := false, final := false }, by decide⟩

theorem witness_PortSchedulerEventsComplete_5 : ∃ (s : State) (p : Nat) (w : Wire), p ≤ 24 ∧
    (s.port p).wire = some w ∧ w.kind = .ctrl ∧ w.final = true ∧ w.done = false :=
  ⟨(upPort 16 { wire := some { gapWire with kind := .ctrl, done := false } }), 16,
      { gapWire with kind := .ctrl, done := false }, by decide⟩

theorem witness_PortSchedulerEventsComplete_6 : ∃ (s : State) (p : Nat) (w : Wire) (f : Frame), p ≤ 24 ∧
    (s.port p).wire = some w ∧ w.kind = .frame ∧ w.final = true ∧ w.done = false ∧ w.qf.pn = none ∧
    w.retry = false ∧ w.from_ = 0 ∧ s.frame w.qf.id = some f ∧ f.origin.isRx = true ∧ f.egress = [p] ∧ f.wq = none ∧
    f.window = false ∧ f.slot = none ∧ f.stage = .steered ∧ f.whole = true :=
  ⟨{ upPort 16 { wire := some { gapWire with done := false } } with frames := [(1, some (heldFrame 16))] }, 16,
      { gapWire with done := false }, heldFrame 16, by decide⟩

theorem witness_PortSchedulerEventsComplete_7 : ∃ (s : State) (p c : Nat), p ≤ 24 ∧ c ≤ 7 ∧
    s.cbsEnabled p c = true ∧ s.classWaits p c = false :=
  ⟨(upPort 16 { }).setRegBits (qsvBase 16 + 8) 16 8 1, 16, 0, by decide⟩

theorem witness_PortSchedulerEventsComplete_8 : ∃ (s : State) (p c n : Nat), p ≤ 24 ∧ c ≤ 7 ∧ n ≤ 4096 ∧
    (s.flowAt p c n).frames ≠ [] ∧ Claims.gapRuns s p = true :=
  ⟨(upPort 16 { wire := some gapWire, flows := [(1, { number := 1, frames := [{ id := 1, len := 64 }] })] }), 16, 0,
      1, by decide⟩

theorem witness_PortSchedulerEventsComplete_9 : ∃ (s : State) (p id n : Nat) (l : List Nat) (f : Frame), p ≤ 24 ∧
    (s.port p).arriving = id :: l ∧ s.frame id = some f ∧
    max 64 ((s.egressBytes f p).length + 4) + s.expansion p f.sc ≤ s.maxLen p ∧ s.listsRun p = false ∧
    s.boundFlow p f.cls f.ftag = some n ∧ (s.flowAt p f.cls n).frames ≠ [] :=
  ⟨{ upPort 16 { arriving := [1], flows := [(1, { number := 1, frames := [{ id := 2, len := 64 }] })] } with frames := [(1, some (heldFrame 16))] },
      16, 1, 1, [], heldFrame 16, by decide⟩

theorem witness_PortSchedulerEventsComplete_10 : ∃ (s : State) (p n since : Nat), p ≤ 24 ∧ n ≠ 0 ∧
    (Tab.get ({} : Flow) (s.port p).flows n).number ≠ 0 ∧ (Tab.get ({} : Flow) (s.port p).flows n).static = false ∧
    (Tab.get ({} : Flow) (s.port p).flows n).frames = [] ∧
    (Tab.get ({} : Flow) (s.port p).flows n).idleFrom = some since ∧
    s.flowBusy p (Tab.get ({} : Flow) (s.port p).flows n).cls n = false :=
  ⟨(upPort 16 { flows := [(1, { number := 1, idleFrom := some 0 })] }), 16, 1, 0, by decide⟩

theorem witness_MacMergeEventsComplete_1 : ∃ (s : State) (p : Nat), p ≤ 23 ∧ (s.port p).verify = .sendVerify ∧
    s.portUp p = true ∧ (s.port p).wire.isSome = true ∧ (s.port p).ctrl.contains .verify = false :=
  ⟨(upPort 16 { wire := some gapWire, verify := .sendVerify }), 16, by decide⟩

theorem witness_MacMergeEventsComplete_2 : ∃ (s : State) (p u : Nat), p ≤ 23 ∧ (s.port p).verify = .waitResponse ∧
    (s.port p).verifyAt = some u ∧ (s.port p).attempts < s.regBits (mmgBase p + 4) 16 8 :=
  ⟨(upPort 16 { verify := .waitResponse, verifyAt := some 5 }), 16, 5, by decide⟩

theorem witness_MacMergeEventsComplete_3 : ∃ (s : State) (p u : Nat), p ≤ 23 ∧ (s.port p).verify = .waitResponse ∧
    (s.port p).verifyAt = some u ∧ s.regBits (mmgBase p + 4) 16 8 ≤ (s.port p).attempts :=
  ⟨(upPort 16 { verify := .waitResponse, verifyAt := some 5, attempts := 200 }), 16, 5, by decide⟩

theorem witness_MacMergeEventsComplete_4 : ∃ (s : State) (p : Nat), p ≤ 23 ∧ s.portUp p = true ∧ s.asleep = false ∧
    s.mmgEnable p = true ∧ (s.port p).wire.isSome = true :=
  ⟨(upPort 16 { wire := some gapWire }).setRegBits (mmgBase 16 + 4) 0 1 1, 16, by decide⟩

theorem witness_MacMergeEventsComplete_5 : ∃ (s : State) (p : Nat), p ≤ 23 ∧ s.portUp p = true ∧ s.asleep = false ∧
    (s.port p).verify = .waitResponse :=
  ⟨(upPort 16 { verify := .waitResponse, verifyAt := some 5 }), 16, by decide⟩

theorem witness_MacMergeEventsComplete_6 : ∃ (s : State) (p u : Nat) (b : List Byte), p ≤ 23 ∧ s.portUp p = true ∧
    s.asleep = false ∧ (s.port p).reasm.any (fun r => r.count == 0) = false ∧ (s.port p).reasm.length < 3 :=
  ⟨(upPort 16 { }), 16, 7, zeros 64, by decide⟩

theorem witness_MacMergeEventsComplete_7 : ∃ (s : State) (p u : Nat) (b : List Byte) (r : Reasm), p ≤ 23 ∧
    s.portUp p = true ∧ s.asleep = false ∧ (s.port p).reasm = [r] ∧ r.count = 0 ∧ r.nextFrag = 0 ∧
    r.data.length + b.length ≤ 16384 :=
  ⟨(upPort 16 { reasm := [{ count := 0, data := zeros 64 }] }), 16, 7, zeros 64, { count := 0, data := zeros 64 },
      by decide⟩

theorem witness_MacMergeEventsComplete_8 : ∃ (s : State) (p u crc : Nat) (b : List Byte), p ≤ 23 ∧
    s.portUp p = true ∧ s.asleep = false ∧ (s.port p).reasm.any (fun r => r.count == 0) = false :=
  ⟨(upPort 16 { }), 16, 7, 1, zeros 64, by decide⟩

theorem witness_MacMergeEventsComplete_9 : ∃ (s : State) (p : Nat), s.mmgEnable p = true ∧
    s.regBits (mmgBase p + 4) 6 1 = 0 ∧ s.portUp p = true ∧ (s.port p).wire.isSome = true ∧ s.timeOff = false :=
  ⟨(upPort 16 { wire := some gapWire }).setRegBits (mmgBase 16 + 4) 0 1 1, 16, by decide⟩

theorem witness_MacMergeEventsComplete_10 : ∃ (s : State) (p u : Nat) (b : List Byte), p ≤ 23 ∧ s.portUp p = true ∧
    s.asleep = false ∧ s.macError p (b.length + 4) false = none ∧ s.mmgEnable p = true ∧
    s.regBits (mmgBase p + 4) 6 1 = 0 ∧ (s.port p).suspended = [] ∧ beAt b 12 2 = 0x88CC ∧ s.isKnock p b = false ∧
    s.macsecOn p = false ∧ State.cellsOf b.length ≤ s.holdFree :=
  ⟨(upPort 16 { }).setRegBits (mmgBase 16 + 4) 0 1 1, 16, 7, zeros 12 ++ beBytes 2 0x88CC ++ zeros 46, by decide⟩

theorem witness_MacMergeEventsComplete_11 : ∃ (s : State) (p u : Nat), p ≤ 23 ∧ (s.port p).partnerUntil = some u ∧
    (s.port p).verify = .disabled ∧ s.mmgEnable p = false :=
  ⟨(upPort 16 { partnerUntil := some 5, partner79 := true }), 16, 5, by decide⟩

theorem witness_MacMergeEventsComplete_12 : ∃ (s : State) (p : Nat), p ≤ 23 ∧ s.mmgActive p = true ∧
    s.wantsNested p ≠ (s.port p).nested ∧ (s.port p).suspended = [] :=
  ⟨(upPort 16 { verify := .succeeded, nested := true }), 16, by decide⟩

theorem witness_MacMergeEventsComplete_13 : ∃ (s : State) (p : Nat), p ≤ 23 ∧ s.mmgActive p = true ∧
    s.wantsNested p ≠ (s.port p).nested ∧ (s.port p).suspended ≠ [] :=
  ⟨(upPort 16 { verify := .succeeded, nested := true, suspended := [{ qf := { id := 1, len := 64 }, cls := 0, level := 1, flow := 0, sent := 64 }] }),
      16, by decide⟩

theorem witness_PortLinkEventsComplete_1 : ∃ (s : State) (p : Nat), p ≤ 24 ∧ s.inService p = true ∧
    (s.port p).link = .down ∧ Claims.gapRuns s p = true ∧ s.mmgEnable p = false :=
  ⟨({ State.reset with ports := [(16, { wire := some gapWire })] }).setRegBits (prtBase 16 + 4) 8 4 7, 16, by decide⟩

theorem witness_PortLinkEventsComplete_2 : ∃ (s : State) (p : Nat), p ≤ 24 ∧ s.inService p = true ∧
    (s.port p).link = .up :=
  ⟨(upPort 16 { }), 16, by decide⟩

theorem witness_PortLinkEventsComplete_3 : ∃ (s : State) (p : Nat) (sig hb : Bool), p ≤ 24 ∧ s.inService p = true ∧
    (s.port p).link = .up ∧ s.regBits (prtBase p + 0x34) 0 8 ≠ 0 :=
  ⟨(upPort 16 { }).setRegBits (prtBase 16 + 0x34) 0 8 5, 16, true, false, by decide⟩

theorem witness_PortLinkEventsComplete_4 : ∃ (s : State) (p u : Nat), p ≤ 24 ∧ (s.port p).link = .debounce ∧
    (s.port p).debounceAt = some u ∧ (s.port p).suspended = [] :=
  ⟨(({ State.reset with ports := [(16, { link := .debounce, debounceAt := some 5 })] }).setRegBits (prtBase 16 + 4) 8 4 7),
      16, 5, by decide⟩

theorem witness_PortLinkEventsComplete_5 : ∃ (s : State) (p u : Nat), p ≤ 24 ∧ (s.port p).link = .down ∧
    (s.port p).discardAt = some u ∧ s.queuedOn p = [] :=
  ⟨(({ State.reset with ports := [(16, { discardAt := some 5 })] }).setRegBits (prtBase 16 + 4) 8 4 7), 16, 5,
      by decide⟩

theorem witness_PortLinkEventsComplete_6 : ∃ (s : State) (p u id : Nat) (f : Frame), p ≤ 24 ∧
    (s.port p).link = .down ∧ (s.port p).discardAt = some u ∧ s.queuedOn p = [id] ∧ s.frame id = some f ∧
    f.origin.isRx = true ∧ s.regBits (prtBase (State.inPort f) + 0xC) 3 1 = 0 ∧ f.egress = [p] ∧ f.wq = none ∧
    f.window = false ∧ f.slot = none ∧ f.stage = .steered :=
  ⟨{ (({ State.reset with ports := [(16, { discardAt := some 5, arriving := [1] })] }).setRegBits (prtBase 16 + 4) 8 4 7) with frames := [(1, some (heldFrame 16))] },
      16, 5, 1, heldFrame 16, by decide⟩

theorem witness_PortLinkEventsComplete_7 : ∃ (s : State) (p u : Nat) (b : List Byte), p ≤ 24 ∧ s.portUp p = true ∧
    s.asleep = false ∧ s.macError p (b.length + 4) false = none ∧ b.length = 60 ∧ beAt b 0 6 = 0x0180C2000001 ∧
    beAt b 14 2 = 1 ∧ s.fcMode p = 1 ∧ s.rxHonour p = true ∧ Claims.gapRuns s p = true ∧ beAt b 16 2 ≠ 0 :=
  ⟨(upPort 16 { wire := some gapWire }).setReg (prtBase 16 + 0xC) 5, 16, 7, (beBytes 6 0x0180C2000001 ++ zeros 6 ++
      beBytes 2 0x8808 ++ beBytes 2 1 ++ beBytes 2 9 ++ zeros 42), by decide⟩

theorem witness_PortLinkEventsComplete_8 : ∃ (s : State) (p k : Nat), p ≤ 24 ∧
    Tab.get 0 (s.port p).pauseUntil k ≠ 0 ∧ Claims.gapRuns s p = true :=
  ⟨(upPort 16 { wire := some gapWire, pauseUntil := [(8, 77)] }), 16, 8, by decide⟩

theorem witness_PortLinkEventsComplete_9 : ∃ (s : State) (p k u : Nat), p ≤ 24 ∧
    Tab.get none (s.port p).xoffAt k = some u ∧ s.txGen p = true ∧ s.reg (prtBase p + 0x1C) < s.rxHeld p k ∧
    (s.port p).wire.isSome = true :=
  ⟨{ (((upPort 16 { wire := some gapWire, xoffAt := [(8, some 3)] }).setReg (prtBase 16 + 0xC) 0xFFFF0009).setReg (prtBase 16 + 0x1C) 0) with frames := [(1, some (heldFrame 16))] },
      16, 8, 3, by decide⟩

theorem witness_PortLinkEventsComplete_10 : ∃ (s : State) (p : Nat) (w : Wire) (f : Frame), p ≤ 24 ∧
    (s.port p).wire = some w ∧ w.kind = .frame ∧ w.done = false ∧ w.retry = false ∧ s.frame w.qf.id = some f ∧
    f.place = .returning ∧ f.arrived < f.size :=
  ⟨{ upPort 16 { wire := some { gapWire with done := false } } with frames := [(1, some { heldFrame 16 with place := .returning })] },
      16, { gapWire with done := false }, { heldFrame 16 with place := .returning }, by decide⟩

theorem witness_PortLinkEventsComplete_11 : ∃ (s : State) (p c : Nat), p ≤ 24 ∧ Tab.get 0 (s.port p).decayAt c ≠ 0 :=
  ⟨(upPort 16 { threshUp := [(2, 1024)], decayAt := [(2, 9)] }), 16, 2, by decide⟩

theorem witness_PortLinkEventsComplete_12 : ∃ (s : State) (p : Nat), 16 ≤ p ∧ p ≤ 23 ∧ s.portUp p = true ∧
    s.portMode p = 7 ∧ s.reg (prtBase p + 0x20) % 2 = 1 ∧ (s.port p).txLpi = false ∧ (s.port p).wire = none ∧
    (s.port p).commit = none ∧ (s.port p).ctrl = [] ∧ (s.port p).arriving = [] ∧ s.gateScheduled p = false ∧
    (upto 0 8).all (fun c => !s.classWaits p c) = true :=
  ⟨(upPort 16 { }).setReg (prtBase 16 + 0x20) 0x00010001, 16, by decide⟩

theorem witness_PortLinkEventsComplete_13 : ∃ (s : State) (p u : Nat) (b : List Byte), p ≤ 24 ∧ s.portUp p = true ∧
    s.asleep = false ∧ s.macError p (b.length + 4) false = none ∧ s.isKnock p b = true ∧ s.pwr.trans = none :=
  ⟨(upPort 16 { }), 16, 7, (zeros 12 ++ beBytes 2 ((upPort 16 { }).regBits (prtBase 16 + 0x30) 0 16) ++ [0x10] ++
      zeros 45), by decide⟩

theorem witness_PortLinkEventsComplete_14 : ∃ (s : State) (p u : Nat) (b : List Byte), p ≤ 24 ∧ s.portUp p = true ∧
    s.asleep = false ∧ s.macError p (b.length + 4) false = none ∧ s.isKnock p b = false ∧ beAt b 12 2 ≠ 0x8808 ∧
    s.macsecOn p = false ∧ State.cellsOf b.length ≤ s.holdFree :=
  ⟨(upPort 16 { }), 16, 7, zeros 60, by decide⟩

theorem witness_PortLinkEventsComplete_15 : ∃ (s : State) (p u : Nat) (b : List Byte) (bad cut : Bool), p ≤ 24 ∧
    s.inService p = true ∧ (s.port p).link ≠ .up :=
  ⟨(({ State.reset with ports := [(16, {})] }).setRegBits (prtBase 16 + 4) 8 4 7), 16, 7, zeros 60, false, false,
      by decide⟩

theorem witness_PortLinkEventsComplete_16 : ∃ (s : State) (p : Nat) (r : TsRec) (l : List TsRec), p ≤ 24 ∧
    (s.ptime p).tsq = r :: l ∧ (s.book (s.regBits (timPort p + 0x28) 0 8)).state = .running ∧
    State.bookFull (s.book (s.regBits (timPort p + 0x28) 0 8)) = false ∧
    (s.book (s.regBits (timPort p + 0x28) 0 8)).bitmap = [] ∧
    s.bent.awaitBci.contains (s.regBits (timPort p + 0x28) 0 8) = false :=
  ⟨{ State.reset with time := { ports := [(16, { tsq := [{ body := zeros 24 }] })] }, books := [(0, { state := .running, logN := 6 })] },
      16, { body := zeros 24 }, [], by decide⟩

theorem witness_PortLinkEventsComplete_17 : ∃ (s : State) (b : Nat), b < 2 ∧ (s.bank b).state = .filling ∧
    s.clerk.waiting = [] :=
  ⟨{ State.reset with stock := { banks := [(1, { state := .filling, seq := 1 })] } }, 1, by decide⟩

theorem witness_StreamTimersComplete_1 : ∃ (s : State) (h : Nat), s.bent.role = .solo ∧ (s.entry h).state = 2 :=
  ⟨{ State.reset with stream := { entries := [(7, { state := 2 })] } }, 7, by decide⟩

theorem witness_StreamTimersComplete_2 : ∃ (s : State) (r : Nat), s.bent.role = .solo ∧ (s.rcvy r).state ≠ 0 ∧
    (s.rcvy r).takeAny = false :=
  ⟨{ State.reset with stream := { rcvy := [(7, { state := 1 })] } }, 7, by decide⟩

theorem witness_StreamTimersComplete_3 : ∃ (s : State) (r : Nat), s.bent.role = .solo ∧ (s.rcvy r).state ≠ 0 ∧
    (s.rcvy r).leEn = true ∧
    State.latent (s.rcvy r).paths (modSub 64 (s.rcvy r).passed.toNat (s.rcvy r).leBasePassed) (modSub 64 (s.rcvy r).discarded.toNat (s.rcvy r).leBaseDiscarded) (s.rcvy r).leDiff = true :=
  ⟨{ State.reset with stream := { rcvy := [(7, { state := 1, leEn := true, paths := 2, passed := 50 })] } }, 7,
      by decide⟩

theorem witness_StreamTimersComplete_4 : ∃ (s : State) (a : Nat), s.bent.role = .solo ∧
    (s.account a).defined = true ∧ (s.account a).leEn = true ∧
    State.latent (((s.account a).paths.filter (·.valid)).length - 1) (modSub 64 (s.account a).passed.toNat (s.account a).leBasePassed) (modSub 64 (s.account a).duplicate.toNat (s.account a).leBaseDuplicate) (s.account a).leDiff = false :=
  ⟨{ State.reset with stream := { accounts := [(7, { defined := true, leEn := true })] } }, 7, by decide⟩

theorem witness_StreamTimersComplete_5 : ∃ (s : State) (a : Nat) (x : HeldPacket), s.bent.role = .solo ∧
    (s.account a).held = [x] ∧ (s.account a).skipSet = [] ∧ x.seq = (s.account a).next + 1 ∧
    x.seq < accountQ (s.account a) :=
  ⟨{ State.reset with stream := { accounts := [(7, { defined := true, held := [{ seq := 6, path := 0, frame := 1, cells := 1 }], next := 5 })] }, frames := [(1, some (heldFrame 16))] },
      7, { seq := 6, path := 0, frame := 1, cells := 1 }, by decide⟩

theorem witness_StreamTimersComplete_6 : ∃ (s : State) (a : Nat), s.bent.role = .solo ∧
    (s.account a).defined = true ∧ (s.account a).takeAny = false ∧ (s.account a).held = [] :=
  ⟨{ State.reset with stream := { accounts := [(7, { defined := true })] } }, 7, by decide⟩

theorem witness_StreamTimersComplete_7 : ∃ (s : State) (id h : Nat) (f : Frame), s.stream.waiting = [id] ∧
    s.frames = [(id, some f)] ∧ f.handle = some h ∧ f.account = none ∧ f.origin = .rx 16 ∧ s.txGen 16 = false ∧
    s.threadOf id = none ∧ s.joinery.fences = [] ∧ (s.entry h).rcvyEn = true ∧ (s.entry h).unrecovered = false ∧
    (s.viewOf f).seqOf (s.rcvy (s.entry h).rcvy).format = none :=
  ⟨{ State.reset with stream := { waiting := [1], entries := [(7, { state := 1, rcvyEn := true })] }, frames := [(1, some { heldFrame 16 with stage := .joinery, handle := some 7 })] },
      1, 7, { heldFrame 16 with stage := .joinery, handle := some 7 }, by decide⟩

theorem witness_StreamTimersComplete_8 : ∃ (s : State) (id k h : Nat) (f : Frame) (x : Stream) (y : Tab DWord),
    s.engineTurn id = true ∧ s.frame id = some f ∧ s.threadOf id = some k ∧ s.joinery.fences = [] ∧
    (s.identify (State.inPort f) (s.viewOf f) f.bytes).1 = .stream h ∧
    (s.identify (State.inPort f) (s.viewOf f) f.bytes).2 = { s with stream := x, ctr := y } ∧ x.filters = [] ∧
    x.waiting = s.stream.waiting ∧ (Tab.get ({} : StreamEntry) x.entries h).rcvyEn = true ∧
    (Tab.get ({} : StreamEntry) x.entries h).unrecovered = false :=
  ⟨engineState, 1, 0, 7, { heldFrame 16 with stage := .joinery }, engineFound.2.stream, engineFound.2.ctr, by decide⟩

set_option maxRecDepth 20000 in
theorem witness_JoineryEventsComplete_1 : ∃ (s : State) (id src j p : Nat) (f : Frame), s.nextOffer = some (id,
    false, src) ∧ s.inRun = true ∧ s.offerLost = false ∧ s.chooseJoiner = some j ∧ s.thread (4 * j) = none ∧
    s.frame id = some f ∧ f.origin = .rx p ∧ f.account = none ∧ f.judged = false ∧ s.readsPrp f = true ∧
    f.whole = false :=
  ⟨{ State.reset with stream := { entries := [(7, { state := 1, format := 2, port := 0xFF })] }, frames := [(1, some { heldFrame 16 with stage := .dispatch, bytes := zeros 350, size := 350, whole := false, arrived := 256 })] },
      1, 16, 0, 16,
      { heldFrame 16 with stage := .dispatch, bytes := zeros 350, size := 350, whole := false, arrived := 256 },
      by decide⟩

theorem witness_JoineryEventsComplete_2 : ∃ (s : State) (id c src : Nat) (r : Bool), s.nextOffer = some (id, r,
    src) ∧ s.inRun = true ∧ s.offerLost = false ∧ s.chooseJoiner = none ∧
    (upto 0 6).find? (fun c => s.joinery.gated.contains c) = some c :=
  ⟨{ State.reset with frames := [(1, some { heldFrame 16 with stage := .dispatch })], joinery := { gated := [0, 1, 2, 3, 4, 5] } },
      1, 0, 16, false, by decide⟩

set_option maxRecDepth 20000 in
theorem witness_JoineryEventsComplete_3 : ∃ (s : State) (id n p : Nat) (f : Frame), s.frame id = some f ∧
    f.origin = .rx p ∧ f.whole = false ∧ f.arrived + n < f.bytes.length ∧ s.threadOf id = none :=
  ⟨{ State.reset with frames := [(1, some { heldFrame 16 with stage := .dispatch, bytes := zeros 350, size := 350, whole := false, arrived := 256 })] },
      1, 64, 16,
      { heldFrame 16 with stage := .dispatch, bytes := zeros 350, size := 350, whole := false, arrived := 256 },
      by decide⟩

theorem witness_JoineryEventsComplete_4 : ∃ (s : State) (k : Nat) (x : Thread) (h : HookRun) (l : List Word) (st : Word),
    s.thread k = some x ∧ x.hook = some h ∧ h.coming = some (l, st) ∧ x.wait = .ready :=
  ⟨{ State.reset with joinery := { threads := [(0, some { frame := 1, hook := some { point := 1, pc := 0x3000, coming := some ([], 1) } })] } },
      0, { frame := 1, hook := some { point := 1, pc := 0x3000, coming := some ([], 1) } },
      { point := 1, pc := 0x3000, coming := some ([], 1) }, [], 1, by decide⟩

theorem witness_JoineryEventsComplete_5 : ∃ (s : State) (k p : Nat) (x : Thread) (f : Frame), s.thread k = some x ∧
    x.wait ≠ .ready ∧ s.frames = [(x.frame, some f)] ∧ f.origin = .rx p ∧ s.txGen p = false :=
  ⟨{ State.reset with frames := [(1, some { heldFrame 16 with stage := .joinery })], joinery := { threads := [(0, some { frame := 1, wait := .frameEnd })] } },
      0, 16, { frame := 1, wait := .frameEnd }, { heldFrame 16 with stage := .joinery }, by decide⟩

set_option maxRecDepth 20000 in
theorem witness_JoineryEventsComplete_6 : ∃ (s : State) (c a m x : Nat), c < 6 ∧ isCustomer a = true ∧
    eccCheck (Nat.xor (Tab.get hretWord (s.codeOf (Tab.get 0 s.joinery.loaded c)).1 a) (Nat.xor (s.upset c a) (m % 2 ^ 160))) = .corrected x :=
  ⟨State.reset, 2, 0x3000, 1, hretWord, by decide⟩

theorem witness_JoineryEventsComplete_7 : ∃ (s : State) (c : Nat), c < 6 ∧
    Tab.get 0 s.joinery.loaded c < s.joinery.gen ∧ s.joinery.threads = [] :=
  ⟨{ State.reset with joinery := { gen := 1 } }, 2, by decide⟩

theorem witness_JoineryEventsComplete_8 : ∃ (s : State), s.reg (jnrBase + 0xC) % 2 = 1 ∧
    (upto 0 48).any (fun j => s.joinerFence j != .none || s.fenced (0x200 + 4 * j)) = false ∧ s.flt.gapJn = none ∧
    s.inRun = true :=
  ⟨State.reset.setReg (jnrBase + 0xC) 1, by decide⟩

theorem witness_JoineryEventsComplete_9 : ∃ (s : State) (j u : Nat), s.joinery.fences = [(j, .test (some u))] ∧
    s.flt.tests = [] :=
  ⟨{ State.reset with joinery := { fences := [(3, .test (some 9))] } }, 3, 9, by decide⟩

theorem witness_JoineryEventsComplete_10 : ∃ (s : State) (c : Nat), c < 6 ∧ s.joinery.gated.contains c = false ∧
    s.regBits (pwrBase + 0x18) 16 3 < 6 - s.joinery.gated.length ∧ s.pwr.state = .run ∧
    (upto (8 * c) 8).all s.joinerIdle = true :=
  ⟨State.reset.setRegBits (pwrBase + 0x18) 16 3 2, 5, by decide⟩

theorem witness_JoineryEventsComplete_11 : ∃ (s : State) (p : Nat) (e : SyncEntry) (l : List SyncEntry),
    Tab.get [] s.joinery.sync p = e :: l :=
  ⟨{ State.reset with joinery := { sync := [(3, [{ domain := 0, senderId := 1, senderPort := 1, seq := 1, residence := 5, until_ := 77 }])] } },
      3, { domain := 0, senderId := 1, senderPort := 1, seq := 1, residence := 5, until_ := 77 }, [], by decide⟩

theorem witness_JoineryEventsComplete_12 : ∃ (s : State) (id : Nat) (f : Frame), s.frames = [(id, some f)] ∧
    s.spillable id f = true ∧ s.spillHi ≤ s.holdLevel ∧ s.spillLo < s.holdLevel ∧
    256 * State.cellsOf f.size ≤ s.spillSize ∧ s.bent.kept = [] ∧ s.flt.tests = [] :=
  ⟨{ (State.reset.setReg (memBase + 0x30) 0) with frames := [(1, some (heldFrame 16))], mem := { gibPerChannel := 1 } },
      1, heldFrame 16, by decide⟩

theorem witness_JoineryEventsComplete_13 : ∃ (s : State) (id n : Nat) (f : Frame), s.frame id = some f ∧
    f.place = .spilled ∧ f.egress = [] ∧ n < f.bytes.length ∧ State.cellsOf f.size ≤ s.holdFree :=
  ⟨{ State.reset with frames := [(1, some { heldFrame 16 with place := .spilled, egress := [], wq := some 5 })], mem := { gibPerChannel := 1 } },
      1, 20, { heldFrame 16 with place := .spilled, egress := [], wq := some 5 }, by decide⟩

theorem witness_JoineryEventsComplete_14 : ∃ (s : State) (e : WindowEntry) (l : List WindowEntry),
    s.joinery.windowQueue = e :: l ∧ s.windowOn = true ∧ s.assay.running = true ∧ s.assay.alive = true ∧
    s.assay.sender = [] ∧ s.assay.fifo = [] ∧ e.telegram.length ≤ 4096 :=
  ⟨{ State.reset with glb := { metrology := true }, assay := { running := true, alive := true }, joinery := { windowQueue := [{ account := 1, point := 2, path := 0, seq := 3, rxTime := 0, rxFlag := .valid, telegram := zeros 80, frame := 1 }] } },
      { account := 1, point := 2, path := 0, seq := 3, rxTime := 0, rxFlag := .valid, telegram := zeros 80, frame := 1 },
      [], by decide⟩

theorem witness_QueueEventsComplete_1 : ∃ (s : State) (fn q : Nat) (v : BitVec 16), s.pwr.state = .run ∧ q < 4096 ∧
    s.requesterOfQueue q = fn ∧ (s.queue q).state = .running ∧ (s.queue q).fetched = [] ∧
    (v - (s.queue q).ci).toNat ≤ 2 ^ (s.queue q).logN ∧ (v - (s.queue q).pi).toNat ≤ 2 ^ (s.queue q).logN :=
  ⟨{ State.reset with queues := [(5, { state := .running, kind := .tx, logN := 6 })] }, 0, 5, 3, by decide⟩

theorem witness_QueueEventsComplete_2 : ∃ (s : State) (fn q : Nat) (v : BitVec 16), s.pwr.state = .run ∧ q < 4096 ∧
    s.requesterOfQueue q = fn ∧ (s.queue q).state = .running ∧ 2 ^ (s.queue q).logN < (v - (s.queue q).pi).toNat ∧
    s.ringWrites = true :=
  ⟨{ State.reset with queues := [(5, { state := .running, kind := .tx, logN := 6 })] }, 0, 5, 300, by decide⟩

theorem witness_QueueEventsComplete_3 : ∃ (s : State) (fn q : Nat) (v : BitVec 32), s.pwr.state = .run ∧ q < 4096 ∧
    s.requesterOfQueue q = fn ∧ (s.queue q).state = .running ∧ 1 ≤ v.toNat / 65536 ∧ v.toNat / 65536 ≤ 32768 :=
  ⟨{ State.reset with queues := [(5, { state := .running, kind := .tx, logN := 6 })] }, 0, 5, 0x10002, by decide⟩

theorem witness_QueueEventsComplete_4 : ∃ (s : State) (fn q b : Nat) (v : BitVec 16), s.pwr.state = .run ∧
    q < 4096 ∧ s.requesterOfQueue q = fn ∧ s.homeBook q = some b ∧ (s.book b).state = .running ∧
    s.bent.awaitBci.contains b = false ∧ ((s.book b).bpi - v).toNat ≤ 2 ^ (s.book b).logN ∧
    ((s.book b).bpi - v).toNat ≤ ((s.book b).bpi - (s.book b).bci).toNat :=
  ⟨{ State.reset with books := [(9, { state := .running, homeWq := some 5, bpi := 7 })] }, 0, 5, 9, 3, by decide⟩

theorem witness_QueueEventsComplete_5 : ∃ (s : State) (fn q : Nat) (v : BitVec 32), s.pwr.state = .run ∧
    s.isCommandQueue q = true ∧ s.fnOfQueue q = fn ∧ (s.queue q).state = .disabled ∧
    s.regBits (pageBase q + 0x110) 31 1 = 0 ∧ s.homeBook q = none :=
  ⟨State.reset, 0, 0, 0x12340, by decide⟩

theorem witness_QueueEventsComplete_6 : ∃ (s : State) (fn q : Nat) (v : BitVec 32), s.pwr.state = .run ∧
    s.isCommandQueue q = true ∧ s.fnOfQueue q = fn ∧ (s.queue q).state = .disabled ∧
    s.regBits (pageBase q + 0x110) 31 1 = 0 ∧ bit v.toNat 31 = true :=
  ⟨State.reset, 0, 0, 0x80000005, by decide⟩

theorem witness_QueueEventsComplete_7 : ∃ (s : State) (q : Nat), (s.queue q).state = .running ∧
    (s.queue q).fetched = [] ∧
    (s.queue q).covered (s.queue q).ci (Fetched.units (s.readEntry q (s.queue q).ci false)) = true ∧
    s.prefetchUsed + Fetched.units (s.readEntry q (s.queue q).ci false) ≤ 16384 ∧
    malformedCause (s.queue q) (s.readEntry q (s.queue q).ci false) = 0 :=
  ⟨{ State.reset with queues := [(5, { state := .running, kind := .tx, logN := 6, pi := 3 })] }.writeHost 0 0 (leBytes 4 2),
      5, by decide⟩

theorem witness_QueueEventsComplete_8 : ∃ (s : State) (q : Nat) (f : Fetched), s.serves = true ∧
    s.bent.role = .solo ∧ s.bent.rerun = [] ∧ s.txQueues = [q] ∧ s.startable q = true ∧ 1 ≤ (s.queue q).weight ∧
    (s.queue q).burst = 1 ∧ (s.queue q).fetched = [f] ∧ hdrKind (entryHdr f.bytes) = 3 ∧
    fieldAt f.bytes 4 0 2 ≠ 3 :=
  ⟨{ State.reset with queues := [(5, { state := .running, kind := .tx, logN := 6, pi := 3, fetched := [{ index := 0, bytes := leBytes 4 0x302 ++ zeros 28 }] })] },
      5, { index := 0, bytes := leBytes 4 0x302 ++ zeros 28 }, by decide⟩

theorem witness_QueueEventsComplete_9 : ∃ (s : State) (q : Nat), (s.queue q).shadowDue = true ∧ s.ringWrites = true :=
  ⟨{ State.reset with queues := [(5, { state := .running, kind := .tx, logN := 6, pi := 3, ci := 2, shadow := 64, shadowDue := true })] },
      5, by decide⟩

theorem witness_QueueEventsComplete_10 : ∃ (s : State) (q : Nat), (s.queue q).state = .stopping ∧
    (s.queue q).enablePending = false ∧ (s.queue q).started = [] ∧ s.isCommandQueue q = false ∧
    s.clerk.waiting = [] ∧ s.bent.role = .solo :=
  ⟨{ State.reset with queues := [(5, { state := .stopping, kind := .tx, logN := 6, pi := 3, ci := 2 })] }, 5,
      by decide⟩

theorem witness_QueueEventsComplete_11 : ∃ (s : State) (q id p : Nat) (l : List Nat) (f : Frame) (e : Fetched),
    s.serves = true ∧ s.bent.role = .solo ∧ (s.queue q).rxWait = id :: l ∧ (s.queue q).rxWait.contains id = true ∧
    l.contains id = false ∧ s.frame id = some f ∧ f.origin = .rx p ∧ f.place = .hold ∧ f.handle = none ∧
    f.account = none ∧ f.tsRecord = false ∧ f.gap = none ∧ f.bytes ≠ [] ∧ f.egress = [] ∧ f.window = false ∧
    f.slot = none ∧ f.stage = .steered ∧ (s.queue q).state = .running ∧ (s.queue q).kind = .rx ∧
    (s.chan (State.deliveryChan q)).moving = true ∧ (s.queue q).started = [] ∧ (s.queue q).noticeBook = 0xFF ∧
    s.isCommandQueue q = false ∧ (s.queue q).fetched = [e] ∧
    rxPlan (s.queue q) [e] (s.hostBytes f).length [] = .take [e] ∧ hdrKind (entryHdr e.bytes) = 2 ∧
    (s.hostBytes f).length ≤ fieldAt e.bytes 0x10 0 15 :=
  ⟨{ State.reset with queues := [(5, { state := .running, kind := .rx, logN := 6, pi := 4, rxWait := [1], fetched := [{ index := 0, bytes := leBytes 4 0x204 ++ zeros 12 ++ leBytes 4 2048 ++ zeros 44 }] })], frames := [(1, some { heldFrame 16 with egress := [], wq := some 5 })], dray := { chans := [(41, { moving := true })] } },
      5, 1, 16, [], { heldFrame 16 with egress := [], wq := some 5 },
      { index := 0, bytes := leBytes 4 0x204 ++ zeros 12 ++ leBytes 4 2048 ++ zeros 44 }, by decide⟩

theorem witness_QueueEventsComplete_12 : ∃ (s : State) (q : Nat) (e : Started), (s.queue q).started = [e] ∧
    e.kind = 3 ∧ s.fenceReady e = true ∧ s.bent.role = .solo :=
  ⟨{ State.reset with queues := [(5, { state := .running, kind := .tx, logN := 6, pi := 3, ci := 3, started := [{ sn := 4, index := 2, header := 0x302, kind := 3, covers := [4] }] })] },
      5, { sn := 4, index := 2, header := 0x302, kind := 3, covers := [4] }, by decide⟩

theorem witness_QueueEventsComplete_13 : ∃ (s : State) (b : Nat) (n : Notice) (l : List Notice),
    s.notices = n :: l ∧ n.book = b ∧ n.vector = none ∧ (s.book b).state = .running ∧ (s.book b).bitmap = [] ∧
    State.bookFull (s.book b) = false ∧ s.bent.awaitBci.contains b = false :=
  ⟨{ State.reset with notices := [{ book := 9, kind := 1, source := 5, body := zeros 12 }], books := [(9, { state := .running })] },
      9, { book := 9, kind := 1, source := 5, body := zeros 12 }, [], by decide⟩

theorem witness_QueueEventsComplete_14 : ∃ (s : State) (b : Nat) (n : Notice) (l : List Notice),
    s.notices = n :: l ∧ n.book = b ∧ n.vector = none ∧ (s.book b).state = .error :=
  ⟨{ State.reset with notices := [{ book := 9, kind := 1, source := 5, body := zeros 12 }], books := [(9, { state := .error })] },
      9, { book := 9, kind := 1, source := 5, body := zeros 12 }, [], by decide⟩

theorem witness_QueueEventsComplete_15 : ∃ (s : State) (b : Nat) (n : Notice) (l : List Notice),
    s.notices = n :: l ∧ n.book = b ∧ n.vector = none ∧ (s.book b).state = .disabled :=
  ⟨{ State.reset with notices := [{ book := 9, kind := 1, source := 5, body := zeros 12 }] }, 9,
      { book := 9, kind := 1, source := 5, body := zeros 12 }, [], by decide⟩

theorem witness_QueueEventsComplete_16 : ∃ (s : State) (b : Nat), (s.book b).state = .running ∧
    State.bookFull (s.book b) = false ∧ (s.book b).bitmap ≠ [] ∧ s.bent.awaitBci.contains b = false :=
  ⟨{ State.reset with books := [(9, { state := .running, bitmap := [5], folded := 1 })] }, 9, by decide⟩

theorem witness_QueueEventsComplete_17 : ∃ (s : State) (b : Nat), 1 ≤ (s.book b).irqCount ∧
    (s.book b).irqCount ≤ (s.book b).uncovered :=
  ⟨{ State.reset with books := [(9, { state := .running, irqCount := 2, uncovered := 3 })] }, 9, by decide⟩

theorem witness_DrayEventsComplete_1 : ∃ (s : State) (fn e ch : Nat), s.pwr.state = .run ∧ e < 4 ∧ 16 ≤ ch ∧
    ch < 32 ∧ s.requesterOfChan (32 * e + ch) = fn ∧ (s.chan (32 * e + ch)).state = .parked :=
  ⟨{ State.reset with dray := { chans := [(48, { state := .parked, cur := 0x1000 })] } }, 0, 1, 16, by decide⟩

theorem witness_DrayEventsComplete_2 : ∃ (s : State) (e ch : Nat) (listBad : Bool) (b : List Byte) (ps : List DescPair),
    e < 4 ∧ ch < 32 ∧ (s.chan (32 * e + ch)).state = .running ∧ (s.chan (32 * e + ch)).fetching = some false ∧
    s.readHost (s.fnOfChan (32 * e + ch)) (s.chan (32 * e + ch)).cur.toNat 64 = b ∧ descFence b = false ∧
    s.descCheck (32 * e + ch) b listBad = (0, ps) ∧ 0 < dstBytes ps :=
  ⟨dryState, 0, 16, false, dryDesc, inlinePairs dryDesc, by decide⟩

theorem witness_DrayEventsComplete_3 : ∃ (s : State) (e ch : Nat) (d : Desc), e < 4 ∧ ch < 32 ∧
    (s.chan (32 * e + ch)).state = .running ∧ (s.chan (32 * e + ch)).dbPending = false ∧
    (s.chan (32 * e + ch)).desc = some d ∧ d.fence = false ∧ descEoc d.copy = true ∧ descIrq d.copy = false :=
  ⟨dryBusy, 0, 16, dryInHand, by decide⟩

theorem witness_DrayEventsComplete_4 : ∃ (s : State) (e ch : Nat) (write : Bool) (addr n : Nat) (d : Desc), e < 4 ∧
    ch < 32 ∧ (s.chan (32 * e + ch)).state = .running ∧ (s.chan (32 * e + ch)).dbPending = false ∧
    (s.chan (32 * e + ch)).desc = some d ∧ d.fence = false ∧ descEoc d.copy = true ∧ descIrq d.copy = false :=
  ⟨dryBusy, 0, 16, true, 0x3000, 20, dryInHand, by decide⟩

theorem witness_DrayEventsComplete_5 : ∃ (s : State) (e ch addr : Nat) (d : Desc), e < 4 ∧ ch < 32 ∧
    (s.chan (32 * e + ch)).state = .running ∧ (s.chan (32 * e + ch)).dbPending = false ∧
    (s.chan (32 * e + ch)).desc = some d ∧ d.fence = true ∧ descEoc d.copy = true ∧ descIrq d.copy = false :=
  ⟨{ dryState with dray := { chans := [(16, { state := .running, cur := 0x1000, lateSince := 2, written := [(0, 0x303F)], desc := some { dryInHand with fence := true } })] } },
      0, 16, 0, { dryInHand with fence := true }, by decide⟩

theorem witness_DrayEventsComplete_6 : ∃ (s : State) (e ch a beat : Nat), e < 4 ∧ ch < 32 ∧
    (s.chan (32 * e + ch)).bulkDone.contains a = true ∧ (s.chan (32 * e + ch)).lateSeen.contains a = false :=
  ⟨{ State.reset with dray := { chans := [(16, { state := .running, bulkDone := [0x1000] })] } }, 0, 16, 0x1000, 3,
      by decide⟩

theorem witness_DrayEventsComplete_7 : ∃ (s : State) (e ch : Nat), e < 4 ∧ ch < 32 ∧
    (s.chan (32 * e + ch)).state = .stopping ∧ (s.chan (32 * e + ch)).desc = none ∧ s.clerk.waiting = [] :=
  ⟨{ State.reset with dray := { chans := [(16, { state := .stopping })] } }, 0, 16, by decide⟩

theorem witness_DrayEventsComplete_8 : ∃ (s : State) (e ch : Nat), e < 4 ∧ ch < 16 ∧
    (s.chan (32 * e + ch)).moving = false ∧ s.chanHi (32 * e + ch) ≤ s.chanFill (32 * e + ch) ∧
    0 < s.chanFill (32 * e + ch) :=
  ⟨dryFetch false, 0, 3, by decide⟩

theorem witness_DrayEventsComplete_9 : ∃ (s : State) (e ch b t0 : Nat) (rest : List (Nat × Nat)), e < 4 ∧ ch < 16 ∧
    (s.chan (32 * e + ch)).moving = false ∧ s.sourceOf (32 * e + ch) = (b, t0) :: rest ∧
    0 < s.chanFill (32 * e + ch) :=
  ⟨dryFetch false, 0, 3, 1000, 7, [], by decide⟩

theorem witness_DrayEventsComplete_10 : ∃ (s : State) (e ch : Nat) (i : DrayItem) (rest : List DrayItem) (f : Frame),
    e < 4 ∧ ch < 8 ∧ (s.chan (32 * e + ch)).moving = true ∧ (s.chan (32 * e + ch)).source = i :: rest ∧
    (s.startedOf i.queue i.sn).isSome = true ∧ s.frame i.frame = some f :=
  ⟨dryFetch true, 0, 3, { queue := 5, sn := 1, frame := 4, bytes := 1000, since := 7, segs := [(0x2000, 8)] }, [],
      { heldFrame 16 with bytes := [] }, by decide⟩

theorem witness_ClerkEventsComplete_1 : ∃ (s : State) (f : Fetched), s.clerk.ready = true ∧ s.inRun = true ∧
    s.glb.hostSplit = false ∧ s.clerk.waiting = [] ∧ s.clerk.taken = [] ∧ (s.queue 0).state = .running ∧
    s.cmdHead 0 = f ∧ (s.queue 0).covered (s.queue 0).ci f.units = true ∧ malformedCause (s.queue 0) f = 0 ∧
    hdrKind (entryHdr f.bytes) = 4 ∧ s.precheck (packetOf 0 f).1 (packetOf 0 f).2 = none :=
  ⟨clerkState, { index := 0, bytes := leBytes 4 0x402 ++ zeros 28 }, by decide⟩

theorem witness_ClerkEventsComplete_2 : ∃ (s : State) (h : Nat), (s.bench h).state = .pegged ∧
    (s.bench h).staged = false ∧ (s.bench h).ownerPartner = false :=
  ⟨State.reset.setBench 2 { state := .pegged, stagedBy := some 100 }, 2, by decide⟩

theorem witness_ClerkEventsComplete_3 : ∃ (s : State) (h k : Nat), (s.bench h).state = .pegged ∧
    (s.bench h).settings = [] ∧ (s.bench h).pegTick = some k ∧ s.ports = [] ∧ s.clerk.waiting = [] :=
  ⟨State.reset.setBench 2 { state := .pegged, staged := true, pegTick := some 100 }, 2, 100, by decide⟩

theorem witness_ClerkEventsComplete_4 : ∃ (s : State) (ref : Nat) (c : Cmd), s.bent.role ≠ .solo ∧
    s.clerk.ready = true ∧ s.clerk.taken = [] ∧ s.clerk.waiting = [] ∧
    s.precheck 0 { c with origin := .partner ref, partner := false } = none ∧ State.laneFree s.bent.lane0 = true :=
  ⟨{ clerkState with bent := { role := .active, lane0 := { up := true } } }, 3, { origin := .partner 3 }, by decide⟩

theorem witness_ClerkEventsComplete_5 : ∃ (s : State) (ref clamps detail : Nat) (st : Status) (reply : List Byte) (w : Waiting) (until_ q : Nat) (i : BitVec 16),
    s.clerk.waiting = [w] ∧ w.kind = .partner ref until_ ∧ w.cmd.origin = .queue q i ∧ w.discard = false ∧
    (st ≠ .ok ∨ clamps = 0) :=
  ⟨{ clerkState with clerk := { waiting := [partnerWait] } }, 3, 0, 0, .ok, [1, 2, 3], partnerWait, 1000, 0, 5,
      by decide⟩

theorem witness_ClerkEventsComplete_6 : ∃ (s : State) (w : Waiting) (ref until_ q : Nat) (i : BitVec 16),
    s.clerk.waiting = [w] ∧ w.kind = .partner ref until_ ∧ w.cmd.origin = .queue q i ∧ w.discard = false :=
  ⟨{ clerkState with clerk := { waiting := [partnerWait] } }, partnerWait, 3, 1000, 0, 5, by decide⟩

theorem witness_BentStreamEventsComplete_1 : ∃ (s : State) (k : Nat), s.bent.role = .forming ∧
    s.bent.formAt = some k ∧ s.bent.partnerHeld = false ∧ s.bent.partnerRole ≠ some .orphan ∧ s.bentHome = false ∧
    s.flt.sources.any (fun e => e.2.resign) = false :=
  ⟨{ State.reset with bent := { role := .forming, formAt := some 100 } }, 100, by decide⟩

theorem witness_BentStreamEventsComplete_2 : ∃ (s : State) (p : TbPacket), s.bent.role ≠ .solo ∧
    State.laneFree s.bent.lane0 = true ∧ s.bent.lane1.up = false ∧
    p = .heartbeat (Role.code s.bent.role) s.bent.inSync s.bentHome s.fallbackMode s.bent.cold (s.bent.hbCount + 1) :=
  ⟨{ State.reset with bent := { role := .active, lane0 := { up := true } } },
      .heartbeat 2 false false false false 1, by decide⟩

theorem witness_BentStreamEventsComplete_3 : ∃ (s : State) (role : Nat) (inSync cold : Bool),
    s.bent.role = .standby :=
  ⟨{ State.reset with bent := { role := .standby, hbLost := true } }, 2, true, false, by decide⟩

theorem witness_BentStreamEventsComplete_5 : ∃ (s : State), s.bent.role ≠ .solo ∧ s.bent.role ≠ .standby ∧
    s.bent.hbLost = false :=
  ⟨{ State.reset with bent := { role := .active, lastHeard := 5 } }, by decide⟩

theorem witness_BentStreamEventsComplete_6 : ∃ (s : State) (n : Nat), s.bent.role = .active ∧
    s.bent.unacked.all (fun u => u.wait == .none) = true :=
  ⟨{ State.reset with bent := { role := .active, mseqSent := 2, unacked := [{ mseq := 1, entry := .wqDone 5 1, sentAt := 0 }, { mseq := 2, entry := .wqDone 5 2, sentAt := 0 }] } },
      1, by decide⟩

theorem witness_BentStreamEventsComplete_7 : ∃ (s : State) (u : Unacked) (rest : List Unacked),
    s.bent.role = .active ∧ s.bent.inSync = true ∧ s.bent.unacked = u :: rest ∧
    s.bent.unacked.all (fun u => u.wait == .none) = true :=
  ⟨{ State.reset with bent := { role := .active, inSync := true, mseqSent := 1, unacked := [{ mseq := 1, entry := .wqDone 5 1, sentAt := 0 }] } },
      { mseq := 1, entry := .wqDone 5 1, sentAt := 0 }, [], by decide⟩

theorem witness_BentStreamEventsComplete_10 : ∃ (s : State), s.bent.lane0.up = false ∧ s.fenced 0x0C0 = false ∧
    s.bent.waiting = [] :=
  ⟨State.reset, by decide⟩

theorem witness_BentStreamEventsComplete_11 : ∃ (s : State), s.bent.lane1.up = false ∧ s.fenced 0x0C8 = false ∧
    s.bent.waiting = [] :=
  ⟨State.reset, by decide⟩

theorem witness_BentStreamEventsComplete_12 : ∃ (s : State) (n : Nat), s.bent.waiting = [] ∧ s.bent.copying = false :=
  ⟨{ State.reset with bent := { lane0 := { up := true, inFlight := [.ack 1, .ack 2] } } }, 1, by decide⟩

theorem witness_BentStreamEventsComplete_13 : ∃ (s : State) (n q : Nat) (i : BitVec 16), s.bent.role = .standby ∧
    s.bent.cold = false ∧ n = s.bent.mseqSent + 1 ∧ s.bent.journal = [] ∧ State.laneFree s.bent.lane0 = true :=
  ⟨{ State.reset with bent := { role := .standby, inSync := true, mseqSent := 4, lane0 := { up := true } } }, 5, 5,
      3, by decide⟩

theorem witness_BentStreamEventsComplete_14 : ∃ (s : State), s.bent.role = .active ∧
    s.bent.partnerRole = some .resync ∧ s.bent.copying = false ∧ s.bent.lane0.up = true ∧ s.mirrorCredit = false :=
  ⟨{ State.reset with bent := { role := .active, partnerRole := some .resync, lane0 := { up := true, inFlight := List.replicate 32 (.ack 1) } } },
      by decide⟩

theorem witness_BentStreamEventsComplete_16 : ∃ (s : State) (n h : Nat) (b : List Byte), s.bent.role = .resync ∧
    s.bent.joined = true ∧ n = s.bent.mseqSent + 1 ∧ (entryOf b).state ≠ 0 :=
  ⟨{ State.reset with bent := { role := .resync, joined := true, mseqSent := 4 } }, 5, 9, leBytes 4 1 ++ zeros 60,
      by decide⟩

theorem witness_BentStreamEventsComplete_17 : ∃ (s : State) (n : Nat), s.bent.role = .resync ∧
    s.bent.joined = true ∧ s.bent.mseqSent = n ∧ s.bentHome = false :=
  ⟨{ State.reset with bent := { role := .resync, joined := true, mseqSent := 4, copying := true } }, 4, by decide⟩

theorem witness_BentStreamEventsComplete_18 : ∃ (s : State), s.bent.role = .resync :=
  ⟨{ State.reset with bent := { role := .resync, joined := true, mseqSent := 4, copying := true } }, by decide⟩

theorem witness_BentStreamEventsComplete_19 : ∃ (s : State) (k : Nat), s.bent.role = .resync ∧
    s.bent.retryAt = some k ∧ s.queues = [] ∧ s.books = [] :=
  ⟨{ State.reset with bent := { role := .resync, retryAt := some 100, resyncFails := 1 } }, 100, by decide⟩

theorem witness_BentStreamEventsComplete_20 : ∃ (s : State) (cycle : BitVec 32) (start pattern : Nat),
    s.bent.role = .standby ∧ s.span.state = .member ∧ s.span.kingId = s.bent.bentId ∧ s.span.cycle = cycle :=
  ⟨{ State.reset with bent := { role := .standby, bentId := 7 }, span := { State.reset.span with state := .member, kingId := 7, cycle := 12 } },
      12, 999, 1, by decide⟩

theorem witness_BentControlEventsComplete_1 : ∃ (s : State) (flushed : Bool), s.bent.step = .resignFlush ∧
    s.span.state = .member ∧ s.clerk.waiting = [] ∧ State.laneFree s.bent.lane0 = true :=
  ⟨{ State.reset with bent := { role := .active, controlHeld := true, step := .resignFlush, lane0 := { up := true } }, span := { State.reset.span with state := .member } },
      true, by decide⟩

theorem witness_BentControlEventsComplete_2 : ∃ (s : State) (n : Nat) (flushed fatal : Bool),
    s.bent.role = .standby ∧ s.bent.cold = false ∧ s.bent.inSync = true ∧ s.flt.sources = [] :=
  ⟨{ State.reset with bent := { role := .standby, inSync := true, mseqSent := 4 } }, 4, true, false, by decide⟩

theorem witness_BentControlEventsComplete_3 : ∃ (s : State), s.bent.role = .standby ∧ s.bent.cold = false ∧
    s.bent.inSync = true ∧ s.flt.sources = [] :=
  ⟨{ State.reset with bent := { role := .standby, inSync := true, partnerHeld := true } }, by decide⟩

theorem witness_BentControlEventsComplete_4 : ∃ (s : State), s.bent.role = .active ∧ s.bentHome = true :=
  ⟨{ State.reset with bent := { role := .active, controlHeld := true } }.setReg (bntBase + 4) 2, by decide⟩

theorem witness_BentControlEventsComplete_5 : ∃ (s : State), s.bent.role = .active ∧ s.bentHome = false ∧
    s.span.state = .member ∧ s.clerk.waiting = [] :=
  ⟨{ State.reset with bent := { role := .active, controlHeld := true }, span := { State.reset.span with state := .member } },
      by decide⟩

theorem witness_BentControlEventsComplete_6 : ∃ (s : State) (k : Nat), s.bent.step = .takeSettle k :=
  ⟨{ State.reset with bent := { role := .active, step := .takeSettle 100 } }, 100, by decide⟩

theorem witness_BentControlEventsComplete_7 : ∃ (s : State) (r : RingLedger) (q kind group book logN weight burst base shadow st : Nat) (ci dn : BitVec 16) (window : List (BitVec 16 × Nat × Bool × Nat)),
    s.bent.step = .takeWindow ∧ s.bent.takeTo ≤ s.bent.mseqSent ∧ s.bent.rings = [(q, r)] ∧
    r.cfg = some (.ring q kind group book logN weight burst base shadow st ci dn window) ∧ s.bent.journal = [] ∧
    s.bent.kept = [] ∧ s.bent.ledger = [] :=
  ⟨{ State.reset with bent := { role := .active, step := .takeWindow, rings := [(5, takenRing)] } }, takenRing, 5,
      0, 0, 255, 6, 1, 1, 4096, 64, 1, 9, 9, [], by decide⟩

theorem witness_BentControlEventsComplete_8 : ∃ (s : State) (x : Kept) (rest : List Kept) (f : Frame),
    s.bent.kept = x :: rest ∧ s.frame x.frame = some f :=
  ⟨{ State.reset with frames := [(4, some (heldFrame 16))], bent := { role := .standby, kept := [{ frame := 4, isAccount := false, target := 1, path := 0, seq := 8, until_ := 50 }] } },
      { frame := 4, isAccount := false, target := 1, path := 0, seq := 8, until_ := 50 }, [], heldFrame 16,
      by decide⟩

theorem witness_BentControlEventsComplete_9 : ∃ (s : State) (k : Nat), s.bent.holdOffAt = some k ∧
    s.bent.role = .standby ∧ s.bentHome = true ∧ s.bent.inSync = true ∧ s.fallbackMode = false ∧
    State.laneFree s.bent.lane0 = true :=
  ⟨{ State.reset with bent := { role := .standby, inSync := true, holdOffAt := some 100, lane0 := { up := true } } }.setReg (bntBase + 4) 0x10002,
      100, by decide⟩

theorem witness_BentControlEventsComplete_10 : ∃ (s : State), s.bent.role = .active ∧ s.braced = true ∧
    s.bent.step = .none ∧ s.bent.handoverCycle = none ∧ s.bent.handoverTime = none ∧ s.span.cycValid = true :=
  ⟨{ State.reset with bent := { role := .active, inSync := true }, span := { State.reset.span with state := .king, cycValid := true, cycle := 7 } },
      by decide⟩

theorem witness_BentControlEventsComplete_11 : ∃ (s : State) (k : Nat), s.bent.step = .drain k ∧
    s.bent.handoverTime = none ∧ s.drained = true ∧ s.queues = [] ∧ s.books = [] ∧ s.stream.accounts = [] ∧
    s.clerk.waiting = [] ∧ s.span.state = .member ∧ State.laneFree s.bent.lane0 = true :=
  ⟨{ State.reset with bent := { role := .active, controlHeld := true, step := .drain 100, lane0 := { up := true } }, span := { State.reset.span with state := .member } },
      100, by decide⟩

theorem witness_BentControlEventsComplete_12 : ∃ (s : State) (k : Nat), s.bent.step = .drain k ∧
    s.bent.handoverTime = none ∧ s.clerk.waiting = [] :=
  ⟨{ State.reset with bent := { role := .active, step := .drain 100 } }, 100, by decide⟩

theorem witness_BentControlEventsComplete_13 : ∃ (s : State) (n : Nat), s.bent.role = .standby ∧
    s.bent.cold = false ∧ s.bent.inSync = true ∧ s.bent.mseqSent = n ∧ s.bent.rings = [] ∧ s.bent.kept = [] ∧
    s.bent.ledger = [] ∧ s.flt.sources = [] :=
  ⟨{ State.reset with bent := { role := .standby, inSync := true, mseqSent := 4 } }, 4, by decide⟩

theorem witness_IslandRecordEventsComplete_1 : ∃ (s : State) (r : AsyRec) (rest : List AsyRec),
    s.islandWrites = true ∧ s.assay.fifo = r :: rest ∧ r.typ = 1 ∧ s.assay.sender = [] :=
  ⟨{ State.reset with glb := { metrology := true }, assay := { running := true, fifo := [asyRec 1 (zeros 40)] } },
      asyRec 1 (zeros 40), [], by decide⟩

theorem witness_IslandRecordEventsComplete_2 : ∃ (s : State) (r : AsyRec) (rest : List AsyRec),
    s.islandWrites = true ∧ s.assay.fifo = r :: rest ∧ r.typ = 1 ∧ s.assay.sender = [] ∧
    (s.assay.point r.point).enabled = false :=
  ⟨{ State.reset with glb := { metrology := true }, assay := { running := true, fifo := [asyRec 1 (zeros 40)] } },
      asyRec 1 (zeros 40), [], by decide⟩

theorem witness_IslandRecordEventsComplete_3 : ∃ (s : State) (r : AsyRec) (rest : List AsyRec) (code target v old : Nat),
    s.islandWrites = true ∧ s.assay.fifo = r :: rest ∧ r.typ = 0x10 ∧ s.assay.sender = [] ∧ s.clerk.waiting = [] ∧
    r.payload.length = 16 ∧ leAt r.payload 0 2 = code ∧ fieldAt r.payload 4 0 17 = target ∧ leAt r.payload 8 8 = v ∧
    code / 256 ≠ 1 ∧ s.assay.param code target = some old ∧ (s.assay.sealOpen = true ∨ code = 5) ∧
    Assay.paramRange code v = true ∧ s.assay.logClosed = false :=
  ⟨{ State.reset with glb := { metrology := true }, assay := { running := true, fifo := [asyRec 0x10 (leBytes 2 0x203 ++ zeros 2 ++ leBytes 4 7 ++ leBytes 8 1)], sealOpen := true } },
      asyRec 0x10 (leBytes 2 0x203 ++ zeros 2 ++ leBytes 4 7 ++ leBytes 8 1), [], 0x203, 7, 1, 0, by decide⟩

theorem witness_IslandRecordEventsComplete_4 : ∃ (s : State) (r : AsyRec) (rest : List AsyRec) (old : Nat),
    s.islandWrites = true ∧ s.assay.fifo = r :: rest ∧ r.typ = 0x10 ∧ s.assay.sender = [] ∧ s.clerk.waiting = [] ∧
    r.payload.length = 16 ∧ leAt r.payload 0 2 ≠ 5 ∧
    s.assay.param (leAt r.payload 0 2) (fieldAt r.payload 4 0 17) = some old ∧ s.assay.sealOpen = false :=
  ⟨{ State.reset with glb := { metrology := true }, assay := { running := true, fifo := [asyRec 0x10 (leBytes 2 0x203 ++ zeros 2 ++ leBytes 4 7 ++ leBytes 8 1)] } },
      asyRec 0x10 (leBytes 2 0x203 ++ zeros 2 ++ leBytes 4 7 ++ leBytes 8 1), [], 0, by decide⟩

theorem witness_IslandRecordEventsComplete_5 : ∃ (s : State) (r : AsyRec) (rest : List AsyRec),
    s.islandWrites = true ∧ s.assay.fifo = r :: rest ∧ r.typ = 0x11 ∧ s.assay.sender = [] ∧ s.clerk.waiting = [] ∧
    r.payload.length = 48 ∧ fieldAt r.payload 0 0 2 = 1 ∧ s.assay.sealOpen = true ∧ s.assay.logClosed = false :=
  ⟨{ State.reset with glb := { metrology := true }, assay := { running := true, fifo := [asyRec 0x11 (leBytes 4 1 ++ zeros 44)], sealOpen := true } },
      asyRec 0x11 (leBytes 4 1 ++ zeros 44), [], by decide⟩

theorem witness_IslandRecordEventsComplete_6 : ∃ (s : State) (r : AsyRec) (rest : List AsyRec) (total : Nat),
    s.islandWrites = true ∧ s.assay.fifo = r :: rest ∧ r.typ = 0x12 ∧ s.assay.sender = [] ∧ s.clerk.waiting = [] ∧
    8 ≤ r.payload.length ∧ r.payload.length ≤ 4104 ∧ leAt r.payload 0 4 = 0 ∧ leAt r.payload 4 4 = total ∧
    r.payload.length - 8 < total ∧ s.assay.sealOpen = true :=
  ⟨{ State.reset with glb := { metrology := true }, assay := { running := true, fifo := [asyRec 0x12 (leBytes 4 0 ++ leBytes 4 100 ++ zeros 16)], sealOpen := true } },
      asyRec 0x12 (leBytes 4 0 ++ leBytes 4 100 ++ zeros 16), [], 100, by decide⟩

theorem witness_IslandRecordEventsComplete_7 : ∃ (s : State) (r : AsyRec) (rest : List AsyRec) (x : AsySnap),
    s.islandWrites = true ∧ s.assay.fifo = r :: rest ∧ r.typ = 0x13 ∧ s.assay.sender = [] ∧ s.clerk.waiting = [] ∧
    r.payload.length = 4 ∧
    (Tab.get [] s.assay.snaps (fieldAt r.payload 0 0 17))[fieldAt r.payload 0 24 4]? = some x :=
  ⟨{ State.reset with glb := { metrology := true }, assay := { running := true, fifo := [asyRec 0x13 (leBytes 4 7)], snaps := [(7, [asySnap])] } },
      asyRec 0x13 (leBytes 4 7), [], asySnap, by decide⟩

theorem witness_IslandRecordEventsComplete_8 : ∃ (s : State) (r : AsyRec) (rest : List AsyRec),
    s.islandWrites = true ∧ s.assay.fifo = r :: rest ∧ r.typ = 0x13 ∧ s.assay.sender = [] ∧ s.clerk.waiting = [] ∧
    r.payload.length = 4 ∧
    (Tab.get [] s.assay.snaps (fieldAt r.payload 0 0 17))[fieldAt r.payload 0 24 4]? = none :=
  ⟨{ State.reset with glb := { metrology := true }, assay := { running := true, fifo := [asyRec 0x13 (leBytes 4 7)] } },
      asyRec 0x13 (leBytes 4 7), [], by decide⟩

theorem witness_IslandRecordEventsComplete_9 : ∃ (s : State) (r : AsyRec) (rest : List AsyRec),
    s.islandWrites = true ∧ s.assay.fifo = r :: rest ∧ r.typ = 0x14 ∧ s.assay.sender = [] ∧ s.clerk.waiting = [] ∧
    r.payload.length = 8 ∧ s.assay.sealOpen = true ∧ fieldAt r.payload 4 0 10 ≤ 999 ∧ s.assay.logClosed = false :=
  ⟨{ State.reset with glb := { metrology := true }, assay := { running := true, fifo := [asyRec 0x14 (leBytes 4 1000 ++ leBytes 4 5)], sealOpen := true } },
      asyRec 0x14 (leBytes 4 1000 ++ leBytes 4 5), [], by decide⟩

theorem witness_IslandRecordEventsComplete_10 : ∃ (s : State) (r : AsyRec) (rest : List AsyRec),
    s.islandWrites = true ∧ s.assay.fifo = r :: rest ∧ r.typ = 0x15 ∧ s.assay.sender = [] ∧ s.clerk.waiting = [] ∧
    r.payload = [] ∧ s.assay.sealOpen = true ∧ s.assay.journal = [] :=
  ⟨{ State.reset with glb := { metrology := true }, assay := { running := true, fifo := [asyRec 0x15 ([])], sealOpen := true } },
      asyRec 0x15 ([]), [], by decide⟩

theorem witness_IslandEventsComplete_1 : ∃ (s : State) (w : Waiting) (n : BitVec 32) (k q : Nat) (i : BitVec 16),
    s.clerk.waiting = [w] ∧ w.kind = .assay n k ∧ w.cmd.origin = .queue q i ∧ w.discard = false :=
  ⟨{ clerkState with clerk := { waiting := [{ partnerWait with kind := .assay 3 1000 }] } },
      { partnerWait with kind := .assay 3 1000 }, 3, 1000, 0, 5, by decide⟩

theorem witness_IslandEventsComplete_2 : ∃ (s : State), s.glb.metrology = true ∧ s.timeOff = false ∧
    s.time.flag ≠ .invalid ∧ (s.assay.running = false ∨ s.time.flag = .coarse) :=
  ⟨{ State.reset with glb := { metrology := true }, time := { State.reset.time with flag := .coarse } }, by decide⟩

theorem witness_IslandEventsComplete_3 : ∃ (s : State), s.glb.metrology = true ∧ s.timeOff = false ∧
    s.time.flag = .valid ∧ s.assay.running = true :=
  ⟨{ State.reset with glb := { metrology := true }, time := { State.reset.time with flag := .valid }, assay := { running := true, ltValid := true } },
      by decide⟩

theorem witness_IslandEventsComplete_4 : ∃ (s : State) (m : Nat), s.assay.running = true ∧ s.assay.ltValid = true ∧
    (upto (s.assay.closedMin + 1) 60).find? (fun m => s.assay.points.any (fun e => (s.assay.prof e.2.profile).maxpMin != 0 && m % (s.assay.prof e.2.profile).maxpMin == 0)) = some m :=
  ⟨{ State.reset with glb := { metrology := true }, assay := { running := true, ltValid := true, points := [(7, { enabled := true, periodWh := 10 })] } },
      1, by decide⟩

theorem witness_IslandEventsComplete_5 : ∃ (s : State) (profile : Nat) (u : Int), s.islandWrites = true ∧
    s.assay.ltValid = true ∧ profile < 256 ∧
    s.assay.nextBilling (s.assay.prof profile) (max s.assay.stepAt (Tab.get 0 s.assay.billed profile) : Nat) = some u :=
  ⟨{ State.reset with glb := { metrology := true }, assay := { running := true, ltValid := true, stepAt := 1700000000000, points := [(7, { enabled := true, periodWh := 10 })] } },
      0, 1701388800000, by decide⟩

theorem witness_IslandEventsComplete_6 : ∃ (s : State), s.islandWrites = true :=
  ⟨{ State.reset with glb := { metrology := true }, assay := { running := true, points := [(7, { enabled := true, periodWh := 10 })] } },
      by decide⟩

theorem witness_IslandEventsComplete_7 : ∃ (s : State) (open_ : Bool), s.islandWrites = true ∧
    s.assay.sealOpen ≠ open_ ∧ s.assay.logFull = false :=
  ⟨{ State.reset with glb := { metrology := true }, assay := { running := true } }, true, by decide⟩

theorem witness_IslandEventsComplete_8 : ∃ (s : State), s.assay.running = true :=
  ⟨{ State.reset with glb := { metrology := true }, assay := { running := true } }, by decide⟩

theorem witness_IslandEventsComplete_9 : ∃ (s : State) (selfTest : Bool), s.glb.metrology = true ∧
    s.assay.running = false ∧ s.assay.pfail = false ∧ s.assay.pendingImage = none ∧ s.assay.sender = [] ∧
    s.assay.logFull = false :=
  ⟨{ State.reset with glb := { metrology := true } }, true, by decide⟩

theorem witness_IslandEventsComplete_14 : ∃ (s : State), s.assay.alive = true ∧ s.assay.running = false :=
  ⟨{ State.reset with glb := { metrology := true }, assay := { alive := true } }, by decide⟩

theorem witness_IslandEventsComplete_15 : ∃ (s : State), s.windowOn = true ∧ s.assay.alive = true ∧
    s.assay.running = true :=
  ⟨{ State.reset with glb := { metrology := true }, assay := { alive := true, running := true } }, by decide⟩

theorem witness_IslandEventsComplete_16 : ∃ (s : State) (addr n : Nat), s.windowOn = true :=
  ⟨{ State.reset with glb := { metrology := true }, assay := { alive := true, running := true } }, 0xB40000, 2,
      by decide⟩

theorem witness_ForemanEventsComplete_1 : ∃ (s : State) (lost : List Nat) (n : Nat) (m : FaultMsg),
    s.nextMessage = some (n, m) ∧ m.cls < 2 ∧ s.reactionOf m.kind = 0 ∧ s.clerk.waiting = [] :=
  ⟨fltPending { source := 0x030, kind := 0x20, cls := 1 }, [], 0x030, { source := 0x030, kind := 0x20, cls := 1 },
      by decide⟩

theorem witness_ForemanEventsComplete_2 : ∃ (s : State) (lost : List Nat) (n : Nat) (m : FaultMsg),
    s.nextMessage = some (n, m) ∧ m.cls = 1 ∧ s.reactionOf m.kind = 2 ∧ fenceKind m.source = some 2 ∧
    s.faultFenced (s.unitOf m.source) = false ∧ s.clerk.waiting = [] :=
  ⟨(fltPending { source := 0x342, kind := 0x04, cls := 1 }).setReg (fltBase + 0x5000 + 0x10) 2, [], 0x342,
      { source := 0x342, kind := 0x04, cls := 1 }, by decide⟩

theorem witness_ForemanEventsComplete_3 : ∃ (s : State) (lost : List Nat) (n : Nat) (m : FaultMsg),
    s.nextMessage = some (n, m) ∧ m.cls = 2 ∧ s.flt.stopped = false ∧ s.bent.role = .solo ∧ s.ports = [] ∧
    s.clerk.waiting = [] :=
  ⟨fltPending { source := 0x003, kind := 0x0E, cls := 2 }, [], 0x003, { source := 0x003, kind := 0x0E, cls := 2 },
      by decide⟩

theorem witness_ForemanEventsComplete_4 : ∃ (s : State) (source kind cls : Nat), source < 4096 ∧
    s.regBits (fltBase + 0x10) 0 8 = kind ∧ s.regBits (fltBase + 0x10) 8 2 = cls ∧
    s.forceOk source kind cls = true ∧ escalates kind = false ∧ (s.source source).slot = none :=
  ⟨State.reset.setReg (fltBase + 0x10) 0x120, 0x030, 0x20, 1, by decide⟩

theorem witness_ForemanEventsComplete_5 : ∃ (s : State) (source : Nat),
    s.forceOk (source % 4096) (s.regBits (fltBase + 0x10) 0 8) (s.regBits (fltBase + 0x10) 8 2) = false :=
  ⟨State.reset, 0x011, by decide⟩

theorem witness_ForemanEventsComplete_6 : ∃ (s : State), s.flt.warmWarn = false ∧ (s.source 0x003).slot = none ∧
    s.underTest 0x003 = false :=
  ⟨State.reset, by decide⟩

theorem witness_ForemanEventsComplete_7 : ∃ (s : State), s.flt.warmLimit = false ∧ (s.source 0x003).slot = none ∧
    s.underTest 0x003 = false :=
  ⟨State.reset, by decide⟩

theorem witness_ForemanEventsComplete_8 : ∃ (s : State), s.flt.warmTrip = false ∧ (s.source 0x003).slot = none ∧
    s.underTest 0x003 = false :=
  ⟨State.reset, by decide⟩

theorem witness_ForemanEventsComplete_10 : ∃ (s : State) (source dv dt : Nat), isMonitor source = true ∧
    (s.source source).slot = none ∧ s.underTest source = false :=
  ⟨State.reset, 0x006, 40, 3, by decide⟩

theorem witness_ForemanEventsComplete_11 : ∃ (s : State) (source addr : Nat) (critical : Bool), 0x600 ≤ source ∧
    source ≤ 0x65F ∧ (s.source source).slot = none ∧ s.underTest source = false :=
  ⟨State.reset, 0x600, 77, false, by decide⟩

theorem witness_ForemanEventsComplete_12 : ∃ (s : State), s.flt.rotFh < 32 ∧ s.regBits (fltBase + 0x14) 0 1 = 1 ∧
    s.flt.gapFh = none ∧ s.awake = true ∧ s.kindBusy 1 0 = false ∧ s.holdLevel ≤ s.reg (fltBase + 0x18) :=
  ⟨(State.reset.setReg (fltBase + 0x14) 1).setReg (fltBase + 0x18) 1000, by decide⟩

theorem witness_ForemanEventsComplete_13 : ∃ (s : State), s.flt.rotTc < 8 ∧ s.regBits (fltBase + 0x14) 1 1 = 1 ∧
    s.flt.gapTc = none ∧ s.awake = true ∧ s.kindBusy 2 0 = false :=
  ⟨State.reset.setReg (fltBase + 0x14) 2, by decide⟩

theorem witness_ForemanEventsComplete_14 : ∃ (s : State) (fail : Bool) (u us e : Nat),
    s.flt.tests = [UnitTest.mk u .rotation us (some e) 0 0] ∧ unitRange 2 u = true :=
  ⟨{ State.reset with flt := { tests := [UnitTest.mk 0x344 .rotation 1000 (some 50) 0 0], fences := [Fence.mk 0x344 .test false], rotTc := 2 } },
      false, 0x344, 1000, 50, by decide⟩

theorem witness_ForemanEventsComplete_15 : ∃ (s : State) (k : Nat), s.flt.gapTc = some k ∧
    s.regBits (fltBase + 0x14) 1 1 = 0 :=
  ⟨{ State.reset with flt := { gapTc := some 60 } }.setReg (fltBase + 0x14) 0, 60, by decide⟩

theorem witness_ForemanEventsComplete_16 : ∃ (s : State) (k : Nat), s.flt.gapFh = some k ∧
    s.regBits (fltBase + 0x14) 0 1 = 0 :=
  ⟨{ State.reset with flt := { gapFh := some 60 } }.setReg (fltBase + 0x14) 0, 60, by decide⟩

theorem witness_ForemanEventsComplete_17 : ∃ (s : State) (u a b us e : Nat),
    s.flt.tests = [UnitTest.mk u .selftest us (some e) 0 0] ∧ fenceKind u = some 2 ∧ s.clerk.waiting = [] :=
  ⟨{ State.reset with flt := { tests := [UnitTest.mk 0x344 .selftest 1000 (some 50) 0 0], fences := [Fence.mk 0x344 .test false] } },
      0x344, 0, 0, 1000, 50, by decide⟩

theorem witness_ForemanEventsComplete_18 : ∃ (s : State) (u a b : Nat) (fail : Bool) (w : Waiting) (q : Nat) (i : BitVec 16),
    s.flt.tests = [UnitTest.mk u .eyeScan 0 none 0 0] ∧ s.clerk.waiting = [w] ∧ w.kind = .unitTest u ∧
    w.cmd.origin = .queue q i ∧ w.discard = false :=
  ⟨{ clerkState with flt := { tests := [UnitTest.mk 0x181 .eyeScan 0 none 0 0] }, clerk := { waiting := [{ partnerWait with kind := .unitTest 0x181 }] } },
      0x181, 5, 6, false, { partnerWait with kind := .unitTest 0x181 }, 0, 5, by decide⟩

theorem witness_PowerEventsComplete_1 : ∃ (s : State), s.pwr.trans = none ∧ s.board.inReset = false ∧
    s.pwr.state = .run ∧ s.idleValue .idle ≠ 0 ∧ s.failFor .idle true = 0 :=
  ⟨(State.reset.setReg (pwrBase + 0x1C) 100).setReg (pwrBase + 0x38) 0, by decide⟩

theorem witness_PowerEventsComplete_2 : ∃ (s : State) (n : Nat), s.pwr.trans = none ∧ s.board.inReset = false ∧
    s.pwr.state.code + 1 = n ∧ n < 5 ∧ s.idleValue (pstateOf n) ≠ 0 ∧ s.failFor (pstateOf n) true ≠ 0 :=
  ⟨(State.reset.setReg (pwrBase + 0x1C) 100).setReg (pwrBase + 0x38) 1, 1, by decide⟩

theorem witness_PowerEventsComplete_3 : ∃ (s : State) (x : Transition), s.pwr.trans = some x ∧ x.wake = false ∧
    x.step = 0 ∧ x.dest = .idle ∧ s.pwr.slot = none ∧ s.heldLevel .idle = none :=
  ⟨{ State.reset with pwr := { trans := some { from_ := .run, dest := .idle, wake := false } } },
      { from_ := .run, dest := .idle, wake := false }, by decide⟩

theorem witness_PowerEventsComplete_4 : ∃ (s : State) (source port : Nat), s.board.inReset = false ∧
    s.pwr.trans = none ∧ s.levelHolds source port = true ∧ s.wakeArmed source port = true ∧
    State.wakesFrom source s.pwr.state = true ∧ s.pwr.state ≠ .off :=
  ⟨{ State.reset with pwr := { state := .sleep }, board := { wakeN := false } }, 1, 0, by decide⟩

theorem witness_PowerEventsComplete_5 : ∃ (s : State) (r : Nat) (x : Transition), s.pwr.trans = some x ∧
    x.wake = true ∧ x.from_ = .off ∧ x.step = 1 ∧ x.rail = r ∧ s.board.inReset = false ∧ 1 ≤ r ∧ r < 4 :=
  ⟨{ State.reset with pwr := { state := .off, trans := some { from_ := .off, dest := .run, wake := true, step := 1, rail := 2 } } },
      2, { from_ := .off, dest := .run, wake := true, step := 1, rail := 2 }, by decide⟩

theorem witness_PowerEventsComplete_6 : ∃ (s : State) (x : Transition), s.pwr.trans = some x ∧ x.wake = true ∧
    x.from_ = .off ∧ x.step = 1 ∧ x.rail = 4 ∧ s.board.inReset = false :=
  ⟨{ State.reset with pwr := { state := .off, trans := some { from_ := .off, dest := .run, wake := true, step := 1, rail := 4 } } },
      { from_ := .off, dest := .run, wake := true, step := 1, rail := 4 }, by decide⟩

theorem witness_PowerEventsComplete_7 : ∃ (s : State) (x : Transition), s.pwr.trans = some x ∧ x.wake = false ∧
    x.step = 1 ∧ x.rail ≠ 0 ∧ s.board.inReset = false :=
  ⟨{ State.reset with pwr := { state := .run, trans := some { from_ := .run, dest := .off, wake := false, step := 1, rail := 3, stepBy := 70 } } },
      { from_ := .run, dest := .off, wake := false, step := 1, rail := 3, stepBy := 70 }, by decide⟩

theorem witness_PowerEventsComplete_8 : ∃ (s : State) (r : Nat) (x : Transition), s.pwr.trans = some x ∧
    x.wake = false ∧ x.step = 1 ∧ x.rail = r ∧ r ≠ 0 :=
  ⟨{ State.reset with pwr := { state := .run, trans := some { from_ := .run, dest := .off, wake := false, step := 1, rail := 3, stepBy := 70 } } },
      3, { from_ := .run, dest := .off, wake := false, step := 1, rail := 3, stepBy := 70 }, by decide⟩

theorem witness_PowerEventsComplete_9 : ∃ (s : State) (x : Transition), s.pwr.trans = some x ∧ x.wake = true ∧
    x.step = 2 ∧ s.board.inReset = false ∧ (x.from_ ≠ .deep ∨ s.pwr.etelo = false) :=
  ⟨{ State.reset with pwr := { state := .off, trans := some { from_ := .off, dest := .run, wake := true, step := 2, rail := 4 } } },
      { from_ := .off, dest := .run, wake := true, step := 2, rail := 4 }, by decide⟩

theorem witness_PowerEventsComplete_10 : ∃ (s : State) (gib width ranks rate : Nat) (x : Transition),
    s.pwr.trans = some x ∧ x.wake = true ∧ x.step = 3 ∧ s.board.inReset = false ∧ s.mem.popError = false ∧
    s.mem.ready = false ∧ State.populationOk gib width ranks rate = true :=
  ⟨{ State.reset with pwr := { state := .off, trans := some { from_ := .off, dest := .run, wake := true, step := 3, rail := 4 } }, mem := {} },
      16, 8, 1, 48, { from_ := .off, dest := .run, wake := true, step := 3, rail := 4 }, by decide⟩

theorem witness_PowerEventsComplete_11 : ∃ (s : State) (gib width ranks rate : Nat) (popError : Bool) (x : Transition),
    s.pwr.trans = some x ∧ x.wake = true ∧ x.step = 3 ∧ s.board.inReset = false ∧ s.mem.popError = false ∧
    s.mem.ready = false ∧ (popError = true ∨ State.populationOk gib width ranks rate = false) :=
  ⟨{ State.reset with pwr := { state := .off, trans := some { from_ := .off, dest := .run, wake := true, step := 3, rail := 4 } }, mem := {} },
      17, 8, 1, 48, false, { from_ := .off, dest := .run, wake := true, step := 3, rail := 4 }, by decide⟩

theorem witness_PowerEventsComplete_12 : ∃ (s : State) (x : Transition), s.pwr.trans = some x ∧ x.wake = true ∧
    x.stepBy ≠ 0 ∧ (x.step = 2 ∨ x.step = 3) ∧ x.from_ ≠ .off ∧ s.board.inReset = false ∧ s.pwr.slot = none ∧
    s.heldLevel s.pwr.state = none :=
  ⟨{ State.reset with pwr := { state := .sleep, trans := some { from_ := .sleep, dest := .run, wake := true, step := 3, stepBy := 90 } } },
      { from_ := .sleep, dest := .run, wake := true, step := 3, stepBy := 90 }, by decide⟩

theorem witness_PowerEventsComplete_13 : ∃ (s : State) (x : Transition), s.pwr.trans = some x ∧ x.wake = true ∧
    x.step = 4 ∧ (x.from_ = .sleep ∨ x.from_ = .idle) ∧ x.dest = .run ∧ s.board.inReset = false ∧
    s.pwr.slot = none ∧ s.pwr.warmAfter = false ∧ s.bent.role ≠ .standby ∧ s.regBits (pwrBase + 0x18) 2 1 = 0 :=
  ⟨{ State.reset with pwr := { state := .sleep, trans := some { from_ := .sleep, dest := .run, wake := true, step := 4, stepBy := 90 } } },
      { from_ := .sleep, dest := .run, wake := true, step := 4, stepBy := 90 }, by decide⟩

theorem witness_HostAndMemoryEventsComplete_1 : ∃ (s : State) (fn : Nat), s.hasFn fn = true ∧
    (s.hostFn fn).up = false :=
  ⟨State.reset, 0, by decide⟩

theorem witness_HostAndMemoryEventsComplete_2 : ∃ (s : State) (fn : Nat), s.hasFn fn = true ∧
    (s.hostFn fn).up = true ∧ s.queues = [] ∧ s.books = [] ∧ s.dray.chans = [] ∧ s.clerk.taken = [] ∧
    s.clerk.waiting = [] ∧ (s.source (hostSource fn)).slot = none :=
  ⟨{ State.reset with host := [(0, { up := true, speed := 4, width := 8 })] }, 0, by decide⟩

theorem witness_HostAndMemoryEventsComplete_3 : ∃ (s : State) (fn speed width : Nat), s.hasFn fn = true ∧
    (s.hostFn fn).up = false ∧ s.flt.slowLink = false ∧ 1 ≤ speed ∧ speed ≤ 5 ∧ [1, 2, 4,
    8].contains width = true :=
  ⟨State.reset, 0, 5, 8, by decide⟩

theorem witness_HostAndMemoryEventsComplete_4 : ∃ (s : State) (fn : Nat) (corrected : Bool), s.hasFn fn = true ∧
    (s.source (hostSource fn)).slot = none :=
  ⟨State.reset, 0, true, by decide⟩

theorem witness_HostAndMemoryEventsComplete_5 : ∃ (s : State) (fn addr : Nat) (timeout : Bool), s.hasFn fn = true ∧
    (s.source (hostSource fn)).slot = none ∧ s.underTest (hostSource fn) = false :=
  ⟨State.reset, 0, 99, true, by decide⟩

theorem witness_HostAndMemoryEventsComplete_6 : ∃ (s : State) (fn n : Nat), s.hasFn fn = true ∧ 0 < n ∧ n ≤ 64 ∧
    (s.hostFn fn).vfEnabled = 0 :=
  ⟨State.reset, 0, 2, by decide⟩

theorem witness_HostAndMemoryEventsComplete_7 : ∃ (s : State) (fn : Nat), s.hasFn fn = true :=
  ⟨State.reset, 0, by decide⟩

theorem witness_HostAndMemoryEventsComplete_8 : ∃ (s : State) (fn off : Nat) (v : BitVec 32) (r : RegRow),
    s.pwr.state = .run ∧ s.hasFn fn = true ∧ 0x1000 ≤ off ∧ off < 0x1800 ∧ regRow (hstKey fn + off) = some r ∧
    (s.hostFn fn).vfEnabled = 0 :=
  ⟨State.reset, 0, 0x1000, 0x20008, { off := 4096, n := 64, stride := 32, rw := 8327167, rwl := 0, reset := 0 },
      by decide⟩

theorem witness_HostAndMemoryEventsComplete_9 : ∃ (s : State) (fn off : Nat) (v : BitVec 32) (r : RegRow),
    s.pwr.state = .run ∧ s.hasFn fn = true ∧ 0x1000 ≤ off ∧ off < 0x1800 ∧ regRow (hstKey fn + off) = some r ∧
    (s.hostFn fn).vfEnabled ≠ 0 :=
  ⟨{ State.reset with host := [(0, { up := true, vfEnabled := 2 })] }, 0, 0x1000, 0x20008,
      { off := 4096, n := 64, stride := 32, rw := 8327167, rwl := 0, reset := 0 }, by decide⟩

theorem witness_HostAndMemoryEventsComplete_10 : ∃ (s : State) (fn x n o : Nat) (data : List Byte),
    s.pwr.state = .run ∧ s.hasFn fn = true ∧ s.glb.bar4En = true ∧ x + n ≤ 2 ^ 36 ∧
    o = s.swBase + s.regBits (hstKey fn + 4) 0 8 * GiB + x ∧ o + n ≤ s.swEnd ∧ data.length = n :=
  ⟨memState, 0, 16, 3, 18253611024, [1, 2, 3], by decide⟩

theorem witness_HostAndMemoryEventsComplete_11 : ∃ (s : State) (fn x n o : Nat) (data : List Byte),
    s.pwr.state = .run ∧ s.hasFn fn = true ∧ s.glb.bar4En = true ∧ x + n ≤ 2 ^ 36 ∧
    o = s.swBase + s.regBits (hstKey fn + 4) 0 8 * GiB + x ∧ o + n ≤ s.swEnd ∧ s.poisonIn o n = none :=
  ⟨memState, 0, 16, 3, 18253611024, [], by decide⟩

theorem witness_HostAndMemoryEventsComplete_12 : ∃ (s : State) (fn x n : Nat) (data : List Byte),
    s.pwr.state = .run ∧ s.hasFn fn = true ∧ s.glb.bar4En = true ∧ x + n ≤ 2 ^ 36 ∧
    s.swEnd < s.swBase + s.regBits (hstKey fn + 4) 0 8 * GiB + x + n :=
  ⟨memState, 0, 60129542144, 4, [], by decide⟩

theorem witness_HostAndMemoryEventsComplete_13 : ∃ (s : State) (fn off : Nat), s.pwr.state = .run ∧
    s.hasFn fn = true :=
  ⟨State.reset, 0, 8, by decide⟩

theorem witness_HostAndMemoryEventsComplete_14 : ∃ (s : State) (fn off : Nat) (read : Bool), s.pwr.state = .run ∧
    s.hasRequester fn = true ∧ fn < 2 ∧ off < 0x4000000 :=
  ⟨State.reset, 0, 0x3F, true, by decide⟩

theorem witness_HostAndMemoryEventsComplete_15 : ∃ (s : State) (fn off : Nat), s.pwr.state = .run ∧
    s.hasRequester fn = true ∧ fn < 2 ∧ off % 4 = 0 ∧ off < hstBase ∧ latchOf off = none :=
  ⟨State.reset, 0, 0x40, by decide⟩

theorem witness_HostAndMemoryEventsComplete_16 : ∃ (s : State) (fn off k : Nat) (v : BitVec 64) (r : RegRow),
    s.pwr.state = .run ∧ s.hasRequester fn = true ∧ fn < 2 ∧ off % 4 = 0 ∧ off < 0x700000 ∧ off ≠ 0x30 ∧
    s.rowAt fn off = some (r, k) ∧ r.rw ≠ 0 ∧ s.changesRwl fn off (v.toNat % 2 ^ 32) = false :=
  ⟨State.reset, 0, 0x40, 0x40, 0x12345678, { off := 64, n := 4, rw := 0xFFFFFFFF }, by decide⟩

theorem witness_HostAndMemoryEventsComplete_17 : ∃ (s : State) (fn off k : Nat) (v : BitVec 64) (r : RegRow),
    s.pwr.state = .run ∧ s.hasRequester fn = true ∧ fn < 2 ∧ off % 4 = 0 ∧ off < 0x700000 ∧ off ≠ 0x30 ∧
    s.rowAt fn off = some (r, k) ∧ r.rw = 0 ∧ s.changesRwl fn off (v.toNat % 2 ^ 32) = true :=
  ⟨State.reset, 0, 0x500040, 0x500040, 1, { off := 64, n := 1, stride := 4, rw := 0, rwl := 131071, reset := 6635 },
      by decide⟩

theorem witness_HostAndMemoryEventsComplete_18 : ∃ (s : State) (v : BitVec 32), s.pwr.state = .run ∧
    bits v.toNat 16 16 < bits v.toNat 0 16 ∧ bits v.toNat 0 16 ≤ 1024 :=
  ⟨State.reset, 0x100020, by decide⟩

theorem witness_HostAndMemoryEventsComplete_19 : ∃ (s : State) (v : BitVec 32), s.pwr.state = .run ∧
    (bits v.toNat 0 16 ≤ bits v.toNat 16 16 ∨ 1024 < bits v.toNat 0 16) :=
  ⟨State.reset, 0x200010, by decide⟩

theorem witness_HostAndMemoryEventsComplete_20 : ∃ (s : State) (v : BitVec 32), s.pwr.state = .run ∧
    1 ≤ v.toNat % 256 ∧ v.toNat % 256 ≤ 168 :=
  ⟨State.reset, 24, by decide⟩

theorem witness_HostAndMemoryEventsComplete_21 : ∃ (s : State) (off : Nat), off < s.memCap ∧ s.mem.ready = true ∧
    s.mem.poisoned.contains (off - off % 64) = false :=
  ⟨memState, 1000, by decide⟩

theorem witness_HostAndMemoryEventsComplete_22 : ∃ (s : State) (off : Nat), off < s.memCap ∧ s.mem.ready = true :=
  ⟨memState, 1000, by decide⟩

theorem witness_HostAndMemoryEventsComplete_23 : ∃ (s : State) (off master : Nat), off < s.memCap ∧
    off < retentionBase ∧ s.mem.poisoned.contains (off - off % 64) = true ∧
    (s.source (memSource (channelOf off))).slot = none ∧ s.underTest (memSource (channelOf off)) = false :=
  ⟨{ memState with mem := { memState.mem with poisoned := [960] } }, 1000, 0x501, by decide⟩

theorem witness_ResetAndDebugEventsComplete_1 : ∃ (s : State) (a b : List Byte), s.bootRuns = true ∧
    leAt a 0 4 ≠ 0x3146575A ∧ leAt b 0 4 ≠ 0x3146575A :=
  ⟨State.reset, zeros 64, zeros 64, by decide⟩

theorem witness_ResetAndDebugEventsComplete_2 : ∃ (s : State) (a b : List Byte), s.bootRuns = true :=
  ⟨State.reset, zeros 64, zeros 64, by decide⟩

theorem witness_ResetAndDebugEventsComplete_4 : ∃ (s : State) (split bar4 : Bool), s.pwr.trans = none :=
  ⟨State.reset, true, false, by decide⟩

theorem witness_ResetAndDebugEventsComplete_5 : ∃ (s : State), s.board.wakeN = true :=
  ⟨{ State.reset with flt := { fatal := true } }, by decide⟩

theorem witness_ResetAndDebugEventsComplete_6 : ∃ (s : State), s.pwr.state ≠ .off ∧ s.bent.role = .solo ∧
    s.flt.fatal = false :=
  ⟨State.reset, by decide⟩

theorem witness_ResetAndDebugEventsComplete_7 : ∃ (s : State) (split bar4 : Bool), s.board.inReset = true ∧
    s.pwr.trans = none ∧ s.bent.role = .solo ∧ s.flt.fatal = false :=
  ⟨{ State.reset with board := { inReset := true, sysRstN := false } }, true, true, by decide⟩

theorem witness_ResetAndDebugEventsComplete_8 : ∃ (s : State) (stays : Bool), s.board.inReset = false ∧
    s.pwr.trans = none ∧ (s.pwr.state = .sleep ∨ s.pwr.state = .deep) :=
  ⟨{ State.reset with pwr := { state := .sleep } }, true, by decide⟩

theorem witness_ResetAndDebugEventsComplete_9 : ∃ (s : State), s.board.inReset = false ∧ s.pwr.state = .run ∧
    s.pwr.trans = none :=
  ⟨{ State.reset with flt := { stopped := true } }, by decide⟩

theorem witness_ResetAndDebugEventsComplete_10 : ∃ (s : State), s.board.warming = true :=
  ⟨{ State.reset with board := { warming := true } }, by decide⟩

theorem witness_ResetAndDebugEventsComplete_11 : ∃ (s : State) (split bar4 : Bool), s.pwr.state ≠ .off ∧
    s.bent.role = .solo ∧ s.flt.fatal = false :=
  ⟨State.reset, false, true, by decide⟩

theorem witness_ResetAndDebugEventsComplete_12 : ∃ (s : State) (q : Nat) (w : WorkQueue), s.glb.hostSplit = false ∧
    s.queues = [(q, w)] ∧ w.state ≠ .disabled ∧ s.bent.role = .solo ∧ s.books = [] ∧ s.dray.chans = [] ∧
    s.clerk.taken = [] ∧ s.clerk.waiting = [] :=
  ⟨{ State.reset with queues := [(5, { state := .running, kind := .tx, logN := 6, pi := 3 })] }, 5,
      { state := .running, kind := .tx, logN := 6, pi := 3 }, by decide⟩

theorem witness_ResetAndDebugEventsComplete_13 : ∃ (s : State) (fn n : Nat), s.hasFn fn = true ∧ n < 64 ∧
    (s.hostFn fn).vfHeld.contains n = false :=
  ⟨State.reset, 0, 3, by decide⟩

theorem witness_ResetAndDebugEventsComplete_14 : ∃ (s : State), s.board.badResponses < 3 :=
  ⟨State.reset, by decide⟩

theorem witness_ResetAndDebugEventsComplete_15 : ∃ (s : State) (signature key : List Byte),
    s.board.challenge = none :=
  ⟨State.reset, [], [], by decide⟩

theorem witness_ResetAndDebugEventsComplete_16 : ∃ (s : State) (signature key ch : List Byte),
    s.board.challenge = some ch :=
  ⟨{ State.reset with board := { challenge := some [1] } }, [], [], [1], by decide⟩

end Sys2Proof.Tests
end

section
/-!
PROOFS. R4: a part without the Assay island. A command that fails a check of R578 leaves only its refusal; the check of
R4 is the first that an Assay command fails there; and the bytes of the IDENTIFY reply that show the hallmark.
-/

namespace Sys2Proof.Machine

open Sys2Proof.Claims

/-! ### Commands that fail a check of R578 -/

/-- The conditions of `answers`. -/
theorem answers_iff (s : State) (code : Nat) (c : Cmd) : answers s code c = true ↔
    (Cmd.queueOf c).isSome = true ∧ ((takenAs s code c).map (·.discard)).getD false = false := by
  simp only [answers, Bool.and_eq_true, Bool.not_eq_true']

/-- A command that fails a check of R578 has no effect, whatever it would do: it leaves its refusal. -/
theorem runStep_failed {s : State} {code : Nat} {c : Cmd} {eff : State → Eff} {st : Status} {d : Nat}
    (h : answers s code c = true) (e : (begun s code c).precheck code c = some (st, d)) :
    runStep code c s eff = .next (failed s code c st d) := by
  obtain ⟨-, hkept⟩ := (answers_iff s code c).1 h
  simp only [runStep, ok, State.runCmd_eq, e, hkept, failed]

/-! ### The Assay commands -/

/-- The commands of chapter 15 among all commands. -/
theorem filter_commands_assay : Claims.commands.filter (fun r => r.1 / 256 == 0x0C) =
    [(0x0C00, .asyStatus), (0x0C01, .asyParam), (0x0C02, .asyKey), (0x0C03, .asyFirmware), (0x0C04, .asySnapshot),
      (0x0C05, .asyLegalTime), (0x0C06, .asyLogRoll), (0x0C07, .asyRead)] := rfl

/-- The commands of chapter 15 run under their own opcode, so the checks of R578 come before their effect. -/
theorem exec_assayCommand_eq_runStep {r : Nat × (Cmd → Instr)} (hr : r ∈ Claims.commands) (ha : r.1 / 256 = 0x0C)
    (s : State) (c : Cmd) : ∃ eff, exec (r.2 c) s = runStep r.1 c s eff := by
  have hmem : r ∈ Claims.commands.filter (fun r => r.1 / 256 == 0x0C) := List.mem_filter.2 ⟨hr, by simpa using ha⟩
  simp only [filter_commands_assay, List.mem_cons, List.not_mem_nil, or_false] at hmem
  obtain rfl | rfl | rfl | rfl | rfl | rfl | rfl | rfl := hmem <;> exact ⟨_, rfl⟩

/-- A row of the opcode table that a code finds bears that code. -/
theorem opInfo_code {code : Nat} {o : Op} (h : opInfo code = some o) : o.code = code := by
  simpa using List.find?_some h

/-- Every command of chapter 15 may have scope SELF. -/
theorem scopeOk_self_of_assay {code : Nat} {o : Op} (ha : code / 256 = 0x0C) (h : opInfo code = some o) :
    scopeOk o 0 = true := by
  have hall : ∀ o ∈ opTable, o.code / 256 = 0x0C → scopeOk o 0 = true := by decide +kernel
  exact hall o (List.mem_of_find?_eq_some h) (by rw [opInfo_code h, ha])

/-- On a part without the island the first check that an Assay command of scope SELF fails is that of R4: the post is not
stopped, the parameter area is long enough, and scope SELF is allowed. -/
theorem precheck_assay_without_island {s : State} {code : Nat} {c : Cmd} {o : Op} (ha : code / 256 = 0x0C)
    (hm : s.glb.metrology = false) (hrun : s.flt.stopped = false) (ho : opInfo code = some o)
    (hlen : o.len ≤ c.params.length) (hscope : c.scope = 0) (hp : c.partner = false) :
    s.precheck code c = some (.notActive, 0) := by
  have hself : scopeOk o c.scope.toNat = true := by simpa [hscope] using scopeOk_self_of_assay ha ho
  have hbench : State.actsOnBench code = false := by
    simp only [State.actsOnBench, Bool.or_eq_false_iff, beq_eq_false_iff_ne]
    omega
  simp [State.precheck, ho, hrun, Nat.not_lt.2 hlen, hself, hp, hbench, ha, hm]

/-! ### The bytes of a number -/

/-- The low bytes of a multiple of 256 ^ m are zero. -/
theorem leBytes_pow_mul (m n v : Nat) : leBytes (m + n) (256 ^ m * v) = zeros m ++ leBytes n v := by
  induction m with
  | zero => simp [zeros]
  | succ m ih =>
    have hlow : BitVec.ofNat 8 (256 ^ (m + 1) * v) = 0 := by
      apply BitVec.eq_of_toNat_eq
      simp [Nat.pow_succ', Nat.mul_assoc]
    have hdiv : 256 ^ (m + 1) * v / 256 = 256 ^ m * v := by
      rw [Nat.pow_succ', Nat.mul_assoc, Nat.mul_div_cancel_left _ (by decide)]
    rw [Nat.succ_add, leBytes, hlow, hdiv, ih]
    rfl

/-! ### The hallmark where a host reads it -/

/-- HALLMARK and its version read zero without the island (R4). -/
theorem glbWord_hallmark_without_island {s : State} (hm : s.glb.metrology = false) :
    s.glbWord 0x20 = 0 ∧ s.glbWord 0x24 = 0 := by
  simp [State.glbWord, hm]

/-- The hallmark and its version in the IDENTIFY reply are zero without the island; the two flags of the bent share the
word of the version, above it. The bytes before them are counted out by evaluation, whatever their values. -/
theorem slice_identifyReply_hallmark_without_island {s : State} (hm : s.glb.metrology = false) (c : Cmd) :
    slice (identifyReply s c) 0x20 6 = zeros 6 := by
  have hver (a b : Nat) : leBytes 4 (0 + 65536 * a + 131072 * b) = zeros 2 ++ leBytes 2 (a + 2 * b) := by
    rw [← leBytes_pow_mul]
    congr 1
    omega
  simp only [identifyReply, hm, Bool.false_eq_true, if_false, hver]
  rfl

/-- Settles O11: the check of R4 is the first of R578 that fails, and a failed check leaves only the refusal. -/
theorem assayCommandsOnNPartsAreNotActive : Obligations.AssayCommandsOnNPartsAreNotActive := by
  refine ⟨fun r hr ha s c o hans hm hrun ho hlen hscope hp => ?_, fun s c hm => ?_⟩
  · obtain ⟨eff, hexec⟩ := exec_assayCommand_eq_runStep hr ha s c
    rw [hexec]
    exact runStep_failed hans (precheck_assay_without_island ha hm hrun ho hlen hscope hp)
  · obtain ⟨hmark, hver⟩ := glbWord_hallmark_without_island hm
    exact ⟨hmark, hver, slice_identifyReply_hallmark_without_island hm c⟩

end Sys2Proof.Machine
end

section
/-!
PROOFS. Span time as software sees it: the layout of R44, the commands that supply a span time, the latched read of the
cycle number, and the values after reset.
-/

namespace Sys2Proof.Machine

open Sys2Proof.Claims

/-- Settles O4: every part reads as the default of its type. -/
theorem resetLeavesTheSpecValues : Obligations.ResetLeavesTheSpecValues := by
  have hinst : ∀ i, 1 ≤ i → State.reset.ptpInst i = { profile := 1 } := fun i hi => if_neg (Nat.ne_of_gt hi)
  refine ⟨rfl, rfl, rfl, rfl, hinst, fun i => ?_, fun _ => rfl, rfl, rfl, fun _ => rfl, fun _ => rfl, fun _ => rfl,
    fun _ => rfl, rfl, fun _ => rfl, rfl, rfl, rfl, rfl, rfl, rfl⟩
  cases i with
  | zero => decide
  | succ i => rw [hinst _ i.succ_pos]; exact ⟨rfl, rfl, fun _ => rfl⟩

/-! ### The layout of R44 -/

/-- An instant in the layout of R44 fits 96 bits. -/
theorem toStamp_lt (u : Nat) : toStamp u < 2 ^ 96 := by
  unfold toStamp
  omega

/-- The fields of an instant in the layout of R44. -/
theorem bits_toStamp (u : Nat) : bits (toStamp u) 0 16 = u % 65536 ∧
    bits (toStamp u) 16 32 = u / 65536 % 1000000000 ∧ bits (toStamp u) 48 48 = u / 65536 / 1000000000 % 2 ^ 48 := by
  simp only [bits, toStamp]
  omega

/-- An instant whose seconds fit SEC is the one that its layout names. -/
theorem ofStamp_toStamp {u : Nat} (h : u < 2 ^ 48 * 1000000000 * 65536) : ofStamp (toStamp u) = u := by
  obtain ⟨hfrac, hns, hsec⟩ := bits_toStamp u
  rw [ofStamp, hfrac, hns, hsec]
  omega

/-- A 96-bit value with NS in range is the layout of the instant that it names. -/
theorem toStamp_ofStamp {v : Nat} (h : v < 2 ^ 96) (hns : stampNs v < 1000000000) : toStamp (ofStamp v) = v := by
  simp only [stampNs, bits] at hns
  simp only [toStamp, ofStamp, bits]
  omega

/-- Settles O8, field by field. -/
theorem stampsDecodeAsEncoded : Obligations.StampsDecodeAsEncoded := by
  refine ⟨fun u => ⟨toStamp_lt u, ?_⟩, fun u => ofStamp_toStamp, fun v => toStamp_ofStamp⟩
  rw [stampNs, (bits_toStamp u).2.1]
  exact Nat.mod_lt _ (by decide)

/-! ### Commands that supply a span time, R46 -/

/-- A command that runs and is refused completes with its status and leaves nothing else. -/
theorem runStep_refuse {s : State} {code : Nat} {c : Cmd} {eff : State → Eff} {st : Status} {d : Option Nat}
    (h : runs s code c = true) (e : eff (begun s code c) = .refuse (begun s code c) st d) :
    runStep code c s eff = .next (completedAs (begun s code c) c code st d [] 0) := runStep_done h e

/-- A command that runs came from a command queue. -/
theorem origin_of_runs {s : State} {code : Nat} {c : Cmd} (h : runs s code c = true) : ∃ q i, c.origin = .queue q i := by
  simp only [runs, Bool.and_eq_true] at h
  obtain ⟨hq, -⟩ := (passes_iff s code c).1 h.1
  unfold Cmd.queueOf at hq
  split at hq
  · next q i ho => exact ⟨q, i, ho⟩
  · simp at hq

/-- BENCH_PEG at a span time out of range is refused before anything else is looked at. -/
theorem pegRefusal_time_out_of_range (s : State) {c : Cmd} (hat : c.f 0 0 2 = 2)
    (hns : 1000000000 ≤ stampNs (c.n 8 12)) : s.pegRefusal c = some .inconsistent := by
  simp [State.pegRefusal, hat, hns]

/-- A stocktake at a span time out of range has no instant. -/
theorem stockInstant_time_out_of_range (s : State) (cycle : BitVec 32) {v : Nat} (hns : 1000000000 ≤ stampNs v) :
    s.stockInstant 2 cycle v = some .inconsistent := by
  simp [State.stockInstant, hns]

/-- A stocktake of the post itself at a span time out of range is refused, be its port right or wrong. -/
theorem stockSelf_time_out_of_range (s : State) {c : Cmd} (all wide : Bool) (hat : c.f 0 16 2 = 2)
    (hns : 1000000000 ≤ stampNs (c.n 8 12)) : ∃ d, s.stockSelf c all wide = .refuse s .inconsistent d := by
  simp only [State.stockSelf, hat, stockInstant_time_out_of_range s _ hns]
  split
  · exact ⟨_, rfl⟩
  · exact ⟨_, rfl⟩

/-- Settles O47: each of the three commands tests its span time before it acts. -/
theorem spanTimesOutOfRangeAreRefused : Obligations.SpanTimesOutOfRangeAreRefused := by
  refine ⟨fun s c hrun hns => ?_, fun s c hrun hat hns => ?_, fun s c hrun hscope hat hns => ?_⟩
  · exact runStep_refuse hrun (by simp [hns])
  · exact runStep_refuse hrun (by simp [pegRefusal_time_out_of_range _ hat hns])
  · obtain ⟨q, i, ho⟩ := origin_of_runs hrun
    obtain ⟨d, hd⟩ := stockSelf_time_out_of_range (begun s 0x0F00 c) (c.f 0 0 1 == 1) false hat hns
    exact ⟨d, runStep_refuse hrun (by simp [ho, hscope, hd])⟩

/-! ### The latched read of the cycle number, R52 -/

/-- Outside the HST block two words have two latches. -/
theorem latchKey_ne {req f o x : Nat} (ho : o < hstBase) (hx : x < hstBase) (h : o ≠ x) :
    State.latchKey req f o ≠ State.latchKey req f x := by
  simpa [State.latchKey, Nat.not_le.2 ho, Nat.not_le.2 hx] using h

/-- Latching the words after b up to b + 4 n leaves the latch of a later word as it is. -/
theorem latch_fillLatch_beyond (s : State) {req f b o : Nat} (n : Nat) (ho : o < hstBase) (h : b + 4 * n < o) :
    Tab.get none (s.fillLatch req f b n).latches (State.latchKey req f o) =
      Tab.get none s.latches (State.latchKey req f o) := by
  induction n generalizing s with
  | zero => rfl
  | succ n ih =>
    have hword : b + 4 * (n + 1) < hstBase := by omega
    rw [State.fillLatch, ih _ (by omega)]
    simp [Tab.get_set, latchKey_ne ho hword (Nat.ne_of_gt h)]

/-- TIM_NOW_0 reads the word of now and latches the three words after it. -/
theorem readWord_timNow0 (s : State) (req f : Nat) :
    s.readWord req f timBase = (s.bar0Word f timBase, s.fillLatch req f timBase 3) := rfl

/-- A latched TIM_NOW_CYCLE reads as it was latched. -/
theorem readWord_timNowCycle {s : State} {req f : Nat} {w : BitVec 32}
    (h : Tab.get none s.latches (State.latchKey req f (timBase + 0xC)) = some w) :
    (s.readWord req f (timBase + 0xC)).1 = w.toNat := by
  have hgroup : latchOf (timBase + 0xC) = some (timBase, 4) := by decide
  have hbefore : s.beforeRead f (timBase + 0xC) = s := rfl
  simp [State.readWord, hbefore, hgroup, h]

/-- The latch of TIM_NOW_0 holds the cycle number of now. -/
theorem latch_timNowCycle (s : State) (req f : Nat) :
    Tab.get none (s.fillLatch req f timBase 3).latches (State.latchKey req f (timBase + 0xC)) = some s.nowCycle := by
  have hword : s.bar0Word f (timBase + 0xC) = s.nowCycle.toNat := rfl
  rw [State.fillLatch, latch_fillLatch_beyond _ 2 (by decide) (by decide)]
  simp [hword]

/-- Software sees the cycle number while the post is integrated and 0 otherwise. -/
theorem nowCycle_toNat (s : State) : s.nowCycle.toNat = if s.integrated then s.span.cycle.toNat else 0 := by
  unfold State.nowCycle State.integrated
  cases s.span.cycValid <;> rfl

/-- CYC_VALID of TIM_STATUS. -/
theorem timStatus_cycValid (s : State) : bits s.timStatus 2 1 = flag s.integrated := by
  have hflag : s.time.flag.code < 4 := by cases s.time.flag <;> decide
  have hint : flag s.integrated < 2 := by cases s.integrated <;> decide
  simp only [bits, State.timStatus]
  omega

/-- Settles O49: the latch takes the cycle number of its own instant, and TIM_STATUS is not latched. -/
theorem cycleCounterReadsZeroOutsideACycle : Obligations.CycleCounterReadsZeroOutsideACycle := by
  refine fun s req f => ⟨?_, timStatus_cycValid s⟩
  change ((s.readWord req f timBase).2.readWord req f (timBase + 0xC)).1 = _
  rw [readWord_timNow0, readWord_timNowCycle (latch_timNowCycle s req f), nowCycle_toNat]

end Sys2Proof.Machine
end

section
/-!
PROOFS. What a change of references and roles can do (R59 to R66): the DPLL follows the references that qualify, and the
ports of a PTP context get their roles. With it, how TIME_SET and TIME_SLEW exclude each other (R107).
-/

namespace Sys2Proof.Machine

open Sys2Proof.Claims

/-! ### A table with every value changed -/

/-- A listed key whose changed value stays listed reads as the changed value. -/
theorem Tab.get_mapAll_of_ne {α : Type} [DecidableEq α] {d : α} {f : Nat → α → α} {t : Tab α} {i : Nat}
    (h : Tab.get d t i ≠ d) (hf : f i (Tab.get d t i) ≠ d) :
    Tab.get d (Tab.mapAll d f t) i = f i (Tab.get d t i) := by
  induction t with
  | nil => exact absurd rfl h
  | cons e t ih =>
    obtain ⟨k, v⟩ := e
    by_cases hk : i = k
    · subst hk
      simp only [Tab.get, if_true] at hf
      simp [Tab.mapAll, Tab.get, hf]
    · simp only [Tab.get, hk, if_false] at h hf
      simp only [Tab.mapAll, Tab.get, hk, if_false]
      split
      · exact ih h hf
      · simpa [Tab.get, hk] using ih h hf

/-! ### Following the references -/

/-- What following the references can do to a state: it stays in the time island, the free values and the counters, of
which it counts only switches of the reference; a slew goes on, and no reference qualifies anew. -/
structure Steers (s t : State) : Prop where
  frame : t = { s with time := t.time, ctr := t.ctr, free := t.free }
  slew : t.time.slew = s.time.slew
  counter : ∀ x, x ≠ timBase + 0xC8 → t.counter x = s.counter x
  qualified : ∀ r, s.time.qualified.contains r = false → t.time.qualified.contains r = false

theorem Steers.trans {s t u : State} (h : Steers s t) (g : Steers t u) : Steers s u where
  frame := by rw [g.frame, h.frame]
  slew := g.slew.trans h.slew
  counter x hx := (g.counter x hx).trans (h.counter x hx)
  qualified r hr := g.qualified r (h.qualified r hr)

/-- The references in force change, and no port's timing does. -/
structure Reselects (s t : State) : Prop extends Steers s t where
  ports : t.time.ports = s.time.ports

theorem Reselects.trans {s t u : State} (h : Reselects s t) (g : Reselects t u) : Reselects s u :=
  ⟨h.toSteers.trans g.toSteers, g.ports.trans h.ports⟩

theorem Reselects.ptime {s t : State} (h : Reselects s t) (p : Nat) : t.ptime p = s.ptime p := by
  simp only [State.ptime, h.ports]

theorem reselects_refl (s : State) : Reselects s s := ⟨⟨rfl, rfl, fun _ _ => rfl, fun _ h => h⟩, rfl⟩

/-- A new time island with the same slew, qualified references and ports. -/
theorem reselects_of_time {s : State} (x : Time) (hslew : x.slew = s.time.slew) (hq : x.qualified = s.time.qualified)
    (hp : x.ports = s.time.ports) : Reselects s { s with time := x } :=
  ⟨⟨rfl, hslew, fun _ _ => rfl, fun r hr => by rw [hq]; exact hr⟩, hp⟩

/-- A switch of the reference is counted. -/
theorem reselects_count_switch (s : State) : Reselects s (s.count (timBase + 0xC8)) :=
  ⟨⟨rfl, rfl, fun x hx => State.counter_countN_other s _ x 1 hx, fun _ h => h⟩, rfl⟩

/-- The increment of HOLDOVER is a free value. -/
theorem reselects_freeAdj (s : State) : Reselects s s.freeAdj.2 := ⟨⟨rfl, rfl, fun _ _ => rfl, fun _ h => h⟩, rfl⟩

theorem reselects_reselect (s : State) (slewOnly : Bool) : Reselects s (s.reselect slewOnly) := by
  unfold State.reselect
  simp only
  split
  · exact reselects_of_time _ rfl rfl rfl
  · split
    · exact reselects_of_time _ rfl rfl rfl
    · refine .trans ?_ (reselects_count_switch _)
      exact reselects_of_time _ rfl rfl rfl
    · split
      · refine .trans (.trans ?_ (reselects_freeAdj _)) (reselects_of_time _ rfl rfl rfl)
        exact reselects_of_time _ rfl rfl rfl
      · split <;> exact reselects_of_time _ rfl rfl rfl
    · exact reselects_of_time _ rfl rfl rfl

theorem reselects_disqualify (s : State) (r : RefId) : Reselects s (s.disqualify r) := by
  unfold State.disqualify
  split
  · exact reselects_refl s
  · refine .trans ?_ (reselects_reselect _ _)
    refine ⟨⟨rfl, rfl, fun _ _ => rfl, fun x hx => ?_⟩, rfl⟩
    simp only [List.contains_eq_mem, decide_eq_false_iff_not] at hx ⊢
    exact fun h => hx (List.mem_filter.1 h).1

/-- A reference that was disqualified is qualified no longer. -/
theorem not_qualified_disqualify (s : State) (r : RefId) : (s.disqualify r).time.qualified.contains r = false := by
  unfold State.disqualify
  split
  · next h => simpa using h
  · exact (reselects_reselect _ _).qualified r (by simp)

/-! ### Roles -/

/-- New roles can change the references in force; of the timing of a port with a PTP context only the role changes. -/
structure Reassigns (s t : State) : Prop extends Steers s t where
  ptime : ∀ p, (s.ptime p).joined.isSome = true → ∃ role, t.ptime p = { s.ptime p with role := role }

/-- The ports of a PTP context with the roles that a function gives them. -/
def State.withRoles (s : State) (i : Nat) (role : Nat → PortTime → PtpRole) : State :=
  { s with time := { s.time with ports := Tab.mapAll {} (fun p (t : PortTime) =>
    if t.joined == some i then { t with role := role p t } else t) s.time.ports } }

/-- The roles of a context are assigned, and a reference may be disqualified by it. -/
theorem assignRoles_cases (s : State) (i : Nat) : ∃ role,
    s.assignRoles i = s.withRoles i role ∨ ∃ r, s.assignRoles i = (s.withRoles i role).disqualify r := by
  unfold State.assignRoles
  extract_lets own best slave role wasSlave time u
  refine ⟨role, ?_⟩
  have hu : s.withRoles i role = u := rfl
  rw [hu]
  clear_value u wasSlave
  cases wasSlave with
  | none => exact .inl rfl
  | some e => exact (ite_eq_or_eq _ _ _).imp_right fun h => ⟨_, h⟩

/-- A port of a PTP context is listed, with its old role and with its new. -/
theorem reassigns_withRoles (s : State) (i : Nat) (role : Nat → PortTime → PtpRole) :
    Reassigns s (s.withRoles i role) where
  frame := rfl
  slew := rfl
  counter _ _ := rfl
  qualified _ hr := hr
  ptime p hp := by
    have listed : ∀ t : PortTime, t.joined.isSome = true → t ≠ {} := fun t ht h => by simp [h] at ht
    have hget : (s.withRoles i role).ptime p = _ :=
      Tab.get_mapAll_of_ne (listed _ hp) (by split <;> exact listed _ hp)
    rw [hget]
    split
    · exact ⟨_, rfl⟩
    · exact ⟨_, rfl⟩

theorem reassigns_assignRoles (s : State) (i : Nat) : Reassigns s (s.assignRoles i) := by
  obtain ⟨role, h | ⟨r, h⟩⟩ := assignRoles_cases s i
  · exact h ▸ reassigns_withRoles s i role
  · have hroles := reassigns_withRoles s i role
    have hdis := reselects_disqualify (s.withRoles i role) r
    exact h ▸ ⟨hroles.toSteers.trans hdis.toSteers, fun p hp => by rw [hdis.ptime]; exact hroles.ptime p hp⟩

/-! ### TIME_SET and TIME_SLEW, R107 -/

/-- TIME_SET leaves no slew: the step ends the one in progress, and accepting the time begins none. -/
theorem timeSetNow_slew (s : State) (u : Nat) : (s.timeSetNow u).time.slew = none :=
  (reassigns_assignRoles _ 0).slew

/-- A waiting TIME_SET with AT_PPS is found among the commands that wait. -/
theorem any_timeSetPps {l : List Waiting} {w : Waiting} {u d : Nat} (hw : w ∈ l) (hk : w.kind = .timeSetPps u d) :
    l.any (fun (w : Waiting) => match w.kind with | .timeSetPps _ _ => true | _ => false) = true :=
  List.any_eq_true.2 ⟨w, hw, by rw [hk]⟩

/-- Settles O48: TIME_SLEW looks for a slew, TIME_SET steps, and it looks for another that waits before AT_PPS. -/
theorem timeSetAndSlewExcludeEachOther : Obligations.TimeSetAndSlewExcludeEachOther := by
  refine ⟨fun s c w hrun hown hslew hw => ?_, timeSetNow_slew,
    fun s c w u d hrun hns hown hint hmem hkind => ⟨?_, rfl⟩⟩
  · have hbusy : (begun s 0x0203 c).time.slew = some w := hslew
    exact runStep_refuse hrun (by simp [hown, hbusy, hw])
  · have hint' : (begun s 0x0201 c).integrated = false := hint
    refine runStep_refuse hrun ?_
    simp only [Nat.not_le.2 hns, decide_false, hown, hint', Bool.not_true, Bool.or_self, Bool.false_eq_true, if_false]
    exact if_pos (any_timeSetPps hmem hkind)

end Sys2Proof.Machine
end

section
/-!
PROOFS. PTP and ESMC messages of the post's own (R65 to R77): while the wire is busy a message waits at its port.
-/

namespace Sys2Proof.Machine

open Sys2Proof.Claims

/-! ### What passing time leaves -/

@[simp] theorem ptime_advanceToU (s : State) (u p : Nat) : (s.advanceToU u).ptime p = s.ptime p := rfl
@[simp] theorem portUp_advanceToU (s : State) (u p : Nat) : (s.advanceToU u).portUp p = s.portUp p := rfl

/-! ### Frames of the device's own at a busy port -/

/-- A busy transmitter out of LPI is not stirred by something new to send. -/
theorem kick_of_wireBusy {s : State} {p : Nat} (h : WireBusy s p) : s.kick p = s := by
  obtain ⟨hwire, hlpi⟩ := h
  have hleave : s.leaveLpi p = s := by simp [State.leaveLpi, hlpi]
  obtain ⟨w, hw⟩ := Option.isSome_iff_exists.1 hwire
  simp [State.kick, hleave, hw]

/-- Only the ports matter to whether a wire is busy. -/
theorem wireBusy_congr {s u : State} {p : Nat} (h : WireBusy s p) (hports : u.ports = s.ports) : WireBusy u p := by
  simpa only [WireBusy, State.port, hports] using h

@[simp] theorem port_addCtrl (s : State) (p : Nat) (c : Ctrl) :
    (s.addCtrl p c).port p = { s.port p with ctrl := (s.port p).ctrl ++ [c] } := State.port_setPort s p _

/-- At a busy port a frame of the device's own only joins those that wait. -/
theorem addCtrl_kick_of_wireBusy {s u : State} {p : Nat} (c : Ctrl) (h : WireBusy s p) (hports : u.ports = s.ports) :
    (u.addCtrl p c).kick p = u.addCtrl p c :=
  kick_of_wireBusy (by simpa only [WireBusy, port_addCtrl] using wireBusy_congr h hports)

/-- One frame more waits. -/
theorem ctrlWaiting_addCtrl {s u : State} (p : Nat) (c : Ctrl) (hports : u.ports = s.ports) :
    ctrlWaiting (u.addCtrl p c) p = ctrlWaiting s p + 1 := by
  have hport : u.port p = s.port p := by simp only [State.port, hports]
  simp [ctrlWaiting, hport]

/-- A message of the port waits after all that waited there, and beyond that t is u. -/
structure Queued (s : State) (p : Nat) (u t : State) : Prop where
  frame : t = { u with ports := t.ports }
  waiting : ctrlWaiting t p = ctrlWaiting s p + 1

theorem queued_addCtrl_kick {s u : State} {p : Nat} (c : Ctrl) (h : WireBusy s p) (hports : u.ports = s.ports) :
    Queued s p u ((u.addCtrl p c).kick p) := by
  rw [addCtrl_kick_of_wireBusy c h hports]
  exact ⟨rfl, ctrlWaiting_addCtrl p c hports⟩

theorem Queued.time {s u t : State} {p : Nat} (h : Queued s p u t) : t.time = u.time := by rw [h.frame]

theorem Queued.ptime {s u t : State} {p : Nat} (h : Queued s p u t) (q : Nat) : t.ptime q = u.ptime q := by
  simp only [State.ptime, h.time]

/-- A sender that has moved the time island and counters leaves those and the ports changed. -/
theorem Queued.frame_of_time_ctr {s u t : State} {p : Nat} (h : Queued s p u t)
    (hu : u = { s with time := u.time, ctr := u.ctr }) :
    t = { s with time := t.time, ports := t.ports, ctr := t.ctr } := by
  rw [h.frame, hu]

/-- Choosing one-step or two-step can count a message. -/
theorem stepMode_frame (s : State) (p : Nat) : (s.stepMode p).2 = { s with ctr := (s.stepMode p).2.ctr } := by
  unfold State.stepMode
  simp only
  split <;> rfl

/-- A phase report takes its sequence number. -/
theorem phaseReport_frame (s : State) (p : Nat) : (s.phaseReport p).2 = { s with time := (s.phaseReport p).2.time } := by
  unfold State.phaseReport
  split <;> rfl

theorem syncSeq_phaseReport (s : State) (p : Nat) : ((s.phaseReport p).2.ptime p).syncSeq = (s.ptime p).syncSeq := by
  unfold State.phaseReport
  split
  · rfl
  · simp

/-! ### The senders -/

section Senders

variable {s : State} {p : Nat}

theorem syncTx_queued (hsend : s.ptpSends p = true) (hbusy : WireBusy s p) :
    ∃ u, Queued s p u (s.syncTx p) ∧ u = { s with time := u.time, ctr := u.ctr } ∧
      (u.ptime p).syncSeq = (s.ptime p).syncSeq + 1 := by
  simp only [State.syncTx, hsend, Bool.not_true, Bool.false_eq_true, if_false]
  refine ⟨_, queued_addCtrl_kick _ hbusy ?_, ?_, ?_⟩
  · rw [phaseReport_frame, stepMode_frame]
    rfl
  · rw [phaseReport_frame, stepMode_frame]
    rfl
  · simp [syncSeq_phaseReport]

theorem announceTx_queued (hsend : s.ptpSends p = true) (hbusy : WireBusy s p) :
    ∃ u, Queued s p u (s.announceTx p) ∧ u = { s with time := u.time, ctr := u.ctr } ∧
      (u.ptime p).announceSeq = (s.ptime p).announceSeq + 1 := by
  simp only [State.announceTx, hsend, Bool.not_true, Bool.false_eq_true, if_false]
  exact ⟨_, queued_addCtrl_kick _ hbusy rfl, rfl, by simp⟩

theorem pdelayReqTx_queued (hjoined : (s.ptime p).joined.isSome = true) (he2e : (s.ptime p).e2e = false)
    (hup : s.portUp p = true) (hbusy : WireBusy s p) :
    ∃ u, Queued s p u (s.pdelayReqTx p) ∧ u = { s with time := u.time, ctr := u.ctr } ∧
      (u.ptime p).pdelaySeq = (s.ptime p).pdelaySeq + 1 ∧ (u.ptime p).pdelayOpen = true := by
  simp only [State.pdelayReqTx, Option.isNone_eq_false_iff.2 hjoined, he2e, hup, Bool.not_true,
    Bool.or_self, Bool.false_eq_true, if_false]
  exact ⟨_, queued_addCtrl_kick _ hbusy rfl, rfl, by simp⟩

theorem pdelayReqRx_queued (m : PtpMsg) (u : Nat) (hjoined : (s.ptime p).joined.isSome = true)
    (he2e : (s.ptime p).e2e = false) (hup : s.portUp p = true) (hbusy : WireBusy s p) :
    ∃ v, Queued s p v (s.pdelayReqRx p m u) ∧ v = { s with time := v.time, ctr := v.ctr } := by
  simp only [State.pdelayReqRx, ptime_advanceToU, portUp_advanceToU, Option.isNone_eq_false_iff.2 hjoined, he2e, hup,
    Bool.not_true, Bool.or_self, Bool.false_eq_true, if_false]
  refine ⟨_, queued_addCtrl_kick _ hbusy ?_, ?_⟩
  · rw [stepMode_frame]
    rfl
  · rw [stepMode_frame]
    rfl

theorem delayReqTx_queued (hjoined : (s.ptime p).joined.isSome = true) (he2e : (s.ptime p).e2e = true)
    (hrole : (s.ptime p).role = .slave) (hup : s.portUp p = true) (hbusy : WireBusy s p) :
    ∃ u, Queued s p u (s.delayReqTx p) ∧ u = { s with time := u.time, ctr := u.ctr } ∧
      (u.ptime p).delayReqSeq = (s.ptime p).delayReqSeq + 1 := by
  simp only [State.delayReqTx, Option.isNone_eq_false_iff.2 hjoined, he2e, hrole, hup, bne_self_eq_false, Bool.not_true,
    Bool.or_self, Bool.false_eq_true, if_false]
  exact ⟨_, queued_addCtrl_kick _ hbusy rfl, rfl, by simp⟩

theorem delayReqRx_queued (m : PtpMsg) (u : Nat) (hjoined : (s.ptime p).joined.isSome = true)
    (he2e : (s.ptime p).e2e = true) (hrole : (s.ptime p).role = .master) (hup : s.portUp p = true) (hbusy : WireBusy s p) :
    ∃ v, Queued s p v (s.delayReqRx p m u) ∧ v = { s with time := v.time, ctr := v.ctr } := by
  simp only [State.delayReqRx, ptime_advanceToU, portUp_advanceToU, Option.isNone_eq_false_iff.2 hjoined, he2e, hrole,
    hup, bne_self_eq_false, Bool.not_true, Bool.or_self, Bool.false_eq_true, if_false]
  exact ⟨_, queued_addCtrl_kick _ hbusy rfl, rfl⟩

theorem phaseTx_queued (hp : p ≤ 15) (hjoined : (s.ptime p).joined.isSome = true) (hup : s.portUp p = true)
    (hbusy : WireBusy s p) :
    ∃ u, Queued s p u (s.phaseTx p) ∧ u = { s with time := u.time, ctr := u.ctr } ∧
      (u.ptime p).phaseTxSeq = (s.ptime p).phaseTxSeq + 1 := by
  simp only [State.phaseTx, State.phaseReport, Option.isNone_eq_false_iff.2 hjoined, hup, Nat.not_lt.2 hp, Bool.not_true,
    Bool.or_self, Bool.false_eq_true, if_false]
  exact ⟨_, queued_addCtrl_kick _ hbusy rfl, rfl, by simp⟩

/-- The quality level that an ESMC message bears may be a free value. -/
theorem esmcTx_queued (hesmc : (s.ptime p).synceEsmc = true) (hup : s.portUp p = true) (hbusy : WireBusy s p) :
    ∃ u, Queued s p u (s.esmcTx p) ∧ u = { s with free := u.free } := by
  simp only [State.esmcTx, hesmc, hup, Bool.not_true, Bool.or_self, Bool.false_eq_true, if_false]
  split
  · split
    · exact ⟨_, queued_addCtrl_kick _ hbusy rfl, rfl⟩
    · exact ⟨_, queued_addCtrl_kick _ hbusy rfl, rfl⟩
  · exact ⟨_, queued_addCtrl_kick _ hbusy rfl, rfl⟩

end Senders

/-- Settles O15, sender by sender. -/
theorem ptpMessagesAreQueued : Obligations.PtpMessagesAreQueued := by
  refine ⟨fun s p hp hsend hbusy => ?_, fun s p hp hsend hbusy => ?_, fun s p hp hj he hup hbusy => ?_,
    fun s p u m hp hj he hup hbusy => ?_, fun s p hp hj he hr hup hbusy => ?_, fun s p u m hp hj he hr hup hbusy => ?_,
    fun s p hp hj hup hbusy => ?_, fun s p hp he hup hbusy => ?_⟩
  · obtain ⟨u, hq, hu, hseq⟩ := syncTx_queued hsend hbusy
    exact ⟨_, congrArg ok (if_pos hp), hq.frame_of_time_ctr hu, hq.waiting, by rw [hq.ptime, hseq]⟩
  · obtain ⟨u, hq, hu, hseq⟩ := announceTx_queued hsend hbusy
    exact ⟨_, congrArg ok (if_pos hp), hq.frame_of_time_ctr hu, hq.waiting, by rw [hq.ptime, hseq]⟩
  · obtain ⟨u, hq, hu, hseq, hopen⟩ := pdelayReqTx_queued hj he hup hbusy
    exact ⟨_, congrArg ok (if_pos hp), hq.frame_of_time_ctr hu, hq.waiting, by rw [hq.ptime, hseq],
      by rw [hq.ptime, hopen]⟩
  · obtain ⟨v, hq, hv⟩ := pdelayReqRx_queued m u hj he hup hbusy
    exact ⟨_, congrArg ok (if_pos hp), hq.frame_of_time_ctr hv, hq.waiting⟩
  · obtain ⟨u, hq, hu, hseq⟩ := delayReqTx_queued hj he hr hup hbusy
    exact ⟨_, congrArg ok (if_pos hp), hq.frame_of_time_ctr hu, hq.waiting, by rw [hq.ptime, hseq]⟩
  · obtain ⟨v, hq, hv⟩ := delayReqRx_queued m u hj he hr hup hbusy
    exact ⟨_, congrArg ok (if_pos hp), hq.frame_of_time_ctr hv, hq.waiting⟩
  · obtain ⟨u, hq, hu, hseq⟩ := phaseTx_queued hp hj hup hbusy
    exact ⟨_, congrArg ok (if_pos (by omega)), hq.frame_of_time_ctr hu, hq.waiting, by rw [hq.ptime, hseq]⟩
  · obtain ⟨u, hq, hu⟩ := esmcTx_queued he hup hbusy
    exact ⟨_, congrArg ok (if_pos hp), by rw [hq.frame, hu], hq.waiting⟩

end Sys2Proof.Machine
end

section
/-!
PROOFS. PTP and ESMC messages that a port takes, and their absence (R62 to R77).
-/

namespace Sys2Proof.Machine

open Sys2Proof.Claims

/-! ### The timing of one port, changed -/

@[simp] theorem ptime_modPtime (s : State) (p : Nat) (f : PortTime → PortTime) :
    (s.modPtime p f).ptime p = f (s.ptime p) := State.ptime_setPtime s p _
@[simp] theorem phRef_modPtime (s : State) (p : Nat) (f : PortTime → PortTime) :
    (s.modPtime p f).time.phRef = s.time.phRef := rfl

/-! ### The offset to the parent, R71 -/

/-- What the offset of R71 leaves at its port: the offset, the origin of the Sync and its receive instant. -/
def PortTime.withOffset (theta origin : Int) (rx : Nat) (t : PortTime) : PortTime :=
  { t with thetaPtp := theta, syncT1 := origin.toNat, syncT2 := rx }

/-- On a port that does not feed the DPLL the offset of R71 is kept, and nothing is measured by it. -/
theorem ptpOffset_of_other_reference {s : State} {p : Nat} (rx : Nat) (origin : Int)
    (h : s.time.phRef ≠ some (State.slaveRef (s.ptime p))) :
    s.ptpOffset p rx origin = s.modPtime p (PortTime.withOffset ((rx : Int) - (origin + s.rxDelay p)) origin rx) := by
  have hother : s.time.phRef ≠ some (State.slaveRef (PortTime.withOffset ((rx : Int) - (origin + s.rxDelay p)) origin rx
    (s.ptime p))) := h
  unfold State.ptpOffset
  refine if_pos (Bool.or_eq_true_iff.2 (.inr (bne_iff_ne.2 ?_)))
  rw [phRef_modPtime, ptime_modPtime]
  exact hother

/-- What a one-step Sync leaves at its port beside the offset: its tick, and no Follow_Up awaited. -/
def PortTime.withSync (tick : Nat) (t : PortTime) : PortTime := { t with lastSync := some tick, awaitFollow := none }

/-- A one-step Sync of a slave port's own domain gives the offset at its receive instant. -/
theorem syncRx_oneStep {s : State} {p i : Nat} (u : Nat) {m : PtpMsg} (hj : (s.ptime p).joined = some i)
    (hdom : (s.ptpInst i).domain = m.domain) (hrole : (s.ptime p).role = .slave) (hup : s.portUp p = true)
    (hone : m.twoStep = false) :
    s.syncRx p m false none u =
      ((s.advanceToU u).modPtime p (PortTime.withSync (s.advanceToU u).time.ticks)).ptpOffset p u
        ((m.stamp : Int) + m.correction) := by
  have hdom' : ((s.advanceToU u).ptpInst i).domain = m.domain := hdom
  simp only [State.syncRx, ptime_advanceToU, portUp_advanceToU, hj, hdom', hrole, hup, hone, bne_self_eq_false,
    Bool.not_true, Bool.or_self, Bool.false_eq_true, if_false]
  rfl

/-- A one-step Sync leaves the delay and the asymmetry of its port. -/
theorem rxDelay_withSync (s : State) (p u tick : Nat) :
    ((s.advanceToU u).modPtime p (PortTime.withSync tick)).rxDelay p = s.rxDelay p := by
  rw [State.rxDelay, ptime_modPtime]
  rfl

/-- Settles O16: the delay and the asymmetry are those of before the Sync. -/
theorem syncGivesOffsetToParent : Obligations.SyncGivesOffsetToParent := by
  intro s p i u m hp hj hdom hrole hup hone hother
  refine ⟨_, congrArg ok ((if_pos hp).trans (syncRx_oneStep u hj hdom hrole hup hone)), ?_⟩
  rw [ptpOffset_of_other_reference _ _ (by rw [phRef_modPtime, ptime_modPtime]; exact hother), rxDelay_withSync]
  exact ⟨rfl, by rw [ptime_modPtime]; rfl⟩

/-! ### Announce and ESMC -/

/-- An Announce of the port's own domain from another post and of another grandmaster is kept, and the roles of its
context follow. -/
theorem announceRx_eq {s : State} {p i : Nat} {a : Announce} (hj : (s.ptime p).joined = some i) (hgm : a.gmId ≠ s.ownId)
    (hsender : a.senderId ≠ s.ownId) :
    s.announceRx p (s.ptpInst i).domain a = (s.setPtime p { s.ptime p with foreign := some a }).assignRoles i := by
  simp [State.announceRx, hj, hgm, hsender]

/-- An ESMC leaves its quality level; one that gives DNU, received or forced, disqualifies the port's clock. -/
theorem esmcRx_eq {s : State} {p : Nat} (ql : Nat) (hesmc : (s.ptime p).synceEsmc = true) (hup : s.portUp p = true) :
    s.esmcRx p ql = s.setPtime p { s.ptime p with ql := ql % 16, partnerSynce := true } ∨
      s.esmcRx p ql =
        (s.setPtime p { s.ptime p with ql := ql % 16, partnerSynce := true }).disqualify { kind := 5, source := p } := by
  simp only [State.esmcRx, hesmc, hup, Bool.not_true, Bool.or_self, Bool.false_eq_true, if_false]
  split
  · exact .inr rfl
  · exact .inl rfl

/-- Beyond the quality level an ESMC can change the references only. -/
theorem reselects_esmcRx {s : State} {p : Nat} (ql : Nat) (hesmc : (s.ptime p).synceEsmc = true)
    (hup : s.portUp p = true) :
    Reselects (s.setPtime p { s.ptime p with ql := ql % 16, partnerSynce := true }) (s.esmcRx p ql) := by
  obtain h | h := esmcRx_eq ql hesmc hup
  · exact h ▸ reselects_refl _
  · exact h ▸ reselects_disqualify _ _

/-! ### A fault message leaves the time island -/

theorem time_escalate (s : State) (m : FaultMsg) : (s.escalate m).2.time = s.time := by
  unfold State.escalate
  simp only
  split
  · rfl
  · split <;> rfl

theorem time_raiseMsg (s : State) (m : FaultMsg) : (s.raiseMsg m).time = s.time := by
  unfold State.raiseMsg
  split
  · rfl
  · exact (fillSlot_keeps State.time _ _ (fun _ _ => rfl) (fun _ _ => rfl)).trans (time_escalate _ _)

theorem time_raise (s : State) (src kind cls : Nat) (addr : Option Nat) (access master : Nat) :
    (s.raise src kind cls addr access master).time = s.time := by
  cases addr <;> exact time_raiseMsg _ _

/-- Margins that turn negative are told to the foreman only. -/
theorem time_noteMargins (s : State) : s.noteMargins.time = s.time := by
  unfold State.noteMargins
  generalize upto 0 16 = l
  induction l generalizing s with
  | nil => rfl
  | cons p l ih =>
    rw [List.foldl_cons, ih]
    simp only
    split
    · exact time_raise _ _ _ _ _ _ _
    · split <;> rfl

/-! ### Peer delay, R68 and R70 -/

/-- The exchanges of which TIM_P_DELAY is the mean. -/
def lastEight (l : List Exchange) : List Exchange := l.drop (l.length - 8)

theorem length_lastEight (l : List Exchange) : (lastEight l).length ≤ 8 := by
  rw [lastEight, List.length_drop]
  omega

/-- The newest exchange is among the last eight. -/
theorem getLast?_lastEight (l : List Exchange) (e : Exchange) : (lastEight (l ++ [e])).getLast? = some e := by
  rw [lastEight, List.getLast?_drop]
  simp

/-- The timing of a port after an exchange, but for its role. -/
def PortTime.withExchange (e : Exchange) (t : PortTime) : PortTime :=
  { t with
    exchanges := lastEight (t.exchanges ++ [e]), delay := (State.delayFrom (lastEight (t.exchanges ++ [e]))).1
    ratio := (State.delayFrom (lastEight (t.exchanges ++ [e]))).2, lostRun := 0, timeCapable := true, pdelayT1 := none
    awaitPdelay := none, pdelayOpen := false }

/-- An exchange completes: a port whose delay was not known may become a slave, and the margins are told. -/
theorem exchange_eq (s : State) (p : Nat) (e : Exchange) :
    s.exchange p e = (if (s.ptime p).timeCapable then s.setPtime p ((s.ptime p).withExchange e)
      else (s.setPtime p ((s.ptime p).withExchange e)).assignRoles ((s.ptime p).joined.getD 0)).noteMargins := rfl

theorem ptime_exchange {s : State} {p : Nat} (e : Exchange) (hj : (s.ptime p).joined.isSome = true) :
    ∃ role, (s.exchange p e).ptime p = { (s.ptime p).withExchange e with role := role } := by
  have hset := State.ptime_setPtime s p ((s.ptime p).withExchange e)
  rw [exchange_eq, State.ptime, time_noteMargins]
  split
  · exact ⟨_, hset⟩
  · obtain ⟨role, hrole⟩ := (reassigns_assignRoles (s.setPtime p ((s.ptime p).withExchange e))
      ((s.ptime p).joined.getD 0)).ptime p (by rw [hset]; exact hj)
    rw [hset] at hrole
    exact ⟨role, hrole⟩

/-- A one-step response to the port's own request in progress ends the exchange. -/
theorem pdelayRespRx_oneStep {s : State} {p t1 : Nat} (u : Nat) {m : PtpMsg} (hj : (s.ptime p).joined.isSome = true)
    (he2e : (s.ptime p).e2e = false) (hone : m.twoStep = false) (hid : m.reqId = (s.ptpMsg p 0).senderId)
    (hport : m.reqPort = p) (hseq : m.seq + 1 = (s.ptime p).pdelaySeq) (ht1 : (s.ptime p).pdelayT1 = some t1) :
    s.pdelayRespRx p m false u =
      (s.advanceToU u).exchange p ⟨t1, m.stamp, ((m.stamp : Int) + m.correction).toNat, u⟩ := by
  have hid' : m.reqId = ((s.advanceToU u).ptpMsg p 0).senderId := hid
  simp only [State.pdelayRespRx, ptime_advanceToU, hj, he2e, hone, hid', hport, hseq, ht1, beq_self_eq_true, Bool.and_self,
    Bool.not_true, Bool.not_false, Bool.false_eq_true, if_false]

/-- The timing of a port after a lost exchange that is not yet one too many. -/
def PortTime.withLoss (t : PortTime) : PortTime :=
  { t with lostRun := t.lostRun + 1, pdelayT1 := none, awaitPdelay := none, pdelayOpen := false }

/-- A lost exchange is found out once its interval has passed, and counted. -/
theorem pdelayLost_eq {s : State} {p : Nat} (hj : (s.ptime p).joined.isSome = true) (he2e : (s.ptime p).e2e = false)
    (hopen : (s.ptime p).pdelayOpen = true) (hfew : (s.ptime p).lostRun + 1 < (s.ptime p).allowedLost) :
    ∃ u : State, u = { s with time := u.time } ∧
      s.pdelayLost p = (u.setPtime p (s.ptime p).withLoss).count (timPort p + 0x38) := by
  have hgo : ((s.ptime p).joined.isNone || (s.ptime p).e2e || !(s.ptime p).pdelayOpen) = false := by
    simp [hj, he2e, hopen]
  simp only [State.pdelayLost, hgo, Nat.not_le.2 hfew, decide_false, Bool.not_false, Bool.and_true, Bool.false_and,
    Bool.false_eq_true, if_false]
  split
  · exact ⟨_, rfl, rfl⟩
  · exact ⟨_, rfl, rfl⟩

/-! ### End-to-end delay, R65 -/

/-- A Delay_Resp to the port's own request ends it. -/
theorem delayRespRx_eq {s : State} {p t3 : Nat} {m : PtpMsg} (hj : (s.ptime p).joined.isSome = true)
    (he2e : (s.ptime p).e2e = true) (hrole : (s.ptime p).role = .slave) (hseq : m.seq = (s.ptime p).delayReqSeq)
    (hid : m.reqId = (s.ptpMsg p 0).senderId) (hport : m.reqPort = p) (ht3 : (s.ptime p).delayReqT3 = some t3) :
    ∃ d, s.delayRespRx p m = s.setPtime p { s.ptime p with delayReqT3 := none, delay := d } := by
  simp only [State.delayRespRx, ht3, Option.isNone_eq_false_iff.2 hj, he2e, hrole, hseq, hid, hport, bne_self_eq_false,
    Bool.not_true, Bool.or_self, Bool.false_eq_true, if_false]
  exact ⟨_, rfl⟩

/-! ### Lost Syncs, R62 -/

/-- After three intervals without a Sync: they are counted, the port's reference is disqualified, and roles follow. -/
theorem syncLost_eq {s : State} {p u : Nat} (hrole : (s.ptime p).role = .slave) (hlast : (s.ptime p).lastSync = some u) :
    ∃ v : State, v = { s with time := v.time } ∧ s.syncLost p =
      ((v.countN (timPort p + 0x40) 3).disqualify (State.slaveRef (s.ptime p))).assignRoles ((s.ptime p).joined.getD 0) := by
  simp only [State.syncLost, hlast, hrole, bne_self_eq_false, Bool.false_eq_true, if_false]
  exact ⟨_, rfl, rfl⟩

/-- The counters of a port are not the count of switches of the reference. -/
theorem timPort_ne_switches (p o : Nat) : timPort p + o ≠ timBase + 0xC8 := by
  unfold timPort
  omega

/-! ### Phase reports, R77 -/

/-- The timing of a port after a report of its partner's phase, with the phase measured here and the run of reports. -/
def PortTime.withPhase (r : PhaseReport) (fwd run : Nat) (t : PortTime) : PortTime :=
  { t with
    phaseFwd := fwd % 419430, phaseRev := r.phase, phaseValid := r.valid, partnerPhaseValid := r.valid
    phaseRxSeq := some r.seq, phaseRun := run }

/-- On a port that is not a slave a phase report is held and nothing is measured by it. -/
theorem phaseRx_of_not_slave {s : State} {p : Nat} (r : PhaseReport) (fwd : Nat) (hp : p ≤ 15)
    (hrole : (s.ptime p).role ≠ .slave) :
    ∃ run, s.phaseRx p r fwd = s.setPtime p ((s.ptime p).withPhase r fwd run) := by
  simp only [State.phaseRx, Nat.not_lt.2 hp, beq_eq_false_iff_ne.2 hrole, Bool.and_false, Bool.false_and,
    Bool.false_eq_true, if_false]
  exact ⟨_, rfl⟩

/-- Settles O17, message by message. -/
theorem ptpMessagesAreTaken : Obligations.PtpMessagesAreTaken := by
  refine ⟨fun s p i a hp hup hj hgm hsender => ?_, fun s p u t1 m hp hup hj he _ hone hid hport hseq ht1 => ?_,
    fun s p t3 m hp hup hj he hrole hseq hid hport ht3 => ?_, fun s p hp hj he hopen hfew => ?_,
    fun s p u hp hrole hlast => ?_, fun s p fwd r hp hup hrole => ?_, fun s p ql hp he hup => ?_⟩
  · have hroles := reassigns_assignRoles (s.setPtime p { s.ptime p with foreign := some a }) i
    obtain ⟨role, hrole⟩ := hroles.ptime p (by simp [hj])
    refine ⟨_, congrArg ok ((if_pos (by simp [hp, hup])).trans (announceRx_eq hj hgm hsender)), ?_, ?_⟩
    · exact hroles.frame
    · rw [hrole, State.ptime_setPtime]
  · obtain ⟨role, hrole⟩ := ptime_exchange (s := s.advanceToU u)
      ⟨t1, m.stamp, ((m.stamp : Int) + m.correction).toNat, u⟩ hj
    refine ⟨_, congrArg ok ((if_pos (by simp [hp, hup])).trans (pdelayRespRx_oneStep u hj he hone hid hport hseq ht1)), ?_⟩
    rw [hrole]
    exact ⟨rfl, rfl, rfl, length_lastEight _, getLast?_lastEight _ _⟩
  · obtain ⟨d, hd⟩ := delayRespRx_eq hj he hrole hseq hid hport ht3
    exact ⟨_, congrArg ok ((if_pos (by simp [hp, hup])).trans hd), rfl, by rw [State.ptime_setPtime]⟩
  · obtain ⟨u, hu, hlost⟩ := pdelayLost_eq hj he hopen hfew
    have hptime : ((u.setPtime p (s.ptime p).withLoss).count (timPort p + 0x38)).ptime p = (s.ptime p).withLoss :=
      State.ptime_setPtime u p _
    refine ⟨_, congrArg ok ((if_pos hp).trans hlost), by rw [hu]; rfl, by rw [hptime]; rfl, by rw [hptime]; rfl, ?_⟩
    rw [State.counter_count, hu]
    rfl
  · obtain ⟨v, hv, hlost⟩ := syncLost_eq hrole hlast
    have hdis := reselects_disqualify (v.countN (timPort p + 0x40) 3) (State.slaveRef (s.ptime p))
    have hroles := reassigns_assignRoles
      ((v.countN (timPort p + 0x40) 3).disqualify (State.slaveRef (s.ptime p))) ((s.ptime p).joined.getD 0)
    have hall := hdis.toSteers.trans hroles.toSteers
    refine ⟨_, congrArg ok ((if_pos hp).trans hlost), by rw [hall.frame, hv]; rfl, ?_, ?_⟩
    · rw [hall.counter _ (timPort_ne_switches p _), State.counter_countN, hv]
      rfl
    · exact hroles.qualified _ (not_qualified_disqualify _ _)
  · obtain ⟨run, hrun⟩ := phaseRx_of_not_slave r fwd hp hrole
    refine ⟨_, congrArg ok ((if_pos (by simp [hp, hup])).trans hrun), rfl, ?_, ?_⟩
    · rw [State.ptime_setPtime]
      rfl
    · rw [State.ptime_setPtime]
      rfl
  · have hre := reselects_esmcRx ql he hup
    refine ⟨_, congrArg ok (if_pos hp), hre.frame, ?_⟩
    rw [hre.ptime, State.ptime_setPtime]

end Sys2Proof.Machine
end

section
/-!
PROOFS. Launches of span frames on a free wire (R119 to R123): a copy begins with its timestamp point at L.
-/

namespace Sys2Proof.Machine

open Sys2Proof.Claims

/-! ### What bringing credits up leaves -/

/-- Bringing credits up changes the ports only. -/
theorem bringCredit_frame (s : State) (p : Nat) : s.bringCredit p = { s with ports := (s.bringCredit p).ports } := by
  unfold State.bringCredit
  simp only
  split
  · rfl
  · rfl

@[simp] theorem span_bringCredit (s : State) (p : Nat) : (s.bringCredit p).span = s.span := by rw [bringCredit_frame]

@[simp] theorem port_modPort (s : State) (p : Nat) (f : Port → Port) : (s.modPort p f).port p = f (s.port p) :=
  State.port_setPort s p _
@[simp] theorem modPort_span (s : State) (p : Nat) (f : Port → Port) : (s.modPort p f).span = s.span := rfl
@[simp] theorem port_count (s : State) (o p : Nat) : (s.count o).port p = s.port p := rfl

/-! ### Launches on a free wire, R119 to R123 -/

/-- The wire of a port stands free for a start at an instant: nothing is on it or about to start, and the transmitter
is awake by then. -/
structure WireFreeAt (s : State) (p q : Nat) : Prop where
  wire : (s.port p).wire = none
  commit : (s.port p).commit = none
  wakeAt : (s.port p).wakeAt ≤ q

/-- A free wire need not be made free. -/
theorem wayFor_of_wireFreeAt {s : State} {p q : Nat} (h : WireFreeAt s p q) : s.wayFor p q = some s := by
  have hsettle : s.settleWire p q = s := by simp [State.settleWire, h.wire]
  simp [State.wayFor, hsettle, h.wire, h.commit, Nat.not_lt.2 h.wakeAt]

theorem secTx_of_macsec_off {s : State} {p : Nat} (h : s.macsecOn p = false) (sc etype : Nat) :
    s.secTx p sc etype = .clear := by simp [State.secTx, h]

/-- The copy l is on the wire of its port as a span frame whose timestamp point is its launch instant. -/
def OnWireAtLaunch (s : State) (l : Launch) : Prop :=
  (s.port l.port).wire.map (fun (w : Wire) => (w.kind, w.began, w.launch)) = some (.span, l.at_.toNat * unitQ, some l)

/-- A launch in time, on a port that may send, whose wire is free and whose MACsec is off: it begins, and the span-cycle
engine's own state is left. -/
theorem launch_begins {s : State} {l : Launch} (hup : s.portUp l.port = true) (hawake : s.txAsleep = false)
    (hat : 0 ≤ l.at_) (hnow : (s.advanceToU l.at_.toNat).nowU ≤ l.at_.toNat + 98304)
    (hfree : WireFreeAt s l.port (l.at_.toNat * unitQ)) (hsec : s.macsecOn l.port = false) :
    ∃ t, s.launch l = (true, t) ∧ t.span = s.span ∧ OnWireAtLaunch t l := by
  have hup' : (s.advanceToU l.at_.toNat).portUp l.port = true := hup
  have hawake' : (s.advanceToU l.at_.toNat).txAsleep = false := hawake
  have hfree' : WireFreeAt (s.advanceToU l.at_.toNat) l.port (l.at_.toNat * unitQ) :=
      ⟨hfree.wire, hfree.commit, hfree.wakeAt⟩
  have hsec' := secTx_of_macsec_off (s := s.advanceToU l.at_.toNat) (p := l.port) hsec 0xFF 0
  have hlate : (decide (l.at_ < 0) || decide (l.at_.toNat + 98304 < (s.advanceToU l.at_.toNat).nowU)) = false := by
    simp; omega
  unfold State.launch
  simp only [hup', hawake', hlate, wayFor_of_wireFreeAt hfree', hsec', Bool.not_true, Bool.or_self, Bool.false_eq_true,
    if_false]
  refine ⟨_, rfl, ?_, ?_⟩
  · split
    · rw [modPort_span, span_bringCredit]
      rfl
    · rw [State.count_span, modPort_span, span_bringCredit]
      rfl
  · split
    · rw [OnWireAtLaunch, port_modPort]
      rfl
    · rw [OnWireAtLaunch, port_count, port_modPort]
      rfl

theorem settleGroup_none (s : State) (g : Nat) : s.settleGroup g none = s := rfl

/-- What counts the first copy of a frame of the post's own leaves the launches and the ports. -/
theorem sentOnce_frame (s : State) (l : Launch) : (s.sentOnce l).span.launches = s.span.launches ∧
    (s.sentOnce l).ports = s.ports := by
  unfold State.sentOnce
  split
  · exact ⟨rfl, rfl⟩
  · simp only
    split
    · exact ⟨rfl, rfl⟩
    · split <;> exact ⟨rfl, rfl⟩

/-- The only launch that waits is the next of its kind. -/
theorem nextLaunch_of_single {s : State} {l : Launch} {relay : Bool} (hl : s.span.launches = [l])
    (hrelay : l.relay = relay) :
    s.nextLaunch relay = some l := by
  simp [State.nextLaunch, hl, hrelay]

theorem dropLaunch_of_single {s : State} {l : Launch} (hl : s.span.launches = [l]) :
    (s.dropLaunch l).span.launches = [] := by
  simp [State.dropLaunch, hl]

/-- Settles O20: the launch is next, it leaves the queue, and it begins. -/
theorem launchesStartAtTheirInstant : Obligations.LaunchesStartAtTheirInstant := by
  refine ⟨fun s l hl hown hbell hframe hup hawake hat hnow hwire hcommit hwake hsec => ?_,
    fun s l hl hrelay hframe hup hawake hat hnow hwire hcommit hwake hsec => ?_⟩
  · obtain ⟨t, ht, hspan, hon⟩ := launch_begins (s := s.dropLaunch l) hup hawake hat hnow ⟨hwire, hcommit, hwake⟩ hsec
    obtain ⟨hlaunches, hports⟩ := sentOnce_frame t l
    have hfill : (s.dropLaunch l).fillCarry l = (l, s.dropLaunch l) := by simp [State.fillCarry, hbell]
    have hlaunch : s.spanLaunch = t.sentOnce l := by
      simp only [State.spanLaunch, nextLaunch_of_single hl hown, hfill, ht, hframe, settleGroup_none, if_true]
    refine ⟨_, congrArg ok hlaunch, ?_, ?_⟩
    · rw [hlaunches, hspan, dropLaunch_of_single hl]
    · rw [State.port, hports]
      exact hon
  · obtain ⟨t, ht, hspan, hon⟩ := launch_begins (s := s.dropLaunch l) hup hawake hat hnow ⟨hwire, hcommit, hwake⟩ hsec
    have hlaunch : s.relayLaunch = t := by
      simp only [State.relayLaunch, nextLaunch_of_single hl hrelay, ht]
    exact ⟨_, congrArg ok hlaunch, by rw [hspan, dropLaunch_of_single hl], hon⟩

end Sys2Proof.Machine
end

section
/-!
PROOFS. Received span copies (R130 to R137, R144, R145, R585): how each kind is judged, relayed and taken.
-/

namespace Sys2Proof.Machine

open Sys2Proof.Claims

/-! ### Messages to the foreman and margins -/

section Keeps

variable {α : Type} (p : State → α)

/-- Escalation changes the foreman's sources and counters. -/
theorem escalate_keeps (s : State) (m : FaultMsg) (hf : ∀ (u : State) v, p { u with flt := v } = p u)
    (hc : ∀ (u : State) v, p { u with ctr := v } = p u) : p (s.escalate m).2 = p s := by
  unfold State.escalate
  simp only
  split
  · rfl
  · split
    · exact (hc _ _).trans (hf _ _)
    · exact hf _ _

/-- A fault message changes the foreman, the counters and the free values: every other part p of the state is kept. -/
theorem raise_keeps (s : State) (src kind cls : Nat) (addr : Option Nat) (access master : Nat)
    (hf : ∀ (u : State) v, p { u with flt := v } = p u) (hc : ∀ (u : State) v, p { u with ctr := v } = p u)
    (hn : ∀ (u : State) v, p { u with free := v } = p u) : p (s.raise src kind cls addr access master) = p s := by
  have hmsg (u : State) (m : FaultMsg) : p (u.raiseMsg m) = p u := by
    unfold State.raiseMsg
    split
    · rfl
    · exact (fillSlot_keeps p _ _ hf hc).trans (escalate_keeps p _ _ hf hc)
  cases addr with
  | none => exact (hmsg _ _).trans (hn _ _)
  | some a => exact hmsg _ _

/-- Margins that turn negative are noted in the span-cycle engine and told to the foreman. -/
theorem noteMargins_keeps (s : State) (hm : ∀ (u : State) m, p { u with span := { u.span with marginLow := m } } = p u)
    (hf : ∀ (u : State) v, p { u with flt := v } = p u) (hc : ∀ (u : State) v, p { u with ctr := v } = p u)
    (hn : ∀ (u : State) v, p { u with free := v } = p u) : p s.noteMargins = p s := by
  unfold State.noteMargins
  generalize upto 0 16 = l
  induction l generalizing s with
  | nil => rfl
  | cons q l ih =>
    rw [List.foldl_cons, ih]
    simp only
    split
    · exact (raise_keeps p _ _ _ _ _ _ _ hf hc hn).trans (hm _ _)
    · split
      · rfl
      · exact hm _ _

end Keeps

theorem state_noteMargins (s : State) : s.noteMargins.span.state = s.span.state :=
  noteMargins_keeps (fun u => u.span.state) s (fun _ _ => rfl) (fun _ _ => rfl) (fun _ _ => rfl) (fun _ _ => rfl)

theorem sendsAs_noteMargins (s : State) (id : Nat) : s.noteMargins.sendsAs id = s.sendsAs id :=
  noteMargins_keeps (fun u => u.sendsAs id) s (fun _ _ => rfl) (fun _ _ => rfl) (fun _ _ => rfl) (fun _ _ => rfl)

/-! ### Relays, R117 to R121 -/

/-- What relaying a copy can do: launches are planned, transmitters leave LPI, and what is too late is counted. -/
structure Relays (s t : State) : Prop where
  frame : t = { s with span := { s.span with launches := t.span.launches }, ports := t.ports, ctr := t.ctr }
  counter : ∀ x, x < prtBase 0 → x ≠ spnCount 16 → t.counter x = s.counter x

theorem relays_refl (s : State) : Relays s s := ⟨rfl, fun _ _ _ => rfl⟩

theorem Relays.trans {s t u : State} (h : Relays s t) (g : Relays t u) : Relays s u where
  frame := by rw [g.frame, h.frame]
  counter x hx hlate := (g.counter x hx hlate).trans (h.counter x hx hlate)

theorem relays_count_late (s : State) : Relays s (s.count (spnCount 16)) :=
  ⟨rfl, fun x _ hlate => State.counter_countN_other s _ x 1 hlate⟩

theorem relays_planLaunch (s : State) (l : Launch) :
    Relays s { s with span := { s.span with launches := s.span.launches ++ [l] } } := ⟨rfl, fun _ _ _ => rfl⟩

theorem relays_leaveLpi (s : State) (p : Nat) : Relays s (s.leaveLpi p) := by
  unfold State.leaveLpi
  simp only
  split
  · exact relays_refl s
  · refine ⟨rfl, fun x hx _ => State.counter_countN_other _ _ x _ ?_⟩
    simp only [macCount, prtBase] at hx ⊢
    omega

theorem relays_foldl {f : State → Nat → State} (hf : ∀ u q, Relays u (f u q)) (s : State) (l : List Nat) :
    Relays s (l.foldl f s) := by
  induction l generalizing s with
  | nil => exact relays_refl s
  | cons q l ih => exact (hf s q).trans (ih _)

theorem relays_relayCopy (s : State) (p : Nat) (h : SpanHdr) (bell : Option Bell) (carry : Option Carry)
    (data : List Byte) (t tref dhop limit : Nat) : Relays s (s.relayCopy p h bell carry data t tref dhop limit) := by
  unfold State.relayCopy
  split
  · exact relays_refl s
  · refine relays_foldl (fun u q => ?_) s _
    simp only
    split
    · exact relays_count_late u
    · exact (relays_planLaunch u _).trans (relays_leaveLpi _ q)

/-! ### Copies that pass the MAC -/

/-- What the MAC does with a frame that passes it: it counts in its port's block, which lies above the counters of the
span cycle. -/
structure Received (s t : State) : Prop where
  frame : t = { s with ctr := t.ctr }
  counter : ∀ x, x < prtBase 0 → t.counter x = s.counter x

theorem Received.trans {s t u : State} (h : Received s t) (g : Received t u) : Received s u where
  frame := by rw [g.frame, h.frame]
  counter x hx := (g.counter x hx).trans (h.counter x hx)

theorem received_countN (s : State) (p o n : Nat) : Received s (s.countN (macCount p o) n) := by
  refine ⟨rfl, fun x hx => State.counter_countN_other s _ x n ?_⟩
  simp only [macCount, prtBase] at hx ⊢
  omega

theorem received_countRx (s : State) (p dst n : Nat) : Received s (s.countRx p dst n) :=
  (((received_countN s p _ 1).trans (received_countN _ p _ n)).trans (received_countN _ p _ 1)).trans
    (received_countN _ p _ 1)

/-- A span frame that passes the MAC of a port in service whose link is up, on a post that is awake, is counted and
judged. -/
theorem spanRx_eq {s : State} {p : Nat} (n : Nat) (hserv : s.inService p = true) (hup : (s.port p).link = .up)
    (hawake : s.asleep = false) : ∃ u, Received s u ∧ ∀ go, s.spanRx p n go = go u := by
  have hp : ¬ 24 < p := by
    simp only [State.inService, State.inServiceBy, Bool.and_eq_true, decide_eq_true_eq] at hserv
    omega
  have hgate (go : State → State) : s.linkGate p go = go s := by
    simp only [State.linkGate, hserv, hup, hawake, bne_self_eq_false, Bool.not_true, Bool.false_eq_true, if_false]
  exact ⟨_, received_countRx s p _ _, fun go => (if_neg hp).trans (hgate _)⟩

/-! ### Slot and dynamic copies, R131 to R134 -/

section DataCopy

variable {s : State} {p u tref o : Nat} {h : SpanHdr} {data : List Byte}

/-- A header-only SLOT copy that lies in its window is counted by its channel, relayed, and accepted if it is the
first. -/
theorem dataCopy_of_valid_headerOnly (hhdr : s.headerOk p 2 s.span.hopLimit h = true) (hchan : s.chanOk p h = true)
    (href : s.copyRef h false = some (tref, o)) (hvalid : placed s.span.pi s.span.dhop tref h.hops u = .valid)
    (hpay : h.payload = 2) :
    ∃ r, Relays (s.count (ownerCount o (flag h.channel))) r ∧
      (s.dataCopy p h data u false).ctr = r.ctr ∧ (s.dataCopy p h data u false).frames = r.frames := by
  have hr := relays_relayCopy
      (s.count (ownerCount o (flag h.channel))) p h none none data u tref s.span.dhop s.span.hopLimit
  have hmis : (Placed.valid == .misplaced) = false := rfl
  have hedge : (Placed.valid == .edge) = false := rfl
  have hpay1 : h.payload ≠ 1 := by omega
  have hpay0 : h.payload ≠ 0 := by omega
  simp only [State.dataCopy, Bool.false_eq_true, if_false, hhdr, hchan, href, hvalid, hpay1, hpay0, hmis, hedge,
      Bool.not_true,
    Bool.or_self, Bool.false_and, decide_false, State.count_span]
  generalize (s.count (ownerCount o (flag h.channel))).relayCopy p h none none data u tref s.span.dhop s.span.hopLimit = r
    at hr ⊢
  refine ⟨r, hr, ?_⟩
  split
  · exact ⟨rfl, rfl⟩
  · exact ⟨rfl, rfl⟩

/-- A DYN copy whose number is not the count of an integrated post is counted and silences the post; it is not
relayed. -/
theorem dataCopy_of_desync (hhdr : s.headerOk p 3 s.span.hopLimit h = true) (hchan : s.chanOk p h = true)
    (href : s.copyRef h true = some (tref, o)) (hplaced : placed s.span.pi s.span.dhop tref h.hops u ≠ .misplaced)
    (hint : s.integrated = true) (hcount : s.span.miniCount ≠ h.number) :
    s.dataCopy p h data u true = { s with span := { s.span with dynSilent := true } }.count (spnCount 14) := by
  simp [State.dataCopy, hhdr, hchan, href, hplaced, hint, hcount]

end DataCopy

theorem ownerCount_below {o k : Nat} (ho : o < 4096) (hk : k < 8) : ownerCount o k < prtBase 0 ∧
    ownerCount o k ≠ spnCount 16 := by
  simp only [ownerCount, spnCount, prtBase, spnBase]
  omega

/-! ### Carriage copies, R140 and R144 -/

/-- A copy at the edge of its window is counted for its owner, if the image names it. -/
def State.noteEdge (s : State) (pl : Placed) (id : BitVec 64) : State :=
  if pl == .edge then
    match s.ownerIndex id with
    | some i => s.count (ownerCount i 2)
    | none => s
  else s

theorem noteEdge_frame (s : State) (pl : Placed) (id : BitVec 64) :
    s.noteEdge pl id = { s with ctr := (s.noteEdge pl id).ctr } := by
  unfold State.noteEdge
  split
  · cases s.ownerIndex id with
    | none => rfl
    | some i => rfl
  · rfl

/-- On a post that is not integrated a carriage copy that lies in the window it names is relayed; a part of an image is
then offered to the assembly. -/
theorem carryCopy_of_imagePart {s : State} {p u : Nat} {h : SpanHdr} {c : Carry} {k : KeptBell} (run : State → State)
    (hint : s.integrated = false) (hbell : s.span.lastBell = some k) (himg : s.span.imageValid = false)
    (hhdr : s.headerOk p 4 s.span.hopLimit h = true) (hnum : h.number = 0)
    (hplaced : placed s.span.pi s.span.dhop c.ref h.hops u ≠ .misplaced) (hother : s.sendsAs h.owner.toNat = false)
    (hkind : c.kind = 0) :
    ∃ v r, v = { s with ctr := v.ctr } ∧ Relays v r ∧ s.carryCopy p h c u run = r.carryPart c := by
  unfold State.carryCopy
  extract_lets in_ tref pl o owned v r w
  have hin : in_ = false := hint
  have hw : w = r := if_neg (by simp [hin])
  have htref : tref = c.ref := if_neg (by simp [hin])
  have hmis : (pl == .misplaced) = false := by simp [pl, htref, hplaced]
  have hv : v = { s with ctr := v.ctr } := noteEdge_frame s pl h.owner
  have hr : Relays v r := relays_relayCopy v p h none (some c) [] u tref _ _
  clear_value in_ tref pl o owned w r v
  have hsends : r.sendsAs h.owner.toNat = false := by
    rw [hr.frame, hv]
    exact hother
  refine ⟨v, r, hv, hr, ?_⟩
  simp only [hin, hbell, himg, hhdr, hnum, hmis, hw, hsends, hkind, Option.isNone_some, Bool.not_false, Bool.and_false,
    Bool.not_true, bne_self_eq_false, Bool.false_and, Bool.or_self, Bool.false_eq_true, if_false, if_true]

/-- The first part of an image that has several is kept. -/
theorem carryPart_first {s : State} {c : Carry} {k : KeptBell} (hbell : s.span.lastBell = some k)
    (hset : k.body.setId = c.tag)
    (himg : s.span.imageValid = false) (hpart : c.part < c.parts) (htwo : 2 ≤ c.parts) (hasm : s.span.asm = [])
    (hdata : c.data ≠ []) :
    s.carryPart c =
      { s with span := { s.span with asmTag := c.tag, asmParts := c.parts, asm := [(c.part, c.data)] } } := by
  have hwanted : s.span.lastBell.any (fun k => k.body.setId == c.tag) = true := by simp [hbell, hset]
  have hold : (if s.span.asmTag == c.tag && s.span.asmParts == c.parts then s.span.asm else []) = [] := by simp [hasm]
  have hput : Tab.set [] [] c.part c.data = [(c.part, c.data)] := by simp [Tab.set, hdata, Tab.put]
  have hfew : [(c.part, c.data)].length < c.parts := by simp; omega
  simp only [State.carryPart, hwanted, himg, hold, hput, hfew, Nat.not_le.2 hpart, Bool.not_true, Bool.false_and,
      Bool.or_self,
    decide_false, Bool.false_eq_true, if_false, if_true]

/-! ### Bells, R131 and R145 -/

/-- A post that listens takes the first bell that it hears as trial bell. -/
theorem bellEvent_listen {s : State} (k : KeptBell) (h : s.span.state = .listen) : s.bellEvent k =
    { s with
      span := { s.span with state := .trial, trial := some k, listenFrom := none, firstPattern := k.pattern } } := by
  simp only [State.bellEvent, h]

/-- On a post that is not integrated and has no image a bell is judged by its header and by what it says itself; a new
one of another post brings its event once it is relayed. -/
theorem bellCopy_of_newBell {s : State} {p u : Nat} {h : SpanHdr} {b : Bell} (hport : s.isSpanPort p = true)
    (hint : s.integrated = false) (himg : s.span.imageValid = false) (hver : h.version = 1) (hsub : h.subtype = 1)
    (hhops : h.hops = 1) (hnum : h.number = 0) (hlimit : 1 ≤ b.hopLimit)
    (hplaced : placed b.pi b.dhop b.start 1 u ≠ .misplaced)
    (hfresh : s.span.heard.contains (h.owner, h.cycle, b.start) = false) (hother : s.sendsAs h.owner.toNat = false) :
    ∃ (r : State) (k : KeptBell), r.span.state = s.span.state ∧ k.owner = h.owner ∧ k.cycle = h.cycle ∧
        s.bellCopy p h b u = r.bellEvent k := by
  unfold State.bellCopy
  extract_lets king limit named tref pl o owned v fresh _span m k _span' e r
  have hking : king = false := by simp [king, hint]
  have hlim : limit = b.hopLimit := if_neg (by simp [hking])
  have htref : tref = b.start := if_neg (by simp [hking])
  have hhdr : s.headerOk p 1 limit h = true := by simp [State.headerOk, hport, hver, hsub, hhops, hlim, hlimit]
  have hmis : (pl == .misplaced) = false := by simp [pl, htref, hhops, hplaced]
  have hv : v = { s with ctr := v.ctr } := noteEdge_frame s pl h.owner
  clear_value v
  have hnew : fresh = true := by
    simp only [fresh]
    rw [hv, hfresh]
    rfl
  have hm : m.span.state = v.span.state ∧ m.sendsAs h.owner.toNat = v.sendsAs h.owner.toNat := by
    simp only [m]
    split
    · exact ⟨rfl, rfl⟩
    · exact ⟨state_noteMargins _, sendsAs_noteMargins _ _⟩
  clear_value m
  obtain ⟨hmstate, hmsends⟩ := hm
  have hr : Relays e r := relays_relayCopy e p h (some b) none [] u tref _ _
  clear_value r
  have hstate : r.span.state = s.span.state := by
    rw [hr.frame]
    exact hmstate.trans (by rw [hv])
  have hsends : r.sendsAs h.owner.toNat = false := by
    rw [hr.frame]
    exact hmsends.trans (by rw [hv]; exact hother)
  refine ⟨r, k, hstate, rfl, rfl, ?_⟩
  simp only [hking, himg, hhdr, hnum, hmis, hnew, hsends, Bool.not_false, Bool.and_self,
    Bool.not_true, bne_self_eq_false, Bool.false_and, Bool.or_self, Bool.false_eq_true, if_false, if_true]

/-! ### Carried commands, R585 and R586 -/

theorem fenceSweep_of_none_waiting {s : State} (h : s.clerk.waiting = []) : s.fenceSweep = s := by
  simp [State.fenceSweep, h]

/-- The answer to a carried command waits for a slot, and the command is done: no other command, sequence number or
counter changes. -/
theorem finish_carried {u : State} {c : Cmd} {seq : BitVec 32} (ho : c.origin = .carried seq)
    (hwait : u.clerk.waiting = [])
    (code : Nat) (st : Status) (d : Nat) (reply : List Byte) (n : Nat) (x y : Bool) :
    (u.finishCmd c code st d reply n x y).fenceSweep.clerk.carryDone = u.clerk.carryDone ∧
      (u.finishCmd c code st d reply n x y).fenceSweep.ctr = u.ctr := by
  simp only [State.finishCmd, ho]
  split
  · rw [fenceSweep_of_none_waiting hwait]
    exact ⟨rfl, rfl⟩
  · rw [fenceSweep_of_none_waiting (by exact hwait)]
    exact ⟨rfl, rfl⟩

theorem cmdCount_inj {j k : Nat} : cmdCount j = cmdCount k ↔ j = k := by
  simp only [cmdCount]
  omega

theorem detailWord_clerk_ctr (s : State) (d : Option Nat) :
    (s.detailWord d).2.clerk = s.clerk ∧ (s.detailWord d).2.ctr = s.ctr := by
  cases d with
  | none => exact ⟨rfl, rfl⟩
  | some n => exact ⟨rfl, rfl⟩

/-- The command of a carriage frame is of the post's own scope and comes from the carriage. -/
theorem carriedCmd_some {c : Carry} {code : Nat} {seq : BitVec 32} {cmd : Cmd}
    (h : carriedCmd c = some (code, seq, cmd)) :
    cmd.origin = .carried seq ∧ cmd.partner = false ∧ cmd.scope = 0 := by
  simp only [carriedCmd] at h
  split at h
  · simp at h
  · simp only [Option.some.injEq, Prod.mk.injEq] at h
    obtain ⟨-, rfl, rfl⟩ := h
    exact ⟨rfl, rfl, rfl⟩

/-- A command that the king carries completes, if it completes at once, with its answer; it leaves the sequence numbers
that are done, and of the clerk's counters at most REFUSED and CLAMPS are counted. -/
theorem runStep_carried {s : State} {code : Nat} {c : Cmd} {seq : BitVec 32} {eff : State → Eff} {st : Status}
    {d : Option Nat} {reply : List Byte} {n : Nat} (ho : c.origin = .carried seq) (hp : c.partner = false)
    (hscope : c.scope = 0) (hwait : s.clerk.waiting = [])
    (heff : eff (begun s code c) = .done (begun s code c) st d reply n false) :
    ∃ t, runStep code c s eff = .next t ∧ t.clerk.carryDone = s.clerk.carryDone ∧
      t.counter (cmdCount 10) = s.counter (cmdCount 10) := by
  have hcount (u : State) (k n : Nat) (hk : 10 ≠ k) : (u.countN (cmdCount k) n).counter (cmdCount 10) =
      u.counter (cmdCount 10) :=
    State.counter_countN_other u _ _ n (mt cmdCount_inj.1 hk)
  have hscope' : (c.scope == 1) = false := by rw [hscope]; rfl
  refine ⟨_, rfl, ?_⟩
  rw [State.runCmd_eq]
  simp only [hp, heff, hscope', Bool.false_and, Bool.false_eq_true, if_false]
  split
  · next st' d' _ =>
    obtain ⟨hdone, hctr⟩ := finish_carried (u := (begun s code c).count (cmdCount 2)) ho hwait code st' d' [] 0 false
      (((takenAs s code c).map (·.discard)).getD false)
    refine ⟨hdone, ?_⟩
    rw [State.counter, hctr]
    exact hcount (begun s code c) 2 1 (by decide)
  · obtain ⟨hclerk, hctr⟩ := detailWord_clerk_ctr (begun s code c) d
    obtain ⟨hdone, hctr'⟩ := finish_carried (u := ((begun s code c).detailWord d).2.countN (cmdCount 3) n) ho
      (by rw [State.countN_clerk, hclerk]; exact hwait) code st ((begun s code c).detailWord d).1 reply n false
      (((takenAs s code c).map (·.discard)).getD false)
    rw [hdone, State.counter, hctr', State.countN_clerk, hclerk]
    refine ⟨rfl, (hcount _ 3 n (by decide)).trans ?_⟩
    rw [State.counter, hctr]
    rfl

theorem runOpcode_nop (c : Cmd) (s : State) : runOpcode 0 c s = execNop c s := rfl

theorem nop_carried {s : State} {c : Cmd} {seq : BitVec 32} (ho : c.origin = .carried seq) (hp : c.partner = false)
    (hscope : c.scope = 0) (hwait : s.clerk.waiting = []) :
    ∃ t, execNop c s = .next t ∧ t.clerk.carryDone = s.clerk.carryDone ∧
        t.counter (cmdCount 10) = s.counter (cmdCount 10) :=
  runStep_carried ho hp hscope hwait rfl

/-- The state in which a carried command of the king in force runs: its sequence number is done, and it is counted. -/
def State.withCarried (s : State) (seq : BitVec 32) : State :=
  { s with clerk := { s.clerk with carryKing := s.span.kingId, carryDone := s.clerk.carryDone ++ [seq] } }.count
      (cmdCount 10)

/-- A carried command of the king in force runs if its sequence number is new (R585). -/
theorem runCarried_eq {s : State} {c : Carry} {code : Nat} {seq : BitVec 32} {cmd : Cmd}
    (hcmd : carriedCmd c = some (code, seq, cmd)) (hready : s.clerk.ready = true) (hint : s.span.cycValid = true)
    (hking : s.isKing = false) (hlast : s.clerk.carryKing = s.span.kingId)
        (hnew : s.clerk.carryDone.contains seq = false) :
    s.runCarried s.span.kingId c = goOn (s.withCarried seq) (runOpcode code cmd (s.withCarried seq)) := by
  have hdone : (if s.clerk.carryKing == s.span.kingId then s.clerk.carryDone else []) = s.clerk.carryDone :=
    if_pos (beq_iff_eq.2 hlast)
  have hgo : (!s.clerk.ready || !s.span.cycValid || s.isKing || s.span.kingId != s.span.kingId ||
      s.clerk.carryDone.contains seq) = false := by
    simp only [hready, hint, hking, hnew, bne_self_eq_false, Bool.not_true, Bool.or_self]
  simp only [State.runCarried, hcmd, hdone, hgo, Bool.false_eq_true, if_false]
  rfl

/-- Settles O19, copy by copy: first what the MAC does with it, then its judgement. -/
theorem spanCopiesAreJudged : Obligations.SpanCopiesAreJudged := by
  refine ⟨fun s p u h b hport hserv hup hawake hlisten hint himg hver hsub hhops hnum hlimit hplaced hfresh hother => ?bell,
    fun s p u tref o h hserv hup hawake _ hhdr hchan href ho hvalid hpay => ?slot,
    fun s p u tref o h data hserv hup hawake _ hhdr hchan href hplaced hint hcount => ?dyn,
    fun s p u h c k hserv hup hawake _ hint hbell hset himg hhdr hnum hplaced hother hkind hpart htwo hasm hdata =>
        ?part,
    fun s owner data hking hop => ?reply,
    fun s c seq cmd hcmd hready hint hking hlast hnew htaken hwait => ?command⟩
  case bell =>
    obtain ⟨v, hv, hrx⟩ := spanRx_eq 40 hserv hup hawake
    rw [hv.frame] at hrx
    obtain ⟨r, k, hstate, howner, hcycle, hcopy⟩ :=
        bellCopy_of_newBell (s := { s with ctr := v.ctr }) hport hint himg hver
      hsub hhops hnum hlimit hplaced hfresh hother
    refine ⟨_, congrArg ok ((hrx _).trans (hcopy.trans (bellEvent_listen k (hstate.trans hlisten)))), rfl, ?_, ?_, rfl⟩
    · simp [howner]
    · simp [hcycle]
  case slot =>
    obtain ⟨v, hv, hrx⟩ := spanRx_eq 0 hserv hup hawake
    have hbefore := hv.counter
    rw [hv.frame] at hrx hbefore
    obtain ⟨r, hr, hctr, hframes⟩ := dataCopy_of_valid_headerOnly (s := { s with ctr := v.ctr })
        (data := []) hhdr hchan href
      hvalid hpay
    have hchannel : flag h.channel < 2 := by cases h.channel <;> decide
    have hread (k : Nat) (hk : k < 8) : (State.dataCopy { s with ctr := v.ctr } p h [] u false).counter
        (ownerCount o k) =
        (State.count { s with ctr := v.ctr } (ownerCount o (flag h.channel))).counter (ownerCount o k) := by
      obtain ⟨hbelow, hlate⟩ := ownerCount_below ho hk
      exact (congrArg (fun m => Tab.get 0 m (ownerCount o k)) hctr).trans (hr.counter _ hbelow hlate)
    refine ⟨_, congrArg ok (hrx _), ?_, ?_, ?_⟩
    · rw [hread _ (by omega), State.counter_count, hbefore _ (ownerCount_below ho (by omega)).1]
    · have hother : ownerCount o 3 ≠ ownerCount o (flag h.channel) := by
        simp only [ownerCount]
        omega
      rw [hread 3 (by decide), State.count, State.counter_countN_other _ _ _ 1 hother,
        hbefore _ (ownerCount_below ho (by decide)).1]
    · rw [hframes, hr.frame]
      rfl
  case dyn =>
    obtain ⟨v, hv, hrx⟩ := spanRx_eq data.length hserv hup hawake
    have hbefore := hv.counter
    rw [hv.frame] at hrx hbefore
    have hcopy := dataCopy_of_desync (s := { s with ctr := v.ctr }) (data := data) hhdr hchan href hplaced hint hcount
    refine ⟨_, congrArg ok ((hrx _).trans hcopy), rfl, rfl, rfl, ?_⟩
    rw [State.counter_count]
    exact congrArg (· + 1) (hbefore _ (by decide))
  case part =>
    obtain ⟨v, hv, hrx⟩ := spanRx_eq (24 + c.data.length) hserv hup hawake
    rw [hv.frame] at hrx
    obtain ⟨w, r, hw, hr, hcopy⟩ := carryCopy_of_imagePart (s := { s with ctr := v.ctr })
        (fun s => s.runCarried h.owner c)
      hint hbell himg hhdr hnum hplaced hother hkind
    have hspan : r.span = { s.span with launches := r.span.launches } := by rw [hr.frame, hw]
    have hkeep := carryPart_first (s := r) (c := c) (k := k) (by rw [hspan]; exact hbell) hset
        (by rw [hspan]; exact himg)
      hpart htwo (by rw [hspan]; exact hasm) hdata
    refine ⟨_, congrArg ok ((hrx _).trans (hcopy.trans hkeep)), rfl, rfl, rfl, ?_⟩
    rw [hspan]
    exact himg
  case reply =>
    have hreply : s.carriedReply owner data = s.count (cmdCount 11) := by
      simp only [State.carriedReply, hking, hop, Bool.not_true, Bool.false_eq_true, if_false]
    exact congrArg ok hreply
  case command =>
    obtain ⟨horigin, hpartner, hscope⟩ := carriedCmd_some hcmd
    obtain ⟨t, hnop, hdone, hctr⟩ := nop_carried (s := s.withCarried seq) horigin hpartner hscope hwait
    have hrun : s.runCarried s.span.kingId c = t := by
      rw [runCarried_eq hcmd hready hint hking hlast hnew, runOpcode_nop, hnop]
      rfl
    refine ⟨t, congrArg ok hrun, hdone, hctr.trans ?_⟩
    exact State.counter_count _ _

end Sys2Proof.Machine
end

section
/-!
PROOFS. Timers and boundaries of the span-cycle engine (R111, R126 to R136, R145): the listen timer and the raise,
the cycle
boundary of a member, missing bells, slots, and the first mini-slot.
-/

namespace Sys2Proof.Machine

open Sys2Proof.Claims

/-! ### What the engine's shared operations leave -/

/-- Bringing credits up on the gated ports changes the ports only. -/
theorem gatesBefore_frame (s : State) : s.gatesBefore = { s with ports := s.gatesBefore.ports } := by
  unfold State.gatesBefore
  generalize s.gatedPorts = l
  induction l generalizing s with
  | nil => rfl
  | cons p l ih =>
    rw [List.foldl_cons, ih, bringCredit_frame]

/-- Margins are noted apart from all that the engine's state says of the cycle. -/
theorem span_noteMargins (s : State) : ∃ m, s.noteMargins.span = { s.span with marginLow := m } :=
  ⟨s.noteMargins.span.marginLow, noteMargins_keeps
      (fun u => { u.span with marginLow := s.noteMargins.span.marginLow }) s
    (fun _ _ => rfl) (fun _ _ => rfl) (fun _ _ => rfl) (fun _ _ => rfl)⟩

/-- New references do not move the clock. -/
theorem count_reselect (s : State) (slewOnly : Bool) : (s.reselect slewOnly).time.count = s.time.count := by
  unfold State.reselect
  simp only
  split
  · rfl
  · split
    · rfl
    · rfl
    · split
      · rfl
      · split
        · rfl
        · rfl
    · rfl

theorem count_disqualify (s : State) (r : RefId) : (s.disqualify r).time.count = s.time.count := by
  unfold State.disqualify
  split
  · rfl
  · exact count_reselect _ _

theorem nowU_assignRoles (s : State) (i : Nat) : (s.assignRoles i).nowU = s.nowU := by
  have hcount : (s.assignRoles i).time.count = s.time.count := by
    obtain ⟨role, h | ⟨r, h⟩⟩ := assignRoles_cases s i
    · rw [h]
      rfl
    · rw [h]
      exact count_disqualify _ _
  rw [State.nowU, State.nowU, hcount]

/-- An instant lies behind once time has passed to it. -/
theorem le_ticks_advanceTo (s : State) (k : Nat) : k ≤ (s.advanceTo k).time.ticks := by
  rw [State.advanceTo, State.advance_ticks]
  omega

theorem kingCapable_withTime (s : State) (x : Time) : State.kingCapable { s with time := x } = s.kingCapable := rfl
@[simp] theorem kingCapable_advanceTo (s : State) (k : Nat) : (s.advanceTo k).kingCapable = s.kingCapable :=
  kingCapable_withTime s (s.advanceTo k).time
theorem advanceTo_frame (s : State) (k : Nat) : s.advanceTo k = { s with time := (s.advanceTo k).time } := rfl
theorem advanceToU_frame (s : State) (k : Nat) : s.advanceToU k = { s with time := (s.advanceToU k).time } := rfl

@[simp] theorem span_advanceToU (s : State) (u : Nat) : (s.advanceToU u).span = s.span := rfl

/-! ### The listen timer, R145 -/

/-- A post that may not raise listens again from the timer's expiry. -/
theorem listenEnds_again {s : State} {u : Nat} (hlisten : s.span.state = .listen) (hfrom : s.span.listenFrom = some u)
    (hcap : s.kingCapable = false) :
    ∃ v : State, v = { s with time := v.time } ∧ u + usTicks (s.reg (spnBase + 0x44)) ≤ v.time.ticks ∧
      s.listenEnds = { v with span := { v.span with listenFrom := some v.time.ticks } } := by
  refine ⟨_, advanceTo_frame s _, le_ticks_advanceTo s _, ?_⟩
  simp only [State.listenEnds, hlisten, hfrom, kingCapable_advanceTo, hcap, Bool.false_and, Bool.false_eq_true,
      if_false]

/-- The first whole millisecond that lies at least one millisecond after an instant, both in 2^-16 ns. -/
theorem wholeMillisecond_after (n : Nat) : ceilDiv (n + 65536000000) 65536000000 * 65536000000 % 65536000000 = 0 ∧
    n + 65536000000 ≤ ceilDiv (n + 65536000000) 65536000000 * 65536000000 ∧
    ceilDiv (n + 65536000000) 65536000000 * 65536000000 < n + 2 * 65536000000 := by
  unfold ceilDiv
  omega

/-- What a raise in pattern r leaves: the post is in RAISE before T(0) of cycle 0, and neither registers nor host memory
have changed since s. -/
structure Raised (s t : State) (r : Nat) : Prop where
  state : t.span.state = .raise
  cycle : t.span.cycle = 0
  cycValid : t.span.cycValid = true
  pattern : t.span.pattern = r
  tn : t.span.tn = ceilDiv (t.nowU + 65536000000) 65536000000 * 65536000000
  cfg : t.cfg = s.cfg
  hostMem : t.hostMem = s.hostMem

theorem Raised.noteMargins {s t : State} {r : Nat} (h : Raised s t r) : Raised s t.noteMargins r := by
  obtain ⟨m, hspan⟩ := span_noteMargins t
  have hnow : t.noteMargins.nowU = t.nowU := by rw [State.nowU, time_noteMargins, State.nowU]
  have hcfg : t.noteMargins.cfg = t.cfg :=
    noteMargins_keeps State.cfg t (fun _ _ => rfl) (fun _ _ => rfl) (fun _ _ => rfl) (fun _ _ => rfl)
  have hmem : t.noteMargins.hostMem = t.hostMem :=
    noteMargins_keeps State.hostMem t (fun _ _ => rfl) (fun _ _ => rfl) (fun _ _ => rfl) (fun _ _ => rfl)
  constructor
  case cfg => rw [hcfg, h.cfg]
  case hostMem => rw [hmem, h.hostMem]
  all_goals simp only [hspan, hnow, h.state, h.cycle, h.cycValid, h.pattern, h.tn]

theorem Raised.assignRoles {s t : State} {r : Nat} (h : Raised s t r) (i : Nat) : Raised s (t.assignRoles i) r := by
  have hframe := (reassigns_assignRoles t i).frame
  have hspan : (t.assignRoles i).span = t.span := by rw [hframe]
  constructor
  case cfg => rw [hframe, h.cfg]
  case hostMem => rw [hframe, h.hostMem]
  all_goals simp only [hspan, nowU_assignRoles, h.state, h.cycle, h.cycValid, h.pattern, h.tn]

/-- A post that may raise raises when the timer expires. -/
theorem raised_listenEnds {s : State} {u r : Nat} (hlisten : s.span.state = .listen)
    (hfrom : s.span.listenFrom = some u)
    (hcap : s.kingCapable = true) (htime : s.time.flag ≠ .invalid) (himg : s.span.imageValid = true)
    (hpat : s.raisePattern = some r) : Raised s s.listenEnds r := by
  have htimed (x : Time) (hx : x.flag ≠ .invalid) : (if State.kingCapable { s with time := x } && x.flag != .invalid
      && s.span.imageValid then State.raisePattern { s with time := x } else none) = some r := by
    have hall : (s.kingCapable && x.flag != .invalid && s.span.imageValid) = true := by simp [hcap, hx, himg]
    exact (if_pos hall).trans hpat
  have hraises (k : Nat) : (if (s.advanceTo k).kingCapable && (s.advanceTo k).time.flag != .invalid
      && (s.advanceTo k).span.imageValid then (s.advanceTo k).raisePattern else none) = some r :=
    htimed (s.advanceTo k).time htime
  obtain ⟨v, hv⟩ : ∃ v, v = (s.advanceTo (u + usTicks (s.reg (spnBase + 0x44)))).gatesBefore := ⟨_, rfl⟩
  have hcfg : v.cfg = s.cfg := by
    rw [hv, gatesBefore_frame]
    rfl
  have hmem : v.hostMem = s.hostMem := by
    rw [hv, gatesBefore_frame]
    rfl
  simp only [State.listenEnds, hlisten, hfrom, hraises, ← hv]
  refine Raised.assignRoles (Raised.noteMargins ?_) 0
  exact ⟨rfl, rfl, rfl, rfl, rfl, hcfg, hmem⟩

/-! ### Cycle boundaries, R111, R112 and R136 -/

theorem captureAt_of_no_banks {s : State} (h : s.stock.banks = []) (n : BitVec 32) (t : Nat) : s.captureAt n t = s := by
  have hfree (b : Nat) : s.bank b = {} := by rw [State.bank, h, Tab.get]
  simp [State.captureAt, upto, hfree]

theorem cyclePegs_of_no_benches {s : State} (h : s.clerk.benches = []) (n : BitVec 32) : s.cyclePegs n = s := by
  have hfree (b : Nat) : s.bench b = {} := by rw [State.bench, h, Tab.get]
  simp [State.cyclePegs, State.peggedBench, upto, hfree]

theorem stockSpanDone_of_no_stocktakes {s : State} (h : s.span.stocktakes = []) (m : BitVec 32) :
    s.stockSpanDone m = s := by
  have hspan : { s.span with stocktakes := [] } = s.span := by rw [← h]
  simp only [State.stockSpanDone, h, List.filter_nil, List.foldl_nil, hspan]

theorem kingChange_of_no_change {s : State} (h : s.span.change = none) (n : BitVec 32) : s.kingChange n = s := by
  simp only [State.kingChange, h]

/-- What the boundary does at a member for which nothing is due: it looks whether it is aligned, and counts a cycle in
which it is silent. -/
theorem beginCycle_of_quiet_member {s : State} (hstate : s.span.state = .member) (hchange : s.span.change = none)
    (hhand : s.bent.handoverCycle = none) (hbenches : s.clerk.benches = []) (hstock : s.span.stocktakes = []) :
    ∃ v : State,
      v = { s with span := { s.span with begun := true, state := .member, silenced := v.span.silenced }, bent :=
          v.bent } ∧
      s.beginCycle = if v.span.silenced then v.count (spnCount 9) else v := by
  unfold State.beginCycle
  extract_lets _span n _bent e quiet _span' v a b d _span'' f g k
  have hmember : s.boundaryState n = .member := by simp only [State.boundaryState, hstate]
  have hv : v = { s with span := { s.span with begun := true, state := s.boundaryState n, silenced := v.span.silenced }
                         bent := v.bent } := rfl
  rw [hmember] at hv
  have hvhand : v.bent.handoverCycle = none := hhand
  obtain ⟨w, hw, hspan, hbent, hbenches'⟩ : ∃ w, w = (if quiet then v.count (spnCount 9) else v) ∧ w.span = v.span ∧
      w.bent = v.bent ∧ w.clerk.benches = [] := by
    refine ⟨_, rfl, ?_⟩
    split
    · exact ⟨rfl, rfl, hbenches⟩
    · exact ⟨rfl, rfl, hbenches⟩
  have hwstate : w.span.state = .member := by rw [hspan, hv]
  have hking : w.isKing = false := by simp [State.isKing, hwstate]
  have ha : a = w := by
    simp only [a]
    rw [← hw, kingChange_of_no_change (by rw [hspan]; exact hchange),
        stockSpanDone_of_no_stocktakes (by rw [hspan]; exact hstock)]
  have hb : b = w := by simp [b, ha, hbent, hvhand]
  have hd : d = w := by rw [← hb] at hbenches'; exact (cyclePegs_of_no_benches hbenches' n).trans hb
  have hf : f = w := by simp [f, hd, hking]
  have hg : g = w := by simp [g, hf, hking]
  have hk : k = w := by simp [k, hg, hwstate]
  refine ⟨v, hv, ?_⟩
  rw [hk]
  simp only [hking, Bool.false_and, Bool.false_eq_true, if_false]
  exact hw

/-- The boundary of a member for which nothing is due. -/
theorem boundary_of_quiet_member {s : State} (hint : s.integrated = true) (hawake : s.awake = true)
    (hyield : s.span.yieldTo = none) (hbegun : s.span.begun = true) (hstate : s.span.state = .member)
    (hchange : s.span.change = none) (hhand : s.bent.handoverCycle = none) (hbenches : s.clerk.benches = [])
    (hbanks : s.stock.banks = []) (hstock : s.span.stocktakes = []) :
    ∃ v : State, v.span.cycle = s.span.cycle + 1 ∧ v.span.tn = s.nextT ∧ v.span.state = .member ∧ v.span.accepted = [] ∧
      v.cfg = s.cfg ∧ v.hostMem = s.hostMem ∧ v.ctr = s.ctr ∧
      s.boundary = if v.span.silenced then v.count (spnCount 9) else v := by
  obtain ⟨g, hg⟩ : ∃ g, g = (s.advanceToU s.nextT).gatesBefore := ⟨_, rfl⟩
  have hgframe : g = { s with time := g.time, ports := g.ports } := by
    rw [hg, gatesBefore_frame]
    rfl
  have hcapture (n : BitVec 32) (t : Nat) : g.captureAt n t = g :=
    captureAt_of_no_banks (by rw [hgframe]; exact hbanks) n t
  have hboundary : s.boundary = (g.advanceCycle s.nextT).beginCycle := by
    simp only [State.boundary, hint, hawake, hbegun, span_advanceToU, hyield, ← hg, hcapture, Bool.not_true,
        Bool.or_self,
      Bool.false_eq_true, if_false, if_true]
  have hspan : g.span = s.span := by rw [hgframe]
  have hbent : g.bent = s.bent := by rw [hgframe]
  have hclerk : g.clerk = s.clerk := by rw [hgframe]
  obtain ⟨v, hv, hbegin⟩ := beginCycle_of_quiet_member (s := g.advanceCycle s.nextT)
    (by simp only [State.advanceCycle, hspan, hstate]) (by simp only [State.advanceCycle, hspan, hchange])
    (by simp only [State.advanceCycle, hbent, hhand]) (by simp only [State.advanceCycle, hclerk, hbenches])
    (by simp only [State.advanceCycle, hspan, hstock])
  refine ⟨v, ?cycle, ?tn, ?state, ?accepted, ?cfg, ?hostMem, ?ctr, hboundary.trans hbegin⟩
  case cycle =>
    rw [hv]
    exact congrArg (fun x : Span => x.cycle + 1) hspan
  case tn => exact congrArg (fun x : State => x.span.tn) hv
  case state => exact congrArg (fun x : State => x.span.state) hv
  case accepted => exact congrArg (fun x : State => x.span.accepted) hv
  case cfg =>
    have hgkept : g.cfg = s.cfg := by rw [hgframe]
    exact (congrArg State.cfg hv).trans hgkept
  case hostMem =>
    have hgkept : g.hostMem = s.hostMem := by rw [hgframe]
    exact (congrArg State.hostMem hv).trans hgkept
  case ctr =>
    have hgkept : g.ctr = s.ctr := by rw [hgframe]
    exact (congrArg State.ctr hv).trans hgkept

/-! ### Missing bells, R134 -/

/-- A member whose bell is missing counts it and, while they are few, stays. -/
theorem bellMissing_of_few {s : State} (hmember : s.isMember = true) (hseen : s.span.bellSeen = false)
    (hjudged : s.accepts 0x31 0 = false) (hchange : s.span.change = none)
    (hfew : s.span.missedRun + 1 < s.bellLossLimit) :
    ∃ v : State, v = { s with time := v.time, span := v.span } ∧ v.span.state = s.span.state ∧
      v.span.missedRun = s.span.missedRun + 1 ∧ v.span.cycle = s.span.cycle ∧ s.bellMissing = v.count (spnCount 0) := by
  unfold State.bellMissing
  split
  · next htrial => simp [State.isMember, htrial] at hmember
  · extract_lets a n _span b
    have hjudge : (!s.isMember || s.span.bellSeen || s.accepts 0x31 0) = false := by simp [hmember, hseen, hjudged]
    have hstays : (decide (b.bellLossLimit ≤ n) || b.span.change.any (fun ch => ch.target == b.span.cycle)) =
        false := by
      have hbchange : b.span.change = none := hchange
      have hblimit : n < b.bellLossLimit := hfew
      simp [hbchange, hblimit]
    rw [if_neg (by simp [hjudge]), if_neg (by simp [hstays])]
    exact ⟨{ s.advanceToU (s.span.tn + s.lbU) with span := b.span }, rfl, rfl, rfl, rfl, rfl⟩

/-! ### Slots, R126 and R134 -/

/-- A slot of the post's own that nothing is bound to, with nothing to answer or acknowledge, is counted as not
ready. -/
theorem slotLead_of_unbound {s : State} {slot : Nat} (hint : s.integrated = true) (hbegun : s.span.begun = true)
    (hsend : s.maySend = true) (howns : s.ownsSlot s.span.pattern slot = true) (hdone : s.accepts 0x22 slot = false)
    (hunbound : s.statBound s.span.pattern slot = 255) (hreplies : s.clerk.carriedReplies = [])
    (hchange : s.span.change = none) :
    s.slotLead slot = ((s.advanceToU (s.trefSlot s.span.pattern s.span.tn slot - s.readyLead)).accept 0x22 slot 0).count
      (spnCount 11) := by
  unfold State.slotLead
  extract_lets p tref a src b head d ack h _span e
  rw [if_neg (by simp [hint, hbegun, hsend, p, howns, hdone])]
  have hsrc : src = 255 := hunbound
  have hb : b = a := if_pos hsrc
  have hhead : head = none := if_pos hsrc
  have hd : d = a.count (spnCount 11) := by simp [d, hhead, hb]
  have hdchange : d.span.change = none := by rw [hd]; exact hchange
  have hdreplies : d.clerk.carriedReplies = [] := by rw [hd]; exact hreplies
  have hack : ack = none := by simp only [ack, State.acknowledges, hdchange]
  have he : e = d := by simp only [e, hack]
  rw [he]
  simp only [hdreplies, hhead, hack, Option.isSome_none, Bool.false_eq_true, if_false]
  exact hd

/-- A slot of another owner from which no valid copy has come is counted as empty. -/
theorem slotEnds_of_empty {s : State} {slot o : Nat} (howner : s.slotOwner s.span.pattern slot = some o)
    (hint : s.integrated = true) (hbegun : s.span.begun = true) (hdone : s.accepts 0x12 slot = false)
    (hempty : s.accepts 2 slot = false) (hother : s.ownsSlot s.span.pattern slot = false) :
    s.slotEnds slot = ((s.advanceToU (s.trefSlot s.span.pattern s.span.tn (slot + 1))).accept 0x12 slot 0).count
      (ownerCount o 4) := by
  unfold State.slotEnds
  extract_lets p a
  have hnone : (a.accepts 2 slot || a.ownsSlot p slot) = false := by
    have hother' : a.ownsSlot p slot = false := hother
    have hempty' : a.accepts 2 slot = false := by simpa [a, State.accepts, State.accept] using hempty
    rw [hother', hempty']
    rfl
  have hgo : ¬ (!s.integrated || !s.span.begun || s.accepts 0x12 slot) = true := by simp [hint, hbegun, hdone]
  have hcounts : ¬ (a.accepts 2 slot || a.ownsSlot p slot) = true := by simp [hnone]
  simp only [p, howner]
  exact (if_neg hgo).trans (if_neg hcounts)

/-! ### The dynamic segment, R129 -/

theorem dynDecide_of_silent {s : State} (h : s.maySend = false) (n : Nat) : s.dynDecide n = s := by
  simp [State.dynDecide, h]

/-- The first end of a mini-slot of a silent post's cycle begins the dynamic segment: mini-slot 1. -/
theorem miniEnds_first {s : State} (hint : s.integrated = true) (hbegun : s.span.begun = true)
    (hcount : s.span.miniCount = 0) (hmini : imgM s.span.image s.span.pattern ≠ 0) (hsilent : s.maySend = false) :
    ∃ v : State, v = { s with time := v.time } ∧ s.miniEnds = { v with span := { v.span with miniCount := 1 } } := by
  unfold State.miniEnds
  extract_lets p m c o n v _span e
  have hn : n = 1 := if_pos hcount
  have he : e = { v with span := { v.span with miniCount := 1 } } := by
    simp only [e, hn]
    rfl
  have hesilent : e.maySend = false := hsilent
  have hm : ¬ m < n := by
    have : m ≠ 0 := hmini
    omega
  rw [if_neg (by simp [hint, hbegun, m, c, p, hcount, hmini]), if_neg hm, dynDecide_of_silent hesilent]
  exact ⟨v, rfl, he⟩

/-- Settles O18, event by event; that the first MINISLOT_END begins the count at 1 is log entry 66. -/
theorem spanEngineEventsComplete : Obligations.SpanEngineEventsComplete := by
  refine ⟨fun s u hlisten hfrom hcap => ?listen, fun s u r hlisten hfrom hcap htime himg hpat => ?raise,
    fun s hint hawake hyield hbegun hstate hchange _ hhand hbenches _ hbanks hstock => ?boundary,
    fun s hmember hseen hjudged hchange hfew => ?missing,
    fun s slot hint hbegun hsend howns hdone hunbound hreplies hchange => ?lead,
    fun s slot o howner hint hbegun hdone hempty hother => ?slotEnd,
    fun s hint hbegun hcount hmini hsilent => ?mini⟩
  case listen =>
    obtain ⟨v, hv, hpast, hends⟩ := listenEnds_again hlisten hfrom hcap
    refine ⟨_, congrArg ok hends, ?_, ?_, rfl, hpast⟩
    · rw [hv]
    · rw [hv]
      exact hlisten
  case raise =>
    have h := raised_listenEnds hlisten hfrom hcap htime himg hpat
    obtain ⟨hwhole, hfar, hnear⟩ := wholeMillisecond_after s.listenEnds.nowU
    exact ⟨_, rfl, h.state, h.cycle, h.cycValid, h.pattern, by rw [h.tn]; exact hwhole, by rw [h.tn]; exact hfar,
      by rw [h.tn]; exact hnear, h.cfg, h.hostMem⟩
  case boundary =>
    obtain ⟨v, hcycle, htn, hvstate, haccepted, hcfg, hmem, hctr, hends⟩ :=
      boundary_of_quiet_member hint hawake hyield hbegun hstate hchange hhand hbenches hbanks hstock
    have hread : v.counter (spnCount 9) = s.counter (spnCount 9) := by rw [State.counter, hctr, State.counter]
    refine ⟨_, congrArg ok hends, ?_⟩
    split
    · next hsilent =>
      refine ⟨hcycle, htn, hvstate, haccepted, hcfg, hmem, ?_⟩
      rw [State.counter_count, hread, State.count_span, if_pos hsilent]
    · refine ⟨hcycle, htn, hvstate, haccepted, hcfg, hmem, ?_⟩
      rw [hread]
      exact (BitVec.add_zero _).symm
  case missing =>
    obtain ⟨v, hv, hstate, hrun, hcycle, hends⟩ := bellMissing_of_few hmember hseen hjudged hchange hfew
    refine ⟨_, congrArg ok hends, ?_, hstate, hrun, hcycle, ?_⟩
    · rw [hv]
      rfl
    · rw [State.counter_count, hv]
      rfl
  case lead =>
    have hends := slotLead_of_unbound hint hbegun hsend howns hdone hunbound hreplies hchange
    exact ⟨_, congrArg ok hends, rfl, rfl, State.counter_count _ _⟩
  case slotEnd =>
    have hends := slotEnds_of_empty howner hint hbegun hdone hempty hother
    exact ⟨_, congrArg ok hends, rfl, State.counter_count _ _⟩
  case mini =>
    obtain ⟨v, hv, hends⟩ := miniEnds_first hint hbegun hcount hmini hsilent
    exact ⟨_, congrArg ok hends, by rw [hv], rfl⟩

end Sys2Proof.Machine
end

section
/-!
PROOFS. Bench commands with an image or array (R588, R591): what is read, clamped and held.
-/

namespace Sys2Proof.Machine

open Sys2Proof.Claims

/-- A bench command with room in its bench: the setting is held, and the reply is the clamp report. -/
theorem acceptSetting_of_room {u : State} {code : Nat} {c : Cmd} {params image : List Byte} (clamps : List Clamp)
    (hlen : (u.bench c.bench.toNat).settings.length < 4096)
    (hbytes : benchBytes (u.bench c.bench.toNat) + image.length ≤ 67108864) :
    acceptSetting u code c params image clamps =
      .done (accepted u c { opcode := code, params := params, image := image, fn := u.cmdFn c } clamps.length)
        .ok none (clamps.flatMap (clampBytes code)) clamps.length false := by
  have hroom : ¬ (4096 ≤ (u.bench c.bench.toNat).settings.length ∨
      67108864 < benchBytes (u.bench c.bench.toNat) + image.length) := by omega
  simp only [acceptSetting, Bool.or_eq_true, decide_eq_true_eq, hroom, if_false]
  rfl

/-- The command of a row puts the row's parameters, image and clamps into its bench, where the row applies. -/
def PutsIntoBench (r : SettingRow) : Prop :=
  ∀ s c, ∃ eff, exec (r.make c) s = runStep r.code c s eff ∧
    ∀ u, r.holds u c = true → eff u = acceptSetting u r.code c (r.params u c) (r.image u c) (r.clamps u c)

/-- The same, with the row taken apart: the two sides are compared before a field of the row is looked into, which
would run the clamps. -/
theorem putsIntoBench_mk {code : Nat} {make : Cmd → Instr} {holds : State → Cmd → Bool}
    {params image : State → Cmd → List Byte} {clamps : State → Cmd → List Clamp}
    (h : ∀ s c, ∃ eff, exec (make c) s = runStep code c s eff ∧
      ∀ u, holds u c = true → eff u = acceptSetting u code c (params u c) (image u c) (clamps u c)) :
    PutsIntoBench ⟨code, make, holds, params, image, clamps⟩ := h

/-- Rows whose commands put what they say into their bench are accepted while the bench has room. -/
theorem accepts_of_putsIntoBench {t : List SettingRow} (ht : ∀ r ∈ t, PutsIntoBench r) : Accepts t := by
  intro r hr s c hrun hholds hlen hbytes
  obtain ⟨eff, hexec, heff⟩ := ht r hr s c
  rw [hexec]
  exact runStep_done hrun ((heff _ hholds).trans (acceptSetting_of_room _ hlen hbytes))

/-- SET_CUTTING_LIST has a row for each of its two forms; every other command has one. -/
theorem putsIntoBench_imageRows : ∀ r ∈ Claims.imageRows, PutsIntoBench r := by
  have hcut (c : Cmd) (h : (c.f 0 11 1 == 0) = true) : ¬ c.f 0 11 1 = 1 := by
    rw [beq_iff_eq] at h
    omega
  simp only [Claims.imageRows, List.forall_mem_cons, List.not_mem_nil, false_imp_iff, implies_true, and_true]
  refine ⟨?patternSet, ?listWithImage, ?listWithout, ?streams, ?recovery, ?accounts, ?maskRule, ?microcode, ?classRules,
    ?steerEntries, ?hookTable⟩
  all_goals
    apply putsIntoBench_mk
    intro s c
  case listWithImage => exact ⟨_, rfl, fun u h => if_neg (hcut c h)⟩
  case listWithout => exact ⟨_, rfl, fun u h => if_pos (by simpa using h)⟩
  all_goals exact ⟨_, rfl, fun u _ => rfl⟩

/-- Settles O35: each command reads, clamps and hands over what its row says, and the bench has room. -/
theorem benchImagesAreClampedAndHeld : Obligations.BenchImagesAreClampedAndHeld :=
  accepts_of_putsIntoBench putsIntoBench_imageRows

end Sys2Proof.Machine
end

section
/-!
PROOFS. What the parts of a port's scheduler and transmitter can change at one instant (R178, R201, R209, R255, R270,
R299, R307): the counters and their port, and of the port the fields each part owns.
-/

namespace Sys2Proof.Machine

open Sys2Proof.Claims

/-! ### Steps of one port -/

/-- What a part of port p's scheduler does at one instant: only the counters and that port change, and what `k` reads of
the port stays. -/
structure PortStep {α : Type} (k : Port → α) (p : Nat) (s t : State) : Prop where
  frame : t = { s with ports := t.ports, ctr := t.ctr }
  other : ∀ q, q ≠ p → t.port q = s.port q
  keeps : k (t.port p) = k (s.port p)

namespace PortStep

variable {α : Type} {k : Port → α} {p : Nat} {s t u : State}

theorem refl (s : State) : PortStep k p s s := ⟨rfl, fun _ _ => rfl, rfl⟩

theorem trans (h : PortStep k p s t) (g : PortStep k p t u) : PortStep k p s u where
  frame := by rw [g.frame, h.frame]
  other q hq := (g.other q hq).trans (h.other q hq)
  keeps := g.keeps.trans h.keeps

/-- What `k` reads of any port stays. -/
theorem keeps_at (h : PortStep k p s t) (q : Nat) : k (t.port q) = k (s.port q) := by
  by_cases hq : q = p
  · rw [hq, h.keeps]
  · rw [h.other q hq]

/-- A reading that neither ports nor counters enter. -/
theorem reads {β : Type} (h : PortStep k p s t) (f : State → β)
    (hf : ∀ v x, f { s with ports := v, ctr := x } = f s) : f t = f s := by
  rw [h.frame]
  exact hf _ _

theorem only (h : PortStep k p s t) : PortOnly s t p :=
  have htime : t.time = s.time := h.reads (·.time) fun _ _ => rfl
  ⟨by rw [h.frame], ⟨by rw [htime], by rw [htime]⟩, fun q _ hq => h.other q hq⟩

theorem countN (s : State) (o n : Nat) : PortStep k p s (s.countN o n) := ⟨rfl, fun _ _ => rfl, rfl⟩

theorem count (s : State) (o : Nat) : PortStep k p s (s.count o) := countN s o 1

theorem setPort {v : Port} (h : k v = k (s.port p)) : PortStep k p s (s.setPort p v) :=
  ⟨rfl, fun _ hq => State.port_setPort_other s _ _ _ hq, by rw [State.port_setPort, h]⟩

theorem modPort {f : Port → Port} (h : k (f (s.port p)) = k (s.port p)) : PortStep k p s (s.modPort p f) := setPort h

theorem ite {c : Prop} [Decidable c] (h : PortStep k p s t) (g : PortStep k p s u) :
    PortStep k p s (if c then t else u) := by
  split
  · exact h
  · exact g

theorem countIf (s : State) (c : Prop) [Decidable c] (o : Nat) : PortStep k p s (if c then s.count o else s) :=
  ite (count s o) (refl s)

theorem foldl {β : Type} {f : State → β → State} (hf : ∀ u e, PortStep k p u (f u e)) (s : State)
    (l : List β) : PortStep k p s (l.foldl f s) :=
  List.foldlRecOn l f (refl s) fun u hu e _ => hu.trans (hf u e)

end PortStep

/-! ### Time that may pass -/

theorem portOnly_trans {s t u : State} {p : Nat} (h : PortOnly s t p) (g : PortOnly t u p) : PortOnly s u p := by
  obtain ⟨hst, ⟨htime, hticks⟩, hother⟩ := h
  obtain ⟨htu, ⟨gtime, gticks⟩, gother⟩ := g
  refine ⟨?_, ⟨?_, hticks.trans gticks⟩, fun q hq hqp => (gother q hq hqp).trans (hother q hq hqp)⟩
  · rw [htu, hst]
  · rw [gtime, htime]

/-- Nothing has changed but that time may have passed. -/
structure Later (s t : State) : Prop where
  frame : t = { s with time := t.time }
  passed : Passed s t

theorem later_refl (s : State) : Later s s := ⟨rfl, rfl, le_rfl⟩

theorem later_advance (s : State) (n : Nat) : Later s (s.advance n) := ⟨rfl, rfl, Nat.le_add_right _ _⟩

namespace Later

variable {s t : State} {p : Nat}

theorem port (h : Later s t) (p : Nat) : t.port p = s.port p := by
  rw [h.frame]
  rfl

theorem gapRuns (h : Later s t) : gapRuns t p = gapRuns s p := by
  rw [h.frame]
  rfl

theorem only (h : Later s t) : PortOnly s t p := ⟨by rw [h.frame], h.passed, fun q _ _ => h.port q⟩

end Later

/-- Time passes, then the port steps. -/
theorem PortStep.only_after {α : Type} {k : Port → α} {s t : State} {n p : Nat} (h : PortStep k p (s.advance n) t) :
    PortOnly s t p := portOnly_trans (later_advance s n).only h.only

/-! ### The parts -/

namespace PortStep

variable {α : Type} {k : Port → α} {p : Nat}

theorem bringCredit (hk : ∀ v c n, k { v with credit := c, creditAt := n } = k v) (s : State) :
    PortStep k p s (s.bringCredit p) := by
  unfold State.bringCredit
  simp only
  split
  · exact refl s
  · exact setPort (hk _ _ _)

theorem noteGates (hk : ∀ v r l n, k { v with running := r, listPattern := l, noListNow := n } = k v) (s : State) :
    PortStep k p s (s.noteGates p) :=
  ((setPort (hk _ _ _ _)).trans (countIf _ _ _)).trans (countIf _ _ _)

theorem overrunRule (hk : ∀ v w, v.wire = some w → k { v with wire := some { w with overrun := true } } = k v)
    (s : State) : PortStep k p s (s.overrunRule p) := by
  unfold State.overrunRule
  split
  · next w hw => exact ite ((modPort (hk _ w hw)).trans (count _ _)) (refl s)
  · exact refl s

theorem setFlow (hk : ∀ v f g, k { v with flows := f, spill := g } = k v) (s : State) (c n : Nat) (f : Flow) :
    PortStep k p s (s.setFlow p c n f) := ite (modPort (hk _ _ _)) (modPort (hk _ _ _))

theorem noteIdle (hk : ∀ v f g, k { v with flows := f, spill := g } = k v) (s : State) :
    PortStep k p s (s.noteIdle p) := by
  refine foldl (fun u e => ?_) s _
  refine ite (ite (setFlow hk _ _ _ _) (refl u)) (ite ?_ (ite (refl u) (setFlow hk _ _ _ _)))
  exact (setFlow hk _ _ _ _).trans (count _ _)

theorem settleMode (hk : ∀ v n m l, k { v with nested := n, modePending := m, lldpAt := l } = k v) (s : State) :
    PortStep k p s (s.settleMode p) := by
  refine ite (modPort (hk _ _ _ _)) (ite (modPort (hk _ _ _ _)) (ite ?_ (modPort (hk _ _ _ _))))
  exact ((modPort (hk _ _ _ _)).trans (count _ _)).trans (modPort (hk _ _ _ _))

theorem leaveLpi (hk : ∀ v x w, k { v with txLpi := x, wakeAt := w } = k v) (s : State) :
    PortStep k p s (s.leaveLpi p) := ite (refl s) ((setPort (hk _ _ _)).trans (countN _ _ _))

theorem addCtrl (hk : ∀ v l, k { v with ctrl := l } = k v) (s : State) (c : Ctrl) : PortStep k p s (s.addCtrl p c) :=
  modPort (hk _ _)

theorem pauseKey (hk : ∀ v x l, k { v with xoffAt := x, ctrl := l } = k v) (s : State) (key : Nat) :
    PortStep k p s (s.pauseKey p key) := by
  have hxoff (v : Port) x : k { v with xoffAt := x } = k v := hk v x v.ctrl
  have hctrl (v : Port) l : k { v with ctrl := l } = k v := hk v v.xoffAt l
  unfold State.pauseKey
  simp only
  split
  · exact ite ((modPort (hxoff _ _)).trans (addCtrl hctrl _ _)) (refl s)
  · exact ite ((modPort (hxoff _ _)).trans (addCtrl hctrl _ _)) (refl s)

theorem pauseCheck (hk : ∀ v x l, k { v with xoffAt := x, ctrl := l } = k v) (s : State) :
    PortStep k p s (s.pauseCheck p) :=
  ite (refl s) (ite (pauseKey hk s 8) (ite (foldl (pauseKey hk) s _) (refl s)))

end PortStep

/-! ### Counters of a port -/

theorem mmgCount_inj {p j k : Nat} : State.mmgCount p j = State.mmgCount p k ↔ j = k := by
  simp only [State.mmgCount]
  omega

/-- The counters of the MAC merge sublayer and of the gates stand at different offsets. -/
theorem mmgCount_four_ne_gateCount_two (p c : Nat) : State.mmgCount p 4 ≠ State.gateCount p c 2 := by
  simp only [State.mmgCount, State.gateCount, mmgBase, gatBase, prtBase]
  omega

theorem counter_count_other (s : State) {o x : Nat} (h : x ≠ o) : (s.count o).counter x = s.counter x :=
  State.counter_countN_other s o x 1 h

theorem counter_countIf_other (s : State) (c : Prop) [Decidable c] {o x : Nat} (h : x ≠ o) :
    (if c then s.count o else s).counter x = s.counter x := by
  split
  · exact counter_count_other s h
  · rfl

theorem ctr_bringCredit (s : State) (p : Nat) : (s.bringCredit p).ctr = s.ctr := by rw [bringCredit_frame]

theorem counter_settleMode_other (s : State) {p x : Nat} (h : x ≠ State.mmgCount p 16) :
    (s.settleMode p).counter x = s.counter x := by
  unfold State.settleMode
  simp only
  split
  · rfl
  · split
    · rfl
    · split
      · exact counter_count_other (s.modPort p _) h
      · rfl

theorem ctr_pauseKey (s : State) (p key : Nat) : (s.pauseKey p key).ctr = s.ctr := by
  unfold State.pauseKey
  simp only
  split
  · split <;> rfl
  · split <;> rfl

theorem ctr_pauseCheck (s : State) (p : Nat) : (s.pauseCheck p).ctr = s.ctr := by
  unfold State.pauseCheck
  split
  · rfl
  · split
    · exact ctr_pauseKey s p 8
    · split
      · exact List.foldlRecOn (motive := fun u => u.ctr = s.ctr) _ _ rfl fun u hu key _ =>
          (ctr_pauseKey u p key).trans hu
      · rfl

end Sys2Proof.Machine
end

section
/-!
PROOFS. Scheduler events of a port (R178, R191, R206, R209, R213, R221, R222, R255): gates and shapers while a gap runs,
the wire that comes free, the ends of fragments and frames, credits, enqueues and aging. The instants to which an event
moves the clock are log entries 22 and 26.
-/

namespace Sys2Proof.Machine

open Sys2Proof.Claims

/-! ### Decisions while a gap runs -/

/-- The last bit of what is on a port's wire has left. -/
def Port.wireEnded (v : Port) : Bool := v.wire.any (fun w => w.done)

/-- Where the last bit has left, no cut is made. -/
theorem cut_of_wireEnded {s : State} {p : Nat} (h : (s.port p).wireEnded = true) (t : Nat) (mark : Wire → Wire) :
    s.cut p t mark = s := by
  obtain ⟨w, hw, hdone⟩ := (Option.any_eq_true _ _).1 h
  simp [State.cut, hw, hdone]

/-- Where the last bit has left, the decision starts nothing. -/
theorem decideN_of_wireEnded {s : State} {p : Nat} (h : (s.port p).wireEnded = true) (n : Nat) : s.decideN p n = s := by
  obtain ⟨w, hw, hdone⟩ := (Option.any_eq_true _ _).1 h
  cases n with
  | zero => rfl
  | succ n => simp [State.decideN, hw, hdone]

namespace PortStep

variable {α : Type} {k : Port → α} {p : Nat} {s t : State}

theorem holdRule_of_wireEnded (hk : ∀ v h, k { v with holdOn := h } = k v) (hend : (s.port p).wireEnded = true) :
    PortStep k p s (s.holdRule p) := by
  have hstep {β : Type} {j : Port → β} (hj : ∀ v h, j { v with holdOn := h } = j v) (c : Prop) [Decidable c]
      (h : Bool) :
      PortStep j p s ((if c then s.count (State.mmgCount p 5) else s).modPort p (fun t => { t with holdOn := h })) :=
    (countIf _ _ _).trans (modPort (hj _ _))
  unfold State.holdRule
  simp only
  rw [cut_of_wireEnded ((hstep (j := Port.wireEnded) (fun _ _ => rfl) _ _).keeps.trans hend), ite_self]
  exact hstep hk _ _

/-- Lists run by the settings, the span cycle, the fences and the clock. -/
theorem listsRun_eq (h : PortStep k p s t) (q : Nat) : t.listsRun q = s.listsRun q :=
  h.reads (·.listsRun q) fun _ _ => rfl

end PortStep

theorem running_noteGates (s : State) (p : Nat) : ((s.noteGates p).port p).running = s.listsRun p := by
  have hcount (u : State) (c d : Prop) [Decidable c] [Decidable d] (o x : Nat) :
      ((if d then (if c then u.count o else u).count x else (if c then u.count o else u)).port p).running =
        (u.port p).running :=
    ((PortStep.countIf u c o).trans (PortStep.countIf _ d x)).keeps
  rw [State.noteGates, hcount, State.port_setPort]

section Gap

variable {s : State} {p : Nat}

/-- While a gap runs and the frame hold is empty, a decision takes note of the gates and starts nothing. -/
theorem decide_of_gapRuns (hp : p ≤ 24) (hgap : gapRuns s p = true) :
    s.decide_ p = (((s.bringCredit p).noteGates p).holdRule p).overrunRule p ∧
      (((s.bringCredit p).noteGates p).port p).wireEnded = true := by
  obtain ⟨hend, hempty⟩ := Bool.and_eq_true_iff.1 hgap
  have hgates : PortStep Port.wireEnded p s ((s.bringCredit p).noteGates p) :=
    (PortStep.bringCredit (fun _ _ _ => rfl) s).trans (PortStep.noteGates (fun _ _ _ _ => rfl) _)
  have hrules : PortStep Port.wireEnded p s ((((s.bringCredit p).noteGates p).holdRule p).overrunRule p) :=
    (hgates.trans (PortStep.holdRule_of_wireEnded (fun _ _ => rfl) (hgates.keeps.trans hend))).trans
      (PortStep.overrunRule (fun v w hw => by simp [Port.wireEnded, hw]) _)
  have hframes := hrules.reads (·.frames) fun _ _ => rfl
  refine ⟨?_, hgates.keeps.trans hend⟩
  simp only [State.decide_, if_pos hp, hframes, List.isEmpty_iff.1 hempty, List.length_nil, State.clearHeads]
  exact decideN_of_wireEnded (hrules.keeps.trans hend) _

theorem PortStep.decide_of_gapRuns (hp : p ≤ 24) (hgap : gapRuns s p = true) :
    PortStep (fun v => (v.flows, v.spill)) p s (s.decide_ p) := by
  obtain ⟨hdecide, hend⟩ := Machine.decide_of_gapRuns hp hgap
  rw [hdecide]
  exact (((bringCredit (fun _ _ _ => rfl) s).trans (noteGates (fun _ _ _ _ => rfl) _)).trans
    (holdRule_of_wireEnded (fun _ _ => rfl) hend)).trans (overrunRule (fun _ _ _ => rfl) _)

theorem running_decide_of_gapRuns (hp : p ≤ 24) (hgap : gapRuns s p = true) :
    ((s.decide_ p).port p).running = (s.decide_ p).listsRun p := by
  obtain ⟨hdecide, hend⟩ := decide_of_gapRuns hp hgap
  have hrules := (PortStep.holdRule_of_wireEnded (k := Port.running) (fun _ _ => rfl) hend).trans
    (PortStep.overrunRule (fun _ _ _ => rfl) _)
  have hnote := PortStep.noteGates (k := fun _ => ()) (p := p) (fun _ _ _ _ => rfl) (s.bringCredit p)
  rw [hdecide, hrules.keeps, hrules.listsRun_eq, running_noteGates, hnote.listsRun_eq]

end Gap

/-! ### The wire comes free -/

/-- A committed transmission takes the free wire. -/
theorem wireFree_of_commit {s : State} {p : Nat} {v : Wire} (h : (s.port p).commit = some v) :
    PortStep Port.idleFrom p s (s.wireFree p) ∧ ((s.wireFree p).port p).wire = some v ∧
      ((s.wireFree p).port p).commit = none := by
  have hcommit := (PortStep.settleMode (k := Port.commit) (p := p) (fun _ _ _ _ => rfl) s).keeps.trans h
  simp only [State.wireFree, hcommit, port_modPort, and_self, and_true]
  exact ((PortStep.settleMode (fun _ _ _ _ => rfl) s).trans (PortStep.bringCredit (fun _ _ _ => rfl) _)).trans
    (PortStep.modPort rfl)

/-- At the end of a gap the committed transmission starts; the wire has been idle from the gap's end. -/
theorem wireEnds_of_commit {s : State} {p : Nat} {w v : Wire} (hwire : (s.port p).wire = some w) (hdone : w.done = true)
    (hcommit : (s.port p).commit = some v) :
    PortOnly s (s.wireEnds p) p ∧ ((s.wireEnds p).port p).wire = some v ∧ ((s.wireEnds p).port p).commit = none ∧
      ((s.wireEnds p).port p).idleFrom = w.gapEnd := by
  obtain ⟨a, ha⟩ : ∃ a, a = ((s.advanceToQ w.gapEnd).overrunRule p).bringCredit p := ⟨_, rfl⟩
  obtain ⟨b, hb⟩ : ∃ b, b = (a.modPort p (fun t => { t with wire := none, idleFrom := w.gapEnd })).noteIdle p :=
    ⟨_, rfl⟩
  have hstepA : PortStep Port.commit p (s.advanceToQ w.gapEnd) a := by
    rw [ha]
    exact (PortStep.overrunRule (fun _ _ _ => rfl) _).trans (PortStep.bringCredit (fun _ _ _ => rfl) _)
  have hstepB : PortStep Port.commit p a b := by
    rw [hb]
    exact (PortStep.modPort rfl).trans (PortStep.noteIdle (fun _ _ _ => rfl) _)
  have hidle : (b.port p).idleFrom = w.gapEnd := by
    rw [hb, (PortStep.noteIdle (k := Port.idleFrom) (fun _ _ _ => rfl) _).keeps, port_modPort]
  have hends : s.wireEnds p = b.wireFree p := by
    simp only [State.wireEnds, hwire, hdone, hb, ha, Bool.not_true, Bool.false_eq_true, if_false]
  obtain ⟨hstep, hstarts, hnone⟩ := wireFree_of_commit ((hstepA.trans hstepB).keeps.trans hcommit)
  rw [hends]
  exact ⟨portOnly_trans (hstepA.trans hstepB).only_after hstep.only, hstarts, hnone, hstep.keeps.trans hidle⟩

/-- Starting a respond mPacket puts it on the wire and counts it. -/
theorem startCtrl_respond (s : State) (p : Nat) : ∃ w : Wire, w.ctrl = some .respond ∧ s.startCtrl p .respond =
    (s.modPort p (fun t => { t with ctrl := t.ctrl.erase .respond, wire := some w, lastCtrl := some .respond })).count
      (State.mmgCount p 8) := ⟨_, rfl, rfl⟩

/-- A transmitter that does not stand still is not off. -/
theorem txAsleep_of_running {s : State} (h : s.txHalted = false) : s.txAsleep = false := by
  simp only [State.txHalted, Bool.or_eq_false_iff] at h
  obtain ⟨⟨⟨⟨hawake, -⟩, -⟩, -⟩, -⟩ := h
  exact hawake

/-- A respond mPacket that alone waits is next where no list runs. -/
theorem nextCtrl_of_respond {s : State} {p : Nat} (hrun : s.txHalted = false) (hlists : s.listsRun p = false)
    (hctrl : (s.port p).ctrl = [.respond]) : s.nextCtrl p = some .respond := by
  simp [State.nextCtrl, State.gateAt, hlists, txAsleep_of_running hrun, hrun, hctrl, Ctrl.mac]

/-- An mPacket needs nothing of MACsec. -/
theorem clearCtrl_of_respond {s : State} {p : Nat} (hctrl : (s.port p).ctrl = [.respond]) : s.clearCtrl p = s := by
  simp [State.clearCtrl, hctrl, Ctrl.frame]

/-- A port is up by the settings, the fences and its link. -/
theorem PortStep.portUp_eq {p : Nat} {s t : State} (h : PortStep Port.link p s t) : t.portUp p = s.portUp p := by
  rw [State.portUp, State.portUp, h.keeps, h.reads (·.inService p) fun _ _ => rfl, h.reads (·.portsDead) fun _ _ => rfl]

/-- A respond mPacket that alone waits takes the free wire. -/
theorem wireFree_of_respond {s : State} {p : Nat} (hcommit : (s.port p).commit = none) (hrun : s.txHalted = false)
    (hup : s.portUp p = true) (hgates : s.gateScheduled p = false) (hctrl : (s.port p).ctrl = [.respond]) :
    PortOnly s (s.wireFree p) p ∧ ((s.wireFree p).port p).ctrl = [] ∧
      ((s.wireFree p).port p).lastCtrl = some .respond ∧
      ((s.wireFree p).port p).wire.map (·.ctrl) = some (some .respond) ∧
      (s.wireFree p).counter (State.mmgCount p 8) = s.counter (State.mmgCount p 8) + 1 := by
  obtain ⟨u, hu⟩ : ∃ u, u = s.settleMode p := ⟨_, rfl⟩
  have hstep : PortStep (fun v => (v.commit, v.ctrl)) p s u := hu ▸ PortStep.settleMode (fun _ _ _ _ => rfl) s
  obtain ⟨hcommitU, hctrlU⟩ := Prod.mk.inj hstep.keeps
  have hctrl' : (u.port p).ctrl = [.respond] := hctrlU.trans hctrl
  have hup' : u.portUp p = true := by
    rw [hu, (PortStep.settleMode (fun _ _ _ _ => rfl) s).portUp_eq, hup]
  have hrun' : u.txHalted = false := (hstep.reads (·.txHalted) fun _ _ => rfl).trans hrun
  have hlists : u.listsRun p = false := by
    rw [hstep.listsRun_eq, State.listsRun, hgates]
    rfl
  have hfree : s.wireFree p = (u.bringCredit p).startCtrl p .respond := by
    simp only [State.wireFree, ← hu, hcommitU.trans hcommit, clearCtrl_of_respond hctrl', hup',
      nextCtrl_of_respond hrun' hlists hctrl', if_true]
  obtain ⟨w, hw, hstart⟩ := startCtrl_respond (u.bringCredit p) p
  have hctrlB := (PortStep.bringCredit (k := Port.ctrl) (p := p) (fun _ _ _ => rfl) u).keeps.trans hctrl'
  rw [hfree, hstart]
  refine ⟨portOnly_trans hstep.only (PortStep.only (k := fun _ => ()) ?_), ?_, ?_, ?_, ?_⟩
  · exact ((PortStep.bringCredit (fun _ _ _ => rfl) _).trans (PortStep.modPort rfl)).trans (PortStep.count _ _)
  · rw [port_count, port_modPort, hctrlB]
    rfl
  · rw [port_count, port_modPort]
  · rw [port_count, port_modPort, Option.map_some, hw]
  · rw [State.counter_count]
    refine congrArg (· + 1) ?_
    calc (u.bringCredit p).counter (State.mmgCount p 8) = u.counter (State.mmgCount p 8) := by
          rw [State.counter, ctr_bringCredit, State.counter]
      _ = s.counter (State.mmgCount p 8) := by
          rw [hu, counter_settleMode_other s (mt mmgCount_inj.1 (by decide))]

/-! ### Ends of fragments and frames -/

/-- What stays suspended of a frame whose fragment has left. -/
def Wire.suspended (w : Wire) : Susp :=
  { qf := w.qf, cls := w.cls, level := w.level, flow := w.flow, sent := w.upto, count := w.count, nested := w.nested
    frag := if w.from_ = 0 then 0 else (w.frag + 1) % 4, heldAt := w.gapEnd, fitHeld := w.planned, began := w.began }

/-- A fragment that ends on a port whose MAC merge sublayer is active is the last of the suspended ones. -/
theorem suspend_of_active {s : State} {p : Nat} (w : Wire) (hactive : s.mmgActive p = true) (hup : s.portUp p = true) :
    PortStep Port.wire p s (s.suspend p w) ∧
      ((s.suspend p w).port p).suspended = (s.port p).suspended ++ [w.suspended] ∧
      (s.suspend p w).counter (State.mmgCount p 4) = s.counter (State.mmgCount p 4) + 1 := by
  have hactive' : (s.count (State.mmgCount p 4)).mmgActive p = true := hactive
  have hup' : (s.count (State.mmgCount p 4)).portUp p = true := hup
  simp only [State.suspend, hactive', hup', Bool.not_true, Bool.or_self, Bool.false_eq_true, if_false]
  refine ⟨?_, ?_, ?_⟩
  · exact ((((PortStep.count _ _).trans (PortStep.modPort rfl)).trans (PortStep.countIf _ _ _)).trans
      (PortStep.countIf _ _ _)).trans (PortStep.countIf _ _ _)
  · refine ((((PortStep.countIf _ _ _).trans (PortStep.countIf _ _ _)).trans (PortStep.countIf _ _ _)).keeps
      (k := Port.suspended)).trans ?_
    rw [port_modPort]
    rfl
  · rw [counter_countIf_other _ _ (mt mmgCount_inj.1 (by decide)),
      counter_countIf_other _ _ (mmgCount_four_ne_gateCount_two p w.cls),
      counter_countIf_other _ _ (mt mmgCount_inj.1 (by omega))]
    exact State.counter_count _ _

/-- The last bit of what is on a port's wire leaves the MAC. -/
def State.lastBit (s : State) (p : Nat) (w : Wire) : State :=
  (s.advanceToQ w.dataEnd).modPort p (fun t => { t with wire := some { w with done := true } })

theorem port_lastBit (s : State) (p : Nat) (w : Wire) :
    (s.lastBit p w).port p = { s.port p with wire := some { w with done := true } } := port_modPort _ _ _

theorem portOnly_lastBit (s : State) (p : Nat) (w : Wire) : PortOnly s (s.lastBit p w) p :=
  PortStep.only_after (k := fun _ => ()) (PortStep.modPort rfl)

theorem fragmentEnds_eq {s : State} {p : Nat} {w : Wire} (hwire : (s.port p).wire = some w) (hkind : w.kind = .frame)
    (hfinal : w.final = false) (hdone : w.done = false) : s.fragmentEnds p = (s.lastBit p w).suspend p w := by
  simp only [State.fragmentEnds, hwire]
  exact if_neg (by simp [hkind, hfinal, hdone])

theorem fragmentEnds_of_active {s : State} {p : Nat} {w : Wire} (hwire : (s.port p).wire = some w)
    (hkind : w.kind = .frame) (hfinal : w.final = false) (hdone : w.done = false) (hactive : s.mmgActive p = true)
    (hup : s.portUp p = true) :
    PortOnly s (s.fragmentEnds p) p ∧ ((s.fragmentEnds p).port p).wire = some { w with done := true } ∧
      ((s.fragmentEnds p).port p).suspended = (s.port p).suspended ++ [w.suspended] ∧
      (s.fragmentEnds p).counter (State.mmgCount p 4) = s.counter (State.mmgCount p 4) + 1 := by
  have hactive' : (s.lastBit p w).mmgActive p = true := by
    rw [← hactive, State.mmgActive, State.mmgActive, port_lastBit]
  have hup' : (s.lastBit p w).portUp p = true := by
    rw [← hup, State.portUp, State.portUp, port_lastBit]
    rfl
  obtain ⟨hstep, hsusp, hcount⟩ := suspend_of_active w hactive' hup'
  rw [fragmentEnds_eq hwire hkind hfinal hdone]
  refine ⟨portOnly_trans (portOnly_lastBit s p w) hstep.only, ?_, ?_, hcount⟩
  · rw [hstep.keeps, port_lastBit]
  · rw [hsusp, port_lastBit]

theorem frameEnds_ctrl {s : State} {p : Nat} {w : Wire} (hwire : (s.port p).wire = some w) (hkind : w.kind = .ctrl)
    (hfinal : w.final = true) (hdone : w.done = false) : s.frameEnds p = s.lastBit p w := by
  have hends : ¬ (!w.final || w.done) = true := by simp [hfinal, hdone]
  cases w
  cases hkind
  simp only [State.frameEnds, hwire]
  exact if_neg hends

theorem frameEnds_frame {s : State} {p : Nat} {w : Wire} (hwire : (s.port p).wire = some w) (hkind : w.kind = .frame)
    (hfinal : w.final = true) (hdone : w.done = false) (hfrom : w.from_ = 0) :
    s.frameEnds p = (s.lastBit p w).frameSent p w := by
  have hends : ¬ (!w.final || w.done) = true := by simp [hfinal, hdone]
  cases w
  cases hkind
  cases hfrom
  simp only [State.frameEnds, hwire]
  exact if_neg hends

/-- A steered frame waits at port p and at no other destination. -/
structure LastAt (f : Frame) (p : Nat) : Prop where
  egress : f.egress = [p]
  wq : f.wq = none
  window : f.window = false
  slot : f.slot = none
  stage : f.stage = .steered

/-- Released by its last destination, a received frame leaves the hold, and its ingress port checks its counts. -/
theorem releaseEgress_last {s : State} {id p q : Nat} {f : Frame} (hframe : s.frame id = some f)
    (horigin : f.origin = .rx q) (hlast : LastAt f p) :
    ∃ v : State, v = { s with frames := v.frames } ∧ v.frame id = none ∧ s.releaseEgress id p = v.pauseCheck q := by
  refine ⟨(s.modFrame id (fun f => { f with egress := f.egress.filter (· != p) })).setFrame id none, rfl,
    State.frame_setFrame _ _ _, ?_⟩
  have hmod : (s.modFrame id (fun f => { f with egress := f.egress.filter (· != p) })).frame id =
      some { f with egress := [] } := by
    rw [State.modFrame, State.frame_setFrame, hframe]
    simp [hlast.egress]
  simp [State.releaseEgress, State.freeIfDone, State.freeFrame, hmod, hlast.stage, State.Frame.released, hlast.wq,
    hlast.window, hlast.slot, horigin]

theorem received_countTx (s : State) (p dst n : Nat) : Received s (s.countTx p dst n) :=
  (((received_countN s p _ 1).trans (received_countN _ p _ n)).trans (received_countN _ p _ 1)).trans
    (received_countN _ p _ 1)

theorem counter_countTx (s : State) (p dst n : Nat) :
    (s.countTx p dst n).counter (macCount p 0x240) = s.counter (macCount p 0x240) + 1 := by
  have hbin : macCount p 0x240 ≠ macCount p (0x310 + 8 * lenBin n) := by
    simp only [macCount]
    omega
  have hcast : macCount p 0x240 ≠ macCount p (if dst = 2 ^ 48 - 1 then 0x260 else if bit (dst / 2 ^ 40) 0 then 0x258
      else 0x250) := by
    simp only [macCount]
    split
    · omega
    · split
      · omega
      · omega
  simp only [State.countTx]
  rw [counter_count_other _ hcast, counter_count_other _ hbin,
    State.counter_countN_other _ _ _ _ (by simp [macCount]), State.counter_count]

/-- A two-step Sync that leaves has its residence time noted in the joinery. -/
theorem fixResidence_frame (s : State) (f : Frame) (p began : Nat) :
    s.fixResidence f p began = { s with joinery := (s.fixResidence f p began).joinery } := by
  unfold State.fixResidence
  split
  · rfl
  · rfl

/-- A received frame that has left whole and unprotected at its last destination: it is counted and freed, and a
two-step Sync's residence is noted. -/
theorem frameSent_last {s : State} {p q : Nat} {w : Wire} {f : Frame} (hframe : s.frame w.qf.id = some f)
    (horigin : f.origin = .rx q) (hlast : LastAt f p) (hpn : w.qf.pn = none) (hretry : w.retry = false) :
    s.frameSent p w = { s with ports := (s.frameSent p w).ports, ctr := (s.frameSent p w).ctr,
                               frames := (s.frameSent p w).frames, joinery := (s.frameSent p w).joinery } ∧
      ((s.frameSent p w).port p).wire = (s.port p).wire ∧ (s.frameSent p w).frame w.qf.id = none ∧
      (s.frameSent p w).counter (macCount p 0x240) = s.counter (macCount p 0x240) + 1 := by
  obtain ⟨b, hb⟩ : ∃ b, b = s.residenceBytes f p w.began (s.egressBytes f p) := ⟨_, rfl⟩
  obtain ⟨a, ha⟩ : ∃ a, a = s.countTx p (beAt b 0 6) w.qf.total := ⟨_, rfl⟩
  obtain ⟨c, hc⟩ : ∃ c, c = (a.fixResidence f p w.began).modPort p (fun t => { t with lastSent := b }) :=
    ⟨_, rfl⟩
  have hframeA : a = { s with ctr := a.ctr } := ha ▸ (received_countTx s p _ _).frame
  have hframeC : c = { a with ports := c.ports, joinery := c.joinery } := by
    rw [hc, fixResidence_frame]
    rfl
  have hsent : s.frameSent p w = c.releaseEgress w.qf.id p := by
    simp only [State.frameSent, hframe, hpn, hretry, Option.isSome_none, Bool.false_eq_true, if_false, ← hb, ← ha,
      ← hc, State.txRecord, State.copyOf, horigin]
  have hframeId : c.frame w.qf.id = some f := by
    rw [State.frame, hframeC, hframeA]
    exact hframe
  obtain ⟨v, hv, hgone, hrelease⟩ := releaseEgress_last hframeId horigin hlast
  have hcheck : PortStep Port.wire q v (v.pauseCheck q) := PortStep.pauseCheck (fun _ _ _ => rfl) v
  have hctr : (v.pauseCheck q).ctr = a.ctr := by rw [ctr_pauseCheck, hv, hframeC]
  have hcount : a.counter (macCount p 0x240) = s.counter (macCount p 0x240) + 1 := ha ▸ counter_countTx s p _ _
  rw [hsent, hrelease]
  refine ⟨?_, (hcheck.keeps_at p).trans ?_, ?_, (congrArg (Tab.get 0 · _) hctr).trans hcount⟩
  · rw [hcheck.frame, hv, hframeC, hframeA]
  · have hports : v.port p = c.port p := by rw [State.port, hv, State.port]
    have hportA : (a.fixResidence f p w.began).port p = a.port p := by rw [fixResidence_frame, State.port, State.port]
    rw [hports, hc, port_modPort, hportA, State.port, hframeA, State.port]
  · rw [State.frame, hcheck.reads (·.frames) fun _ _ => rfl]
    exact hgone

/-- What a flow of a class holds lies in the port's flows and spill flows. -/
theorem flowAt_frames_congr {s t : State} {p : Nat} (h : ((t.port p).flows, (t.port p).spill) =
    ((s.port p).flows, (s.port p).spill)) (c n : Nat) : (t.flowAt p c n).frames = (s.flowAt p c n).frames := by
  obtain ⟨hflows, hspill⟩ := Prod.mk.inj h
  unfold State.flowAt
  split
  · simp only [hspill]
  · rw [hflows]

/-! ### Gates, shapers and credits -/

/-- A decision at an instant ahead, while a gap runs. -/
theorem decide_later {s u : State} {p : Nat} (hp : p ≤ 24) (hgap : gapRuns s p = true) (hlater : Later s u) :
    PortOnly s (u.decide_ p) p ∧ ((u.decide_ p).port p).running = (u.decide_ p).listsRun p ∧
      (((u.decide_ p).port p).flows, ((u.decide_ p).port p).spill) = ((s.port p).flows, (s.port p).spill) := by
  have hgap' : gapRuns u p = true := hlater.gapRuns.trans hgap
  have hstep := PortStep.decide_of_gapRuns hp hgap'
  exact ⟨portOnly_trans hlater.only hstep.only, running_decide_of_gapRuns hp hgap', by
    rw [hstep.keeps, hlater.port]⟩

theorem gateChanges_eq (s : State) (p : Nat) :
    ∃ u, Later (s.bringCredit p) u ∧ s.gateChanges p = u.decide_ p := by
  unfold State.gateChanges
  simp only
  split
  · exact ⟨_, later_advance _ _, rfl⟩
  · exact ⟨_, later_refl _, rfl⟩

theorem gateChanges_of_gapRuns {s : State} {p : Nat} (hp : p ≤ 24) (hgap : gapRuns s p = true) :
    PortOnly s (s.gateChanges p) p ∧ ((s.gateChanges p).port p).running = (s.gateChanges p).listsRun p ∧
      ((s.gateChanges p).port p).flows = (s.port p).flows := by
  have hcredit : PortStep (fun v => (v.wire, v.flows)) p s (s.bringCredit p) :=
    PortStep.bringCredit (fun _ _ _ => rfl) s
  obtain ⟨hwire, hflows⟩ := Prod.mk.inj hcredit.keeps
  have hgap' : gapRuns (s.bringCredit p) p = true := by
    rw [← hgap, gapRuns, gapRuns, hwire, hcredit.reads (·.frames) fun _ _ => rfl]
  obtain ⟨u, hlater, hu⟩ := gateChanges_eq s p
  obtain ⟨honly, hrun, hkept⟩ := decide_later hp hgap' hlater
  rw [hu]
  exact ⟨portOnly_trans hcredit.only honly, hrun, (Prod.mk.inj hkept).1.trans hflows⟩

theorem shaperReady_eq {s : State} {p c n : Nat} (hne : (s.flowAt p c n).frames ≠ []) :
    ∃ u, Later s u ∧ s.shaperReady p c n = u.decide_ p := by
  simp only [State.shaperReady, List.isEmpty_eq_false_iff.2 hne, Bool.false_eq_true, if_false]
  split
  · exact ⟨_, later_refl _, rfl⟩
  · exact ⟨_, later_advance _ _, rfl⟩

/-- Which class waits is a matter of the flows, the suspended frames and the retries. -/
theorem PortStep.classWaits_eq {s t : State} {p : Nat}
    (h : PortStep (fun v => (v.flows, v.spill, v.suspended, v.retry)) p s t) (c : Nat) :
    t.classWaits p c = s.classWaits p c := by
  obtain ⟨hflows, hspill, hsusp, hretry⟩ : _ ∧ _ ∧ _ ∧ _ := by simpa only [Prod.mk.injEq] using h.keeps
  simp only [State.classWaits, hflows, hspill, hsusp, hretry]

/-- The credit of a class that holds no frame comes up, and nothing is decided. -/
theorem creditReady_of_idle {s : State} {p c : Nat} (hidle : s.classWaits p c = false) :
    Later (s.bringCredit p) (s.creditReady p c) := by
  have hstops {u : State} (hu : Later (s.bringCredit p) u) (v : State) :
      Later (s.bringCredit p) (if u.classWaits p c then v else u) := by
    have hcredit := (PortStep.bringCredit (fun _ _ _ => rfl) s).classWaits_eq (p := p) c
    have hidle' : u.classWaits p c = false := by rw [← hidle, ← hcredit, State.classWaits, hu.port, State.classWaits]
    rw [hidle']
    exact hu
  unfold State.creditReady
  simp only
  split
  · exact hstops (later_advance _ _) _
  · exact hstops (later_refl _) _

/-! ### Enqueues and aging -/

/-- The flow table of a class with one flow written reads as written. -/
theorem flowAt_setFlow_frames (s : State) (p c n : Nat) (f : Flow) :
    ((s.setFlow p c n f).flowAt p c n).frames = f.frames := by
  unfold State.setFlow State.flowAt
  split
  · simp only [port_modPort, Tab.get_set_same]
  · simp only [port_modPort, Tab.get_set_same]

theorem enqueueFlow_ids (s : State) (p c n : Nat) (q : QFrame) :
    ((s.enqueueFlow p c n q).flowAt p c n).frames.map (·.id) = (s.flowAt p c n).frames.map (·.id) ++ [q.id] := by
  simp only [State.enqueueFlow, flowAt_setFlow_frames, List.map_append, List.map_cons, List.map_nil]

theorem PortStep.enqueueFlow {α : Type} {k : Port → α} {p : Nat}
    (hk : ∀ v f g, k { v with flows := f, spill := g } = k v) (s : State) (c n : Nat) (q : QFrame) :
    PortStep k p s (s.enqueueFlow p c n q) := setFlow hk _ _ _ _

/-- The oldest frame on its way to port p, as it waits there. -/
def State.asQueued (s : State) (p id : Nat) (f : Frame) : QFrame :=
  { id := id, len := max 64 ((s.egressBytes f p).length + 4), exp := s.expansion p f.sc, sc := f.sc }

theorem total_asQueued (s : State) (p id : Nat) (f : Frame) :
    (s.asQueued p id f).total = max 64 ((s.egressBytes f p).length + 4) + s.expansion p f.sc := by
  simp only [QFrame.total, State.asQueued]
  omega

/-- MACsec's expansion is a matter of the settings and the port's channels. -/
theorem PortStep.expansion_eq {p : Nat} {s t : State} (h : PortStep Port.sec p s t) (sc : Nat) :
    t.expansion p sc = s.expansion p sc := by
  have hchan (k : Nat) : t.secChan p k = s.secChan p k := congrArg (Tab.get ({} : SecChan) · k) h.keeps
  have htx : t.txChan p sc = s.txChan p sc := by
    unfold State.txChan
    simp only [hchan, h.reads (·.macsecOn p) fun _ _ => rfl,
      h.reads (·.regBits (prtBase p + 0x3C) 16 8) fun _ _ => rfl]
  rw [State.expansion, htx, hchan, State.expansion]

/-- A frame that fits its port, whose lists stand still, joins the flow bound to its tag; that flow holds frames
already, so nothing is decided. -/
theorem enqueue_eq {s : State} {p id n : Nat} {l : List Nat} {f : Frame} (harr : (s.port p).arriving = id :: l)
    (hframe : s.frame id = some f) (hlen : (s.asQueued p id f).total ≤ s.maxLen p) (hlists : s.listsRun p = false)
    (hbound : s.boundFlow p f.cls f.ftag = some n) (hne : (s.flowAt p f.cls n).frames ≠ []) :
    s.enqueue p = (((s.modPort p (fun t => { t with arriving := l })).bringCredit p).leaveLpi p).enqueueFlow p f.cls n
      (s.asQueued p id f) := by
  obtain ⟨a, ha⟩ : ∃ a, a = s.modPort p (fun t => { t with arriving := l }) := ⟨_, rfl⟩
  obtain ⟨b, hb⟩ : ∃ b, b = (a.bringCredit p).leaveLpi p := ⟨_, rfl⟩
  have hstepA : PortStep (fun v => (v.flows, v.spill)) p s a := ha ▸ PortStep.modPort rfl
  have hstepB : PortStep (fun v => (v.flows, v.spill)) p s b := by
    rw [hb]
    exact (hstepA.trans (PortStep.bringCredit (fun _ _ _ => rfl) _)).trans (PortStep.leaveLpi (fun _ _ _ => rfl) _)
  have hframe' : a.frame id = some f := by rw [ha]; exact hframe
  have hexp : a.expansion p f.sc = s.expansion p f.sc := PortStep.expansion_eq (ha ▸ PortStep.modPort rfl) _
  have hqueued : a.asQueued p id f = s.asQueued p id f := by
    rw [State.asQueued, hexp, State.asQueued, hstepA.reads (·.egressBytes f p) fun _ _ => rfl]
  have hlen' : ¬ a.maxLen p < (a.asQueued p id f).total := by
    rw [hqueued, hstepA.reads (·.maxLen p) fun _ _ => rfl]
    exact Nat.not_lt.2 hlen
  have hfits : a.neverFits p f.cls (a.asQueued p id f) = false := by
    simp [State.neverFits, hstepA.listsRun_eq, hlists]
  have hserve : b.serveFlow p f.cls f.ftag = (n, b) := by
    have hflows : (b.port p).flows = (s.port p).flows := (Prod.mk.inj hstepB.keeps).1
    have hbound' : b.boundFlow p f.cls f.ftag = some n := by rw [State.boundFlow, hflows]; exact hbound
    simp only [State.serveFlow, hbound']
  have hne' : (b.flowAt p f.cls n).frames.isEmpty = false := by
    rw [flowAt_frames_congr hstepB.keeps]
    exact List.isEmpty_eq_false_iff.2 hne
  unfold State.asQueued at hlen' hfits
  simp only [State.enqueue, harr, ← ha, hframe', hlen', hfits, ← hb, hserve, hne', Bool.false_eq_true, if_false]
  exact congrArg _ hqueued

theorem enqueue_of_bound {s : State} {p id n : Nat} {l : List Nat} {f : Frame} (harr : (s.port p).arriving = id :: l)
    (hframe : s.frame id = some f) (hlen : (s.asQueued p id f).total ≤ s.maxLen p) (hlists : s.listsRun p = false)
    (hbound : s.boundFlow p f.cls f.ftag = some n) (hne : (s.flowAt p f.cls n).frames ≠ []) :
    PortOnly s (s.enqueue p) p ∧ ((s.enqueue p).port p).arriving = l ∧
      ((s.enqueue p).flowAt p f.cls n).frames.map (·.id) = (s.flowAt p f.cls n).frames.map (·.id) ++ [id] ∧
      ((s.enqueue p).port p).vtime = (s.port p).vtime := by
  obtain ⟨a, ha⟩ : ∃ a, a = s.modPort p (fun t => { t with arriving := l }) := ⟨_, rfl⟩
  obtain ⟨b, hb⟩ : ∃ b, b = (a.bringCredit p).leaveLpi p := ⟨_, rfl⟩
  have hstepA : PortStep (fun v => (v.flows, v.spill)) p s a := ha ▸ PortStep.modPort rfl
  have hportA : a.port p = { s.port p with arriving := l } := ha ▸ port_modPort _ _ _
  have hstepB : PortStep (fun v => (v.flows, v.spill, v.arriving, v.vtime)) p a b := by
    rw [hb]
    exact (PortStep.bringCredit (fun _ _ _ => rfl) _).trans (PortStep.leaveLpi (fun _ _ _ => rfl) _)
  have hqueue : s.enqueue p = b.enqueueFlow p f.cls n (s.asQueued p id f) := by
    rw [enqueue_eq harr hframe hlen hlists hbound hne, hb, ha]
  have hstep : PortStep (fun v => (v.arriving, v.vtime)) p b (s.enqueue p) := by
    rw [hqueue]
    exact PortStep.enqueueFlow (fun _ _ _ => rfl) _ _ _ _
  obtain ⟨hflowsB, hspillB, harrB, hvtimeB⟩ : _ ∧ _ ∧ _ ∧ _ := by
    simpa only [Prod.mk.injEq] using hstepB.keeps
  obtain ⟨harrE, hvtimeE⟩ := Prod.mk.inj hstep.keeps
  refine ⟨portOnly_trans hstepA.only (portOnly_trans hstepB.only hstep.only), ?_, ?_, ?_⟩
  · rw [harrE, harrB, hportA]
  · have hflows : (b.flowAt p f.cls n).frames = (s.flowAt p f.cls n).frames :=
      flowAt_frames_congr (by rw [hflowsB, hspillB, hportA]) _ _
    rw [hqueue, enqueueFlow_ids, hflows]
    rfl
  · rw [hvtimeE, hvtimeB, hportA]

/-- A learned context that has aged out is released and counted. -/
theorem flowAges_eq {s : State} {p n since : Nat} {f : Flow} (hf : f = Tab.get {} (s.port p).flows n) (hn : n ≠ 0)
    (hnum : f.number ≠ 0) (hstatic : f.static = false) (hempty : f.frames = []) (hsince : f.idleFrom = some since)
    (hbusy : s.flowBusy p f.cls n = false) : s.flowAges p n =
      ((s.advanceTo (since + msTicks (s.reg (qsvBase p + 0xC)))).modPort p (fun t =>
        { t with flows := Tab.set {} t.flows n {} })).count (State.qsvCount p f.cls 6) := by
  simp only [State.flowAges, ← hf, hsince, hstatic, hempty, hbusy, hn, hnum, State.setFlow, decide_false,
    List.isEmpty_nil, Bool.not_true, Bool.or_self, Bool.false_eq_true, if_false]

/-- Settles O21, event by event. -/
theorem portSchedulerEventsComplete : Obligations.PortSchedulerEventsComplete := by
  refine ⟨fun s p hp hgap => ?gateEntryChange, fun s p w v hp hwire hdone hcommit => ?committedStarts,
    fun s p hp hwire hcommit hrun hup _ hgates hctrl => ?ownFrameStarts,
    fun s p w hp hwire hkind hfinal hdone hactive hup => ?fragmentEnd,
    fun s p w hp hwire hkind hfinal hdone => ?ownFrameEnds,
    fun s p w f hp hwire hkind hfinal hdone hpn hretry hfrom hframe hrx hegress hwq hwindow hslot hstage _ =>
      ?frameEnds,
    fun s p c hp hc hcbs hidle => ?credit, fun s p c n hp hc hn hne hgap => ?shaper,
    fun s p id n l f hp harr hframe hlen hlists hbound hne => ?enqueue,
    fun s p n since hp hn hnum hstatic hempty hsince hbusy => ?flowAge⟩
  case gateEntryChange => exact ⟨_, congrArg ok (if_pos hp), gateChanges_of_gapRuns hp hgap⟩
  case committedStarts => exact ⟨_, congrArg ok (if_pos hp), wireEnds_of_commit hwire hdone hcommit⟩
  case ownFrameStarts =>
    have hends : s.wireEnds p = s.wireFree p := by simp only [State.wireEnds, hwire]
    exact ⟨_, congrArg ok ((if_pos hp).trans hends), wireFree_of_respond hcommit hrun hup hgates hctrl⟩
  case fragmentEnd =>
    obtain ⟨honly, hnow, hsusp, hcount⟩ := fragmentEnds_of_active hwire hkind hfinal hdone hactive hup
    refine ⟨_, congrArg ok (if_pos hp), honly, hnow, ?_, ?_, hcount⟩
    · rw [hsusp, List.length_append, List.length_singleton]
    · rw [hsusp, List.getLast?_concat]
      rfl
  case ownFrameEnds =>
    exact ⟨_, congrArg ok ((if_pos hp).trans (frameEnds_ctrl hwire hkind hfinal hdone)), portOnly_lastBit s p w,
      by rw [port_lastBit], by rw [port_lastBit], rfl⟩
  case frameEnds =>
    obtain ⟨q, horigin⟩ : ∃ q, f.origin = .rx q := by
      cases h : f.origin with
      | rx q => exact ⟨q, rfl⟩
      | tx q sn => simp [h, FrameOrigin.isRx] at hrx
      | clerk => simp [h, FrameOrigin.isRx] at hrx
    obtain ⟨hsent, hnow, hgone, hcount⟩ := frameSent_last (s := s.lastBit p w) hframe horigin
      ⟨hegress, hwq, hwindow, hslot, hstage⟩ hpn hretry
    refine ⟨_, congrArg ok ((if_pos hp).trans (frameEnds_frame hwire hkind hfinal hdone hfrom)), ?_, ?_, ?_, hcount⟩
    · rw [hsent]
      rfl
    · rw [hnow, port_lastBit]
    · rw [hgone]
      rfl
  case credit =>
    have hstep : PortStep (fun v => (v.wire, v.flows)) p s (s.bringCredit p) :=
      PortStep.bringCredit (fun _ _ _ => rfl) s
    have hlater := creditReady_of_idle hidle
    obtain ⟨hwire, hflows⟩ := Prod.mk.inj hstep.keeps
    refine ⟨_, congrArg ok (if_pos (by simp [hp, hc, hcbs])), portOnly_trans hstep.only hlater.only, ?_, ?_, ?_⟩
    · rw [hlater.port, hwire]
    · rw [hlater.port, hflows]
    · rw [hlater.frame]
      exact ctr_bringCredit s p
  case shaper =>
    obtain ⟨u, hlater, hready⟩ := shaperReady_eq hne
    obtain ⟨honly, hrun, hkept⟩ := decide_later hp hgap hlater
    exact ⟨_, congrArg ok ((if_pos (by simp [hp, hc, hn])).trans hready), honly, flowAt_frames_congr hkept c n,
      hrun⟩
  case enqueue =>
    exact ⟨_, congrArg ok (if_pos hp),
      enqueue_of_bound harr hframe ((total_asQueued s p id f).trans_le hlen) hlists hbound hne⟩
  case flowAge =>
    refine ⟨_, congrArg ok ((if_pos hp).trans (flowAges_eq rfl hn hnum hstatic hempty hsince hbusy)), ?_, ?_, ?_⟩
    · exact ((PortStep.modPort (k := fun _ => ()) rfl).trans (PortStep.count _ _)).only_after
    · rw [port_count, port_modPort, Tab.get_set_same]
    · exact State.counter_count _ _

end Sys2Proof.Machine
end

section
/-!
PROOFS. The MAC merge sublayer (R260 to R270): the verify state machine, reassembly buffers, LLDPDUs sent and taken, and
the change of operation. That R261's rows for fragments do not ask for ENABLE is log entry 95; the instants to which a
timer's event moves the clock are log entry 26.
-/

namespace Sys2Proof.Machine

open Sys2Proof.Claims

/-! ### Frames of the device's own while the wire is taken -/

/-- While the wire is taken, something new to send does no more than take the transmitter out of LPI. -/
theorem kick_of_wire {s : State} {p : Nat} (h : (s.port p).wire.isSome = true) : s.kick p = s.leaveLpi p := by
  have hwire : ((s.leaveLpi p).port p).wire = (s.port p).wire :=
    (PortStep.leaveLpi (k := Port.wire) (fun _ _ _ => rfl) s).keeps
  obtain ⟨w, hw⟩ := Option.isSome_iff_exists.1 h
  simp only [State.kick, hwire, hw, Option.isNone_some, Bool.false_and, Bool.false_eq_true, if_false]

theorem PortStep.kick_of_wire {α : Type} {k : Port → α} {s : State} {p : Nat}
    (hk : ∀ v x w, k { v with txLpi := x, wakeAt := w } = k v) (h : (s.port p).wire.isSome = true) :
    PortStep k p s (s.kick p) := by
  rw [Machine.kick_of_wire h]
  exact PortStep.leaveLpi hk s

/-- A frame of the device's own joins those that wait while the wire is taken. -/
theorem addCtrl_kick_of_wire {s : State} {p : Nat} (c : Ctrl) (h : (s.port p).wire.isSome = true) :
    PortStep Port.verify p s ((s.addCtrl p c).kick p) ∧
      (((s.addCtrl p c).kick p).port p).ctrl = (s.port p).ctrl ++ [c] := by
  have hwire : ((s.addCtrl p c).port p).wire.isSome = true := by rw [port_addCtrl, h]
  refine ⟨(PortStep.addCtrl (fun _ _ => rfl) s c).trans (PortStep.kick_of_wire (fun _ _ _ => rfl) hwire), ?_⟩
  rw [(PortStep.kick_of_wire (k := Port.ctrl) (fun _ _ _ => rfl) hwire).keeps, port_addCtrl]

theorem verifySend_of_unsent {s : State} {p : Nat} (hverify : (s.port p).verify = .sendVerify)
    (hup : s.portUp p = true) (hnew : (s.port p).ctrl.contains .verify = false) :
    s.verifySend p = (s.addCtrl p .verify).kick p := by
  simp only [State.verifySend, hverify, hup, hnew, bne_self_eq_false, Bool.not_true, Bool.or_self, Bool.false_eq_true,
    if_false]

/-- The agent's LLDPDU waits at the port, and the next is due in 30 s. -/
def State.lldpQueued (s : State) (p : Nat) : State :=
  (s.addCtrl p (.lldp (s.mmgAdvert p))).modPort p (fun t => { t with lldpAt := some (s.time.ticks + secTicks 30) })

theorem port_lldpQueued (s : State) (p : Nat) : (s.lldpQueued p).port p = { s.port p with
    ctrl := (s.port p).ctrl ++ [.lldp (s.mmgAdvert p)], lldpAt := some (s.time.ticks + secTicks 30) } := by
  rw [State.lldpQueued, port_modPort, port_addCtrl]

theorem PortStep.lldpQueued (s : State) (p : Nat) : PortStep (fun _ => ()) p s (s.lldpQueued p) :=
  (PortStep.addCtrl (fun _ _ => rfl) s _).trans (PortStep.modPort rfl)

/-- What the agent advertises is no matter of the clock. -/
theorem Later.mmgAdvert {s t : State} (h : Later s t) (p : Nat) : t.mmgAdvert p = s.mmgAdvert p := by
  rw [h.frame]
  rfl

/-- Where the agent runs on a port that is up, it sends when it is due. -/
theorem lldpSend_eq {s : State} {p : Nat} (hmmg : s.mmgEnable p = true)
    (hagent : s.regBits (mmgBase p + 4) 6 1 = 0) (hup : s.portUp p = true) :
    ∃ u, Later s u ∧ s.lldpSend p = (u.lldpQueued p).kick p := by
  simp only [State.lldpSend, hmmg, hagent, hup, Bool.not_true, Bool.or_self, Bool.false_eq_true, if_false,
    Nat.zero_ne_one, decide_false]
  split
  · exact ⟨_, later_advance s _, rfl⟩
  · exact ⟨s, later_refl s, rfl⟩

theorem lldpSend_of_wire {s : State} {p : Nat} (hmmg : s.mmgEnable p = true)
    (hagent : s.regBits (mmgBase p + 4) 6 1 = 0) (hup : s.portUp p = true) (hwire : (s.port p).wire.isSome = true) :
    PortOnly s (s.lldpSend p) p ∧ ((s.lldpSend p).port p).ctrl = (s.port p).ctrl ++ [.lldp (s.mmgAdvert p)] ∧
      ((s.lldpSend p).port p).lldpAt = some ((s.lldpSend p).time.ticks + secTicks 30) := by
  obtain ⟨u, hlater, hsend⟩ := lldpSend_eq hmmg hagent hup
  have hqueue := PortStep.lldpQueued u p
  have hwire' : ((u.lldpQueued p).port p).wire.isSome = true := by rw [port_lldpQueued, hlater.port, hwire]
  have hkick : PortStep (fun t => (t.ctrl, t.lldpAt)) p (u.lldpQueued p) (s.lldpSend p) :=
    hsend ▸ PortStep.kick_of_wire (fun _ _ _ => rfl) hwire'
  obtain ⟨hctrl, hnext⟩ := Prod.mk.inj hkick.keeps
  refine ⟨portOnly_trans hlater.only (portOnly_trans hqueue.only hkick.only), ?_, ?_⟩
  · rw [hctrl, port_lldpQueued, hlater.port, hlater.mmgAdvert]
  · rw [hnext, port_lldpQueued, hkick.reads (·.time) fun _ _ => rfl, hqueue.reads (·.time) fun _ _ => rfl]

/-! ### Messages to the foreman and the counters of other blocks -/

/-- A fault message changes the foreman, its counters and the free values. -/
theorem raise_frame (s : State) (src kind cls : Nat) (addr : Option Nat) (access master : Nat) :
    ∃ f x n, s.raise src kind cls addr access master = { s with flt := f, ctr := x, free := n } := by
  obtain ⟨t, ht⟩ : ∃ t, t = s.raise src kind cls addr access master := ⟨_, rfl⟩
  refine ⟨t.flt, t.ctr, t.free, ?_⟩
  rw [← ht]
  exact (congrArg (fun u : State => { u with flt := t.flt, ctr := t.ctr, free := t.free }) ht).trans
    (raise_keeps (fun u => { u with flt := t.flt, ctr := t.ctr, free := t.free }) s src kind cls addr access master
      (fun _ _ => rfl) (fun _ _ => rfl) (fun _ _ => rfl))

section Below

variable {x : Nat} (hx : x < fltBase)

include hx

theorem counter_count_fault (s : State) (n : Nat) : (s.count (fltBase + n)).counter x = s.counter x :=
  counter_count_other s (Nat.ne_of_lt (Nat.lt_add_right n hx))

theorem counter_fillSlot_below (s : State) (m : FaultMsg) : (s.fillSlot m).counter x = s.counter x := by
  unfold State.fillSlot
  simp only
  split
  · rfl
  · simp only [classCounter, kindCounter, Nat.add_assoc, counter_count_fault hx]
    rfl

theorem counter_escalate_below (s : State) (m : FaultMsg) : (s.escalate m).2.counter x = s.counter x := by
  unfold State.escalate
  simp only
  split
  · rfl
  · split
    · exact counter_count_fault hx _ _
    · rfl

theorem counter_raiseMsg_below (s : State) (m : FaultMsg) : (s.raiseMsg m).counter x = s.counter x := by
  unfold State.raiseMsg
  split
  · rfl
  · exact (counter_fillSlot_below hx _ _).trans (counter_escalate_below hx _ _)

/-- What a message counts, it counts in the foreman's block. -/
theorem counter_raise_below (s : State) (src kind cls : Nat) (addr : Option Nat) (access master : Nat) :
    (s.raise src kind cls addr access master).counter x = s.counter x := by
  cases addr with
  | none => exact counter_raiseMsg_below hx _ _
  | some a => exact counter_raiseMsg_below hx _ _

end Below

theorem mmgCount_lt_fltBase {p : Nat} (hp : p ≤ 23) (k : Nat) (hk : k ≤ 17) : State.mmgCount p k < fltBase := by
  simp only [State.mmgCount, mmgBase, prtBase, fltBase]
  omega

/-! ### The verify state machine -/

/-- Below the attempts limit the machine sends another verify mPacket. -/
theorem verifyTimeout_retries {s : State} {p u : Nat} (hverify : (s.port p).verify = .waitResponse)
    (hat : (s.port p).verifyAt = some u) (hlimit : (s.port p).attempts < s.regBits (mmgBase p + 4) 16 8) :
    s.verifyTimeout p =
      (s.advanceTo u).modPort p (fun t => { t with verify := .sendVerify, verifyAt := none }) := by
  simp only [State.verifyTimeout, hverify, hat]
  exact if_pos hlimit

/-- At the attempts limit the machine fails, and tells the foreman. -/
theorem verifyTimeout_fails {s : State} {p u : Nat} (hverify : (s.port p).verify = .waitResponse)
    (hat : (s.port p).verifyAt = some u) (hlimit : s.regBits (mmgBase p + 4) 16 8 ≤ (s.port p).attempts) :
    s.verifyTimeout p = (((s.advanceTo u).modPort p (fun t => { t with verify := .failed, verifyAt := none })).count
      (State.mmgCount p 6)).raise (portSource p) 0x23 1 := by
  simp only [State.verifyTimeout, hverify, hat]
  exact if_neg (Nat.not_lt.2 hlimit)

theorem verifyTimeout_of_spent {s : State} {p u : Nat} (hp : p ≤ 23) (hverify : (s.port p).verify = .waitResponse)
    (hat : (s.port p).verifyAt = some u) (hlimit : s.regBits (mmgBase p + 4) 16 8 ≤ (s.port p).attempts) :
    ∃ t, s.verifyTimeout p = t ∧
      t = { s with time := t.time, ports := t.ports, ctr := t.ctr, flt := t.flt, free := t.free } ∧
      (t.port p).verify = .failed ∧ t.counter (State.mmgCount p 6) = s.counter (State.mmgCount p 6) + 1 := by
  obtain ⟨v, hv⟩ : ∃ v, v = ((s.advanceTo u).modPort p (fun t =>
      { t with verify := .failed, verifyAt := none })).count (State.mmgCount p 6) := ⟨_, rfl⟩
  obtain ⟨f, x, n, hraise⟩ := raise_frame v (portSource p) 0x23 1 none 0 0
  have hports : (v.raise (portSource p) 0x23 1).port p = v.port p := by
    rw [hraise]
    rfl
  refine ⟨_, hv ▸ verifyTimeout_fails hverify hat hlimit, ?_, ?_, ?_⟩
  · rw [hraise, hv]
    rfl
  · rw [hports, hv, port_count, port_modPort]
  · rw [counter_raise_below (mmgCount_lt_fltBase hp 6 (by decide)), hv]
    exact State.counter_count _ _

/-- Nested operation is a matter of the settings, the verify state and the partner's values. -/
theorem PortStep.wantsNested_eq {s t : State} {p : Nat}
    (h : PortStep (fun v => (v.verify, v.partnerLz, v.lzVersion, v.lzFlags)) p s t) :
    t.wantsNested p = s.wantsNested p := by
  obtain ⟨hverify, hlz, hversion, hflags⟩ : _ ∧ _ ∧ _ ∧ _ := by simpa only [Prod.mk.injEq] using h.keeps
  simp only [State.wantsNested, State.mmgActive, hverify, hlz, hversion, hflags,
    h.reads (·.regBits (mmgBase p + 4) 2 1) fun _ _ => rfl]

/-- Entering SUCCEEDED: the port starts in the operation that R269 gives. -/
theorem mmgSucceed_spec (s : State) (p : Nat) :
    PortStep Port.partnerUntil p s (s.mmgSucceed p) ∧ ((s.mmgSucceed p).port p).verify = .succeeded ∧
      ((s.mmgSucceed p).port p).verifyAt = none ∧
      ((s.mmgSucceed p).port p).nested = (s.mmgSucceed p).wantsNested p := by
  obtain ⟨a, ha⟩ : ∃ a, a = s.modPort p (fun t => { t with verify := .succeeded, verifyAt := none }) := ⟨_, rfl⟩
  have henters : s.mmgSucceed p =
      (a.modPort p (fun t => { t with nested := a.wantsNested p, modePending := false })).advertChanged p := by
    rw [ha]
    rfl
  have hstart {β : Type} {k : Port → β}
      (hk : ∀ v n m l, k { v with nested := n, modePending := m, lldpAt := l } = k v) :
      PortStep k p a (s.mmgSucceed p) := by
    rw [henters]
    exact (PortStep.modPort (hk _ _ _ _)).trans (PortStep.modPort (hk _ _ _ _))
  have hstep : PortStep Port.partnerUntil p s a := ha ▸ PortStep.modPort rfl
  have hkept := (hstart (k := fun v => (v.verify, v.verifyAt)) fun _ _ _ _ => rfl).keeps
  obtain ⟨hverify, hat⟩ := Prod.mk.inj hkept
  refine ⟨hstep.trans (hstart fun _ _ _ _ => rfl), ?_, ?_, ?_⟩
  · rw [hverify, ha, port_modPort]
  · rw [hat, ha, port_modPort]
  · rw [(hstart fun _ _ _ _ => rfl).wantsNested_eq, henters, State.advertChanged, port_modPort, port_modPort]

/-! ### The change of operation -/

/-- Where no frame is suspended, the operation becomes what R269 gives, and the change is counted. -/
theorem settleMode_changes {s : State} {p : Nat} (hactive : s.mmgActive p = true)
    (hwant : s.wantsNested p ≠ (s.port p).nested) (hnone : (s.port p).suspended = []) :
    s.settleMode p = ((s.modPort p (fun t => { t with nested := s.wantsNested p, modePending := false })).count
      (State.mmgCount p 16)).advertChanged p := by
  simp only [State.settleMode, hactive, beq_eq_false_iff_ne.2 hwant, hnone, List.isEmpty_nil, Bool.not_true,
    Bool.false_eq_true, if_false, if_true]

/-- While a frame is suspended, the change is pending. -/
theorem settleMode_waits {s : State} {p : Nat} (hactive : s.mmgActive p = true)
    (hwant : s.wantsNested p ≠ (s.port p).nested) (hheld : (s.port p).suspended ≠ []) :
    s.settleMode p = s.modPort p (fun t => { t with modePending := true }) := by
  simp only [State.settleMode, hactive, beq_eq_false_iff_ne.2 hwant, List.isEmpty_eq_false_iff.2 hheld, Bool.not_true,
    Bool.false_eq_true, if_false]

/-! ### Receiving on a port that is up -/

/-- On a post that is awake, what a port that is up receives goes on. -/
theorem linkGate_of_portUp {s : State} {p : Nat} (hup : s.portUp p = true) (hawake : s.asleep = false)
    (go : State → State) : s.linkGate p go = go s := by
  obtain ⟨⟨hserv, hlink⟩, -⟩ : (s.inService p = true ∧ ((s.port p).link == .up) = true) ∧ _ := by
    simpa only [State.portUp, Bool.and_eq_true] using hup
  simp only [State.linkGate, hserv, bne, hlink, hawake, Bool.not_true, Bool.false_eq_true, if_false]

theorem execFragmentRx_of_portUp {s : State} {p : Nat} (hp : p ≤ 23) (hup : s.portUp p = true)
    (hawake : s.asleep = false) (smd frag crc u : Nat) (b : List Byte) :
    exec (.fragmentRx p smd frag crc b u) s = ok (s.fragmentRx p smd frag crc b u) :=
  congrArg ok ((if_neg (by omega)).trans (linkGate_of_portUp hup hawake _))

/-! ### Reassembly buffers, R260 and R261 -/

/-- SMD-S0 begins a frame under count 0. -/
theorem fragmentRx_smdS0 {p : Nat} (hp : p ≤ 23) (s : State) (frag crc u : Nat) (b : List Byte) :
    s.fragmentRx p 0xE6 frag crc b u = s.firstFragment p 0 crc b u := if_neg (by omega)

/-- SMD-C0 continues the frame under count 0. -/
theorem fragmentRx_smdC0 {p : Nat} (hp : p ≤ 23) (s : State) (frag crc u : Nat) (b : List Byte) :
    s.fragmentRx p 0x61 frag crc b u = s.contFragment p 0 frag crc b := if_neg (by omega)

/-- A first fragment that is not the last opens a buffer, where one is free and its count is not in use. -/
theorem firstFragment_opens {s : State} {p k u : Nat} (b : List Byte)
    (hnew : (s.port p).reasm.any (fun r => r.count == k) = false) (hroom : (s.port p).reasm.length < 3) :
    s.firstFragment p k 0 b u =
      (s.setReasm p ((s.port p).reasm ++ [{ count := k, data := b, since := s.time.ticks, rxTime := u }])).count
        (State.mmgCount p 3) := by
  simp only [State.firstFragment, hnew, Nat.not_le.2 hroom, Bool.false_eq_true, if_false]
  rfl

/-- The continuation that is due, and not the last, extends its buffer. -/
theorem contFragment_extends {s : State} {p : Nat} {b : List Byte} {r : Reasm} (hreasm : (s.port p).reasm = [r])
    (hcount : r.count = 0) (hnext : r.nextFrag = 0) (hfits : r.data.length + b.length ≤ 16384) :
    s.contFragment p 0 0xE6 0 b =
      (s.setReasm p [{ r with data := r.data ++ b, nextFrag := 1 }]).count (State.mmgCount p 3) := by
  have hdue : State.smdStart 0xE6 = some 0 := rfl
  simp [State.contFragment, hreasm, hcount, hdue, hnext, Nat.not_lt.2 hfits]

/-- A continuation under a count that no buffer holds is counted in SMD_ERROR. -/
theorem contFragment_of_no_buffer {s : State} {p k : Nat} (frag crc : Nat) (b : List Byte)
    (hnone : (s.port p).reasm.any (fun r => r.count == k) = false) :
    s.contFragment p k frag crc b = s.count (State.mmgCount p 1) := by
  have hfind : (s.port p).reasm.find? (fun r => r.count == k) = none := by simpa using hnone
  simp only [State.contFragment, hfind]

/-- A buffer list and its count: only the port's buffers and the counter change. -/
theorem count_setReasm_spec (s : State) (p o : Nat) (l : List Reasm) :
    PortOnly s ((s.setReasm p l).count o) p ∧ (((s.setReasm p l).count o).port p).reasm = l ∧
      ((s.setReasm p l).count o).counter o = s.counter o + 1 := by
  refine ⟨((PortStep.modPort (k := fun _ => ()) rfl).trans (PortStep.count _ _)).only, ?_, State.counter_count _ _⟩
  rw [port_count, State.setReasm, port_modPort]

/-! ### The partner's values, R264 and R266 -/

theorem dropSuspended_of_none {s : State} {p : Nat} (h : (s.port p).suspended = []) :
    s.dropSuspended p = s.modPort p (fun t => { t with suspended := [] }) := by
  simp only [State.dropSuspended, h, List.foldl_nil]

namespace PortStep

variable {α β : Type} {k : Port → α} {s t : State} {p : Nat}

/-- What is a matter of what stays, stays. -/
theorem map (f : α → β) (h : PortStep k p s t) : PortStep (fun v => f (k v)) p s t :=
  ⟨h.frame, h.other, congrArg f h.keeps⟩

theorem mmgStop (next : Verify) (h : (s.port p).suspended = []) :
    PortStep Port.partnerUntil p s (s.mmgStop p next) := by
  obtain ⟨a, ha⟩ : ∃ a, a = if (s.port p).verify == .succeeded then s.advertChanged p else s := ⟨_, rfl⟩
  have hstep : PortStep (fun v => (v.partnerUntil, v.suspended)) p s a := ha ▸ ite (modPort rfl) (refl s)
  have hsusp := (Prod.mk.inj hstep.keeps).2
  have hnone : ((a.modPort p (fun t =>
      { t with verify := next, verifyAt := none, modePending := false, reasm := [] })).port p).suspended = [] := by
    rw [port_modPort, hsusp, h]
  simp only [State.mmgStop, ← ha, dropSuspended_of_none hnone]
  exact (hstep.map Prod.fst).trans ((modPort rfl).trans (modPort rfl))

theorem verifyStep (s : State) (p : Nat) : PortStep Port.partnerUntil p s (s.verifyStep p) :=
  (ite (modPort rfl) (refl s)).trans (ite (ite (mmgSucceed_spec _ p).1 (modPort rfl)) (refl _))

theorem partnerChanged (old79 : Bool) (oldCaps : Nat) (h : (s.port p).suspended = []) :
    PortStep Port.partnerUntil p s (s.partnerChanged p old79 oldCaps) := by
  refine PortStep.trans ?_ ((verifyStep _ p).trans (settleMode (fun _ _ _ _ => rfl) _))
  split
  · exact ite (modPort rfl) (refl s)
  · exact ite (modPort rfl) (refl s)
  · exact ite (refl s) (mmgStop _ h)
  · exact refl s

end PortStep

/-- The partner's values stand until their TTL has passed. -/
theorem setPartner_spec {s : State} {p : Nat} (c79 lz : Bool) (caps flags version ttl : Nat)
    (h : (s.port p).suspended = []) :
    PortStep (fun _ => ()) p s (s.setPartner p c79 lz caps flags version ttl) ∧
      ((s.setPartner p c79 lz caps flags version ttl).port p).partnerUntil = some (s.time.ticks + secTicks ttl) := by
  obtain ⟨v, hv⟩ : ∃ v : Port, v = { s.port p with
      partner79 := c79, caps79 := if c79 then caps % 32 else 0, partnerLz := lz
      lzFlags := if lz then flags % 16 else 0, lzVersion := if lz then version % 256 else 0
      partnerUntil := some (s.time.ticks + secTicks ttl) } := ⟨_, rfl⟩
  have hnone : ((s.setPort p v).port p).suspended = [] := by rw [State.port_setPort, hv, h]
  have hstep := PortStep.partnerChanged (s.port p).partner79 (s.port p).caps79 hnone
  have htake : s.setPartner p c79 lz caps flags version ttl =
      (s.setPort p v).partnerChanged p (s.port p).partner79 (s.port p).caps79 := by
    rw [hv]
    rfl
  have hset : PortStep (fun _ => ()) p s (s.setPort p v) := PortStep.setPort rfl
  rw [htake]
  exact ⟨hset.trans (hstep.map fun _ => ()), by rw [hstep.keeps, State.port_setPort, hv]⟩

/-- The agent takes the partner's values from an LLDPDU. -/
theorem lldpTake_spec {s : State} {p : Nat} (b : List Byte) (hmmg : s.mmgEnable p = true)
    (hagent : s.regBits (mmgBase p + 4) 6 1 = 0) (hnone : (s.port p).suspended = []) :
    PortStep (fun _ => ()) p s (s.lldpTake p b) ∧ ((s.lldpTake p b).port p).partnerUntil.isSome = true := by
  obtain ⟨c79, lz, caps, flags, version, ttl, htake⟩ : ∃ c79 lz caps flags version ttl,
      s.lldpTake p b = s.setPartner p c79 lz caps flags version ttl :=
    ⟨_, _, _, _, _, _, if_neg (by simp [hmmg, hagent])⟩
  obtain ⟨hstep, huntil⟩ := setPartner_spec c79 lz caps flags version ttl hnone
  rw [htake]
  exact ⟨hstep, by rw [huntil, Option.isSome_some]⟩

/-- Values that expire on a port whose machine is DISABLED and whose sublayer is not enabled bring no transition. -/
theorem partnerChanged_of_disabled {s : State} {p : Nat} (old79 : Bool) (oldCaps : Nat)
    (hverify : (s.port p).verify = .disabled) (hoff : s.mmgEnable p = false) :
    s.partnerChanged p old79 oldCaps = s.settleMode p := by
  have hstep : s.verifyStep p = s := by simp [State.verifyStep, hverify, hoff]
  simp only [State.partnerChanged, hverify, hstep]

/-- The partner's values expire on such a port. -/
theorem partnerExpires_of_disabled {s : State} {p u : Nat} (huntil : (s.port p).partnerUntil = some u)
    (hverify : (s.port p).verify = .disabled) (hoff : s.mmgEnable p = false) :
    PortOnly s (s.partnerExpires p) p ∧ ((s.partnerExpires p).port p).partner79 = false ∧
      ((s.partnerExpires p).port p).partnerLz = false ∧ ((s.partnerExpires p).port p).partnerUntil = none ∧
      u ≤ (s.partnerExpires p).time.ticks := by
  obtain ⟨v, hv⟩ : ∃ v : Port, v = { s.port p with
      partner79 := false, caps79 := 0, partnerLz := false, lzFlags := 0, lzVersion := 0, partnerUntil := none } :=
    ⟨_, rfl⟩
  have hexpires : s.partnerExpires p = ((s.advanceTo u).setPort p v).settleMode p := by
    have hverify' : (((s.advanceTo u).setPort p v).port p).verify = .disabled := by
      rw [State.port_setPort, hv, hverify]
    have hoff' : ((s.advanceTo u).setPort p v).mmgEnable p = false := hoff
    rw [← partnerChanged_of_disabled (s.port p).partner79 (s.port p).caps79 hverify' hoff', hv]
    simp only [State.partnerExpires, huntil]
    rfl
  have hstep : PortStep (fun t => (t.partner79, t.partnerLz, t.partnerUntil)) p ((s.advanceTo u).setPort p v)
      (s.partnerExpires p) := hexpires ▸ PortStep.settleMode (fun _ _ _ _ => rfl) _
  have hset : PortStep (fun _ => ()) p (s.advanceTo u) ((s.advanceTo u).setPort p v) := PortStep.setPort rfl
  have htime : (s.partnerExpires p).time = (s.advanceTo u).time := hstep.reads (·.time) fun _ _ => rfl
  obtain ⟨h79, hlz, hgone⟩ : _ ∧ _ ∧ _ := by simpa only [State.port_setPort, Prod.mk.injEq] using hstep.keeps
  refine ⟨(hset.trans (hstep.map fun _ => ())).only_after, ?_, ?_, ?_, ?_⟩
  · rw [h79, hv]
  · rw [hlz, hv]
  · rw [hgone, hv]
  · rw [htime]
    exact le_ticks_advanceTo s u

/-! ### A frame enters the frame hold -/

/-- A reading that counters do not enter. -/
theorem Received.reads {β : Type} {s t : State} (h : Received s t) (f : State → β)
    (hf : ∀ x, f { s with ctr := x } = f s) : f t = f s := by
  rw [h.frame]
  exact hf _

/-- A whole frame that the MAC accepts, on a port without MACsec, is counted and goes to the frame hold. -/
theorem takeFrame_of_clear {s : State} {p : Nat} {b : List Byte} (u : Nat)
    (hmac : s.macError p (b.length + 4) false = none) (hsec : s.macsecOn p = false) :
    ∃ a, Received s a ∧ s.takeFrame p b false false u = a.holdFrame p b false false 0 u := by
  have hcount := received_countRx s p (beAt b 0 6) (b.length + 4)
  have hsec' : (s.countRx p (beAt b 0 6) (b.length + 4)).macsecOn p = false :=
    (hcount.reads (·.macsecOn p) fun _ => rfl).trans hsec
  refine ⟨_, hcount, ?_⟩
  simp only [State.takeFrame, hmac, State.secRx, hsec', Bool.false_and, Bool.not_false, Bool.false_eq_true, if_false,
    if_true]

/-- Where the frame hold has room, the frame gets the next number, its place in its port's order, and counts against
the port's pause marks. -/
theorem holdFrame_of_room {s : State} {b : List Byte} (hroom : State.cellsOf b.length ≤ s.holdFree) (p : Nat)
    (cut bad : Bool) (err u : Nat) :
    ∃ f, s.holdFrame p b cut bad err u = ((s.addFrame f).2.orderAdd p s.nextFrame).pauseCheck p :=
  ⟨_, if_neg (Nat.not_lt.2 hroom)⟩

/-- A frame that is neither a knock frame nor MAC control enters the frame hold. -/
theorem frameRx_of_room {s : State} {p : Nat} {b : List Byte} (u : Nat)
    (hmac : s.macError p (b.length + 4) false = none) (hknock : s.isKnock p b = false) (hctrl : beAt b 12 2 ≠ 0x8808)
    (hsec : s.macsecOn p = false) (hroom : State.cellsOf b.length ≤ s.holdFree) :
    ∃ t, s.frameRx p b false false u = t ∧
      t = { s with
        ports := t.ports, ctr := t.ctr, frames := t.frames, nextFrame := t.nextFrame, joinery := t.joinery } ∧
      (t.port p).partnerUntil = (s.port p).partnerUntil ∧ t.nextFrame = s.nextFrame + 1 := by
  obtain ⟨a, hcount, htake⟩ := takeFrame_of_clear u hmac hsec
  have hroom' : State.cellsOf b.length ≤ a.holdFree := hroom.trans_eq (hcount.reads (·.holdFree) fun _ => rfl).symm
  obtain ⟨f, hheld⟩ := holdFrame_of_room hroom' p false false 0 u
  obtain ⟨v, hv⟩ : ∃ v, v = (a.addFrame f).2.orderAdd p a.nextFrame := ⟨_, rfl⟩
  have hcheck : PortStep Port.partnerUntil p v (v.pauseCheck p) := PortStep.pauseCheck (fun _ _ _ => rfl) v
  have hgoes : s.frameRx p b false false u = v.pauseCheck p := by
    rw [hv, ← hheld, ← htake]
    simp only [State.frameRx, hknock, beq_eq_false_iff_ne.2 hctrl, Bool.false_eq_true, if_false]
  refine ⟨_, hgoes, ?_, ?_, ?_⟩
  · rw [hcheck.frame, hv, hcount.frame]
    rfl
  · rw [hcheck.keeps, hv, hcount.frame]
    rfl
  · rw [hcheck.reads (·.nextFrame) fun _ _ => rfl, hv, hcount.frame]
    rfl

/-- Of an LLDPDU the agent takes the partner's values, and the frame goes on as any other. -/
theorem lldpduRx_of_room {s : State} {p : Nat} {b : List Byte} (u : Nat) (hp : p ≤ 23) (hup : s.portUp p = true)
    (hawake : s.asleep = false) (hmac : s.macError p (b.length + 4) false = none) (hmmg : s.mmgEnable p = true)
    (hagent : s.regBits (mmgBase p + 4) 6 1 = 0) (hnone : (s.port p).suspended = []) (hctrl : beAt b 12 2 ≠ 0x8808)
    (hknock : s.isKnock p b = false) (hsec : s.macsecOn p = false) (hroom : State.cellsOf b.length ≤ s.holdFree) :
    ∃ t, exec (.lldpduRx p b u) s = .next t ∧
      t = { s with
        ports := t.ports, ctr := t.ctr, frames := t.frames, nextFrame := t.nextFrame, joinery := t.joinery } ∧
      (t.port p).partnerUntil.isSome = true ∧ t.nextFrame = s.nextFrame + 1 := by
  obtain ⟨hstep, huntil⟩ := lldpTake_spec b hmmg hagent hnone
  have hexec : exec (.lldpduRx p b u) s = .next ((s.lldpTake p b).frameRx p b false false u) := by
    refine congrArg ok ((if_neg (by omega)).trans ((linkGate_of_portUp hup hawake _).trans ?_))
    simp only [hp, hmac, Option.isNone_none, decide_true, Bool.and_self, if_true]
  obtain ⟨t, ht, hframe, hkept, hnext⟩ := frameRx_of_room (s := s.lldpTake p b) u
    ((hstep.reads (·.macError p (b.length + 4) false) fun _ _ => rfl).trans hmac)
    ((hstep.reads (·.isKnock p b) fun _ _ => rfl).trans hknock) hctrl
    ((hstep.reads (·.macsecOn p) fun _ _ => rfl).trans hsec)
    (hroom.trans_eq (hstep.reads (·.holdFree) fun _ _ => rfl).symm)
  refine ⟨t, hexec.trans (congrArg ok ht), ?_, ?_, ?_⟩
  · rw [hframe, hstep.frame]
  · rw [hkept, huntil]
  · rw [hnext, hstep.reads (·.nextFrame) fun _ _ => rfl]

/-- Settles O22, event by event. That the clauses on fragments do not ask for ENABLE is log entry 95, and that a timer's
event moves the clock to its instant, as where the partner's values expire, is log entry 26. -/
theorem macMergeEventsComplete : Obligations.MacMergeEventsComplete := by
  refine ⟨fun s p hp hverify hup hwire hnew => ?verifySend, fun s p u hp hverify hat hlimit => ?verifyRetries,
    fun s p u hp hverify hat hlimit => ?verifyFails, fun s p hp hup hawake hmmg hwire => ?verifyRx,
    fun s p hp hup hawake hverify => ?respondRx, fun s p u b hp hup hawake hnew hroom => ?firstFragment,
    fun s p u b r hp hup hawake hreasm hcount hnext hfits => ?continuation,
    fun s p u crc b hp hup hawake hnone => ?strayContinuation, fun s p hmmg hagent hup hwire _ => ?lldpTx,
    fun s p u b hp hup hawake hmac hmmg hagent hnone hlldp hknock hsec hroom => ?lldpduRx,
    fun s p u hp huntil hverify hoff => ?partnerExpires, fun s p hp hactive hwant hnone => ?modeChanges,
    fun s p hp hactive hwant hheld => ?modeWaits⟩
  case verifySend =>
    obtain ⟨hstep, hctrl⟩ := addCtrl_kick_of_wire .verify hwire
    exact ⟨_, congrArg ok ((if_pos hp).trans (verifySend_of_unsent hverify hup hnew)), hstep.only, hctrl,
      hstep.keeps.trans hverify⟩
  case verifyRetries =>
    refine ⟨_, congrArg ok ((if_pos hp).trans (verifyTimeout_retries hverify hat hlimit)), ?_, ?_, ?_, rfl⟩
    · exact (PortStep.modPort (k := fun _ => ()) rfl).only_after
    · rw [port_modPort]
    · rw [port_modPort]
  case verifyFails =>
    obtain ⟨t, ht, hleaves⟩ := verifyTimeout_of_spent hp hverify hat hlimit
    exact ⟨t, congrArg ok ((if_pos hp).trans ht), hleaves⟩
  case verifyRx =>
    obtain ⟨hstep, hctrl⟩ := addCtrl_kick_of_wire .respond hwire
    refine ⟨_, congrArg ok ((if_neg (by omega)).trans ((linkGate_of_portUp hup hawake _).trans (if_neg ?_))),
      hstep.only, hctrl⟩
    simp [hmmg]
  case respondRx =>
    obtain ⟨hstep, hleaves⟩ := mmgSucceed_spec s p
    refine ⟨_, congrArg ok ((if_neg (by omega)).trans ((linkGate_of_portUp hup hawake _).trans (if_neg ?_))),
      hstep.only, hleaves⟩
    simp [hverify]
  case firstFragment =>
    exact ⟨_, (execFragmentRx_of_portUp hp hup hawake _ _ _ _ _).trans (congrArg ok
      ((fragmentRx_smdS0 hp s _ _ _ _).trans (firstFragment_opens b hnew hroom))), count_setReasm_spec s p _ _⟩
  case continuation =>
    exact ⟨_, (execFragmentRx_of_portUp hp hup hawake _ _ _ _ _).trans (congrArg ok
      ((fragmentRx_smdC0 hp s _ _ _ _).trans (contFragment_extends hreasm hcount hnext hfits))),
      count_setReasm_spec s p _ _⟩
  case strayContinuation =>
    exact ⟨_, (execFragmentRx_of_portUp hp hup hawake _ _ _ _ _).trans (congrArg ok
      ((fragmentRx_smdC0 hp s _ _ _ _).trans (contFragment_of_no_buffer _ _ _ hnone))), rfl, State.counter_count _ _⟩
  case lldpTx => exact ⟨_, rfl, lldpSend_of_wire hmmg hagent hup hwire⟩
  case lldpduRx =>
    exact lldpduRx_of_room u hp hup hawake hmac hmmg hagent hnone (by rw [hlldp]; decide) hknock hsec hroom
  case partnerExpires => exact ⟨_, congrArg ok (if_pos hp), partnerExpires_of_disabled huntil hverify hoff⟩
  case modeChanges =>
    refine ⟨_, congrArg ok ((if_pos hp).trans (settleMode_changes hactive hwant hnone)), ?_, ?_, ?_, ?_⟩
    · exact PortStep.only (((PortStep.modPort (k := fun _ => ()) rfl).trans (PortStep.count _ _)).trans
        (PortStep.modPort rfl))
    · rw [State.advertChanged, port_modPort, port_count, port_modPort]
    · rw [State.advertChanged, port_modPort, port_count, port_modPort]
    · exact State.counter_count _ _
  case modeWaits =>
    refine ⟨_, congrArg ok ((if_pos hp).trans (settleMode_waits hactive hwant hheld)), ?_, ?_, ?_, rfl⟩
    · exact (PortStep.modPort (k := fun _ => ()) rfl).only
    · rw [port_modPort]
    · rw [port_modPort]

end Sys2Proof.Machine
end

section
/-!
PROOFS. The canonical form of memory and counters (O5, O6). `Canon` holds of a state whose host memory, bulk memory and
counters are in canonical form. Each function of the model that answers a state gets one lemma of its own name, in the
model's order: the states it answers are canonical when those it takes are. A function that only calls others has the
chain of their lemmas for its proof.
-/

namespace Sys2Proof.Machine

/-- Host memory, bulk memory and counters are in canonical form. -/
abbrev Canon (s : State) : Prop := Memory.wf s = true

/-! #### Updates of other fields -/

theorem Canon.withPending {s : State} (h : Canon s) {v} : Canon { s with pending := v } := h
theorem Canon.withFree {s : State} (h : Canon s) {v} : Canon { s with free := v } := h
theorem Canon.withCfg {s : State} (h : Canon s) {v} : Canon { s with cfg := v } := h
theorem Canon.withLatches {s : State} (h : Canon s) {v} : Canon { s with latches := v } := h
theorem Canon.withGlb {s : State} (h : Canon s) {v} : Canon { s with glb := v } := h
theorem Canon.withTime {s : State} (h : Canon s) {v} : Canon { s with time := v } := h
theorem Canon.withQueues {s : State} (h : Canon s) {v} : Canon { s with queues := v } := h
theorem Canon.withBooks {s : State} (h : Canon s) {v} : Canon { s with books := v } := h
theorem Canon.withNotices {s : State} (h : Canon s) {v} : Canon { s with notices := v } := h
theorem Canon.withNextSn {s : State} (h : Canon s) {v} : Canon { s with nextSn := v } := h
theorem Canon.withDeliveries {s : State} (h : Canon s) {v} : Canon { s with deliveries := v } := h
theorem Canon.withMsixPending {s : State} (h : Canon s) {v} : Canon { s with msixPending := v } := h
theorem Canon.withClerk {s : State} (h : Canon s) {v} : Canon { s with clerk := v } := h
theorem Canon.withSpan {s : State} (h : Canon s) {v} : Canon { s with span := v } := h
theorem Canon.withPorts {s : State} (h : Canon s) {v} : Canon { s with ports := v } := h
theorem Canon.withFrames {s : State} (h : Canon s) {v} : Canon { s with frames := v } := h
theorem Canon.withNextFrame {s : State} (h : Canon s) {v} : Canon { s with nextFrame := v } := h
theorem Canon.withFlt {s : State} (h : Canon s) {v} : Canon { s with flt := v } := h
theorem Canon.withPwr {s : State} (h : Canon s) {v} : Canon { s with pwr := v } := h
theorem Canon.withHost {s : State} (h : Canon s) {v} : Canon { s with host := v } := h
theorem Canon.withMem {s : State} (h : Canon s) {v} : Canon { s with mem := v } := h
theorem Canon.withStock {s : State} (h : Canon s) {v} : Canon { s with stock := v } := h
theorem Canon.withBoard {s : State} (h : Canon s) {v} : Canon { s with board := v } := h
theorem Canon.withDray {s : State} (h : Canon s) {v} : Canon { s with dray := v } := h
theorem Canon.withBent {s : State} (h : Canon s) {v} : Canon { s with bent := v } := h
theorem Canon.withStream {s : State} (h : Canon s) {v} : Canon { s with stream := v } := h
theorem Canon.withJoinery {s : State} (h : Canon s) {v} : Canon { s with joinery := v } := h
theorem Canon.withAssay {s : State} (h : Canon s) {v} : Canon { s with assay := v } := h
theorem Canon.withReadData {s : State} (h : Canon s) {v} : Canon { s with readData := v } := h
theorem Canon.withReadBad {s : State} (h : Canon s) {v} : Canon { s with readBad := v } := h

/-- An update of several fields, none of them memory or counters. -/
theorem Canon.update {s t : State} (h : Canon s) (hm : t.hostMem = s.hostMem := by rfl)
    (hb : t.bulk = s.bulk := by rfl) (hc : t.ctr = s.ctr := by rfl) : Canon t := wf_of_same h hm hb hc

/-! #### Branches and folds -/

theorem Canon.branch {s t : State} {c : Prop} {d : Decidable c} (h : Canon s) (g : Canon t) :
    Canon (if c then s else t) := by
  split
  · exact h
  · exact g

theorem Canon.branchSnd {α : Type} {r q : α × State} {c : Prop} {d : Decidable c} (h : Canon r.2) (g : Canon q.2) :
    Canon (if c then r else q).2 := by
  split
  · exact h
  · exact g

theorem Canon.foldl {α : Type} {s : State} {f : State → α → State} (h : Canon s)
    (hf : ∀ u, Canon u → ∀ x, Canon (f u x)) {l : List α} : Canon (l.foldl f s) := by
  induction l generalizing s with
  | nil => exact h
  | cons x l ih => exact ih (hf s h x)

/-- The state that an effect leaves is in canonical form. -/
def Eff.Canon : Eff → Prop
  | .done s .. => Machine.Canon s
  | .wait s .. => Machine.Canon s

theorem Canon.branchEff {e f : Eff} {c : Prop} {d : Decidable c} (h : e.Canon) (g : f.Canon) :
    (if c then e else f).Canon := by
  split
  · exact h
  · exact g

/-- The step answers a next state, and that is in canonical form. -/
def Result.Canon : Result → Prop
  | .next s => Machine.Canon s
  | _ => False

/-! #### The operations that write memory and counters, and those built on them alone -/

theorem Canon.countN {s : State} (h : Canon s) {o n} : Canon (s.countN o n) := countN_wf h o n
theorem Canon.count {s : State} (h : Canon s) {o} : Canon (s.count o) := count_wf h o
theorem Canon.touchTlp {s : State} (h : Canon s) {f} : Canon (s.touchTlp f) := touchTlp_wf h f
theorem Canon.writeHost {s : State} (h : Canon s) {f a v} : Canon (s.writeHost f a v) := writeHost_wf h f a v
theorem Canon.writeBulk {s : State} (h : Canon s) {a v} : Canon (s.writeBulk a v) := writeBulk_wf h a v
theorem Canon.sendMsix {s : State} (h : Canon s) {f v} : Canon (s.sendMsix f v) := sendMsix_wf h f v
theorem Canon.fillSlot {s : State} (h : Canon s) {m} : Canon (s.fillSlot m) := fillSlot_wf h m
theorem Canon.escalate {s : State} (h : Canon s) {m} : Canon (s.escalate m).2 := escalate_wf h m
theorem Canon.raiseMsg {s : State} (h : Canon s) {m} : Canon (s.raiseMsg m) := raiseMsg_wf h m
theorem Canon.sendTb {s : State} (h : Canon s) {p} : Canon (s.sendTb p) := sendTb_wf h p
theorem Canon.completionNotice {s : State} (h : Canon s) {q i k st tag sn} :
    Canon (s.completionNotice q i k st tag sn) :=
  completionNotice_wf h q i k st tag sn
theorem Canon.finishCmd {s : State} (h : Canon s) {c code st d reply n x y} :
    Canon (s.finishCmd c code st d reply n x y) := finishCmd_wf h c code st d reply n x y
theorem Canon.fenceSweep {s : State} (h : Canon s) : Canon s.fenceSweep := fenceSweep_wf h
theorem Canon.detailWord {s : State} (h : Canon s) {d} : Canon (s.detailWord d).2 := detailWord_wf h d
theorem Canon.toPartner {s : State} (h : Canon s) {code c} : Canon (s.toPartner code c).2 := toPartner_wf h code c
theorem Canon.runCmd {s : State} (h : Canon s) {code c eff} (heff : ∀ u, Canon u → (eff u).Canon) :
    Canon (s.runCmd code c eff) :=
  runCmd_wf h code c eff (fun u v st d reply n x hu e => by have := heff u hu; rwa [e] at this)
    (fun u v k n hu e => by have := heff u hu; rwa [e] at this)
theorem Canon.runStep {s : State} (h : Canon s) {code c eff} (heff : ∀ u, Canon u → (eff u).Canon) :
    Result.Canon (runStep code c s eff) := h.runCmd heff

end Sys2Proof.Machine
end

section
/-!
PROOFS. Every step keeps the canonical form: the functions of Machine/Ops.lean.
-/

namespace Sys2Proof.Machine

/-! #### The shared operations of the machine -/

theorem Canon.ok {s : State} (h : Canon s) : Result.Canon (ok s) := h

/-! #### Settings words and counters -/

theorem Canon.setReg {s : State} (h : Canon s) {o v} : Canon (s.setReg o v) := h.withCfg

theorem Canon.setRegBits {s : State} (h : Canon s) {o lo w v} : Canon (s.setRegBits o lo w v) := h.setReg

theorem Canon.setReg64 {s : State} (h : Canon s) {o v} : Canon (s.setReg64 o v) := h.setReg.setReg

/-! #### Free values -/

theorem Canon.fresh {s : State} (h : Canon s) : Canon s.fresh.2 := h.withFree

/-! #### Collections -/

theorem Canon.setPort {s : State} (h : Canon s) {p v} : Canon (s.setPort p v) := h.withPorts

theorem Canon.modPort {s : State} (h : Canon s) {p f} : Canon (s.modPort p f) := h.setPort

theorem Canon.setQueue {s : State} (h : Canon s) {q v} : Canon (s.setQueue q v) := h.withQueues

theorem Canon.modQueue {s : State} (h : Canon s) {q f} : Canon (s.modQueue q f) := h.setQueue

theorem Canon.setBook {s : State} (h : Canon s) {b v} : Canon (s.setBook b v) := h.withBooks

theorem Canon.modBook {s : State} (h : Canon s) {b f} : Canon (s.modBook b f) := h.setBook

theorem Canon.setPtime {s : State} (h : Canon s) {p v} : Canon (s.setPtime p v) := h.withTime

theorem Canon.modPtime {s : State} (h : Canon s) {p f} : Canon (s.modPtime p f) := h.setPtime

theorem Canon.setPtpInst {s : State} (h : Canon s) {i v} : Canon (s.setPtpInst i v) := h.withTime

theorem Canon.setBench {s : State} (h : Canon s) {b v} : Canon (s.setBench b v) := h.withClerk

theorem Canon.setFrame {s : State} (h : Canon s) {id f} : Canon (s.setFrame id f) := h.withFrames

theorem Canon.modFrame {s : State} (h : Canon s) {id f} : Canon (s.modFrame id f) := h.setFrame

theorem Canon.addFrame {s : State} (h : Canon s) {f} : Canon (s.addFrame f).2 := h.setFrame.withNextFrame

theorem Canon.setHostFn {s : State} (h : Canon s) {f v} : Canon (s.setHostFn f v) := h.withHost

theorem Canon.setBank {s : State} (h : Canon s) {b v} : Canon (s.setBank b v) := h.withStock

/-! #### The clock -/

theorem Canon.advance {s : State} (h : Canon s) {k} : Canon (s.advance k) := h.withTime

theorem Canon.advanceTo {s : State} (h : Canon s) {t} : Canon (s.advanceTo t) := h.advance

theorem Canon.advanceToU {s : State} (h : Canon s) {u} : Canon (s.advanceToU u) := h.advance

theorem Canon.advanceToQ {s : State} (h : Canon s) {q} : Canon (s.advanceToQ q) := h.advance

/-! #### Notices -/

theorem Canon.notify {s : State} (h : Canon s) {n} : Canon (s.notify n) := h.withNotices

/-! #### Messages to the foreman -/

theorem Canon.setSource {s : State} (h : Canon s) {n v} : Canon (s.setSource n v) := h.withFlt

theorem Canon.faultAddr {s : State} (h : Canon s) {addr} : Canon (s.faultAddr addr).2 := by
  unfold State.faultAddr
  split
  · exact h
  · exact h.fresh

theorem Canon.raise {s : State} (h : Canon s) {src kind cls addr access master} :
    Canon (s.raise src kind cls addr access master) := h.faultAddr.raiseMsg

end Sys2Proof.Machine
end

section
/-!
PROOFS. Every step keeps the canonical form: the functions of Machine/SpanImage.lean.
-/

namespace Sys2Proof.Machine

/-! #### Slot sources -/

theorem Canon.setSource_ {s : State} (h : Canon s) {n l} : Canon (s.setSource_ n l) := h.withSpan

end Sys2Proof.Machine
end

section
/-!
PROOFS. Every step keeps the canonical form: the functions of Machine/Hold.lean.
-/

namespace Sys2Proof.Machine

/-! #### The tie beam -/

theorem Canon.mirror {s : State} (h : Canon s) {e w} :
    Canon (s.mirror e w) := Canon.branch h (Canon.branch h.withBent h.withBent.withBent.sendTb)

theorem Canon.nextStart {s : State} (h : Canon s) : Canon s.nextStart.2 := h.withNextSn

end Sys2Proof.Machine
end

section
/-!
PROOFS. Every step keeps the canonical form: the functions of Machine/Wake.lean.
-/

namespace Sys2Proof.Machine

/-! #### Power states as the other blocks see them -/

theorem Canon.startWake {s : State} (h : Canon s) {dest source port} :
    Canon (s.startWake dest source port) := h.withPwr

theorem Canon.fillPending {s : State} (h : Canon s) {dest source port} :
    Canon (s.fillPending dest source port) := Canon.withPwr (Canon.branch h.count h)

theorem Canon.wakeEvent {s : State} (h : Canon s) {source port} : Canon (s.wakeEvent source port) := by
  unfold State.wakeEvent
  refine Canon.branch h ?_
  split
  · exact Canon.branch h.fillPending h
  · exact Canon.branch h.startWake h

theorem Canon.hostTouch {s : State} (h : Canon s) : Canon (s.hostTouch) := Canon.branch h h.wakeEvent

end Sys2Proof.Machine
end

section
/-!
PROOFS. Every step keeps the canonical form: the functions of Machine/Work.lean.
-/

namespace Sys2Proof.Machine

/-! #### Entries -/

theorem Canon.writeRing {s : State} (h : Canon s) {q a bs} : Canon (s.writeRing q a bs) := Canon.branch h.writeHost h

/-! #### Shadow, R485 -/

theorem Canon.writeShadow {s : State} (h : Canon s) {q} : Canon (s.writeShadow q) := h.writeRing.modQueue

/-! #### Completions, R493 and R509 -/

theorem Canon.complete {s : State} (h : Canon s) {q e ckind status rest} : Canon (s.complete q e ckind status rest) :=
  Canon.branch h.writeRing.modQueue.completionNotice h.writeRing.modQueue.completionNotice.mirror

theorem Canon.completeTx {s : State} (h : Canon s) {q e} : Canon (s.completeTx q e) := h.complete

theorem Canon.modStarted {s : State} (h : Canon s) {q sn f} : Canon (s.modStarted q sn f) := h.modQueue

theorem Canon.copyDone {s : State} (h : Canon s) {q sn p status} : Canon (s.copyDone q sn p status) := by
  unfold State.copyDone
  extract_lets
  split
  · exact h.modStarted
  · exact Canon.branch h.modStarted.completeTx h.modStarted

/-! #### Errors and stopping, R501 to R503 -/

theorem Canon.queueError {s : State} (h : Canon s) {q cause latched} :
    Canon (s.queueError q cause latched) := h.modQueue.writeShadow.raise

theorem Canon.headCheck {s : State} (h : Canon s) {q} : Canon (s.headCheck q) := by
  unfold State.headCheck
  extract_lets
  split
  · exact h
  · exact Canon.branch h.queueError h

theorem Canon.stopQueue {s : State} (h : Canon s) {q} : Canon (s.stopQueue q) := h.modQueue.writeShadow

theorem Canon.runQueue {s : State} (h : Canon s) {q start} : Canon (s.runQueue q start) := h.modQueue.writeShadow

/-! #### Doorbells, R482 and R499 -/

theorem Canon.doorbell {s : State} (h : Canon s) {q v} : Canon (s.doorbell q v) := by
  unfold State.doorbell
  extract_lets +onlyGivenNames -merge _
  split
  · exact Canon.branch h.withBent.queueError h.withBent.setQueue.headCheck
  · exact h.modQueue

theorem Canon.invalidate {s : State} (h : Canon s) {q first count} : Canon (s.invalidate q first count) := by
  unfold State.invalidate
  extract_lets +onlyGivenNames -merge _
  refine Canon.branch h ?_
  split
  · exact h.setQueue.writeShadow
  · exact h.modQueue

/-! #### Prefetch, R497 and R498 -/

theorem Canon.prefetch {s : State} (h : Canon s) {q bad} :
    Canon (s.prefetch q bad) := Canon.branch h.setQueue.headCheck h

/-! #### Starting entries, R484, R505 and R506 -/

theorem Canon.passHead {s : State} (h : Canon s) {q} : Canon (s.passHead q) := h.modQueue

theorem Canon.generate {s : State} (h : Canon s) {handle} :
    Canon (s.generate handle).2 := Canon.branchSnd h h.withStream.count

theorem Canon.setChan {s : State} (h : Canon s) {k c} : Canon (s.setChan k c) := h.withDray

theorem Canon.startFence {s : State} (h : Canon s) {q sn f} :
    Canon (s.startFence q sn f) := Canon.branch h.modQueue.writeShadow.complete h.modQueue

theorem Canon.startTx {s : State} (h : Canon s) {q sn f num} :
    Canon (s.startTx q sn f num) := Canon.branch h.modQueue.complete h.addFrame.modQueue.setChan

theorem Canon.startHead {s : State} (h : Canon s) {q num} : Canon (s.startHead q num) := by
  unfold State.startHead
  split
  · exact h
  · extract_lets +onlyGivenNames -merge _ s
    have hs : Canon s := by
      unfold s
      split
      · exact h.passHead.nextStart.startTx
      · exact h.passHead.nextStart.startFence
      · exact h.passHead.nextStart
    exact hs.headCheck

theorem Canon.stall {s : State} (h : Canon s) {q} : Canon (s.stall q) := Canon.branch h h.modQueue.count

theorem Canon.serveHead {s : State} (h : Canon s) {q} : Canon (s.serveHead q) := by
  unfold State.serveHead
  split
  · exact h
  · extract_lets +onlyGivenNames -merge _
    refine Canon.branch h.stall ?_
    extract_lets +onlyGivenNames -merge _ g _
    have hg : Canon g.2 := Canon.branchSnd h.modQueue.generate h.modQueue
    exact Canon.branch hg.startHead (Canon.branch hg.modQueue.mirror hg.mirror.startHead)

theorem Canon.rerunEntries {s : State} (h : Canon s) {l held} : Canon (s.rerunEntries l held) := by
  induction l generalizing s held with
  | nil => exact h
  | cons x l ih =>
    unfold State.rerunEntries
    exact Canon.branch (ih h) (ih (Canon.branch h.withBent.nextStart.startTx.count h.withBent.nextStart))

theorem Canon.visit {s : State} (h : Canon s) {q n} : Canon (s.visit q n) := by
  induction n generalizing s with
  | zero => exact h
  | succ n ih => exact Canon.branch (ih h.serveHead) h

theorem Canon.arbiterPass {s : State} (h : Canon s) {pass l} : Canon (State.arbiterPass pass l s) := by
  induction l generalizing s with
  | nil => exact h
  | cons q l ih => exact ih (Canon.branch h.visit h)

theorem Canon.arbiterRound {s : State} (h : Canon s) :
    Canon (s.arbiterRound) := h.rerunEntries.foldl (fun _ hu _ => hu.arbiterPass)

/-! #### Daybooks, R507 to R517 -/

theorem Canon.putRecord {s : State} (h : Canon s) {b kind body} :
    Canon (s.putRecord b kind body) := Canon.setBook (Canon.branch h.writeHost h)

theorem Canon.overflow {s : State} (h : Canon s) {b} :
    Canon (s.overflow b) := Canon.branch h (Canon.putRecord (Canon.setBook (Canon.branch h.writeHost h)))

theorem Canon.fold {s : State} (h : Canon s) {n} : Canon (s.fold n) := by
  unfold State.fold
  extract_lets
  split
  · exact h.setBook
  · exact h.setBook.withQueues

theorem Canon.record {s : State} (h : Canon s) {b} : Canon (s.record b) := by
  unfold State.record
  split
  · exact h
  · extract_lets +onlyGivenNames -merge _ send
    have hsend : ∀ u, Canon u → Canon (send u) := fun _ hu => by
        unfold send
        split
        · exact hu.sendMsix
        · exact hu
    exact hsend _ (by
        split
        · exact h.withNotices.modBook
        · exact h.withNotices.fold
        · exact Canon.branch h.withNotices.overflow.fold h.withNotices.overflow.putRecord)

theorem Canon.bookDoorbell {s : State} (h : Canon s) {b v} : Canon (s.bookDoorbell b v) := by
  unfold State.bookDoorbell
  extract_lets +onlyGivenNames -merge _
  refine Canon.branch h.setBook.withBent ?_
  split
  · exact Canon.branch h.setBook.raise h.setBook
  · exact h

/-! #### Doorbell pages, R526 -/

theorem Canon.cqEnable {s : State} (h : Canon s) {q on} : Canon (s.cqEnable q on) := by
  unfold State.cqEnable
  extract_lets +onlyGivenNames -merge _
  split
  · exact h.setQueue.runQueue
  · exact h.setQueue
  · exact h.stopQueue
  · exact h.stopQueue
  · exact h

theorem Canon.cqWrite {s : State} (h : Canon s) {q off v} :
    Canon (s.cqWrite q off v) := Canon.branch h.setReg.cqEnable (Canon.branch h.setReg h)

theorem Canon.pageWrite {s : State} (h : Canon s) {q off v} : Canon (s.pageWrite q off v) := by
  unfold State.pageWrite
  refine Canon.branch h.doorbell ?_
  refine Canon.branch h.invalidate ?_
  refine Canon.branch ?_ (Canon.branch h.cqWrite h)
  split
  · exact h
  · exact h.bookDoorbell

/-! #### Work-queue fences, R520 and R523 -/

theorem Canon.fenceDone {s : State} (h : Canon s) {q} : Canon (s.fenceDone q) := by
  unfold State.fenceDone
  split
  · exact h
  · exact Canon.branch h h.writeShadow.complete

/-! #### Messages, R516 -/

theorem Canon.bookIrq {s : State} (h : Canon s) {b} :
    Canon (s.bookIrq b) := Canon.branch h (Canon.sendMsix (Canon.setBook (Canon.branch h h.advanceTo)))

/-! #### Meanings -/

theorem Canon.execWqDoorbell {s : State} (h : Canon s) {fn q v} :
    Result.Canon (execWqDoorbell fn q v s) := Canon.branch h.hostTouch.pageWrite h.hostTouch

theorem Canon.execWqInvalidate {s : State} (h : Canon s) {fn q v} :
    Result.Canon (execWqInvalidate fn q v s) := Canon.branch h.hostTouch.pageWrite h.hostTouch

theorem Canon.execBookDoorbell {s : State} (h : Canon s) {fn q v} :
    Result.Canon (execBookDoorbell fn q v s) := Canon.branch h.hostTouch.pageWrite h.hostTouch

theorem Canon.execCqCfgWrite {s : State} (h : Canon s) {fn q off v} :
    Result.Canon (execCqCfgWrite fn q off v s) := Canon.branch h.hostTouch.pageWrite h.hostTouch

theorem Canon.execEntryFetched {s : State} (h : Canon s) {q bad} :
    Result.Canon (execEntryFetched q bad s) := h.prefetch

theorem Canon.execArbiterRound {s : State} (h : Canon s) :
    Result.Canon (execArbiterRound s) := Canon.branch h.arbiterRound h

theorem Canon.execShadowWrite {s : State} (h : Canon s) {q} :
    Result.Canon (execShadowWrite q s) := Canon.branch h.writeShadow h

theorem Canon.execWqFenceDone {s : State} (h : Canon s) {q} : Result.Canon (execWqFenceDone q s) := h.fenceDone

theorem Canon.execDaybookRecord {s : State} (h : Canon s) {b} : Result.Canon (execDaybookRecord b s) := h.record

theorem Canon.execDaybookOverflow {s : State} (h : Canon s) {b} : Result.Canon (execDaybookOverflow b s) := h.overflow

theorem Canon.execDaybookIrq {s : State} (h : Canon s) {b} : Result.Canon (execDaybookIrq b s) := h.bookIrq

end Sys2Proof.Machine
end

section
/-!
PROOFS. Every step keeps the canonical form: the functions of Machine/Clerk.lean.
-/

namespace Sys2Proof.Machine

/-! #### The clerk -/

theorem Canon.Eff.ok {s : State} (h : Canon s) {detail reply} : (Eff.ok s detail reply).Canon := h

theorem Canon.Eff.refuse {s : State} (h : Canon s) {st detail} : (Eff.refuse s st detail).Canon := h

/-! #### Completions, R568 to R570 -/

theorem Canon.finishWaiting {s : State} (h : Canon s) {w st detail reply} :
    Canon (s.finishWaiting w st detail reply) := h.detailWord.withClerk.finishCmd.fenceSweep

theorem Canon.finishKind {s : State} (h : Canon s) {p st detail reply} :
    Canon (s.finishKind p st detail reply) := h.foldl (fun _ hu _ => hu.finishWaiting)

theorem Canon.maintCheck {s : State} (h : Canon s) : Canon (s.maintCheck) := Canon.branch h h.withFlt.finishKind

theorem Canon.addWaiting {s : State} (h : Canon s) {w} : Canon (s.addWaiting w) := h.withClerk

/-! #### Bench commands, R588 to R594 -/

theorem Canon.acceptSetting {s : State} (h : Canon s) {code c params image clamps} :
    (acceptSetting s code c params image clamps).Canon := Canon.branchEff h h.setBench

theorem Canon.benchSet {s : State} (h : Canon s) {code c fields} :
    Result.Canon (benchSet code c s fields) := h.runStep (fun _ hu => hu.acceptSetting)

theorem Canon.benchArray {s : State} (h : Canon s) {code c params countOff size addrOff fields} :
    Result.Canon (benchArray code c s params countOff size addrOff fields) := h.runStep (fun _ hu => hu.acceptSetting)

/-! #### General commands, R603 and R604 -/

theorem Canon.execNop {s : State} (h : Canon s) {c} : Result.Canon (execNop c s) := h.runStep (fun _ hu => hu)

theorem Canon.execIdentify {s : State} (h : Canon s) {c} :
    Result.Canon (execIdentify c s) := h.runStep (fun _ hu => hu)

theorem Canon.execFence {s : State} (h : Canon s) {c} : Result.Canon (execFence c s) := h.runStep (fun _ hu => hu)

theorem Canon.execEcho {s : State} (h : Canon s) {c} : Result.Canon (execEcho c s) := h.runStep (fun _ hu => hu)

/-! #### Taking commands, R572 -/

theorem Canon.takeFrom {s : State} (h : Canon s) {q} : Canon (s.takeFrom q) := by
  unfold State.takeFrom
  extract_lets +onlyGivenNames -merge _ _
  refine Canon.branch h.modQueue.headCheck ?_
  refine Canon.branch h.modQueue.passHead ?_
  extract_lets +onlyGivenNames -merge _ _ _ _ _ _
  split
  · exact h.modQueue.passHead.nextStart.modQueue.count.withClerk.count.finishCmd.fenceSweep
  · exact h.modQueue.passHead.nextStart.modQueue.count.withClerk.withClerk

theorem Canon.execCommandTake {s : State} (h : Canon s) : Result.Canon (execCommandTake s) := by
  unfold Machine.execCommandTake
  refine Canon.branch h ?_
  extract_lets
  split
  · exact h
  · exact h.takeFrom

end Sys2Proof.Machine
end

section
/-!
PROOFS. Every step keeps the canonical form: the functions of Machine/Island.lean.
-/

namespace Sys2Proof.Machine

/-! #### Legal time, R683 to R685 -/

theorem Canon.advanceLegal {s : State} (h : Canon s) {ms} : Canon (s.advanceLegal ms) := h.advanceTo

theorem Canon.setAssay {s : State} (h : Canon s) {a} : Canon (s.setAssay a) := h.withAssay

theorem Canon.setLegal {s : State} (h : Canon s) {ms} : Canon (s.setLegal ms) := h.setAssay

theorem Canon.sampleActs {s : State} (h : Canon s) {sample d} : Canon (s.sampleActs sample d) :=
  Canon.branch (Canon.branch h.setAssay.setLegal h) (Canon.branch h.fresh.setAssay (Canon.branch (Canon.branch
    h.setAssay.setLegal h) (Canon.branch h.setAssay h.setAssay)))

end Sys2Proof.Machine
end

section
/-!
PROOFS. Every step keeps the canonical form: the functions of Machine/Release.lean.
-/

namespace Sys2Proof.Machine

/-! #### Flow control -/

theorem Canon.addCtrl {s : State} (h : Canon s) {p c} : Canon (s.addCtrl p c) := h.modPort

theorem Canon.sendPause {s : State} (h : Canon s) {p key quanta} : Canon (s.sendPause p key quanta) := h.addCtrl

theorem Canon.pauseKey {s : State} (h : Canon s) {p key} : Canon (s.pauseKey p key) := by
  unfold State.pauseKey
  extract_lets
  split
  · exact Canon.branch h.modPort.sendPause h
  · exact Canon.branch h.modPort.sendPause h

theorem Canon.pauseCheck {s : State} (h : Canon s) {p} : Canon (s.pauseCheck p) :=
  Canon.branch h (Canon.branch h.pauseKey (Canon.branch (h.foldl (fun _ hu _ => hu.pauseKey)) h))

theorem Canon.freeFrame {s : State} (h : Canon s) {id} : Canon (s.freeFrame id) := by
  unfold State.freeFrame
  split
  · exact h
  · extract_lets
    split
    · exact h.setFrame.pauseCheck
    · exact h.setFrame

theorem Canon.freeIfDone {s : State} (h : Canon s) {id} : Canon (s.freeIfDone id) := by
  unfold State.freeIfDone
  split
  · exact Canon.branch h.freeFrame h
  · exact h

theorem Canon.releaseEgress {s : State} (h : Canon s) {id p} : Canon (s.releaseEgress id p) := h.modFrame.freeIfDone

theorem Canon.releaseWq {s : State} (h : Canon s) {id} : Canon (s.releaseWq id) := h.modFrame.freeIfDone

theorem Canon.releaseWindow {s : State} (h : Canon s) {id} : Canon (s.releaseWindow id) := h.modFrame.freeIfDone

theorem Canon.releaseSlot {s : State} (h : Canon s) {id} : Canon (s.releaseSlot id) := h.modFrame.freeIfDone

theorem Canon.copyOf {s : State} (h : Canon s) {f p status} : Canon (s.copyOf f p status) := by
  unfold State.copyOf
  split
  · exact h.copyDone
  · exact h

end Sys2Proof.Machine
end

section
/-!
PROOFS. Every step keeps the canonical form: the functions of Machine/Assay.lean.
-/

namespace Sys2Proof.Machine

/-! #### The window -/

theorem Canon.crossSender {s : State} (h : Canon s) :
    Canon (s.crossSender) := h.foldl (fun _ hu _ => Canon.branch hu.setAssay.count hu)

theorem Canon.sendRecord {s : State} (h : Canon s) {typ payload} :
    Canon (s.sendRecord typ payload).2 := h.setAssay.crossSender

theorem Canon.readPort {s : State} (h : Canon s) {a n} : Canon (s.readPort a n).2 := by
  induction n generalizing s a with
  | zero => exact h
  | succ n ih => exact ih (Canon.branch h.count h.count.count)

/-! #### Results, R696 and R699 -/

theorem Canon.answerRecord {s : State} (h : Canon s) {inseq result detail} :
    Canon (s.answerRecord inseq result detail) := by
  unfold State.answerRecord
  split
  · exact h
  · split
    · exact Canon.branch h.sendRecord.withClerk h.finishWaiting
    · exact Canon.branch h.readPort.finishWaiting h.finishWaiting

theorem Canon.giveResult {s : State} (h : Canon s) {r result detail} :
    Canon (s.giveResult r result detail) := h.detailWord.setAssay.answerRecord

theorem Canon.processRecord {s : State} (h : Canon s) {typ f} (hf : ∀ u, Canon u → ∀ v, Canon (f u v).1) :
    Canon (s.processRecord typ f) := by
  unfold State.processRecord
  split
  · exact h
  · exact Canon.crossSender (Canon.giveResult (hf _ h.setAssay _))

theorem Canon.refuseRecord {s : State} (h : Canon s) {result} : Canon (s.refuseRecord result).1 := h

theorem Canon.acceptLogged {s : State} (h : Canon s) {kind old new source param target f} (hf : ∀ u, Canon u → Canon
    (f u)) :
    Canon (s.acceptLogged kind old new source param target f).1 := hf _ h.setAssay

/-! #### Registers -/

theorem Canon.execWindowHandoff {s : State} (h : Canon s) : Result.Canon (execWindowHandoff s) := by
  unfold Machine.execWindowHandoff
  split
  · exact h
  · exact Canon.branch h h.setAssay.withJoinery.count.modFrame.releaseWindow

theorem Canon.execTelegramRecord {s : State} (h : Canon s) : Result.Canon (execTelegramRecord s) := by
  unfold Machine.execTelegramRecord
  split
  · exact h
  · exact h.setAssay.crossSender

theorem Canon.execParamRecord {s : State} (h : Canon s) :
    Result.Canon (execParamRecord s) := h.processRecord (fun _ hu _ => by
    extract_lets
    split
    · exact hu.refuseRecord
    · split
      · exact hu.refuseRecord
      · split
        · exact hu.refuseRecord
        · split
          · exact hu.refuseRecord
          · split
            · exact hu.refuseRecord
            · exact hu.acceptLogged (fun _ hv => hv.setAssay))

theorem Canon.execKeyRecord {s : State} (h : Canon s) :
    Result.Canon (execKeyRecord s) := h.processRecord (fun _ hu _ => by
    extract_lets +onlyGivenNames -merge _ _ _
    split
    · exact hu.refuseRecord
    · split
      · exact hu.refuseRecord
      · split
        · extract_lets
          split
          · exact hu.refuseRecord
          · split
            · exact hu.refuseRecord
            · exact hu.acceptLogged (fun _ hv => hv.setAssay)
        · extract_lets
          split
          · exact hu.refuseRecord
          · split
            · exact hu.refuseRecord
            · exact hu.acceptLogged (fun _ hv => hv.setAssay))

theorem Canon.execFwChunkRecord {s : State} (h : Canon s) :
    Result.Canon (execFwChunkRecord s) := h.processRecord (fun _ hu _ => by
    extract_lets +onlyGivenNames -merge _ _ _ _
    split
    · exact hu.refuseRecord
    · split
      · exact hu.refuseRecord
      · split
        · exact hu.refuseRecord
        · extract_lets +onlyGivenNames -merge _ _
          split
          · exact hu.setAssay
          · extract_lets +onlyGivenNames -merge _
            split
            · exact hu.setAssay.refuseRecord
            · split
              · exact hu.setAssay.refuseRecord
              · exact hu.setAssay.setAssay)

theorem Canon.execSnapshotFetchRecord {s : State} (h : Canon s) :
    Result.Canon (execSnapshotFetchRecord s) := h.processRecord (fun _ hu _ => by
    extract_lets +onlyGivenNames -merge _ _ _
    split
    · exact hu.refuseRecord
    · split
      · exact hu.refuseRecord
      · exact hu.setAssay)

theorem Canon.execLegalTimeSetRecord {s : State} (h : Canon s) :
    Result.Canon (execLegalTimeSetRecord s) := h.processRecord (fun _ hu _ => by
    extract_lets
    split
    · exact hu.refuseRecord
    · split
      · exact hu.refuseRecord
      · split
        · exact hu.refuseRecord
        · split
          · exact hu.refuseRecord
          · exact hu.acceptLogged (fun _ hv => hv.setLegal))

theorem Canon.execLogRollRecord {s : State} (h : Canon s) :
    Result.Canon (execLogRollRecord s) := h.processRecord (fun _ hu _ => by
    extract_lets +onlyGivenNames -merge _
    split
    · exact hu.refuseRecord
    · split
      · exact hu.refuseRecord
      · exact hu.setAssay.acceptLogged (fun _ hv => hv))

/-! #### The island's own events -/

theorem Canon.execTimeSample {s : State} (h : Canon s) : Result.Canon (execTimeSample s) :=
  Canon.branch h (Canon.branch h.advanceToU (Canon.branch h.advanceToU.count h.advanceToU.count.setAssay.sampleActs))

theorem Canon.execPowerPeriodClose {s : State} (h : Canon s) : Result.Canon (execPowerPeriodClose s) := by
  unfold Machine.execPowerPeriodClose
  extract_lets +onlyGivenNames -merge _
  refine Canon.branch h ?_
  split
  · exact h
  · exact h.advanceLegal.setAssay

theorem Canon.execBillingSnapshot {s : State} (h : Canon s) {profile} :
    Result.Canon (execBillingSnapshot profile s) := by
  unfold Machine.execBillingSnapshot
  extract_lets
  refine Canon.branch h ?_
  split
  · exact h
  · exact h.advanceLegal.setAssay

theorem Canon.execCheckpointRotation {s : State} (h : Canon s) :
    Result.Canon (execCheckpointRotation s) := Canon.branch h.setAssay h

theorem Canon.execSealChange {s : State} (h : Canon s) {open_} :
    Result.Canon (execSealChange open_ s) := Canon.branch h h.setAssay

theorem Canon.execStatusPageRewrite {s : State} (h : Canon s) :
    Result.Canon (execStatusPageRewrite s) := Canon.branch h.setAssay h

theorem Canon.execIslandBoot {s : State} (h : Canon s) {selfTest} :
    Result.Canon (execIslandBoot selfTest s) := Canon.branch h h.fresh.setAssay.crossSender

theorem Canon.islandLost {s : State} (h : Canon s) : Canon (s.islandLost) := h.setAssay

theorem Canon.execIslandPowerLoss {s : State} (h : Canon s) : Result.Canon (execIslandPowerLoss s) := h.islandLost

theorem Canon.execAsyRstNAssert {s : State} (h : Canon s) : Result.Canon (execAsyRstNAssert s) := h.islandLost

theorem Canon.execAsyPfail {s : State} (h : Canon s) : Result.Canon (execAsyPfail s) := h.setAssay

theorem Canon.execAsyPfailRelease {s : State} (h : Canon s) : Result.Canon (execAsyPfailRelease s) := h.setAssay

theorem Canon.execAliveLost {s : State} (h : Canon s) :
    Result.Canon (execAliveLost s) := Canon.branch h.setAssay.count.raise h

theorem Canon.execHallmarkMirrorRead {s : State} (h : Canon s) :
    Result.Canon (execHallmarkMirrorRead s) := Canon.branch h h.readPort.withGlb

theorem Canon.execReadPortAccess {s : State} (h : Canon s) {addr n} :
    Result.Canon (execReadPortAccess addr n s) := Canon.branch h h.readPort.update

/-! #### The commands -/

theorem Canon.sendAndWait {s : State} (h : Canon s) {typ payload} : (s.sendAndWait typ payload).Canon := h.sendRecord

theorem Canon.execAsyStatus {s : State} (h : Canon s) {c} :
    Result.Canon (execAsyStatus c s) := h.runStep (fun _ hu => hu.readPort)

theorem Canon.execAsyParam {s : State} (h : Canon s) {c} :
    Result.Canon (execAsyParam c s) := h.runStep (fun _ hu => hu.sendAndWait)

theorem Canon.execAsyKey {s : State} (h : Canon s) {c} :
    Result.Canon (execAsyKey c s) := h.runStep (fun _ hu => hu.sendAndWait)

theorem Canon.execAsyFirmware {s : State} (h : Canon s) {c} :
    Result.Canon (execAsyFirmware c s) := h.runStep (fun _ hu => Canon.branchEff hu hu.sendRecord)

theorem Canon.execAsySnapshot {s : State} (h : Canon s) {c} :
    Result.Canon (execAsySnapshot c s) := h.runStep (fun _ hu => hu.sendAndWait)

theorem Canon.execAsyLegalTime {s : State} (h : Canon s) {c} :
    Result.Canon (execAsyLegalTime c s) := h.runStep (fun _ hu => hu.sendAndWait)

theorem Canon.execAsyLogRoll {s : State} (h : Canon s) {c} :
    Result.Canon (execAsyLogRoll c s) := h.runStep (fun _ hu => hu.sendAndWait)

theorem Canon.execAsyRead {s : State} (h : Canon s) {c} :
    Result.Canon (execAsyRead c s) := h.runStep (fun _ hu => Canon.branchEff hu hu.readPort.writeHost)

theorem Canon.execAsyResultTimeout {s : State} (h : Canon s) : Result.Canon (execAsyResultTimeout s) := by
  unfold Machine.execAsyResultTimeout
  split
  · exact h
  · exact h.advanceTo.finishWaiting

end Sys2Proof.Machine
end

section
/-!
PROOFS. Every step keeps the canonical form: the functions of Machine/Dray.lean.
-/

namespace Sys2Proof.Machine

/-! #### Sharing the engine, R558 and R559 -/

theorem Canon.setOwner {s : State} (h : Canon s) {e c} : Canon (s.setOwner e c) := h.withDray

theorem Canon.takeEngine {s : State} (h : Canon s) {k} :
    Canon (s.takeEngine k) := Canon.branch (Canon.branch h.count.setOwner h) h.setOwner

theorem Canon.endBeats {s : State} (h : Canon s) {k n} : Canon (s.endBeats k n) := by
  unfold State.endBeats
  extract_lets
  split
  · exact h.countN.setOwner.setOwner
  · exact h.countN.setOwner

/-! #### Descriptors, R539 to R544 -/

theorem Canon.scatter {s : State} (h : Canon s) {fn ps bs} : Canon (State.scatter fn ps bs s) := by
  induction ps generalizing s bs with
  | nil => exact h
  | cons p ps ih =>
    exact Canon.branch (ih h) (ih (Canon.branch h (Canon.branch h.writeBulk h.writeHost)))

/-! #### Running a chain, R545 to R547 -/

theorem Canon.issueFetch {s : State} (h : Canon s) {k again} : Canon (s.issueFetch k again) := h.setChan

theorem Canon.chainError {s : State} (h : Canon s) {k code} : Canon (s.chainError k code) := h.setChan.raise

theorem Canon.followNext {s : State} (h : Canon s) {k b} : Canon (s.followNext k b) := by
  unfold State.followNext
  extract_lets +onlyGivenNames -merge _ s
  have hs : Canon s := h.setChan
  exact Canon.branch hs.chainError hs.issueFetch

theorem Canon.descEnd {s : State} (h : Canon s) {k b} : Canon (s.descEnd k b) := by
  unfold State.descEnd
  extract_lets
  split
  · exact Canon.branch h.count.setChan.followNext (Canon.branch h.count.setChan.issueFetch
      h.count.setChan.setChan.count)
  · exact h.count.setChan.setChan
  · exact h.count.setChan

theorem Canon.descStatus {s : State} (h : Canon s) {k d v} :
    Canon (s.descStatus k d v) := Canon.branch h.writeHost.sendMsix h.writeHost

theorem Canon.descMove {s : State} (h : Canon s) {k d n} : Canon (s.descMove k d n) := h.scatter.setChan.countN

theorem Canon.descBad {s : State} (h : Canon s) {k d code n addr access} :
    Canon (s.descBad k d code n addr access) := h.descMove.descStatus.count.count.raise.descEnd.endBeats

theorem Canon.descFetched {s : State} (h : Canon s) {k bad listBad} : Canon (s.descFetched k bad listBad) := by
  unfold State.descFetched
  extract_lets +onlyGivenNames -merge _
  split
  · exact Canon.branch h.chainError (Canon.branch (Canon.branch h.setChan.descEnd h.setChan.followNext) (Canon.branch
      h.setChan.setChan (Canon.branch h.setChan.setChan.descBad (Canon.branch h.setChan.setChan.descStatus.descEnd
      h.setChan.setChan.takeEngine))))
  · exact h

theorem Canon.descFinished {s : State} (h : Canon s) {k} : Canon (s.descFinished k) := by
  unfold State.descFinished
  split
  · exact h
  · exact Canon.branch h h.takeEngine.descMove.descStatus.descEnd.endBeats

theorem Canon.descFenceDone {s : State} (h : Canon s) {k bad addr} : Canon (s.descFenceDone k bad addr) := by
  unfold State.descFenceDone
  extract_lets +onlyGivenNames -merge _
  split
  · exact h
  · exact Canon.branch h (Canon.branch h.setChan.setChan.descStatus.count.count.raise.descEnd
      h.setChan.descStatus.count.descEnd)

theorem Canon.lateError {s : State} (h : Canon s) {k a beat} : Canon (s.lateError k a beat) :=
  Canon.branch h (Canon.raise (Canon.count (Canon.branch h.setChan.writeHost h.setChan)))

theorem Canon.chainStopped {s : State} (h : Canon s) {k} :
    Canon (s.chainStopped k) := Canon.branch h h.setChan.finishKind.maintCheck

theorem Canon.chainDoorbell {s : State} (h : Canon s) {fn k} : Canon (s.chainDoorbell fn k) := by
  unfold State.chainDoorbell
  extract_lets
  refine Canon.branch h ?_
  split
  · exact h.setChan
  · exact h.setChan.issueFetch
  · exact h.count

/-! #### Pacing, R556 -/

theorem Canon.pacingHi {s : State} (h : Canon s) {k} : Canon (s.pacingHi k) := Canon.branch h h.setChan.takeEngine

theorem Canon.pacingFlush {s : State} (h : Canon s) {k} : Canon (s.pacingFlush k) := by
  unfold State.pacingFlush
  extract_lets +onlyGivenNames -merge _ src
  clear_value src
  split
  · exact h
  · exact Canon.branch h h.advanceTo.setChan.count.takeEngine

theorem Canon.pacingEnd {s : State} (h : Canon s) {k} : Canon (s.pacingEnd k) := Canon.branch h.setChan h

/-! #### FETCH channels, R536 and R538 -/

theorem Canon.fetchMove {s : State} (h : Canon s) {k bad} : Canon (s.fetchMove k bad) := by
  unfold State.fetchMove
  extract_lets +onlyGivenNames -merge _
  split
  · exact h
  · refine Canon.branch h ?_
    extract_lets +onlyGivenNames -merge _ _ s1 _ s3 s4 _ _ _ s2
    have hs1 : Canon s1 := h.takeEngine.setChan
    have hs2 : Canon s2 := by
      unfold s2
      split
      · exact hs1.setFrame
      · refine Canon.branch ?_ hs1.withJoinery.modFrame.count.countN
        have hs3 : Canon s3 := hs1.setFrame.modStarted
        have hs4 : Canon s4 := by
          unfold s4
          split
          · exact hs3.completeTx
          · exact hs3
        exact hs4.count.raise
    exact hs2.pacingEnd.endBeats

/-! #### Meanings of the events -/

theorem Canon.execFetchFrameMove {s : State} (h : Canon s) {e ch bad} :
    Result.Canon (execFetchFrameMove e ch bad s) := Canon.branch h.fetchMove h

theorem Canon.execDryChannelDoorbell {s : State} (h : Canon s) {fn e ch} :
    Result.Canon (execDryChannelDoorbell fn e ch s) := Canon.branch h.hostTouch.chainDoorbell h.hostTouch

theorem Canon.execDescFetched {s : State} (h : Canon s) {e ch bad listBad} :
    Result.Canon (execDescFetched e ch bad listBad s) := Canon.branch h.descFetched h

theorem Canon.execDescFinished {s : State} (h : Canon s) {e ch} :
    Result.Canon (execDescFinished e ch s) := Canon.branch h.descFinished h

theorem Canon.execDescMoveError {s : State} (h : Canon s) {e ch write addr n} :
    Result.Canon (execDescMoveError e ch write addr n s) := by
  unfold Machine.execDescMoveError
  split
  · exact h
  · exact Canon.branch h h.takeEngine.descBad

theorem Canon.execDescFenceDone {s : State} (h : Canon s) {e ch bad addr} :
    Result.Canon (execDescFenceDone e ch bad addr s) := Canon.branch h.descFenceDone h

theorem Canon.execLateError {s : State} (h : Canon s) {e ch addr beat} :
    Result.Canon (execLateError e ch addr beat s) := Canon.branch h.lateError h

theorem Canon.execChainStopped {s : State} (h : Canon s) {e ch} :
    Result.Canon (execChainStopped e ch s) := Canon.branch h.chainStopped h

theorem Canon.execPacingHi {s : State} (h : Canon s) {e ch} :
    Result.Canon (execPacingHi e ch s) := Canon.branch h.pacingHi h

theorem Canon.execPacingFlush {s : State} (h : Canon s) {e ch} :
    Result.Canon (execPacingFlush e ch s) := Canon.branch h.pacingFlush h

/-! #### 0x0Axx commands, R562 to R564 -/

theorem Canon.execDrayStatus {s : State} (h : Canon s) {c} :
    Result.Canon (execDrayStatus c s) := h.runStep (fun _ hu => hu)

theorem Canon.execDrayStart {s : State} (h : Canon s) {c} :
    Result.Canon (execDrayStart c s) := h.runStep (fun _ hu => Canon.branchEff hu hu.setChan.issueFetch)

theorem Canon.execDrayStop {s : State} (h : Canon s) {c} :
    Result.Canon (execDrayStop c s) := h.runStep (fun _ hu => by
    extract_lets
    refine Canon.branchEff hu ?_
    split
    · exact hu
    · exact hu.setChan
    · exact hu
    · exact hu.setChan)

theorem Canon.execDrayAbort {s : State} (h : Canon s) {c} :
    Result.Canon (execDrayAbort c s) := h.runStep (fun _ hu => by
    extract_lets +onlyGivenNames -merge _ _
    refine Canon.branchEff hu ?_
    split
    · exact hu
    · exact hu.setChan
    · exact hu
    · extract_lets +onlyGivenNames -merge _ _ _ s1
      have hs1 : Canon s1 := by
        unfold s1
        split
        · exact hu.setChan
        · exact hu.setChan.fresh.takeEngine.descMove.descStatus.count.descEnd.endBeats
      exact hs1)

theorem Canon.execSetDrayChannel {s : State} (h : Canon s) {c} : Result.Canon (execSetDrayChannel c s) := h.benchSet

theorem Canon.applyDrayChannel {s : State} (h : Canon s) {x} :
    Canon (s.applyDrayChannel x) := Canon.branch h.setReg.setReg64.setReg64 h.setReg.setReg.setReg.setReg

end Sys2Proof.Machine
end

section
/-!
PROOFS. Every step keeps the canonical form: the functions of Machine/Stamp.lean.
-/

namespace Sys2Proof.Machine

/-! #### The timestamp queues (R85 to R89) and their records -/

theorem Canon.queueStamp {s : State} (h : Canon s) {p dir oneStep flagCode epoch q index at_ uncert sn} :
    Canon (s.queueStamp p dir oneStep flagCode epoch q index at_ uncert sn).2 :=
  Canon.branchSnd h.setPtime.count h.setPtime

theorem Canon.queueTxStamp {s : State} (h : Canon s) {p oneStep q index at_ sn} :
    Canon (s.queueTxStamp p oneStep q index at_ sn).2 := h.queueStamp

theorem Canon.queueRxStamp {s : State} (h : Canon s) {f p q index sn} :
    Canon (s.queueRxStamp f p q index sn).2 := h.queueStamp

theorem Canon.stampWrite {s : State} (h : Canon s) {p} : Canon (s.stampWrite p) := by
  unfold State.stampWrite
  extract_lets +onlyGivenNames -merge _ _
  split
  · exact h
  · exact Canon.branch h (Canon.branch h.overflow h.overflow.setPtime.putRecord)

theorem Canon.execTsRecordWrite {s : State} (h : Canon s) {p} :
    Result.Canon (execTsRecordWrite p s) := Canon.branch h.stampWrite h

end Sys2Proof.Machine
end

section
/-!
PROOFS. Every step keeps the canonical form: the functions of Machine/Stream.lean.
-/

namespace Sys2Proof.Machine

/-! #### Tables -/

theorem Canon.setEntry {s : State} (h : Canon s) {h1 e} : Canon (s.setEntry h1 e) := h.withStream

theorem Canon.setRcvy {s : State} (h : Canon s) {r v} : Canon (s.setRcvy r v) := h.withStream

theorem Canon.setAccount {s : State} (h : Canon s) {a v} : Canon (s.setAccount a v) := h.withStream

/-! #### Notices and mirror items -/

theorem Canon.streamNotice {s : State} (h : Canon s) {kind isAccount index r} :
    Canon (s.streamNotice kind isAccount index r) := h.notify

theorem Canon.mirrorEntryOf {s : State} (h : Canon s) {h1} : Canon (s.mirrorEntryOf h1) := h.mirror

theorem Canon.mirrorRcvyOf {s : State} (h : Canon s) {r} : Canon (s.mirrorRcvyOf r) := h.mirror

theorem Canon.mirrorAccountOf {s : State} (h : Canon s) {a} : Canon (s.mirrorAccountOf a) := h.mirror

/-! #### Free entries and functions -/

theorem Canon.bindRcvy {s : State} (h : Canon s) {params format} :
    Canon (s.bindRcvy params format).2 := h.fresh.setRcvy.mirrorRcvyOf

theorem Canon.exhausted {s : State} (h : Canon s) : Canon (s.exhausted) := h.withStream.count

theorem Canon.freeRcvy {s : State} (h : Canon s) {r} :
    Canon (s.freeRcvy r) := Canon.branch h h.setRcvy.mirrorRcvyOf.withStream

theorem Canon.freeEntry {s : State} (h : Canon s) {h1} :
    Canon (s.freeEntry h1) := Canon.branch h h.setEntry.mirrorEntryOf.withStream

theorem Canon.forget {s : State} (h : Canon s) {h1} :
    Canon (s.forget h1) := Canon.branch h.freeEntry.freeRcvy h.freeEntry

/-! #### Identification, R331 to R348 -/

theorem Canon.pick {s : State} (h : Canon s) {l} : Canon (s.pick l).2 := by
  unfold State.pick
  split
  · exact h
  · exact h
  · exact h.fresh

theorem Canon.learn {s : State} (h : Canon s) {r v} : Canon (s.learn r v).2 :=
  Canon.branchSnd h.fresh.count.bindRcvy.setEntry.mirrorEntryOf (Canon.branch
    h.fresh.count.setEntry.mirrorEntryOf.exhausted.streamNotice.raise
    h.fresh.count.setEntry.mirrorEntryOf.exhausted.streamNotice)

theorem Canon.learnTry {s : State} (h : Canon s) {port v rs} : Canon (s.learnTry port v rs).2 := by
  induction rs with
  | nil => exact h
  | cons r rs ih =>
    unfold State.learnTry
    exact Canon.branchSnd (Canon.branchSnd h.withStream.count h.learn) ih

theorem Canon.identifyStream {s : State} (h : Canon s) {port v b} : Canon (s.identifyStream port v b).2 := by
  unfold State.identifyStream
  extract_lets +onlyGivenNames -merge _ _ _ p
  have hp : Canon p.2 := by
    unfold p
    split
    · exact h.pick
    · split
      · exact h.pick
      · split
        · exact h.pick
        · exact h.pick
  split
  · exact hp
  · split
    · exact h
    · exact h.learnTry

theorem Canon.identify {s : State} (h : Canon s) {port v b} : Canon (s.identify port v b).2 := by
  unfold State.identify
  extract_lets +onlyGivenNames -merge r
  have hr : Canon r.2 := by
    unfold r
    refine Canon.branchSnd h.identifyStream ?_
    split
    · exact h
    · exact h.count.identifyStream
  split
  · exact hr.count
  · exact hr.count
  · exact hr.setEntry.count
  · exact hr.count

/-! #### Policing, R230 to R235 -/

theorem Canon.setFilter {s : State} (h : Canon s) {n f} : Canon (s.setFilter n f) := h.withStream

theorem Canon.setMeter {s : State} (h : Canon s) {n m} : Canon (s.setMeter n m) := h.withStream

theorem Canon.police {s : State} (h : Canon s) {handle prio len t dei} :
    Canon (s.police handle prio len t dei).2.2 := by
  unfold State.police
  split
  · exact h
  · extract_lets +onlyGivenNames -merge _ _
    split
    · exact h.setFilter
    · extract_lets +onlyGivenNames -merge _
      split
      · exact h.setFilter
      · extract_lets +onlyGivenNames -merge _
        split
        · exact h.setFilter
        · extract_lets
          split
          · exact h.setMeter.setFilter
          · exact h.setMeter.setFilter
          · split
            · exact h.setMeter.setFilter
            · exact h.setMeter.setFilter

/-! #### Recovery functions, R359 to R363 -/

theorem Canon.rcvyTotals {s : State} (h : Canon s) {a b} :
    Canon (s.rcvyTotals a b) := h.countN.countN.countN.countN.countN

theorem Canon.keep {s : State} (h : Canon s) {id isAccount target path seq} :
    Canon (s.keep id isAccount target path seq) := h.modFrame.withBent

theorem Canon.recover {s : State} (h : Canon s) {id r v} : Canon (s.recover id r v).2 := by
  unfold State.recover
  extract_lets +onlyGivenNames -merge _
  split
  · exact h.setRcvy.count
  · exact Canon.branchSnd h.keep (Canon.branchSnd h.setRcvy.rcvyTotals.modFrame h.setRcvy.rcvyTotals)

theorem Canon.recoverEntry {s : State} (h : Canon s) {id h2 port v} : Canon (s.recoverEntry id h2 port v).2 :=
  Canon.branchSnd h (Canon.branchSnd h.recover (Canon.branchSnd
    h.bindRcvy.setEntry.mirrorEntryOf.streamNotice.recover (Canon.branchSnd h h.count)))

/-! #### Accounts, R372 to R376 -/

theorem Canon.poolDrained {s : State} (h : Canon s) : Canon (s.poolDrained) := Canon.branch h.withStream h

theorem Canon.deliver {s : State} (h : Canon s) {a id path} :
    Canon (s.deliver a id path) := h.modFrame.setAccount.count

theorem Canon.release {s : State} (h : Canon s) {id} : Canon (s.release id) := h.modFrame.withJoinery

theorem Canon.deliverOneHeld {s : State} (h : Canon s) {a h2} :
    Canon (s.deliverOneHeld a h2) := h.setAccount.deliver.release.poolDrained

theorem Canon.deliverHeld {s : State} (h : Canon s) {a n} : Canon (s.deliverHeld a n) := by
  induction n generalizing s with
  | zero => exact h
  | succ n ih =>
    unfold State.deliverHeld
    extract_lets
    split
    · exact h
    · exact ih h.deliverOneHeld

theorem Canon.releaseLoop {s : State} (h : Canon s) {a run n} : Canon (s.releaseLoop a run n) := by
  induction n generalizing s run with
  | zero => exact h
  | succ n ih =>
    unfold State.releaseLoop
    extract_lets +onlyGivenNames -merge _
    split
    · exact ih h.deliverOneHeld
    · extract_lets +onlyGivenNames -merge _
      refine Canon.branch (ih ?_) (ih ?_)
      · exact h.setAccount
      · exact Canon.setAccount (Canon.count (Canon.branch h h.count))

theorem Canon.releaseThrough {s : State} (h : Canon s) {a t} :
    Canon (s.releaseThrough a t) := h.releaseLoop.deliverHeld.mirrorAccountOf

theorem Canon.accountPacket {s : State} (h : Canon s) {a path id num} : Canon (s.accountPacket a path id num).2 := by
  unfold State.accountPacket
  extract_lets +onlyGivenNames -merge _ s _ _
  have hs : Canon s := h.setAccount
  clear_value s
  split
  · exact hs.setAccount.count
  · extract_lets +onlyGivenNames -merge _ _
    refine Canon.branchSnd ?_ ?_
    · exact Canon.branchSnd hs.setAccount.count hs.setAccount.count
    · refine Canon.branchSnd ?_ ?_
      · exact hs.setAccount.count
      · refine Canon.branchSnd ?_ ?_
        · exact hs.setAccount.count
        · refine Canon.branchSnd ?_ ?_
          · exact hs.keep
          · extract_lets +onlyGivenNames -merge s1 s2 _ _ _ _ _ _ _ _ _ s3 _
            have hs1 : Canon s1 := hs.setAccount
            have hs2 : Canon s2 := Canon.branch hs1.releaseThrough hs1
            have hs3 : Canon s3 := Canon.branch hs2 (Canon.releaseThrough (Canon.branch
                hs2.setAccount.count.withStream.raise hs2.setAccount.count.withStream))
            clear_value s3
            refine Canon.branchSnd ?_ ?_
            · exact hs3.setAccount.modFrame.count.mirrorAccountOf
            · exact hs3.deliver.deliverHeld

/-! #### Timers, R335 -/

theorem Canon.rcvyReset {s : State} (h : Canon s) {r} :
    Canon (s.rcvyReset r) := Canon.branch h h.advanceTo.setRcvy.count.mirrorRcvyOf

theorem Canon.rcvyLatent {s : State} (h : Canon s) {r} :
    Canon (s.rcvyLatent r) := Canon.branch h (Canon.branch h.advanceTo.setRcvy.count.streamNotice h.advanceTo.setRcvy)

theorem Canon.accountLatent {s : State} (h : Canon s) {a} : Canon (s.accountLatent a) :=
  Canon.branch h (Canon.branch h.advanceTo.setAccount.count.streamNotice h.advanceTo.setAccount)

theorem Canon.holdExpire {s : State} (h : Canon s) {a} :
    Canon (s.holdExpire a) := Canon.branch h h.advanceTo.releaseThrough

theorem Canon.accountReset {s : State} (h : Canon s) {a} :
    Canon (s.accountReset a) := Canon.branch h h.advanceTo.setAccount.count.streamNotice.mirrorAccountOf

theorem Canon.learnAge {s : State} (h : Canon s) {h1} :
    Canon (s.learnAge h1) := Canon.branch h h.advanceTo.forget.count

/-! #### Meanings of the timers -/

theorem Canon.execLearnAgeExpire {s : State} (h : Canon s) {h0} :
    Result.Canon (execLearnAgeExpire h0 s) := Canon.branch h h.learnAge

theorem Canon.execRcvyResetTimeout {s : State} (h : Canon s) {r} :
    Result.Canon (execRcvyResetTimeout r s) := Canon.branch h h.rcvyReset

theorem Canon.execLatentErrorTest {s : State} (h : Canon s) {isAccount i} :
    Result.Canon (execLatentErrorTest isAccount i s) := Canon.branch h (Canon.branch h.accountLatent h.rcvyLatent)

theorem Canon.execAccountHoldExpire {s : State} (h : Canon s) {a} :
    Result.Canon (execAccountHoldExpire a s) := Canon.branch h h.holdExpire

theorem Canon.execAccountResetTimeout {s : State} (h : Canon s) {a} :
    Result.Canon (execAccountResetTimeout a s) := Canon.branch h h.accountReset

end Sys2Proof.Machine
end

section
/-!
PROOFS. Every step keeps the canonical form: the functions of Machine/Joinery.lean.
-/

namespace Sys2Proof.Machine

/-! #### The joinery -/

theorem Canon.setThread {s : State} (h : Canon s) {k t} : Canon (s.setThread k t) := h.withJoinery

theorem Canon.modThread {s : State} (h : Canon s) {k f} : Canon (s.modThread k f) := h.setThread

theorem Canon.setJoinerFence {s : State} (h : Canon s) {j f} : Canon (s.setJoinerFence j f) := h.withJoinery

/-! #### Order, R401 to R403 -/

theorem Canon.orderAdd {s : State} (h : Canon s) {key id} : Canon (s.orderAdd key id) := h.withJoinery

theorem Canon.orderDrop {s : State} (h : Canon s) {id} : Canon (s.orderDrop id) := h.withJoinery

theorem Canon.dropFrame {s : State} (h : Canon s) {id} : Canon (s.dropFrame id) := h.orderDrop.freeFrame

/-! #### Destinations, R19, R403, R415 -/

theorem Canon.arriveWq {s : State} (h : Canon s) {id q} :
    Canon (s.arriveWq id q) := Canon.branch h.modQueue.releaseWq h.setQueue.modFrame

theorem Canon.arriveSlot {s : State} (h : Canon s) {id n} : Canon (s.arriveSlot id n) := by
  unfold State.arriveSlot
  split
  · exact h
  · extract_lets
    split
    · exact h.copyOf.releaseSlot
    · exact Canon.branch h.copyOf.releaseSlot (Canon.branch h.copyOf.releaseSlot h.setSource_)

theorem Canon.arriveWindow {s : State} (h : Canon s) {id} : Canon (s.arriveWindow id) := by
  unfold State.arriveWindow
  split
  · exact h
  · extract_lets +onlyGivenNames -merge _
    refine Canon.branch h.withJoinery.count ?_
    extract_lets
    split
    · exact h.count.modFrame.arriveWq
    · exact h.count.modFrame.freeIfDone

theorem Canon.arrive {s : State} (h : Canon s) {id} : Canon (s.arrive id) := by
  unfold State.arrive
  split
  · exact h
  · extract_lets +onlyGivenNames -merge _ _ _ _ _ s3 s4 s5 _
    have hs3 : Canon s3 := Canon.foldl (h.orderDrop.modFrame.modFrame.foldl (fun _ hu _ => hu.copyOf)) (fun _ hu _ =>
        hu.modPort)
    have hs4 : Canon s4 := by
      unfold s4
      split
      · exact Canon.branch hs3 hs3.arriveWq
      · exact hs3
    have hs5 : Canon s5 := by
      unfold s5
      split
      · exact hs4.arriveSlot
      · exact hs4
    exact Canon.freeIfDone (Canon.branch hs5.arriveWindow hs5)

theorem Canon.flushOrder {s : State} (h : Canon s) {n} : Canon (s.flushOrder n) := by
  induction n generalizing s with
  | zero => exact h
  | succ n ih =>
    unfold State.flushOrder
    split
    · exact h
    · exact ih h.arrive

theorem Canon.fixFrame {s : State} (h : Canon s) {k id} : Canon (s.fixFrame k id) := h.setThread.modFrame.flushOrder

theorem Canon.retireDrop {s : State} (h : Canon s) {k id} :
    Canon (s.retireDrop k id) := h.setThread.dropFrame.flushOrder

/-! #### Control store -/

theorem Canon.setUpset {s : State} (h : Canon s) {c a v} : Canon (s.setUpset c a v) := h.withJoinery

theorem Canon.repairWord {s : State} (h : Canon s) {c a w} : Canon (s.repairWord c a w).2 := by
  unfold State.repairWord
  extract_lets
  split
  · exact h.setUpset.count
  · exact h.count.raise

theorem Canon.fetchWord {s : State} (h : Canon s) {c a w} : Canon (s.fetchWord c a w).2 := by
  unfold State.fetchWord
  split
  · exact h
  · exact h.count.raise
  · exact h.repairWord

theorem Canon.scrubWord {s : State} (h : Canon s) {c a} : Canon (s.scrubWord c a) := by
  unfold State.scrubWord
  refine Canon.branch h ?_
  extract_lets
  split
  · exact h
  · exact h.setUpset.count.raise
  · exact h.repairWord

/-! #### Hooks, R425 to R427 and R461 to R464 -/

theorem Canon.commitStaged {s : State} (h : Canon s) {k id l} :
    Canon (s.commitStaged k id l) := h.foldl (fun _ hu _ => by
    split
    · exact hu.modFrame
    · exact hu.modFrame
    · exact hu.modThread
    · exact hu.countN)

theorem Canon.endHook {s : State} (h : Canon s) {k id h3 how} : Canon (s.endHook k id h3 how) := by
  unfold State.endHook
  extract_lets +onlyGivenNames -merge _ _ s
  have hs : Canon s := by
    unfold s
    split
    · exact Canon.branch h.count h.commitStaged
    · exact h
    · exact h.count
  exact hs.modThread

/-- One round of the hook's words. The equation lemma of `runHook` is too costly to derive, so the recursion is
    unfolded
by definition. -/
theorem Canon.runHook_succ {s : State} (h : Canon s) {k budget n}
    (ih : ∀ {s : State}, Canon s → Canon (s.runHook k budget n).2) : Canon (s.runHook k budget (n + 1)).2 := by
  delta State.runHook at ih ⊢
  dsimp only [Nat.brecOn, Nat.rec]
  delta State.runHook._f
  split
  · exact h
  · split
    · extract_lets +onlyGivenNames -merge _ r
      have hr : Canon r.2 := h.fetchWord
      split
      · exact hr.retireDrop
      · extract_lets +onlyGivenNames -merge _ _ s1 s2
        have hs1 : Canon s1 := Canon.branch hr.fresh.countN hr.fresh
        have hs2 : Canon s2 := hs1.modThread
        split
        · exact Canon.branchSnd hs2.endHook (ih hs2)
        · exact hs2.count.modThread
        · exact hs2.modThread
        · exact hs2.modThread
        · exact hs2.endHook
    · exact h

theorem Canon.runHook {s : State} (h : Canon s) {k budget n} : Canon (s.runHook k budget n).2 := by
  induction n generalizing s with
  | zero => exact h
  | succ n ih => exact h.runHook_succ ih

theorem Canon.freshRegs {s : State} (h : Canon s) {n} : Canon (State.freshRegs n s).2 := by
  induction n with
  | zero => exact h
  | succ n ih => exact ih.fresh

theorem Canon.enterHook {s : State} (h : Canon s) {k point entry} :
    Canon (s.enterHook k point entry) := h.freshRegs.fresh.fresh.fresh.fresh.modThread.count

theorem Canon.hookPoint {s : State} (h : Canon s) {k point} : Canon (s.hookPoint k point).2 := by
  unfold State.hookPoint
  split
  · exact h
  · split
    · exact h
    · exact Canon.branchSnd h.runHook (Canon.branchSnd h.modThread (Canon.branchSnd h (Canon.branchSnd h.count
        h.enterHook.runHook)))

/-! #### Steer, R410 to R414, R459 -/

theorem Canon.entryFlowTag {s : State} (h : Canon s) {e f v} : Canon (s.entryFlowTag e f v).2 := by
  unfold State.entryFlowTag
  split
  · split
    · exact h
    · exact h.fresh
  · exact h
  · exact h

theorem Canon.ptpEdit {s : State} (h : Canon s) {id f v} : Canon (s.ptpEdit id f v) := by
  unfold State.ptpEdit
  split
  · exact h
  · refine Canon.branch h ?_
    extract_lets +onlyGivenNames -merge _ _ _ s _
    have hs : Canon s := Canon.branch h (Canon.branch h.count h)
    exact Canon.branch (hs.foldl (fun _ hu _ => hu.withJoinery)) (Canon.branch (Canon.branch hs.count
        hs.modFrame.count) (Canon.branch (Canon.branch hs.count (Canon.branch hs.modFrame.count hs.count)) hs))

theorem Canon.fixDestinations {s : State} (h : Canon s) {k t f} : Canon (s.fixDestinations k t f) :=
  Canon.branch h.count.retireDrop (Canon.fixFrame (Canon.branch h.setFrame.ptpEdit.queueRxStamp h.setFrame.ptpEdit))

theorem Canon.steerTail {s : State} (h : Canon s) {k} : Canon (s.steerTail k) := by
  unfold State.steerTail
  extract_lets
  split
  · split
    · exact h.hookPoint
    · split
      · exact h.hookPoint.setThread
      · split
        · exact Canon.branch h.hookPoint.modThread.entryFlowTag.setFrame.fixDestinations h.hookPoint.fixDestinations
        · exact h.hookPoint.fixDestinations
  · exact h.hookPoint

theorem Canon.steerStep {s : State} (h : Canon s) {k} : Canon (s.steerStep k) := by
  unfold State.steerStep
  split
  · exact h
  · split
    · exact h.setThread
    · exact Canon.steerTail (Canon.modThread (Canon.modFrame (Canon.branchSnd h h.entryFlowTag)))

/-! #### Receive: parse, classify, HK1, identification request -/

theorem Canon.afterHook1 {s : State} (h : Canon s) {k} : Canon (s.afterHook1 k) := by
  unfold State.afterHook1
  split
  · exact h
  · exact Canon.branch h.count.retireDrop h.modThread

theorem Canon.hook1Step {s : State} (h : Canon s) {k} : Canon (s.hook1Step k) := by
  unfold State.hook1Step
  extract_lets
  split
  · exact h.hookPoint.afterHook1
  · exact h.hookPoint

theorem Canon.parseStep {s : State} (h : Canon s) {k} : Canon (s.parseStep k) := by
  unfold State.parseStep
  split
  · exact h
  · split
    · exact h.setThread
    · exact Canon.branch h.modThread (Canon.branch h.count.retireDrop (Canon.branch h.retireDrop (Canon.branch
        h.retireDrop h.modFrame.modThread.hook1Step)))

/-! #### Transmit from the host, R353, R354, R342 -/

theorem Canon.hostStep {s : State} (h : Canon s) {k id f} :
    Canon (s.hostStep k id f) := h.count.setFrame.ptpEdit.fixFrame

/-! #### Dispatch, R397 to R400 -/

theorem Canon.startThread {s : State} (h : Canon s) {j id released} : Canon (s.startThread j id released) := by
  unfold State.startThread
  extract_lets +onlyGivenNames -merge _
  split
  · exact h
  · extract_lets
    split
    · exact h.modFrame.setThread.count.countN.hostStep
    · exact Canon.branch h.modFrame.setThread.count.countN.modThread.steerStep
        h.modFrame.setThread.count.countN.parseStep

theorem Canon.dispatch {s : State} (h : Canon s) : Canon (s.dispatch) := by
  unfold State.dispatch
  split
  · exact h
  · refine Canon.branch h ?_
    refine Canon.branch h.count ?_
    split
    · split
      · exact h.withJoinery
      · exact h
    · exact h.withJoinery.startThread

/-! #### Waits -/

theorem Canon.resume {s : State} (h : Canon s) {k} : Canon (s.resume k) := by
  unfold State.resume
  extract_lets
  split
  · exact h.modThread
  · split
    · exact h.modThread.parseStep
    · exact h.modThread.hook1Step
    · exact h.modThread.steerTail
    · exact h.modThread

theorem Canon.dataArrives {s : State} (h : Canon s) {id n} : Canon (s.dataArrives id n) := by
  unfold State.dataArrives
  split
  · exact h
  · extract_lets
    split
    · exact h.setFrame
    · split
      · exact h.setFrame
      · split
        · exact Canon.branch h.setFrame.resume h.setFrame
        · exact Canon.branch h.setFrame.resume h.setFrame
        · exact h.setFrame

theorem Canon.lookupAnswers {s : State} (h : Canon s) {k} : Canon (s.lookupAnswers k) := by
  unfold State.lookupAnswers
  split
  · exact h
  · split
    · exact h
    · split
      · exact h
      · exact Canon.branch h.modThread.resume h.modThread

/-! #### The stream engine's verdict, R331 to R334 and R379 -/

theorem Canon.secondDomain {s : State} (h : Canon s) {id} : Canon (s.secondDomain id) := by
  unfold State.secondDomain
  split
  · exact h
  · extract_lets +onlyGivenNames -merge _ r
    have hr : Canon r.2 := by
      unfold r
      split
      · exact h.accountPacket
      · split
        · exact h.recoverEntry
        · exact h
    split
    · split
      · exact hr.retireDrop
      · exact hr.dropFrame
    · extract_lets +onlyGivenNames -merge _ s1
      have hs1 : Canon s1 := by
        unfold s1
        split
        · exact hr.orderDrop.setThread
        · exact hr.orderDrop
      exact hs1.flushOrder
    · extract_lets
      split
      · exact hr.modFrame.modThread.steerStep
      · exact hr.modFrame

theorem Canon.reachSecond {s : State} (h : Canon s) {id miss} :
    Canon (s.reachSecond id miss) := Canon.branch (Canon.withStream (Canon.branch h.count h)) h.secondDomain

theorem Canon.engineFrame {s : State} (h : Canon s) {id miss} : Canon (s.engineFrame id miss) := by
  unfold State.engineFrame
  split
  · extract_lets +onlyGivenNames -merge _ _ _ _ _
    refine Canon.branch h.identify.modFrame.police.retireDrop ?_
    extract_lets +onlyGivenNames -merge s1
    have hs1 : Canon s1 := Canon.branch h.identify.modFrame.police.modFrame h.identify.modFrame.police
    split
    · exact Canon.branch hs1.modThread.steerStep hs1.retireDrop
    · exact hs1.reachSecond
  · exact h

theorem Canon.fetchDone {s : State} (h : Canon s) {id} :
    Canon (s.fetchDone id) := Canon.branch h (h.withStream.foldl (fun _ hu _ => hu.secondDomain))

/-! #### Fencing, rotation, gating, loading -/

theorem Canon.testsBegin {s : State} (h : Canon s) : Canon (s.testsBegin) := h.withJoinery

theorem Canon.rotationFence {s : State} (h : Canon s) :
    Canon (s.rotationFence) := Canon.branch h h.setJoinerFence.withJoinery.testsBegin

theorem Canon.rotationEnd {s : State} (h : Canon s) {fail} : Canon (s.rotationEnd fail) := by
  unfold State.rotationEnd
  extract_lets
  split
  · exact h.testsBegin
  · split
    · exact Canon.branch h.testsBegin.advanceTo.setJoinerFence.withFlt.count.raise
        h.testsBegin.advanceTo.setJoinerFence.withFlt.count
    · exact h.testsBegin

theorem Canon.threadTimeout {s : State} (h : Canon s) {k} : Canon (s.threadTimeout k) := by
  unfold State.threadTimeout
  split
  · exact h
  · exact Canon.branch h h.advanceTo.withStream.count.raise.retireDrop

theorem Canon.clusterGate {s : State} (h : Canon s) {c} :
    Canon (s.clusterGate c) := Canon.branch h h.withJoinery.count

theorem Canon.csRewrite {s : State} (h : Canon s) {c} :
    Canon (s.csRewrite c) := Canon.branch h (h.withJoinery.withJoinery.foldl (fun _ hu _ => by
    split
    · exact Canon.branch hu.resume hu
    · exact hu))

/-! #### Meanings -/

theorem Canon.execFrameDispatch {s : State} (h : Canon s) {upsets} : Result.Canon (execFrameDispatch upsets s) :=
  Canon.testsBegin (Canon.dispatch (h.foldl (fun _ hu _ => Canon.branch hu.setUpset hu)))

theorem Canon.execLookupAnswer {s : State} (h : Canon s) {k} :
    Result.Canon (execLookupAnswer k s) := h.lookupAnswers.testsBegin

theorem Canon.execStreamEngineFrame {s : State} (h : Canon s) {id miss} :
    Result.Canon (execStreamEngineFrame id miss s) := Canon.branch h.engineFrame.testsBegin h

theorem Canon.execCacheFetchDone {s : State} (h : Canon s) {id} :
    Result.Canon (execCacheFetchDone id s) := h.fetchDone.testsBegin

theorem Canon.execThreadTimeout {s : State} (h : Canon s) {k} :
    Result.Canon (execThreadTimeout k s) := h.threadTimeout.testsBegin

theorem Canon.execCsScrub {s : State} (h : Canon s) {c a m} :
    Result.Canon (execCsScrub c a m s) := Canon.branch h.setUpset.scrubWord h

theorem Canon.execCsRewrite {s : State} (h : Canon s) {c} : Result.Canon (execCsRewrite c s) := h.csRewrite.testsBegin

theorem Canon.execRotationFence {s : State} (h : Canon s) : Result.Canon (execRotationFence s) := h.rotationFence

theorem Canon.execRotationTestEnd {s : State} (h : Canon s) {fail} :
    Result.Canon (execRotationTestEnd fail s) := h.rotationEnd

theorem Canon.execClusterGate {s : State} (h : Canon s) {c} : Result.Canon (execClusterGate c s) := h.clusterGate

theorem Canon.execSyncTableExpire {s : State} (h : Canon s) {p} : Result.Canon (execSyncTableExpire p s) := by
  unfold Machine.execSyncTableExpire
  split
  · exact h
  · exact h.advanceTo.withJoinery

end Sys2Proof.Machine
end

section
/-!
PROOFS. Every step keeps the canonical form: the functions of Machine/Delivery.lean.
-/

namespace Sys2Proof.Machine

/-! #### Delivering received frames to RX queues -/

theorem Canon.startRx {s : State} (h : Canon s) {q id fs} : Canon (s.startRx q id fs) := by
  induction fs generalizing s with
  | nil => exact h
  | cons f fs ih => exact ih (Canon.branch h.passHead.nextStart h.passHead.nextStart.modQueue)

theorem Canon.writeBuffers {s : State} (h : Canon s) {q es bs} : Canon (s.writeBuffers q es bs) := by
  induction es generalizing s bs with
  | nil => exact h
  | cons e es ih => exact ih h.writeRing

theorem Canon.writeDelivery {s : State} (h : Canon s) {q id} : Canon (s.writeDelivery q id) := by
  unfold State.writeDelivery
  split
  · exact h
  · extract_lets +onlyGivenNames -merge _ _ _
    split
    · exact h
    · exact Canon.endBeats (Canon.pacingEnd (Canon.releaseWq (Canon.countN (Canon.count (Canon.modQueue
        (Canon.withDeliveries (Canon.complete (Canon.foldl (Canon.writeRing (Canon.writeBuffers (Canon.branchSnd
        h.queueRxStamp h))) (fun _ hu _ => hu.writeRing.complete)))))))))

theorem Canon.mirrorFillers {s : State} (h : Canon s) {q es} :
    Canon (s.mirrorFillers q es) := h.foldl (fun _ hu _ => hu.mirror)

theorem Canon.rxDeliver {s : State} (h : Canon s) {q} : Canon (s.rxDeliver q) := by
  unfold State.rxDeliver
  extract_lets
  split
  · exact h
  · split
    · exact h.modQueue
    · extract_lets +onlyGivenNames -merge discard
      have hdiscard : ∀ u, Canon u → Canon (discard u) := fun _ hu => hu.modQueue.releaseWq
      refine Canon.branch (hdiscard _ h) ?_
      refine Canon.branch h ?_
      split
      · exact Canon.branch h h.modQueue.modFrame
      · exact hdiscard _ h.queueError
      · extract_lets +onlyGivenNames -merge _ entry
        clear_value entry
        refine Canon.branch h.stall ?_
        extract_lets
        split
        · exact h.modQueue.mirrorFillers.takeEngine.startRx.withDeliveries.writeDelivery
        · exact Canon.branch h.modQueue.mirrorFillers.takeEngine.startRx.withDeliveries.mirror
            h.modQueue.mirrorFillers.takeEngine.startRx.withDeliveries.mirror.writeDelivery

theorem Canon.execRxDelivery {s : State} (h : Canon s) {q} :
    Result.Canon (execRxDelivery q s) := Canon.branch h.rxDeliver h

end Sys2Proof.Machine
end

section
/-!
PROOFS. Every step keeps the canonical form: the functions of Machine/GatesCore.lean.
-/

namespace Sys2Proof.Machine

/-! #### Laying lists against cycles, R164 -/

theorem Canon.noteGates {s : State} (h : Canon s) {p} : Canon (s.noteGates p) := by
  unfold State.noteGates
  extract_lets +onlyGivenNames -merge _ _ _ _ _ s1
  have hs1 : Canon s1 := Canon.branch h.setPort.count h.setPort
  exact Canon.branch hs1.count hs1

end Sys2Proof.Machine
end

section
/-!
PROOFS. Every step keeps the canonical form: the functions of Machine/Service.lean.
-/

namespace Sys2Proof.Machine

/-! #### Flows, R205 to R219 -/

theorem Canon.setFlow {s : State} (h : Canon s) {p c n f} :
    Canon (s.setFlow p c n f) := Canon.branch h.modPort h.modPort

theorem Canon.takeFromFlow {s : State} (h : Canon s) {p c n id} : Canon (s.takeFromFlow p c n id) := h.setFlow

theorem Canon.chargeFrame {s : State} (h : Canon s) {p c n q} :
    Canon (s.chargeFrame p c n q) := h.setFlow.modPort.count.countN

theorem Canon.noteIdle {s : State} (h : Canon s) {p} : Canon (s.noteIdle p) :=
  h.foldl (fun _ hu _ => Canon.branch (Canon.branch hu.setFlow hu) (Canon.branch hu.setFlow.count (Canon.branch hu
    hu.setFlow)))

/-! #### Credits, R200 to R203 -/

theorem Canon.bringCredit {s : State} (h : Canon s) {p} : Canon (s.bringCredit p) := Canon.branch h h.setPort

/-! #### Enqueue, R206, R213 -/

theorem Canon.serveFlow {s : State} (h : Canon s) {p c tag} : Canon (s.serveFlow p c tag).2 := by
  unfold State.serveFlow
  split
  · exact h
  · extract_lets +onlyGivenNames -merge _
    split
    · exact h.setFlow.count
    · exact Canon.branch h.count h.count.raise

theorem Canon.enqueueFlow {s : State} (h : Canon s) {p c n q} : Canon (s.enqueueFlow p c n q) := h.setFlow

end Sys2Proof.Machine
end

section
/-!
PROOFS. Every step keeps the canonical form: the functions of Machine/Wire.lean.
-/

namespace Sys2Proof.Machine

/-! #### MACsec on transmit, R291 to R297 -/

theorem Canon.setSecChan {s : State} (h : Canon s) {p k c} : Canon (s.setSecChan p k c) := h.modPort

theorem Canon.pnWarn {s : State} (h : Canon s) {p k an pn} : Canon (s.pnWarn p k an pn) := h.notify

theorem Canon.takePn {s : State} (h : Canon s) {p k} : Canon (s.takePn p k).2 := by
  unfold State.takePn
  extract_lets
  split
  · exact h
  · exact Canon.branch h.setSecChan.count.countN.pnWarn h.setSecChan.count.countN

/-! #### Start thresholds, R23, R30, R289, R311 -/

theorem Canon.refuseCopy {s : State} (h : Canon s) {p id status} : Canon (s.refuseCopy p id status) := by
  unfold State.refuseCopy
  split
  · exact h
  · exact h.copyOf.releaseEgress

/-! #### Fragments, R249 to R258 -/

theorem Canon.cut {s : State} (h : Canon s) {p t mark} : Canon (s.cut p t mark) := by
  unfold State.cut
  split
  · exact h
  · refine Canon.branch h ?_
    split
    · exact h
    · exact h.modPort

/-! #### The transmit decision, R192 -/

theorem Canon.startOffer {s : State} (h : Canon s) {p c lv o r start} : Canon (s.startOffer p c lv o r start).2 := by
  unfold State.startOffer
  extract_lets +onlyGivenNames -merge _ _ _ _ _ _
  split
  · exact Canon.modPort (Canon.branch h.count h)
  · exact Canon.branch h.modPort h.modPort.modPort
  · exact Canon.branch h.chargeFrame.modPort h.chargeFrame

theorem Canon.tryClass {s : State} (h : Canon s) {p c start on} : Canon (s.tryClass p c start on).2 := by
  unfold State.tryClass
  extract_lets +onlyGivenNames -merge _ _ _ _
  refine Canon.branchSnd h ?_
  extract_lets +onlyGivenNames -merge held
  clear_value held
  refine Canon.branchSnd h ?_
  extract_lets +onlyGivenNames -merge try_
  have htry_ : ∀ u, Canon u → ∀ v, ∀ w, ∀ x, Canon (try_ u v w x).2 := fun _ hu _ _ _ => by
      unfold try_
      split
      · refine Canon.branchSnd hu ?_
        extract_lets
        split
        · exact hu.count.modPort
        · exact hu.count.modPort
        · exact hu.count.setFlow
      · exact hu
  split
  · exact htry_ _ h _ _ _
  · refine Canon.branchSnd h ?_
    refine Canon.branchSnd h.count ?_
    split
    · exact Canon.branchSnd (htry_ _ h _ _ _) h
    · split
      · exact Canon.branch h h.count
      · exact Canon.branchSnd (htry_ _ h _ _ _) h

theorem Canon.tryClasses {s : State} (h : Canon s) {p start on cs} : Canon (s.tryClasses p start on cs).2 := by
  induction cs generalizing s with
  | nil => exact h
  | cons c cs ih =>
    have ht : Canon (s.tryClass p c start on).2 := h.tryClass
    unfold State.tryClasses
    split
    · next e => rw [e] at ht; exact ht
    · next e => rw [e] at ht; exact ih ht

theorem Canon.clearHeads {s : State} (h : Canon s) {p n} : Canon (s.clearHeads p n) := by
  induction n generalizing s with
  | zero => exact h
  | succ n ih =>
    unfold State.clearHeads
    extract_lets
    split
    · exact h
    · exact Canon.branch (ih h.takeFromFlow.count.refuseCopy) (ih h.setFlow)

theorem Canon.holdRule {s : State} (h : Canon s) {p} : Canon (s.holdRule p) :=
  Canon.branch (Canon.cut (Canon.modPort (Canon.branch h.count h))) (Canon.modPort (Canon.branch h.count h))

theorem Canon.overrunRule {s : State} (h : Canon s) {p} : Canon (s.overrunRule p) := by
  unfold State.overrunRule
  split
  · exact Canon.branch h.modPort.count h
  · exact h

theorem Canon.refuseOffer {s : State} (h : Canon s) {p c o status} : Canon (s.refuseOffer p c o status) := by
  unfold State.refuseOffer
  split
  · exact h
  · exact h.modPort.refuseCopy
  · exact h.takeFromFlow.refuseCopy

theorem Canon.decideN {s : State} (h : Canon s) {p n} : Canon (s.decideN p n) := by
  induction n generalizing s with
  | zero => exact h
  | succ n ih =>
    unfold State.decideN
    extract_lets +onlyGivenNames -merge _ _ place
    refine Canon.branch h (Canon.branch h ?_)
    clear_value place
    split
    · exact h
    · next start on d =>
      have ht : Canon (s.tryClasses p start on (s.classOrder p)).2 := h.tryClasses
      split
      · next e => rw [e] at ht; exact ht
      · next u c lv o r e =>
        rw [e] at ht
        extract_lets +onlyGivenNames -merge fresh _ sec
        clear_value fresh sec
        split
        · exact ih ht.refuseOffer.clearHeads
        · exact ih ht.count.refuseOffer.clearHeads
        · next sec _ _ =>
          extract_lets +onlyGivenNames -merge x _ _ y t
          have hx : Canon x.2 := ht.startOffer
          have hy : Canon y.2 := by
            unfold y
            split
            · exact hx.count
            · exact hx.takePn
            · exact hx
          have hz : Canon t := hy.clearHeads
          split
          · exact hz.modPort
          · exact Canon.branch hz.cut hz.cut.modPort

theorem Canon.decide_ {s : State} (h : Canon s) {p} :
    Canon (s.decide_ p) := Canon.branch h.bringCredit.noteGates.holdRule.overrunRule.clearHeads.decideN h

/-! #### Ends of transmissions -/

theorem Canon.countTx {s : State} (h : Canon s) {p dst n} : Canon (s.countTx p dst n) := h.count.countN.count.count

theorem Canon.fixResidence {s : State} (h : Canon s) {f p began} : Canon (s.fixResidence f p began) := by
  unfold State.fixResidence
  split
  · exact h.withJoinery
  · exact h

theorem Canon.txRecord {s : State} (h : Canon s) {f p began} : Canon (s.txRecord f p began) := by
  unfold State.txRecord
  split
  · refine Canon.branch ?_ h
    split
    · exact h.queueTxStamp.modStarted
    · exact h
  · exact h

theorem Canon.frameSent {s : State} (h : Canon s) {p w} : Canon (s.frameSent p w) := by
  unfold State.frameSent
  split
  · exact h
  · exact Canon.releaseEgress (Canon.copyOf (Canon.txRecord (Canon.modPort (Canon.fixResidence (Canon.branch
      h.countTx.count h.countTx)))))

/-! #### Span frames on the wire -/

theorem Canon.settleGroup {s : State} (h : Canon s) {g frame} : Canon (s.settleGroup g frame) := by
  unfold State.settleGroup
  split
  · exact h
  · refine Canon.branch h ?_
    split
    · exact h
    · exact h.copyOf.releaseSlot

theorem Canon.spanSent {s : State} (h : Canon s) {p w} : Canon (s.spanSent p w) := by
  unfold State.spanSent
  extract_lets
  split
  · exact h.countTx
  · extract_lets +onlyGivenNames -merge s
    have hs : Canon s := by
      unfold s
      split
      · exact h.countTx.txRecord
      · exact h.countTx
    exact hs.settleGroup

theorem Canon.suspend {s : State} (h : Canon s) {p w} : Canon (s.suspend p w) := by
  unfold State.suspend
  extract_lets +onlyGivenNames -merge _
  refine Canon.branch h.count.count.refuseCopy ?_
  extract_lets +onlyGivenNames -merge _ _ s2 s3
  have hs2 : Canon s2 := Canon.branch h.count.modPort.count h.count.modPort
  have hs3 : Canon s3 := Canon.branch hs2.count hs2
  exact Canon.branch hs3.count hs3

theorem Canon.dropSuspended {s : State} (h : Canon s) {p} :
    Canon (s.dropSuspended p) := h.modPort.foldl (fun _ hu _ => hu.count.refuseCopy)

theorem Canon.advertChanged {s : State} (h : Canon s) {p} : Canon (s.advertChanged p) := h.modPort

theorem Canon.settleMode {s : State} (h : Canon s) {p} : Canon (s.settleMode p) :=
  Canon.branch h.modPort (Canon.branch h.modPort (Canon.branch h.modPort.count.advertChanged h.modPort))

/-! #### Frames of the device's own -/

theorem Canon.clearCtrl {s : State} (h : Canon s) {p} : Canon (s.clearCtrl p) := by
  unfold State.clearCtrl
  extract_lets +onlyGivenNames -merge _ drop
  have hdrop : ∀ u, Canon u → Canon (drop u) := fun _ hu => hu.modPort
  refine Canon.branch h ?_
  split
  · exact hdrop _ h
  · exact Canon.countN (hdrop _ h)
  · exact h

theorem Canon.ctrlStarted {s : State} (h : Canon s) {p c start} : Canon (s.ctrlStarted p c start) := by
  unfold State.ctrlStarted
  split
  · exact h.count
  · exact h.count
  · exact h.count
  · exact h.modPort.count
  · exact Canon.branch h.addCtrl h
  · exact h.modPtime
  · exact h.modPtime
  · exact Canon.branch h.addCtrl h
  · exact h

theorem Canon.startCtrl {s : State} (h : Canon s) {p c} :
    Canon (s.startCtrl p c) := Canon.ctrlStarted (Canon.modPort (Canon.branch h.takePn (Canon.branch h.count h)))

theorem Canon.wireFree {s : State} (h : Canon s) {p} : Canon (s.wireFree p) := by
  unfold State.wireFree
  extract_lets +onlyGivenNames -merge _
  split
  · exact h.settleMode.bringCredit.modPort
  · extract_lets
    split
    · exact h.settleMode.clearCtrl.bringCredit.startCtrl
    · exact h.settleMode.clearCtrl.decide_

theorem Canon.leaveLpi {s : State} (h : Canon s) {p} : Canon (s.leaveLpi p) := Canon.branch h h.setPort.countN

theorem Canon.kick {s : State} (h : Canon s) {p} : Canon (s.kick p) := Canon.branch h.leaveLpi.wireFree h.leaveLpi

end Sys2Proof.Machine
end

section
/-!
PROOFS. Every step keeps the canonical form: the functions of Machine/PortEvents.lean.
-/

namespace Sys2Proof.Machine

/-! #### The wire -/

theorem Canon.wireEnds {s : State} (h : Canon s) {p} : Canon (s.wireEnds p) := by
  unfold State.wireEnds
  split
  · exact h.wireFree
  · exact Canon.branch h h.advanceToQ.overrunRule.bringCredit.modPort.noteIdle.wireFree

theorem Canon.fragmentEnds {s : State} (h : Canon s) {p} : Canon (s.fragmentEnds p) := by
  unfold State.fragmentEnds
  split
  · exact Canon.branch h h.advanceToQ.modPort.suspend
  · exact h

theorem Canon.frameEnds {s : State} (h : Canon s) {p} : Canon (s.frameEnds p) := by
  unfold State.frameEnds
  split
  · refine Canon.branch h ?_
    extract_lets
    split
    · exact Canon.frameSent (Canon.branch h.advanceToQ.modPort h.advanceToQ.modPort.count)
    · exact h.advanceToQ.modPort.spanSent
    · exact h.advanceToQ.modPort
  · exact h

/-! #### Enqueue, R181, R206, R213, R288 -/

theorem Canon.enqueue {s : State} (h : Canon s) {p} : Canon (s.enqueue p) := by
  unfold State.enqueue
  split
  · exact h
  · extract_lets +onlyGivenNames -merge _
    split
    · exact h.modPort
    · exact Canon.branch h.modPort.count.refuseCopy (Canon.branch h.modPort.count.refuseCopy (Canon.branch
        h.modPort.bringCredit.leaveLpi.serveFlow.enqueueFlow.decide_
        h.modPort.bringCredit.leaveLpi.serveFlow.enqueueFlow))

theorem Canon.shaperReady {s : State} (h : Canon s) {p c n} : Canon (s.shaperReady p c n) := by
  unfold State.shaperReady
  extract_lets +onlyGivenNames -merge _ _ s
  have hs : Canon s := Canon.branch h h.advanceToQ
  exact Canon.branch hs hs.decide_

theorem Canon.creditReady {s : State} (h : Canon s) {p c} : Canon (s.creditReady p c) := by
  unfold State.creditReady
  extract_lets +onlyGivenNames -merge _ _ _ _ s1
  have hs1 : Canon s1 := Canon.branch h.bringCredit.advanceToQ h.bringCredit
  exact Canon.branch hs1.decide_ hs1

theorem Canon.flowAges {s : State} (h : Canon s) {p n} : Canon (s.flowAges p n) := by
  unfold State.flowAges
  extract_lets
  split
  · exact Canon.branch h h.advanceTo.setFlow.count
  · exact h

theorem Canon.gateChanges {s : State} (h : Canon s) {p} : Canon (s.gateChanges p) := by
  unfold State.gateChanges
  extract_lets +onlyGivenNames -merge _ s1
  have hs1 : Canon s1 := by
    unfold s1
    split
    · exact h.bringCredit.advanceToU
    · exact h.bringCredit
  exact hs1.decide_

/-! #### PAUSE and PFC, R301 to R308 -/

theorem Canon.loadPause {s : State} (h : Canon s) {p k quanta} :
    Canon (s.loadPause p k quanta) := Canon.branch (Canon.branch h.setPort h.count) h.setPort

theorem Canon.pauseOnWire {s : State} (h : Canon s) {p before} : Canon (s.pauseOnWire p before) := by
  unfold State.pauseOnWire
  split
  · exact Canon.branch h.cut.count h
  · exact h

theorem Canon.macControl {s : State} (h : Canon s) {p b} : Canon (s.macControl p b) := by
  unfold State.macControl
  extract_lets +onlyGivenNames -merge _ _ _
  refine Canon.branch (Canon.branch h.count.bringCredit h.count.bringCredit.loadPause.pauseOnWire.decide_) ?_
  refine Canon.branch ?_ h.count
  extract_lets +onlyGivenNames -merge _ s
  have hs : Canon s := Canon.bringCredit (h.foldl (fun _ hu _ => hu.count))
  exact Canon.branch hs (Canon.decide_ (Canon.pauseOnWire (hs.foldl (fun _ hu _ => hu.loadPause))))

theorem Canon.pauseExpires {s : State} (h : Canon s) {p k} :
    Canon (s.pauseExpires p k) := Canon.branch h h.advanceToQ.bringCredit.modPort.decide_

theorem Canon.pauseRefresh {s : State} (h : Canon s) {p k} : Canon (s.pauseRefresh p k) := by
  unfold State.pauseRefresh
  split
  · exact h
  · exact Canon.branch h (Canon.branch h.advanceTo.modPort.sendPause.kick h.advanceTo.pauseKey.kick)

/-! #### The MAC merge state machine, R268 to R270 -/

theorem Canon.mmgSucceed {s : State} (h : Canon s) {p} : Canon (s.mmgSucceed p) := h.modPort.modPort.advertChanged

theorem Canon.mmgStop {s : State} (h : Canon s) {p next} :
    Canon (s.mmgStop p next) := Canon.dropSuspended (Canon.modPort (Canon.branch h.advertChanged h))

theorem Canon.verifyStep {s : State} (h : Canon s) {p} : Canon (s.verifyStep p) := by
  unfold State.verifyStep
  extract_lets +onlyGivenNames -merge s
  have hs : Canon s := Canon.branch h.modPort h
  exact Canon.branch (Canon.branch hs.mmgSucceed hs.modPort) hs

theorem Canon.partnerChanged {s : State} (h : Canon s) {p old79 oldCaps} :
    Canon (s.partnerChanged p old79 oldCaps) := by
  unfold State.partnerChanged
  extract_lets +onlyGivenNames -merge _ _ s
  have hs : Canon s := by
    unfold s
    split
    · exact Canon.branch h.modPort h
    · exact Canon.branch h.modPort h
    · exact Canon.branch h h.mmgStop
    · exact h
  exact hs.verifyStep.settleMode

theorem Canon.setPartner {s : State} (h : Canon s) {p c79 lz caps flags version ttl} :
    Canon (s.setPartner p c79 lz caps flags version ttl) := h.setPort.partnerChanged

theorem Canon.partnerExpires {s : State} (h : Canon s) {p} : Canon (s.partnerExpires p) := by
  unfold State.partnerExpires
  split
  · exact h
  · exact h.advanceTo.setPort.partnerChanged

theorem Canon.verifyTimeout {s : State} (h : Canon s) {p} : Canon (s.verifyTimeout p) := by
  unfold State.verifyTimeout
  split
  · exact Canon.branch h.advanceTo.modPort h.advanceTo.modPort.count.raise
  · exact h

theorem Canon.verifySend {s : State} (h : Canon s) {p} :
    Canon (s.verifySend p) := Canon.branch h (Canon.branch h.kick h.addCtrl.kick)

/-! #### Links, R281 to R284 -/

theorem Canon.linkNotice {s : State} (h : Canon s) {p state} : Canon (s.linkNotice p state) := h.notify

theorem Canon.linkFalls {s : State} (h : Canon s) {p} :
    Canon (s.linkFalls p) := Canon.branch h.modPort.count.linkNotice.dropSuspended h.modPort.count.linkNotice.mmgStop

theorem Canon.pcsUp {s : State} (h : Canon s) {p} : Canon (s.pcsUp p) := by
  unfold State.pcsUp
  extract_lets +onlyGivenNames -merge _
  refine Canon.branch h ?_
  extract_lets
  split
  · exact h.setPort
  · exact h.setPort.modPort.count.verifyStep.decide_
  · exact h.setPort.modPort.linkNotice.verifyStep.decide_

theorem Canon.pcsDown {s : State} (h : Canon s) {p signal hiBer} :
    Canon (s.pcsDown p signal hiBer) := Canon.branch h.modPort (Canon.branch h.modPort.linkFalls h.modPort.modPort)

theorem Canon.debounceExpires {s : State} (h : Canon s) {p} : Canon (s.debounceExpires p) := by
  unfold State.debounceExpires
  split
  · exact Canon.branch h.advanceTo.linkFalls h
  · exact h

theorem Canon.dropQueued {s : State} (h : Canon s) {p status counter} :
    Canon (s.dropQueued p status counter) := h.modPort.noteIdle.foldl (fun _ hu _ => Canon.refuseCopy (by
    split
    · exact hu.count
    · exact hu))

theorem Canon.downDiscard {s : State} (h : Canon s) {p} : Canon (s.downDiscard p) := by
  unfold State.downDiscard
  split
  · exact Canon.branch h h.advanceTo.modPort.bringCredit.dropQueued
  · exact h

/-! #### Underrun and LPI, R299 and R309 to R312 -/

theorem Canon.underrun {s : State} (h : Canon s) {p} : Canon (s.underrun p) := by
  unfold State.underrun
  split
  · exact Canon.branch h h.setPort.count
  · exact h

theorem Canon.underrunDecay {s : State} (h : Canon s) {p c} :
    Canon (s.underrunDecay p c) := Canon.branch h h.advanceTo.setPort

theorem Canon.lpiEnter {s : State} (h : Canon s) {p} :
    Canon (s.lpiEnter p) := Canon.branch h h.advanceToQ.modPort.count

/-! #### LLDP, R264 -/

theorem Canon.lldpSend {s : State} (h : Canon s) {p} : Canon (s.lldpSend p) := by
  unfold State.lldpSend
  refine Canon.branch h ?_
  extract_lets +onlyGivenNames -merge s
  have hs : Canon s := by
    unfold s
    split
    · exact h.advanceTo
    · exact h
  exact hs.addCtrl.modPort.kick

/-! #### Meanings -/

theorem Canon.execWireFree {s : State} (h : Canon s) {p} :
    Result.Canon (execWireFree p s) := Canon.branch h.wireEnds h

theorem Canon.execFragmentEnd {s : State} (h : Canon s) {p} :
    Result.Canon (execFragmentEnd p s) := Canon.branch h.fragmentEnds h

theorem Canon.execFrameTxEnd {s : State} (h : Canon s) {p} :
    Result.Canon (execFrameTxEnd p s) := Canon.branch h.frameEnds h

theorem Canon.execCbsCreditEligible {s : State} (h : Canon s) {p c} :
    Result.Canon (execCbsCreditEligible p c s) := Canon.branch h.creditReady h

theorem Canon.execShaperEligible {s : State} (h : Canon s) {p c n} :
    Result.Canon (execShaperEligible p c n s) := Canon.branch h.shaperReady h

theorem Canon.execEnqueueComplete {s : State} (h : Canon s) {p} :
    Result.Canon (execEnqueueComplete p s) := Canon.branch h.enqueue h

theorem Canon.execFlowAgeExpire {s : State} (h : Canon s) {p n} :
    Result.Canon (execFlowAgeExpire p n s) := Canon.branch h.flowAges h

theorem Canon.execGateEntryChange {s : State} (h : Canon s) {p} :
    Result.Canon (execGateEntryChange p s) := Canon.branch h.gateChanges h

theorem Canon.execPauseTimerExpire {s : State} (h : Canon s) {p k} :
    Result.Canon (execPauseTimerExpire p k s) := Canon.branch h.pauseExpires h

theorem Canon.execPauseRefresh {s : State} (h : Canon s) {p k} :
    Result.Canon (execPauseRefresh p k s) := Canon.branch h.pauseRefresh h

theorem Canon.execVerifySend {s : State} (h : Canon s) {p} :
    Result.Canon (execVerifySend p s) := Canon.branch h.verifySend h

theorem Canon.execVerifyTimeout {s : State} (h : Canon s) {p} :
    Result.Canon (execVerifyTimeout p s) := Canon.branch h.verifyTimeout h

theorem Canon.execLldpTx {s : State} (h : Canon s) {p} : Result.Canon (execLldpTx p s) := h.lldpSend

theorem Canon.execPartnerValuesExpire {s : State} (h : Canon s) {p} :
    Result.Canon (execPartnerValuesExpire p s) := Canon.branch h.partnerExpires h

theorem Canon.execOperationModeChange {s : State} (h : Canon s) {p} :
    Result.Canon (execOperationModeChange p s) := Canon.branch h.settleMode h

theorem Canon.execPcsLinkUp {s : State} (h : Canon s) {p} : Result.Canon (execPcsLinkUp p s) := Canon.branch h.pcsUp h

theorem Canon.execPcsLinkDown {s : State} (h : Canon s) {p signal hiBer} :
    Result.Canon (execPcsLinkDown p signal hiBer s) := Canon.branch h.pcsDown h

theorem Canon.execLinkDebounceExpire {s : State} (h : Canon s) {p} :
    Result.Canon (execLinkDebounceExpire p s) := Canon.branch h.debounceExpires h

theorem Canon.execLinkDownDiscard {s : State} (h : Canon s) {p} :
    Result.Canon (execLinkDownDiscard p s) := Canon.branch h.downDiscard h

theorem Canon.execTxUnderrun {s : State} (h : Canon s) {p} :
    Result.Canon (execTxUnderrun p s) := Canon.branch h.underrun h

theorem Canon.execUnderrunDecay {s : State} (h : Canon s) {p c} :
    Result.Canon (execUnderrunDecay p c s) := Canon.branch h.underrunDecay h

theorem Canon.execLpiEnter {s : State} (h : Canon s) {p} :
    Result.Canon (execLpiEnter p s) := Canon.branch h.lpiEnter h

end Sys2Proof.Machine
end

section
/-!
PROOFS. Every step keeps the canonical form: the functions of Machine/StreamCmds.lean.
-/

namespace Sys2Proof.Machine

/-! #### Direct commands -/

theorem Canon.execStreamStatus {s : State} (h : Canon s) {c} :
    Result.Canon (execStreamStatus c s) := h.runStep (fun _ hu => hu)

theorem Canon.execStreamRead {s : State} (h : Canon s) {c} :
    Result.Canon (execStreamRead c s) := h.runStep (fun _ hu => Canon.branchEff hu hu)

theorem Canon.execStreamFind {s : State} (h : Canon s) {c} :
    Result.Canon (execStreamFind c s) := h.runStep (fun _ hu => by
    split
    · exact hu
    · exact hu)

theorem Canon.execRcvyRead {s : State} (h : Canon s) {c} :
    Result.Canon (execRcvyRead c s) := h.runStep (fun _ hu => Canon.branchEff hu hu)

theorem Canon.execAccountRead {s : State} (h : Canon s) {c} :
    Result.Canon (execAccountRead c s) := h.runStep (fun _ hu => Canon.branchEff hu hu)

theorem Canon.execSeqReset {s : State} (h : Canon s) {c} :
    Result.Canon (execSeqReset c s) := h.runStep (fun _ hu => by
    extract_lets +onlyGivenNames -merge _
    split
    · exact Canon.branchEff hu hu.setRcvy.mirrorRcvyOf
    · exact Canon.branchEff hu hu.setEntry.mirrorEntryOf
    · exact Canon.branchEff hu (Canon.mirrorAccountOf (Canon.setAccount (Canon.branch hu hu.releaseThrough)))
    · exact hu)

theorem Canon.execStreamForget {s : State} (h : Canon s) {c} :
    Result.Canon (execStreamForget c s) := h.runStep (fun _ hu => Canon.branchEff hu hu.forget)

/-! #### Bench commands -/

theorem Canon.execSetStreams {s : State} (h : Canon s) {c} : Result.Canon (execSetStreams c s) := h.benchArray

theorem Canon.execSetRecovery {s : State} (h : Canon s) {c} : Result.Canon (execSetRecovery c s) := h.benchArray

theorem Canon.execSetAccounts {s : State} (h : Canon s) {c} : Result.Canon (execSetAccounts c s) := h.benchArray

theorem Canon.execSetMaskRule {s : State} (h : Canon s) {c} :
    Result.Canon (execSetMaskRule c s) := h.runStep (fun _ hu => hu.acceptSetting)

theorem Canon.execSetLearnRule {s : State} (h : Canon s) {c} : Result.Canon (execSetLearnRule c s) := h.benchSet

theorem Canon.execSetStreamGlobal {s : State} (h : Canon s) {c} : Result.Canon (execSetStreamGlobal c s) := h.benchSet

/-! #### Policing commands -/

theorem Canon.execFilterRead {s : State} (h : Canon s) {c} :
    Result.Canon (execFilterRead c s) := h.runStep (fun _ hu => Canon.branchEff hu hu)

theorem Canon.execMeterRead {s : State} (h : Canon s) {c} :
    Result.Canon (execMeterRead c s) := h.runStep (fun _ hu => Canon.branchEff hu hu)

theorem Canon.execFilterUnblock {s : State} (h : Canon s) {c} :
    Result.Canon (execFilterUnblock c s) := h.runStep (fun _ hu => Canon.branchEff hu hu.setFilter)

theorem Canon.execMeterUnmark {s : State} (h : Canon s) {c} :
    Result.Canon (execMeterUnmark c s) := h.runStep (fun _ hu => Canon.branchEff hu hu.setMeter)

theorem Canon.execSetStreamFilter {s : State} (h : Canon s) {c} : Result.Canon (execSetStreamFilter c s) := h.benchSet

theorem Canon.execSetFlowMeter {s : State} (h : Canon s) {c} : Result.Canon (execSetFlowMeter c s) := h.benchSet

/-! #### Pegged settings, R236, R382, R383, R393 -/

theorem Canon.applyStreamEntry {s : State} (h : Canon s) {b} : Canon (s.applyStreamEntry b) :=
  Canon.branch (Canon.branch h.forget h.freeEntry) (Canon.mirrorEntryOf (Canon.setEntry (Canon.branch h.forget h)))

theorem Canon.applyStreams {s : State} (h : Canon s) {x} :
    Canon (s.applyStreams x) := h.foldl (fun _ hu _ => hu.applyStreamEntry)

theorem Canon.applyRecoveryEntry {s : State} (h : Canon s) {b} :
    Canon (s.applyRecoveryEntry b) := Canon.branch h.freeRcvy h.setRcvy.mirrorRcvyOf

theorem Canon.applyRecovery {s : State} (h : Canon s) {x} :
    Canon (s.applyRecovery x) := h.foldl (fun _ hu _ => hu.applyRecoveryEntry)

theorem Canon.applyAccountEntry {s : State} (h : Canon s) {b} : Canon (s.applyAccountEntry b) :=
  Canon.branch (Canon.mirrorAccountOf (Canon.setAccount (Canon.branch h h.releaseThrough))) (Canon.branch
    h.setAccount.mirrorAccountOf (Canon.mirrorAccountOf (Canon.setAccount (Canon.branch h.releaseThrough h))))

theorem Canon.applyAccounts {s : State} (h : Canon s) {x} :
    Canon (s.applyAccounts x) := h.foldl (fun _ hu _ => hu.applyAccountEntry)

theorem Canon.applyMaskRule {s : State} (h : Canon s) {x} : Canon (s.applyMaskRule x) := h.withStream

theorem Canon.applyLearnRule {s : State} (h : Canon s) {x} :
    Canon (s.applyLearnRule x) := h.setReg.setReg.setReg.setReg

theorem Canon.applyStreamGlobal {s : State} (h : Canon s) {x} :
    Canon (s.applyStreamGlobal x) := h.setReg.setReg.setReg.setReg

theorem Canon.applyStreamFilter {s : State} (h : Canon s) {x} :
    Canon (s.applyStreamFilter x) := Canon.branch h.setFilter h.setFilter

theorem Canon.applyFlowMeter {s : State} (h : Canon s) {x} :
    Canon (s.applyFlowMeter x) := Canon.branch h.setMeter h.setMeter

end Sys2Proof.Machine
end

section
/-!
PROOFS. Every step keeps the canonical form: the functions of Machine/PortCmds.lean.
-/

namespace Sys2Proof.Machine

/-! #### Registers -/

theorem Canon.portStep {s : State} (h : Canon s) {code c eff} (heff : ∀ u, Canon u → ∀ v, (eff u v).Canon) :
    Result.Canon (portStep code c s eff) := h.runStep (fun _ hu => Canon.branchEff (heff _ hu _) hu)

/-! #### Direct commands -/

theorem Canon.execPortStatus {s : State} (h : Canon s) {c} :
    Result.Canon (execPortStatus c s) := h.portStep (fun _ hu _ => hu)

theorem Canon.execLinkRestart {s : State} (h : Canon s) {c} :
    Result.Canon (execLinkRestart c s) := h.portStep (fun _ hu _ => hu.linkFalls)

theorem Canon.execMacsecScRead {s : State} (h : Canon s) {c} :
    Result.Canon (execMacsecScRead c s) := h.portStep (fun _ hu _ => Canon.branchEff hu hu)

theorem Canon.execThreshReset {s : State} (h : Canon s) {c} :
    Result.Canon (execThreshReset c s) := h.portStep (fun _ hu _ => hu.modPort)

theorem Canon.execMacMergeStatus {s : State} (h : Canon s) {c} :
    Result.Canon (execMacMergeStatus c s) := h.portStep (fun _ hu _ => hu)

theorem Canon.execMacMergePartner {s : State} (h : Canon s) {c} : Result.Canon (execMacMergePartner c s) :=
  h.portStep (fun _ hu _ => Canon.branchEff hu (Canon.branchEff hu hu.setPartner))

theorem Canon.execVerifyRestart {s : State} (h : Canon s) {c} :
    Result.Canon (execVerifyRestart c s) := h.portStep (fun _ hu _ => Canon.branchEff hu hu.modPort.verifyStep)

theorem Canon.execGateStatus {s : State} (h : Canon s) {c} :
    Result.Canon (execGateStatus c s) := h.runStep (fun _ hu => hu)

theorem Canon.execGateListRead {s : State} (h : Canon s) {c} : Result.Canon (execGateListRead c s) :=
  h.runStep (fun _ hu => Canon.branchEff hu (Canon.branchEff hu hu.writeHost))

theorem Canon.execQsvStatus {s : State} (h : Canon s) {c} :
    Result.Canon (execQsvStatus c s) := h.runStep (fun _ hu => hu)

theorem Canon.execFlowRead {s : State} (h : Canon s) {c} :
    Result.Canon (execFlowRead c s) := h.runStep (fun _ hu => by
    extract_lets +onlyGivenNames -merge _ _ n
    clear_value n
    split
    · exact hu
    · exact Canon.branchEff hu hu)

/-! #### Bench commands -/

theorem Canon.execSetPortMode {s : State} (h : Canon s) {c} :
    Result.Canon (execSetPortMode c s) := h.runStep (fun _ hu => hu.acceptSetting)

theorem Canon.execSetPortFrame {s : State} (h : Canon s) {c} : Result.Canon (execSetPortFrame c s) := h.benchSet

theorem Canon.execSetFlowControl {s : State} (h : Canon s) {c} : Result.Canon (execSetFlowControl c s) := h.benchSet

theorem Canon.execSetEee {s : State} (h : Canon s) {c} : Result.Canon (execSetEee c s) := h.benchSet

theorem Canon.execSetPortWake {s : State} (h : Canon s) {c} : Result.Canon (execSetPortWake c s) := h.benchSet

theorem Canon.execSetMacsecPort {s : State} (h : Canon s) {c} : Result.Canon (execSetMacsecPort c s) := h.benchSet

theorem Canon.execSetMacsecSc {s : State} (h : Canon s) {c} : Result.Canon (execSetMacsecSc c s) := h.benchSet

theorem Canon.execSetMacsecSa {s : State} (h : Canon s) {c} :
    Result.Canon (execSetMacsecSa c s) := h.runStep (fun _ hu => hu.acceptSetting)

theorem Canon.execSetMacMerge {s : State} (h : Canon s) {c} : Result.Canon (execSetMacMerge c s) := h.benchSet

theorem Canon.execSetCuttingList {s : State} (h : Canon s) {c} :
    Result.Canon (execSetCuttingList c s) := h.runStep (fun _ hu => Canon.branchEff hu.acceptSetting hu.acceptSetting)

theorem Canon.execSetGatePort {s : State} (h : Canon s) {c} : Result.Canon (execSetGatePort c s) := h.benchSet

theorem Canon.execSetQsvPort {s : State} (h : Canon s) {c} : Result.Canon (execSetQsvPort c s) := h.benchSet

theorem Canon.execSetClassService {s : State} (h : Canon s) {c} :
    Result.Canon (execSetClassService c s) := h.runStep (fun _ hu => hu.acceptSetting)

theorem Canon.execSetFlow {s : State} (h : Canon s) {c} : Result.Canon (execSetFlow c s) := h.benchSet

/-! #### Settings at a peg -/

theorem Canon.applyMac {s : State} (h : Canon s) {x} : Canon (s.applyMac x) := by
  unfold State.applyMac
  extract_lets +onlyGivenNames -merge _ _ _
  split
  · exact h.setReg
  · exact h.setReg.setReg.setReg.setReg.modPort.foldl (fun _ hu _ => hu.setReg)
  · exact h.setReg.setReg.setReg.setReg.setReg
  · exact h.setReg.setReg
  · exact h.setReg.setReg.setReg
  · exact h.setReg.setReg64
  · exact Canon.branch h.setSecChan h.setSecChan
  · exact h.setSecChan
  · exact h.setReg.setReg

theorem Canon.applyGate {s : State} (h : Canon s) {x} :
    Canon (s.applyGate x) := Canon.branch h.modPort h.setReg.setReg.setReg.setReg.setReg

theorem Canon.applyService {s : State} (h : Canon s) {x} : Canon (s.applyService x) :=
  Canon.branch h.setReg.setReg.setReg.modPort.noteIdle h.setReg.setReg.setReg.setReg.setReg.setFlow

/-! #### Static flows, R210 to R212 -/

theorem Canon.unbindFlow {s : State} (h : Canon s) {x} : Canon (s.unbindFlow x) := by
  unfold State.unbindFlow
  extract_lets
  split
  · exact h
  · exact Canon.branch h h.setFlow

theorem Canon.renameFlow {s : State} (h : Canon s) {p c g} : Canon (s.renameFlow p c g) := h.modPort

theorem Canon.evictFlow {s : State} (h : Canon s) {p n} : Canon (s.evictFlow p n) :=
  Canon.branch h (Canon.branch h.setFlow.setFlow.renameFlow.count.raise h.setFlow.setFlow.renameFlow.count)

theorem Canon.liftFlows {s : State} (h : Canon s) {l} : Canon (s.liftFlows l).2 := by
  induction l generalizing s with
  | nil => exact h
  | cons x l ih =>
    unfold State.liftFlows
    refine ih ?_
    split
    · exact h.setFlow
    · exact h

theorem Canon.placeFlow {s : State} (h : Canon s) {x f} : Canon (s.placeFlow x f) := h.evictFlow.setFlow

theorem Canon.applyFlows {s : State} (h : Canon s) {xs} : Canon (s.applyFlows xs) :=
  Canon.foldl (Canon.foldl (Canon.liftFlows (h.foldl (fun _ hu _ => hu.unbindFlow))) (fun _ hu _ => hu.placeFlow))
    (fun _ hu _ => hu.renameFlow)

/-! #### What follows a peg -/

theorem Canon.portsPrepare {s : State} (h : Canon s) :
    Canon (s.portsPrepare) := h.foldl (fun _ hu _ => Canon.branch hu.bringCredit hu)

theorem Canon.portReact {o : State} {s : State} (hs : Canon s) {p} : Canon (o.portReact s p) := by
  unfold State.portReact
  extract_lets +onlyGivenNames -merge _ _ s _ _ s1
  have hs : Canon s := Canon.branch hs (Canon.modPort (Canon.branch hs.linkFalls hs))
  have hs1 : Canon s1 := Canon.branch hs (Canon.branch (Canon.branch hs.advertChanged hs.advertChanged.mmgStop)
      (Canon.settleMode (Canon.verifyStep (Canon.branch hs.advertChanged.modPort hs.advertChanged))))
  exact Canon.branch hs1.leaveLpi hs1

theorem Canon.portsReact {o : State} {s : State} (hs : Canon s) {xs} :
    Canon (o.portsReact s xs) := Canon.foldl (hs.foldl (fun _ hu _ => hu.portReact)) (fun _ hu _ => hu.decide_)

end Sys2Proof.Machine
end

section
/-!
PROOFS. Every step keeps the canonical form: the functions of Machine/References.lean.
-/

namespace Sys2Proof.Machine

/-! #### References, R59 to R63 -/

theorem Canon.freeAdj {s : State} (h : Canon s) : Canon s.freeAdj.2 := h.fresh

theorem Canon.reselect {s : State} (h : Canon s) {slewOnly} : Canon (s.reselect slewOnly) := by
  unfold State.reselect
  extract_lets +onlyGivenNames -merge was now _ _
  clear_value was now
  refine Canon.branch h.withTime ?_
  extract_lets +onlyGivenNames -merge _ _
  split
  · exact h.withTime.withTime.withTime
  · exact h.withTime.withTime.withTime.count
  · exact Canon.branch h.withTime.withTime.freeAdj.withTime (Canon.branch h.withTime.withTime.withTime
      h.withTime.withTime.withTime)
  · exact h.withTime.withTime

theorem Canon.qualify {s : State} (h : Canon s) {r} : Canon (s.qualify r) := Canon.branch h h.withTime.reselect

theorem Canon.disqualify {s : State} (h : Canon s) {r} : Canon (s.disqualify r) := Canon.branch h h.withTime.reselect

/-! #### PTP roles, R66 to R70 -/

theorem Canon.assignRoles {s : State} (h : Canon s) {i} : Canon (s.assignRoles i) := by
  unfold State.assignRoles
  extract_lets +onlyGivenNames -merge _ _ _ _ wasSlave _ _
  clear_value wasSlave
  split
  · exact h.withTime
  · exact Canon.branch h.withTime h.withTime.disqualify

end Sys2Proof.Machine
end

section
/-!
PROOFS. Every step keeps the canonical form: the functions of Machine/SpanCore.lean.
-/

namespace Sys2Proof.Machine

/-! #### Span ports -/

theorem Canon.noteMargins {s : State} (h : Canon s) :
    Canon (s.noteMargins) := h.foldl (fun _ hu _ => Canon.branch hu.withSpan.raise (Canon.branch hu hu.withSpan))

/-! #### Launches -/

theorem Canon.planOwn {s : State} (h : Canon s) {mk} : Canon (s.planOwn mk) := h.withSpan

theorem Canon.dropOwn {s : State} (h : Canon s) : Canon (s.dropOwn) := h.withSpan.foldl (fun _ hu _ => hu.settleGroup)

/-! #### Leaving the span cycle, R113 and R145 -/

theorem Canon.gatesBefore {s : State} (h : Canon s) : Canon (s.gatesBefore) := h.foldl (fun _ hu _ => hu.bringCredit)

theorem Canon.gatesAfter {s : State} (h : Canon s) : Canon (s.gatesAfter) := h.foldl (fun _ hu _ => hu.decide_)

theorem Canon.cancelPegs {s : State} (h : Canon s) : Canon (s.cancelPegs) :=
  h.foldl (fun _ hu _ => Canon.branch hu.setBench.count.finishKind (Canon.branch hu.setBench hu))

theorem Canon.cancelStocktakes {s : State} (h : Canon s) :
    Canon (s.cancelStocktakes) := h.foldl (fun _ hu _ => Canon.branch hu.setBank.count.finishKind hu)

theorem Canon.handoverOff {s : State} (h : Canon s) : Canon (s.handoverOff) := Canon.branch h h.withBent

theorem Canon.leaveCycle {s : State} (h : Canon s) {next trial} : Canon (s.leaveCycle next trial) :=
  h.gatesBefore.withSpan.handoverOff.dropOwn.cancelPegs.cancelStocktakes.finishKind.gatesAfter.assignRoles.reselect

theorem Canon.leaveMember {s : State} (h : Canon s) {next trial} :
    Canon (s.leaveMember next trial) := h.count.leaveCycle

/-! #### Commands -/

theorem Canon.execSpanStatus {s : State} (h : Canon s) {c} :
    Result.Canon (execSpanStatus c s) := h.runStep (fun _ hu => hu)

theorem Canon.execSpanJoin {s : State} (h : Canon s) {c} :
    Result.Canon (execSpanJoin c s) := h.runStep (fun _ hu => Canon.branchEff hu hu.withSpan)

theorem Canon.execSpanLeave {s : State} (h : Canon s) {c} :
    Result.Canon (execSpanLeave c s) := h.runStep (fun _ hu => Canon.branchEff hu hu.leaveCycle)

theorem Canon.execPatternChange {s : State} (h : Canon s) {c} : Result.Canon (execPatternChange c s) :=
  h.runStep (fun _ hu => Canon.branchEff hu (Canon.branchEff hu (Canon.branchEff hu hu.withSpan)))

theorem Canon.execSpanOwnerRead {s : State} (h : Canon s) {c} :
    Result.Canon (execSpanOwnerRead c s) := h.runStep (fun _ hu => hu)

theorem Canon.execSetSpanLocal {s : State} (h : Canon s) {c} : Result.Canon (execSetSpanLocal c s) := h.benchSet

theorem Canon.execSetSpanPort {s : State} (h : Canon s) {c} : Result.Canon (execSetSpanPort c s) := h.benchSet

theorem Canon.execSetPatternSet {s : State} (h : Canon s) {c} :
    Result.Canon (execSetPatternSet c s) := h.runStep (fun _ hu => hu.acceptSetting)

theorem Canon.execSetSlotSource {s : State} (h : Canon s) {c} :
    Result.Canon (execSetSlotSource c s) := h.runStep (fun _ hu => Canon.branchEff hu hu.acceptSetting)

/-! #### Settings at a peg, R156 -/

theorem Canon.storeImage {s : State} (h : Canon s) {b} : Canon (s.storeImage b) := h.withSpan

theorem Canon.applySpan {s : State} (h : Canon s) {x} : Canon (s.applySpan x) := by
  unfold State.applySpan
  extract_lets +onlyGivenNames -merge _
  split
  · exact h.setReg.setReg.setReg
  · exact h.setReg
  · exact h.storeImage
  · exact Canon.branch h.withSpan h.withSpan

end Sys2Proof.Machine
end

section
/-!
PROOFS. Every step keeps the canonical form: the functions of Machine/Bent.lean.
-/

namespace Sys2Proof.Machine

/-! #### Packets -/

theorem Canon.pumpWaiting {s : State} (h : Canon s) {n} : Canon (s.pumpWaiting n) := by
  induction n generalizing s with
  | zero => exact h
  | succ n ih =>
    unfold State.pumpWaiting
    split
    · exact h
    · exact Canon.branch (ih h.withBent.sendTb) h

theorem Canon.modLane {s : State} (h : Canon s) {lane f} :
    Canon (s.modLane lane f) := Canon.branch h.withBent h.withBent

theorem Canon.heard {s : State} (h : Canon s) : Canon (s.heard) := h.withBent

theorem Canon.badPacket {s : State} (h : Canon s) : Canon (s.badPacket) := h.count

/-! #### Ending transmission, R633 -/

theorem Canon.abandonSuspended {s : State} (h : Canon s) : Canon (s.abandonSuspended) :=
  h.foldl (fun _ hu _ => Canon.branch hu (hu.modPort.foldl (fun _ hv _ => hv.releaseEgress)))

theorem Canon.beginResign {s : State} (h : Canon s) {fatal} :
    Canon (s.beginResign fatal) := Canon.branch h h.abandonSuspended.withBent.count

theorem Canon.madeActive {s : State} (h : Canon s) : Canon (s.madeActive) := Canon.branch h.beginResign h

/-! #### Roles, R628 and R629 -/

theorem Canon.dropRings {s : State} (h : Canon s) : Canon (s.dropRings) :=
  Canon.update (h.foldl (fun _ hu _ => Canon.finishKind (hu.modQueue.foldl (fun _ hv _ => hv.releaseWq))))

theorem Canon.enterResync {s : State} (h : Canon s) : Canon (s.enterResync) := h.dropRings.withBent

theorem Canon.formActive {s : State} (h : Canon s) : Canon (s.formActive) := h.withBent.madeActive

theorem Canon.formCheck {s : State} (h : Canon s) : Canon (s.formCheck) :=
  Canon.branch h (Canon.branch (Canon.branch h.enterResync.sendTb h.enterResync) (Canon.branch h.withBent
    (Canon.branch h.formActive (Canon.branch h h.withBent))))

theorem Canon.enterForming {s : State} (h : Canon s) : Canon (s.enterForming) := h.withBent.formCheck

theorem Canon.enterSolo {s : State} (h : Canon s) : Canon (s.enterSolo) := h.withBent

theorem Canon.becomeOrphan {s : State} (h : Canon s) : Canon (s.becomeOrphan) := h.withBent.raise

theorem Canon.outOfSync {s : State} (h : Canon s) :
    Canon (s.outOfSync) := Canon.branch h.withBent.enterResync h.withBent

/-! #### Resignation, R633 and R634 -/

theorem Canon.kingDown {s : State} (h : Canon s) : Canon (s.kingDown) := by
  unfold State.kingDown
  split
  · exact h.withSpan.dropOwn.finishKind
  · exact h.leaveCycle
  · exact h

theorem Canon.resignDone {s : State} (h : Canon s) {flushed} :
    Canon (s.resignDone flushed) := Canon.branch h h.withBent.sendTb.kingDown.maintCheck

/-! #### Heartbeats, R630 to R632 -/

theorem Canon.heartbeatTx {s : State} (h : Canon s) : Canon (s.heartbeatTx) := by
  unfold State.heartbeatTx
  refine Canon.branch h ?_
  extract_lets +onlyGivenNames -merge _ _ _ put
  have hput : ∀ u, Canon u → ∀ v, Canon (put u v) := fun _ hu _ => Canon.branch hu (Canon.branch hu.modLane
      hu.withBent)
  exact hput _ (hput _ h.withBent _) _

theorem Canon.heartbeatRx {s : State} (h : Canon s) {role inSync cold} : Canon (s.heartbeatRx role inSync cold) := by
  unfold State.heartbeatRx
  refine Canon.branch h ?_
  extract_lets +onlyGivenNames -merge _ _ _
  split
  · exact h.heard.withBent.formCheck
  · exact Canon.branch h.heard.withBent.withBent (Canon.branch h.heard.withBent.withBent h.heard.withBent)
  · exact h.heard.withBent

theorem Canon.heartbeatLoss {s : State} (h : Canon s) : Canon (s.heartbeatLoss) :=
  Canon.branch h (Canon.branch h.advanceTo.withBent.count.faultAddr.raiseMsg.outOfSync
    h.advanceTo.withBent.count.faultAddr.raiseMsg)

/-! #### Confirmations, R618 to R622 -/

theorem Canon.confirmed {s : State} (h : Canon s) {w} : Canon (s.confirmed w) := by
  unfold State.confirmed
  split
  · exact h
  · split
    · exact h.writeDelivery
    · exact h
  · split
    · exact Canon.branch h.startHead h
    · exact h

theorem Canon.ackRx {s : State} (h : Canon s) {n} :
    Canon (s.ackRx n) := h.heard.withBent.foldl (fun _ hu _ => hu.confirmed)

theorem Canon.ackOverdue {s : State} (h : Canon s) : Canon (s.ackOverdue) := by
  unfold State.ackOverdue
  split
  · exact h
  · exact Canon.branch h (h.advanceTo.withBent.count.foldl (fun _ hu _ => hu.confirmed))

/-! #### Handover, R642 and R643 -/

theorem Canon.planHandover {s : State} (h : Canon s) {bySwitch} :
    Canon (s.planHandover bySwitch) := Canon.branch h.withBent h.withBent

theorem Canon.beginDrain {s : State} (h : Canon s) : Canon (s.beginDrain) := Canon.branch h h.withBent

theorem Canon.startPlanned {s : State} (h : Canon s) : Canon (s.startPlanned) := by
  unfold State.startPlanned
  split
  · exact h.advanceToU.beginDrain
  · exact h

theorem Canon.abandonHandover {s : State} (h : Canon s) : Canon (s.abandonHandover) := by
  unfold State.abandonHandover
  split
  · exact h.advanceTo.withBent.count.finishKind
  · exact h

theorem Canon.holdOffExpire {s : State} (h : Canon s) : Canon (s.holdOffExpire) := by
  unfold State.holdOffExpire
  split
  · exact h
  · exact Canon.branch h.advanceTo.withBent.sendTb h.advanceTo.withBent

theorem Canon.startHoldOff {s : State} (h : Canon s) : Canon (s.startHoldOff) := Canon.branch h.withBent h

/-! #### Copies that fail, R648 -/

theorem Canon.copyFail {s : State} (h : Canon s) {late} : Canon (s.copyFail late) := by
  unfold State.copyFail
  split
  · exact h.withBent
  · extract_lets +onlyGivenNames -merge s _
    have hs : Canon s := by
      unfold s
      refine Canon.branch ?_ h
      split
      · exact h.advanceTo
      · exact h
    exact hs.withBent.count.raise
  · exact h

theorem Canon.resyncRetry {s : State} (h : Canon s) : Canon (s.resyncRetry) := by
  unfold State.resyncRetry
  split
  · exact h.advanceTo.enterResync
  · exact h

/-! #### Kept frames, R623 -/

theorem Canon.dropKept {s : State} (h : Canon s) {k} : Canon (s.dropKept k) := by
  unfold State.dropKept
  split
  · exact h
  · exact h.withBent.freeFrame.count

/-! #### SET_BENT, R607, R644 and R660 -/

theorem Canon.applyBent {s : State} (h : Canon s) {x} : Canon (s.applyBent x) := by
  unfold State.applyBent
  extract_lets +onlyGivenNames -merge _ _ _ _ _ _
  refine Canon.branch h.setReg.setReg.setReg.setReg.setReg.setReg.setReg.setReg.withBent.enterSolo ?_
  split
  · exact h.setReg.setReg.setReg.setReg.setReg.setReg.setReg.setReg.withBent.withBent.enterForming
  · exact h.setReg.setReg.setReg.setReg.setReg.setReg.setReg.setReg.withBent.withBent.formCheck
  · exact Canon.branch h.setReg.setReg.setReg.setReg.setReg.setReg.setReg.setReg.withBent.startHoldOff
      h.setReg.setReg.setReg.setReg.setReg.setReg.setReg.setReg.withBent

/-! #### Meanings: events -/

theorem Canon.execFormWaitExpire {s : State} (h : Canon s) : Result.Canon (execFormWaitExpire s) := by
  unfold Machine.execFormWaitExpire
  split
  · exact Canon.branch h.advanceTo h.advanceTo.formActive
  · exact h

theorem Canon.execHeartbeatTx {s : State} (h : Canon s) : Result.Canon (execHeartbeatTx s) := h.heartbeatTx

theorem Canon.execHeartbeatRx {s : State} (h : Canon s) {bad role inSync cold} :
    Result.Canon (execHeartbeatRx bad role inSync cold s) := Canon.branch h.badPacket h.heartbeatRx

theorem Canon.execHeartbeatLoss {s : State} (h : Canon s) : Result.Canon (execHeartbeatLoss s) := h.heartbeatLoss

theorem Canon.execAckRx {s : State} (h : Canon s) {n} : Result.Canon (execAckRx n s) := Canon.branch h.ackRx h

theorem Canon.execAckOverdue {s : State} (h : Canon s) : Result.Canon (execAckOverdue s) := h.ackOverdue

theorem Canon.execTbLaneDown {s : State} (h : Canon s) {lane} :
    Result.Canon (execTbLaneDown lane s) := Canon.branch h h.modLane.raise

theorem Canon.execTbLaneUp {s : State} (h : Canon s) {lane} :
    Result.Canon (execTbLaneUp lane s) := Canon.branch h h.modLane.pumpWaiting

theorem Canon.execResignFlushDone {s : State} (h : Canon s) {flushed} :
    Result.Canon (execResignFlushDone flushed s) := h.resignDone

theorem Canon.execShadowKeepExpire {s : State} (h : Canon s) : Result.Canon (execShadowKeepExpire s) := by
  unfold Machine.execShadowKeepExpire
  split
  · exact h
  · exact h.advanceTo.dropKept

theorem Canon.execHoldOffExpire {s : State} (h : Canon s) : Result.Canon (execHoldOffExpire s) := h.holdOffExpire

theorem Canon.execReclaimRx {s : State} (h : Canon s) :
    Result.Canon (execReclaimRx s) := Canon.branch h.heard.planHandover h.heard

theorem Canon.execHandoverAbandon {s : State} (h : Canon s) :
    Result.Canon (execHandoverAbandon s) := h.startPlanned.abandonHandover

theorem Canon.execCopyFail {s : State} (h : Canon s) {late} : Result.Canon (execCopyFail late s) := h.copyFail

theorem Canon.execResyncRetry {s : State} (h : Canon s) : Result.Canon (execResyncRetry s) := h.resyncRetry

/-! #### Meanings: commands -/

theorem Canon.execBentStatus {s : State} (h : Canon s) {c} :
    Result.Canon (execBentStatus c s) := h.runStep (fun _ hu => hu)

theorem Canon.execBentSwitch {s : State} (h : Canon s) {c} : Result.Canon (execBentSwitch c s) :=
  h.runStep (fun _ hu => Canon.branchEff hu (Canon.branchEff hu.withBent (Canon.planHandover (Canon.branch
    hu.toPartner hu))))

theorem Canon.execBentResign {s : State} (h : Canon s) {c} :
    Result.Canon (execBentResign c s) := h.runStep (fun _ hu => Canon.branchEff hu hu.beginResign)

theorem Canon.execBentResync {s : State} (h : Canon s) {c} : Result.Canon (execBentResync c s) :=
  h.runStep (fun _ hu => Canon.branchEff hu.enterForming (Canon.branchEff hu.enterResync.withBent hu))

theorem Canon.execLedgerRead {s : State} (h : Canon s) {c} : Result.Canon (execLedgerRead c s) := by
  unfold Machine.execLedgerRead
  refine h.runStep (fun _ hu => ?_)
  extract_lets bytes
  clear_value bytes
  generalize ledgerRange c = inRange
  exact Canon.branchEff hu (Canon.branchEff hu hu.writeHost)

theorem Canon.execSetBent {s : State} (h : Canon s) {c} : Result.Canon (execSetBent c s) := h.benchSet

end Sys2Proof.Machine
end

section
/-!
PROOFS. Every step keeps the canonical form: the functions of Machine/JoineryCmds.lean.
-/

namespace Sys2Proof.Machine

/-! #### Direct commands -/

theorem Canon.execJoineryStatus {s : State} (h : Canon s) {c} :
    Result.Canon (execJoineryStatus c s) := h.runStep (fun _ hu => hu)

theorem Canon.execMicrocodeRead {s : State} (h : Canon s) {c} : Result.Canon (execMicrocodeRead c s) :=
  h.runStep (fun _ hu => Canon.branchEff hu (Canon.branchEff hu (Canon.branchEff hu hu.writeHost)))

theorem Canon.execHookTableRead {s : State} (h : Canon s) {c} : Result.Canon (execHookTableRead c s) :=
  h.runStep (fun _ hu => Canon.branchEff hu (Canon.branchEff hu (Canon.branchEff hu hu.writeHost)))

/-! #### Bench commands -/

theorem Canon.benchTable {s : State} (h : Canon s) {code c params off lo w size fields} :
    Result.Canon (benchTable code c s params off lo w size fields) := h.runStep (fun _ hu => hu.acceptSetting)

theorem Canon.execSetMicrocode {s : State} (h : Canon s) {c} :
    Result.Canon (execSetMicrocode c s) := h.runStep (fun _ hu => hu.acceptSetting)

theorem Canon.execSetHook {s : State} (h : Canon s) {c} : Result.Canon (execSetHook c s) := h.benchSet

theorem Canon.execSetClassRules {s : State} (h : Canon s) {c} : Result.Canon (execSetClassRules c s) := h.benchTable

theorem Canon.execSetSteerEntries {s : State} (h : Canon s) {c} :
    Result.Canon (execSetSteerEntries c s) := h.benchTable

theorem Canon.execSetHookTable {s : State} (h : Canon s) {c} : Result.Canon (execSetHookTable c s) := h.benchTable

/-! #### Applying and fitting -/

theorem Canon.beginLoad {s : State} (h : Canon s) : Canon (s.beginLoad) := h.withJoinery

theorem Canon.applyMicrocode {s : State} (h : Canon s) {x} : Canon (s.applyMicrocode x) := h.withJoinery

theorem Canon.applyHook {s : State} (h : Canon s) {x} : Canon (s.applyHook x) := h.setReg.setReg.setReg

theorem Canon.applyClassRules {s : State} (h : Canon s) {x} : Canon (s.applyClassRules x) := h.withJoinery

theorem Canon.applySteerEntries {s : State} (h : Canon s) {x} : Canon (s.applySteerEntries x) := h.withJoinery

theorem Canon.applyHookTable {s : State} (h : Canon s) {x} : Canon (s.applyHookTable x) := h.withJoinery

end Sys2Proof.Machine
end

section
/-!
PROOFS. Every step keeps the canonical form: the functions of Machine/Receive.lean.
-/

namespace Sys2Proof.Machine

/-! #### The MAC's checks, R286 -/

theorem Canon.countRx {s : State} (h : Canon s) {p dst n} : Canon (s.countRx p dst n) := h.count.countN.count.count

/-! #### Into the frame hold, R17, R18 and R21 -/

theorem Canon.holdFrame {s : State} (h : Canon s) {p b cut bad err t} :
    Canon (s.holdFrame p b cut bad err t) := Canon.branch h.count h.addFrame.orderAdd.pauseCheck

/-- What the check of the MAC security hands on is in canonical form. -/
def State.SecRx.Canon : State.SecRx → Prop
  | .pass _ _ s => Machine.Canon s
  | .drop _ s => Machine.Canon s

theorem Canon.branchSec {r q : State.SecRx} {c : Prop} {d : Decidable c} (h : r.Canon) (g : q.Canon) :
    (if c then r else q).Canon := by
  split
  · exact h
  · exact g

theorem Canon.secRx {s : State} (h : Canon s) {p b} : (s.secRx p b).Canon := by
  unfold State.secRx
  extract_lets +onlyGivenNames -merge _ _ _ _ _ _ r
  refine Canon.branchSec h (Canon.branchSec (Canon.branchSec h h) (Canon.branchSec h ?_))
  clear_value r
  split
  · exact Canon.branchSec h h
  · split
    · exact Canon.branchSec h.setSecChan h.setSecChan
    · refine Canon.branchSec h.setSecChan ?_
      extract_lets +onlyGivenNames -merge got _
      clear_value got
      split
      · exact h.setSecChan
      · exact Canon.branchSec h.setSecChan (Canon.branchSec h.setSecChan h.setSecChan)

theorem Canon.takeFrame {s : State} (h : Canon s) {p b fcsBad cut t} : Canon (s.takeFrame p b fcsBad cut t) := by
  unfold State.takeFrame
  extract_lets +onlyGivenNames -merge _ _ s1
  split
  · exact Canon.branch h.holdFrame h.count
  · have hs : (s1.secRx p b).Canon := Canon.secRx (Canon.branch h h.countRx)
    split
    · next o u e =>
      rw [e] at hs
      have hu : Canon u := hs
      refine Canon.holdFrame ?_
      split
      · exact hu.count
      · exact hu
    · next o u e =>
      rw [e] at hs
      have hu : Canon u := hs
      exact Canon.branch hu.holdFrame hu.count

/-! #### MAC control, knocks and the way in -/

theorem Canon.knock {s : State} (h : Canon s) {p b fcsBad} : Canon (s.knock p b fcsBad) := by
  unfold State.knock
  extract_lets +onlyGivenNames -merge _
  refine Canon.branch (Canon.branch h (Canon.branch h.count.count (Canon.branch h.count.count h.count.wakeEvent))) ?_
  split
  · exact h.count.count
  · exact Canon.branch h.countRx.count.count.wakeEvent h.countRx.count.count

theorem Canon.controlRx {s : State} (h : Canon s) {p b fcsBad} : Canon (s.controlRx p b fcsBad) := by
  unfold State.controlRx
  split
  · exact h.count
  · exact h.countRx.macControl

theorem Canon.linkGate {s : State} (h : Canon s) {p go} (hgo : ∀ u, Canon u → Canon (go u)) :
    Canon (s.linkGate p go) := Canon.branch h (Canon.branch h.count (Canon.branch (Canon.branch h.count h) (hgo _ h)))

theorem Canon.frameRx {s : State} (h : Canon s) {p b fcsBad cut t} :
    Canon (s.frameRx p b fcsBad cut t) := Canon.branch h.knock (Canon.branch h.controlRx h.takeFrame)

/-! #### mPackets, R260 to R262 -/

theorem Canon.setReasm {s : State} (h : Canon s) {p l} : Canon (s.setReasm p l) := h.modPort

theorem Canon.firstFragment {s : State} (h : Canon s) {p k crc b t} : Canon (s.firstFragment p k crc b t) :=
  Canon.branch h.setReasm.count (Canon.branch (Canon.frameRx (Canon.branch h.setReasm.count h)) (Canon.branch
    h.setReasm.count (Canon.branch h.setReasm.count h.setReasm.count)))

theorem Canon.contFragment {s : State} (h : Canon s) {p k frag crc b} : Canon (s.contFragment p k frag crc b) := by
  unfold State.contFragment
  extract_lets
  split
  · exact h.count
  · exact Canon.branch h.setReasm.count (Canon.branch h.setReasm.count (Canon.branch h.setReasm.count (Canon.branch
      h.setReasm.count h.setReasm.count.count.frameRx)))

theorem Canon.fragmentRx {s : State} (h : Canon s) {p smd frag crc b t} :
    Canon (s.fragmentRx p smd frag crc b t) := by
  unfold State.fragmentRx
  refine Canon.branch h ?_
  split
  · exact h.firstFragment
  · exact h.contFragment
  · exact Canon.branch h.frameRx h.count

/-! #### LLDPDUs, R264 -/

theorem Canon.lldpTake {s : State} (h : Canon s) {p b} : Canon (s.lldpTake p b) := Canon.branch h h.setPartner

/-! #### Frames whose reception ends in error, R24 -/

theorem Canon.abortEgress {s : State} (h : Canon s) {id p} : Canon (s.abortEgress id p) := by
  unfold State.abortEgress
  extract_lets +onlyGivenNames -merge _ _ s1
  have hs1 : Canon s1 := Canon.branch h.modPort.modPort.count h.modPort
  split
  · exact Canon.branch hs1.modPort.count hs1
  · exact hs1

theorem Canon.badFrame {s : State} (h : Canon s) {id f} : Canon (s.badFrame id f) := by
  unfold State.badFrame
  extract_lets +onlyGivenNames -merge _ _ _ _ _ s3
  have hs3 : Canon s3 := by
    unfold s3
    split
    · exact Canon.setThread (Canon.update (h.count.foldl (fun _ hu _ => hu.abortEgress.noteIdle)))
    · exact Canon.update (h.count.foldl (fun _ hu _ => hu.abortEgress.noteIdle))
  exact hs3.dropFrame.flushOrder

theorem Canon.dataRx {s : State} (h : Canon s) {id n} : Canon (s.dataRx id n) := by
  unfold State.dataRx
  split
  · exact h
  · extract_lets
    split
    · exact Canon.branch h.badFrame (Canon.branch h.countRx.dataArrives h.dataArrives)
    · exact h.dataArrives

/-! #### Meanings -/

theorem Canon.execFrameRx {s : State} (h : Canon s) {p b fcsBad cut t} :
    Result.Canon (execFrameRx p b fcsBad cut t s) :=
  Canon.branch h (Canon.branch h.knock (h.linkGate (fun _ hu => hu.frameRx)))

theorem Canon.execFrameDataArrival {s : State} (h : Canon s) {id n} :
    Result.Canon (execFrameDataArrival id n s) := h.dataRx.testsBegin

theorem Canon.execPauseRx {s : State} (h : Canon s) {p b fcsBad _t} :
    Result.Canon (execPauseRx p b fcsBad _t s) := Canon.branch h (h.linkGate (fun _ hu => hu.controlRx))

theorem Canon.execKnockRx {s : State} (h : Canon s) {p b fcsBad _t} :
    Result.Canon (execKnockRx p b fcsBad _t s) := Canon.branch h (Canon.branch h.count h.knock)

theorem Canon.execVerifyMpacketRx {s : State} (h : Canon s) {p bad} : Result.Canon (execVerifyMpacketRx p bad s) :=
  Canon.branch h (h.linkGate (fun _ hu => Canon.branch hu hu.addCtrl.kick))

theorem Canon.execRespondMpacketRx {s : State} (h : Canon s) {p bad} : Result.Canon (execRespondMpacketRx p bad s) :=
  Canon.branch h (h.linkGate (fun _ hu => Canon.branch hu hu.mmgSucceed))

theorem Canon.execFragmentRx {s : State} (h : Canon s) {p smd frag crc b t} :
    Result.Canon (execFragmentRx p smd frag crc b t s) := Canon.branch h (h.linkGate (fun _ hu => hu.fragmentRx))

theorem Canon.execLldpduRx {s : State} (h : Canon s) {p b t} : Result.Canon (execLldpduRx p b t s) :=
  Canon.branch h (h.linkGate (fun _ hu => Canon.frameRx (Canon.branch hu.lldpTake hu)))

end Sys2Proof.Machine
end

section
/-!
PROOFS. Every step keeps the canonical form: the functions of Machine/Spill.lean.
-/

namespace Sys2Proof.Machine

/-! #### The spill engine -/

theorem Canon.spillLoop {s : State} (h : Canon s) {n} : Canon (s.spillLoop n) := by
  induction n generalizing s with
  | zero => exact h
  | succ n ih =>
    unfold State.spillLoop
    refine Canon.branch h.withMem ?_
    split
    · exact h
    · split
      · exact h
      · exact Canon.branch h.withMem.count (ih h.modFrame.count)

theorem Canon.freeKept {s : State} (h : Canon s) {n} : Canon (s.freeKept n) := by
  induction n generalizing s with
  | zero => exact h
  | succ n ih => exact Canon.branch h (ih h.dropKept)

theorem Canon.abandonHoldTest {s : State} (h : Canon s) : Canon (s.abandonHoldTest) := by
  unfold State.abandonHoldTest
  split
  · exact h
  · exact Canon.branch h.withFlt.count h.withFlt.count.finishKind

theorem Canon.spill {s : State} (h : Canon s) : Canon (s.spill) := by
  unfold State.spill
  refine Canon.branch h ?_
  extract_lets +onlyGivenNames -merge s
  have hs : Canon s := Canon.branch h h.abandonHoldTest.freeKept
  exact Canon.branch hs (Canon.branch hs hs.withMem.spillLoop)

theorem Canon.spillBack {s : State} (h : Canon s) {id n} : Canon (s.spillBack id n) := by
  unfold State.spillBack
  split
  · exact h
  · extract_lets +onlyGivenNames -merge go
    have hgo : ∀ u, Canon u → ∀ v, Canon (go u v) := fun _ hu _ => Canon.foldl (Canon.branch hu.modFrame.count
        hu.modFrame) (fun _ hv _ => Canon.branch hv hv.bringCredit.decide_)
    split
    · exact Canon.branch h (hgo _ h.withMem _)
    · exact hgo _ h _
    · exact h

theorem Canon.execSpillStart {s : State} (h : Canon s) : Result.Canon (execSpillStart s) := h.spill

theorem Canon.execSpillReturn {s : State} (h : Canon s) {id n} : Result.Canon (execSpillReturn id n s) := h.spillBack

end Sys2Proof.Machine
end

section
/-!
PROOFS. Every step keeps the canonical form: the functions of Machine/Time.lean.
-/

namespace Sys2Proof.Machine

/-! #### Steps, R55 to R57 -/

theorem Canon.stepTo {s : State} (h : Canon s) {v} : Canon (s.stepTo v) := by
  unfold State.stepTo
  extract_lets +onlyGivenNames -merge _ _ _ s _ _
  have hs : Canon s := h.withTime
  exact hs.update.count

/-! #### The time flag, R47 to R49 -/

theorem Canon.setFlag {s : State} (h : Canon s) {f} : Canon (s.setFlag f) := h.withTime

theorem Canon.acceptTime {s : State} (h : Canon s) : Canon (s.acceptTime) := h.withTime.assignRoles

theorem Canon.holdExpires {s : State} (h : Canon s) : Canon (s.holdExpires) := Canon.branch h h.advanceTo.withTime

/-! #### The DPLL, R54, R56, R58, R63 -/

theorem Canon.convergeFlag {s : State} (h : Canon s) : Canon (s.convergeFlag) := Canon.branch h.setFlag.assignRoles h

theorem Canon.measure {s : State} (h : Canon s) {off} : Canon (s.measure off) :=
  Canon.branch h (Canon.branch h.withTime.leaveMember.stepTo.withTime (Canon.branch h.withTime.stepTo.withTime
    (Canon.convergeFlag (Canon.branch h.withTime.freeAdj.withTime.withTime (Canon.branch (Canon.branch
    h.withTime.freeAdj.withTime.withTime.count h.withTime.freeAdj.withTime.withTime.count.stepTo.withTime)
    h.withTime.freeAdj.withTime)))))

theorem Canon.announceRx {s : State} (h : Canon s) {p domain a} : Canon (s.announceRx p domain a) := by
  unfold State.announceRx
  extract_lets
  split
  · exact h
  · exact Canon.branch h h.setPtime.assignRoles

theorem Canon.stepMode {s : State} (h : Canon s) {p} : Canon (s.stepMode p).2 := Canon.branchSnd h.count h

theorem Canon.phaseReport {s : State} (h : Canon s) {p} : Canon (s.phaseReport p).2 := Canon.branchSnd h h.setPtime

theorem Canon.syncTx {s : State} (h : Canon s) {p} :
    Canon (s.syncTx p) := Canon.branch h h.stepMode.setPtime.phaseReport.addCtrl.kick

theorem Canon.announceTx {s : State} (h : Canon s) {p} :
    Canon (s.announceTx p) := Canon.branch h h.setPtime.addCtrl.kick

/-! #### Offset to the parent, R71 -/

theorem Canon.ptpOffset {s : State} (h : Canon s) {p rx origin} :
    Canon (s.ptpOffset p rx origin) := Canon.branch h.modPtime h.modPtime.measure

theorem Canon.phaseOffset {s : State} (h : Canon s) {p} : Canon (s.phaseOffset p) :=
  Canon.branch h.setPtime.count (Canon.branch h.setPtime.count.measure h.setPtime.measure)

theorem Canon.phaseRx {s : State} (h : Canon s) {p r fwd} :
    Canon (s.phaseRx p r fwd) := Canon.branch h (Canon.branch h.setPtime.phaseOffset h.setPtime)

theorem Canon.syncRx {s : State} (h : Canon s) {p m followUp report t} : Canon (s.syncRx p m followUp report t) := by
  unfold State.syncRx
  extract_lets +onlyGivenNames -merge _ _ s1
  have hs1 : Canon s1 := by
    unfold s1
    split
    · exact h.advanceToU.phaseRx
    · exact h.advanceToU
  split
  · exact hs1
  · refine Canon.branch hs1 ?_
    refine Canon.branch ?_ (Canon.branch hs1.modPtime hs1.modPtime.ptpOffset)
    split
    · exact Canon.branch hs1 hs1.modPtime.ptpOffset
    · exact hs1

theorem Canon.syncLost {s : State} (h : Canon s) {p} : Canon (s.syncLost p) := by
  unfold State.syncLost
  extract_lets
  split
  · exact h
  · exact Canon.branch h h.advanceTo.modPtime.countN.disqualify.assignRoles

/-! #### Peer delay, R68 to R70 -/

theorem Canon.exchange {s : State} (h : Canon s) {p e} :
    Canon (s.exchange p e) := Canon.noteMargins (Canon.branch h.setPtime h.setPtime.assignRoles)

theorem Canon.pdelayRespRx {s : State} (h : Canon s) {p m followUp t} : Canon (s.pdelayRespRx p m followUp t) := by
  unfold State.pdelayRespRx
  extract_lets
  split
  · exact h.advanceToU
  · refine Canon.branch h.advanceToU ?_
    refine Canon.branch ?_ (Canon.branch h.advanceToU.setPtime h.advanceToU.exchange)
    split
    · exact h.advanceToU.exchange
    · exact h.advanceToU

theorem Canon.pdelayReqTx {s : State} (h : Canon s) {p} :
    Canon (s.pdelayReqTx p) := Canon.branch h h.setPtime.addCtrl.kick

theorem Canon.pdelayReqRx {s : State} (h : Canon s) {p m t} :
    Canon (s.pdelayReqRx p m t) := Canon.branch h.advanceToU h.advanceToU.stepMode.addCtrl.kick

theorem Canon.pdelayLost {s : State} (h : Canon s) {p} : Canon (s.pdelayLost p) := by
  unfold State.pdelayLost
  extract_lets +onlyGivenNames -merge _
  refine Canon.branch h ?_
  extract_lets +onlyGivenNames -merge s _ _ _
  have hs : Canon s := by
    unfold s
    split
    · exact h.advanceToU
    · exact h
  exact Canon.branch hs.setPtime.count.assignRoles hs.setPtime.count

/-! #### End-to-end delay, R65 -/

theorem Canon.delayReqTx {s : State} (h : Canon s) {p} :
    Canon (s.delayReqTx p) := Canon.branch h h.setPtime.addCtrl.kick

theorem Canon.delayReqRx {s : State} (h : Canon s) {p m t} :
    Canon (s.delayReqRx p m t) := Canon.branch h.advanceToU h.advanceToU.addCtrl.kick

theorem Canon.delayRespRx {s : State} (h : Canon s) {p m} : Canon (s.delayRespRx p m) := by
  unfold State.delayRespRx
  extract_lets +onlyGivenNames -merge _
  split
  · exact h
  · exact Canon.branch h h.setPtime

theorem Canon.phaseTx {s : State} (h : Canon s) {p} : Canon (s.phaseTx p) := by
  unfold State.phaseTx
  have hr : Canon (s.phaseReport p).2 := h.phaseReport
  refine Canon.branch h ?_
  split
  · next e => rw [e] at hr; exact hr.addCtrl.kick
  · next e => rw [e] at hr; exact hr

/-! #### SyncE, R72 to R74 -/

theorem Canon.esmcRx {s : State} (h : Canon s) {p ql} :
    Canon (s.esmcRx p ql) := Canon.branch h (Canon.branch h.setPtime.disqualify h.setPtime)

theorem Canon.esmcTx {s : State} (h : Canon s) {p} : Canon (s.esmcTx p) := by
  unfold State.esmcTx
  refine Canon.branch h ?_
  split
  · exact Canon.branch h.addCtrl.kick h.fresh.addCtrl.kick
  · exact h.fresh.addCtrl.kick

/-! #### External inputs and outputs, R99 to R104 -/

theorem Canon.timeSetNow {s : State} (h : Canon s) {u} : Canon (s.timeSetNow u) := h.stepTo.acceptTime

theorem Canon.ppsEdge {s : State} (h : Canon s) : Canon (s.ppsEdge) := by
  unfold State.ppsEdge
  extract_lets +onlyGivenNames -merge _ _ _ _ _ _ _ _ s2 _ _ s3
  have hs2 : Canon s2 := Canon.branch h.countN.withTime.count h.countN.withTime
  have hs3 : Canon s3 := by
    unfold s3
    split
    · exact Canon.branch hs2.withTime.measure hs2.withTime
    · exact hs2
  split
  · split
    · exact Canon.branch hs3.finishWaiting hs3.timeSetNow.finishWaiting
    · exact hs3
  · exact hs3

theorem Canon.todRx {s : State} (h : Canon s) {isTime sec} :
    Canon (s.todRx isTime sec) := Canon.branch h.count (Canon.branch h.withTime (Canon.branch h.measure h))

theorem Canon.secondBoundary {s : State} (h : Canon s) : Canon (s.secondBoundary) := h.advanceToU.withTime

theorem Canon.slewEnds {s : State} (h : Canon s) : Canon (s.slewEnds) := by
  unfold State.slewEnds
  split
  · exact h
  · exact h.advance.withTime

/-! #### Commands -/

theorem Canon.execTimeGet {s : State} (h : Canon s) {c} : Result.Canon (execTimeGet c s) := h.runStep (fun _ hu => hu)

theorem Canon.execTimeSet {s : State} (h : Canon s) {c} : Result.Canon (execTimeSet c s) :=
  h.runStep (fun _ hu => Canon.branchEff hu (Canon.branchEff hu (Canon.branchEff hu hu.timeSetNow)))

theorem Canon.execTimeAccept {s : State} (h : Canon s) {c} :
    Result.Canon (execTimeAccept c s) := h.runStep (fun _ hu => Canon.branchEff hu hu.acceptTime)

theorem Canon.execTimeSlew {s : State} (h : Canon s) {c} :
    Result.Canon (execTimeSlew c s) := h.runStep (fun _ hu => Canon.branchEff hu (Canon.branchEff hu hu.withTime))

theorem Canon.execTimePortRead {s : State} (h : Canon s) {c} :
    Result.Canon (execTimePortRead c s) := h.runStep (fun _ hu => hu)

theorem Canon.execTimeSetPpsTimeout {s : State} (h : Canon s) : Result.Canon (execTimeSetPpsTimeout s) := by
  unfold Machine.execTimeSetPpsTimeout
  split
  · exact h
  · split
    · exact h.advanceTo.finishWaiting
    · exact h

theorem Canon.execSetTimeRef {s : State} (h : Canon s) {c} : Result.Canon (execSetTimeRef c s) := h.benchSet

theorem Canon.execSetDpll {s : State} (h : Canon s) {c} : Result.Canon (execSetDpll c s) := h.benchSet

theorem Canon.execSetPtpInstance {s : State} (h : Canon s) {c} :
    Result.Canon (execSetPtpInstance c s) := h.runStep (fun _ hu => hu.acceptSetting)

theorem Canon.execSetPtpPort {s : State} (h : Canon s) {c} : Result.Canon (execSetPtpPort c s) := h.benchSet

theorem Canon.execSetPortLatency {s : State} (h : Canon s) {c} : Result.Canon (execSetPortLatency c s) := h.benchSet

theorem Canon.execSetSynce {s : State} (h : Canon s) {c} : Result.Canon (execSetSynce c s) := h.benchSet

theorem Canon.execSetTimeIo {s : State} (h : Canon s) {c} : Result.Canon (execSetTimeIo c s) := h.benchSet

theorem Canon.execSetTsDaybook {s : State} (h : Canon s) {c} : Result.Canon (execSetTsDaybook c s) := h.benchSet

/-! #### Settings at a peg, R109 -/

theorem Canon.applyTime {s : State} (h : Canon s) {x} : Canon (s.applyTime x) := by
  unfold State.applyTime
  extract_lets +onlyGivenNames -merge _ _
  split
  · exact h.setReg
  · exact h.foldl (fun _ hu _ => hu.setReg)
  · exact h.setPtpInst
  · exact Canon.branch (Canon.branch h.setReg h.setReg.setPtime) h.setReg.setPtime
  · exact h.setReg.setReg
  · exact h.modPtime
  · exact h.setReg.setReg.setReg
  · exact h.setReg

theorem Canon.timeReact {s : State} (h : Canon s) {xs} : Canon (s.timeReact xs) := by
  unfold State.timeReact
  extract_lets +onlyGivenNames -merge _ s _
  have hs : Canon s := Canon.branch (h.foldl (fun _ hu _ => hu.assignRoles)) h
  exact Canon.noteMargins (Canon.branch hs.reselect hs)

/-! #### Events -/

theorem Canon.execSlewDone {s : State} (h : Canon s) : Result.Canon (execSlewDone s) := h.slewEnds

theorem Canon.execTimeBusLoad {s : State} (h : Canon s) : Result.Canon (execTimeBusLoad s) := h.advanceTo.withTime

theorem Canon.execTimeBusRecal {s : State} (h : Canon s) : Result.Canon (execTimeBusRecal s) := h

theorem Canon.execDpllUpdate {s : State} (h : Canon s) {offset} : Result.Canon (execDpllUpdate offset s) := h.measure

theorem Canon.execRefQualified {s : State} (h : Canon s) {kind source} :
    Result.Canon (execRefQualified kind source s) := h.qualify

theorem Canon.execRefDisqualified {s : State} (h : Canon s) {kind source} :
    Result.Canon (execRefDisqualified kind source s) := h.disqualify

theorem Canon.execHoldoverLimitExpire {s : State} (h : Canon s) :
    Result.Canon (execHoldoverLimitExpire s) := h.holdExpires

theorem Canon.execPpsInEdge {s : State} (h : Canon s) : Result.Canon (execPpsInEdge s) := h.ppsEdge

theorem Canon.execTodMessageRx {s : State} (h : Canon s) {isTime sec} :
    Result.Canon (execTodMessageRx isTime sec s) := h.todRx

theorem Canon.execSecondBoundary {s : State} (h : Canon s) : Result.Canon (execSecondBoundary s) := h.secondBoundary

theorem Canon.execSyncTx {s : State} (h : Canon s) {p} : Result.Canon (execSyncTx p s) := Canon.branch h.syncTx h

theorem Canon.execAnnounceTx {s : State} (h : Canon s) {p} :
    Result.Canon (execAnnounceTx p s) := Canon.branch h.announceTx h

theorem Canon.execSyncRx {s : State} (h : Canon s) {p m followUp report t} :
    Result.Canon (execSyncRx p m followUp report t s) := Canon.branch h.syncRx h

theorem Canon.execAnnounceRx {s : State} (h : Canon s) {p domain a} :
    Result.Canon (execAnnounceRx p domain a s) := Canon.branch h.announceRx h

theorem Canon.execPdelayReqTx {s : State} (h : Canon s) {p} :
    Result.Canon (execPdelayReqTx p s) := Canon.branch h.pdelayReqTx h

theorem Canon.execPdelayReqRx {s : State} (h : Canon s) {p m t} :
    Result.Canon (execPdelayReqRx p m t s) := Canon.branch h.pdelayReqRx h

theorem Canon.execPdelayRespRx {s : State} (h : Canon s) {p m followUp t} :
    Result.Canon (execPdelayRespRx p m followUp t s) := Canon.branch h.pdelayRespRx h

theorem Canon.execPdelayLost {s : State} (h : Canon s) {p} :
    Result.Canon (execPdelayLost p s) := Canon.branch h.pdelayLost h

theorem Canon.execSyncTimeout {s : State} (h : Canon s) {p} :
    Result.Canon (execSyncTimeout p s) := Canon.branch h.syncLost h

theorem Canon.execPhaseReportTx {s : State} (h : Canon s) {p} :
    Result.Canon (execPhaseReportTx p s) := Canon.branch h.phaseTx h

theorem Canon.execPhaseReportRx {s : State} (h : Canon s) {p r fwd} :
    Result.Canon (execPhaseReportRx p r fwd s) := Canon.branch h.phaseRx h

theorem Canon.execEsmcRx {s : State} (h : Canon s) {p ql} :
    Result.Canon (execEsmcRx p ql s) := Canon.branch h.esmcRx h

theorem Canon.execEsmcTx {s : State} (h : Canon s) {p} : Result.Canon (execEsmcTx p s) := Canon.branch h.esmcTx h

theorem Canon.execDelayReqTx {s : State} (h : Canon s) {p} :
    Result.Canon (execDelayReqTx p s) := Canon.branch h.delayReqTx h

theorem Canon.execDelayReqRx {s : State} (h : Canon s) {p m t} :
    Result.Canon (execDelayReqRx p m t s) := Canon.branch h.delayReqRx h

theorem Canon.execDelayRespRx {s : State} (h : Canon s) {p m} :
    Result.Canon (execDelayRespRx p m s) := Canon.branch h.delayRespRx h

end Sys2Proof.Machine
end

section
/-!
PROOFS. Every step keeps the canonical form: the functions of Machine/Stocktake.lean.
-/

namespace Sys2Proof.Machine

/-! #### Capture -/

theorem Canon.capture {s : State} (h : Canon s) {b cycle} :
    Canon (s.capture b cycle) := Canon.setBank (Canon.branch h.touchTlp.touchTlp h)

theorem Canon.captureAt {s : State} (h : Canon s) {n t} :
    Canon (s.captureAt n t) := h.foldl (fun _ hu _ => Canon.branch hu.capture hu)

theorem Canon.copyEnds {s : State} (h : Canon s) {b} :
    Canon (s.copyEnds b) := Canon.branch h h.setBank.count.finishKind

/-! #### The commands -/

theorem Canon.carryCommand {s : State} (h : Canon s) {code force params} :
    ∀ u ∈ s.carryCommand code force params, Canon u.2 := by
  intro u hu
  unfold State.carryCommand at hu
  split at hu
  · cases hu
  · cases hu
    exact h.withClerk

theorem Canon.reserveBank {s : State} (h : Canon s) {k} : ∀ u ∈ s.reserveBank k, Canon u.2 := by
  intro u hu
  unfold State.reserveBank at hu
  extract_lets at hu
  split at hu
  · cases hu
  · cases hu
    exact h.withStock.setBank

theorem Canon.stockSelf {s : State} (h : Canon s) {c all wide} : (s.stockSelf c all wide).Canon := by
  unfold State.stockSelf
  extract_lets
  refine Canon.branchEff h ?_
  split
  · exact h
  · split
    · exact h.count
    · next u e =>
      have hu : Canon u := h.reserveBank _ e
      exact Canon.branch hu.capture hu

theorem Canon.stockSpan {s : State} (h : Canon s) {c} : (s.stockSpan c).Canon := by
  unfold State.stockSpan
  extract_lets
  refine Canon.branchEff h (Canon.branchEff h (Canon.branchEff h (Canon.branchEff h ?_)))
  split
  · exact h.count
  · next u e =>
    have hu : Canon u := h.reserveBank _ e
    split
    · exact hu
    · next v e =>
      have hv : Canon v := hu.carryCommand _ e
      exact hv.withSpan

theorem Canon.stockReply {s : State} (h : Canon s) {owner carrySeq status bank} :
    Canon (s.stockReply owner carrySeq status bank) := h.withSpan

theorem Canon.stockSpanDone {s : State} (h : Canon s) {m} :
    Canon (s.stockSpanDone m) := h.withSpan.foldl (fun _ hu _ => by
    extract_lets
    split
    · exact hu.finishWaiting
    · exact hu)

theorem Canon.execStocktake {s : State} (h : Canon s) {c} :
    Result.Canon (execStocktake c s) := h.runStep (fun _ hu => by
    split
    · exact hu.stockSelf
    · exact Canon.branchEff hu.stockSpan hu.stockSelf)

theorem Canon.execStocktakeStatus {s : State} (h : Canon s) {c} :
    Result.Canon (execStocktakeStatus c s) := h.runStep (fun _ hu => hu)

theorem Canon.execStocktakeRelease {s : State} (h : Canon s) {c} :
    Result.Canon (execStocktakeRelease c s) := h.runStep (fun _ hu => Canon.branchEff hu.setBank hu)

theorem Canon.execStocktakeCancel {s : State} (h : Canon s) {c} : Result.Canon (execStocktakeCancel c s) :=
  h.runStep (fun _ hu => Canon.branchEff hu.setBank.count.withSpan.finishKind hu)

theorem Canon.execStocktakeCopyDone {s : State} (h : Canon s) {bank} :
    Result.Canon (execStocktakeCopyDone bank s) := Canon.branch h.copyEnds h

end Sys2Proof.Machine
end

section
/-!
PROOFS. Every step keeps the canonical form: the functions of Machine/WorkCmds.lean.
-/

namespace Sys2Proof.Machine

/-! #### The 0x09xx commands (R527 to R532) and the end of a queue's stopping -/

theorem Canon.execWqStatus {s : State} (h : Canon s) {c} :
    Result.Canon (execWqStatus c s) := h.runStep (fun _ hu => by
    extract_lets
    split
    · exact hu
    · exact hu)

theorem Canon.execWqEnable {s : State} (h : Canon s) {c} :
    Result.Canon (execWqEnable c s) := h.runStep (fun _ hu => by
    extract_lets +onlyGivenNames -merge _
    split
    · exact hu
    · exact Canon.branchEff hu hu.modQueue.runQueue.mirror)

theorem Canon.execWqDisable {s : State} (h : Canon s) {c} :
    Result.Canon (execWqDisable c s) := h.runStep (fun _ hu => by
    extract_lets +onlyGivenNames -merge _
    split
    · exact hu
    · split
      · exact hu
      · exact hu
      · exact hu.stopQueue.mirror)

theorem Canon.queueStopped {s : State} (h : Canon s) {q} : Canon (s.queueStopped q) := by
  unfold State.queueStopped
  extract_lets +onlyGivenNames -merge _
  refine Canon.branch h ?_
  extract_lets +onlyGivenNames -merge _ _ s2
  have hs2 : Canon s2 := Canon.branch h.setQueue.writeShadow.finishKind h.setQueue.writeShadow.finishKind.mirror
  exact Canon.maintCheck (Canon.branch hs2.cqEnable hs2)

theorem Canon.execWqStopped {s : State} (h : Canon s) {q} : Result.Canon (execWqStopped q s) := h.queueStopped

theorem Canon.execBookStatus {s : State} (h : Canon s) {c} :
    Result.Canon (execBookStatus c s) := h.runStep (fun _ hu => by
    split
    · exact hu
    · exact hu)

theorem Canon.execBookEnable {s : State} (h : Canon s) {c} :
    Result.Canon (execBookEnable c s) := h.runStep (fun _ hu => by
    extract_lets +onlyGivenNames -merge _ _
    split
    · exact hu
    · exact Canon.branchEff hu hu.withBooks.modBook.mirror)

theorem Canon.stopBook {s : State} (h : Canon s) {b} : Canon (s.stopBook b) := h.modBook

theorem Canon.execBookDisable {s : State} (h : Canon s) {c} :
    Result.Canon (execBookDisable c s) := h.runStep (fun _ hu => by
    split
    · exact hu
    · exact hu.stopBook.mirror)

theorem Canon.execSetWqService {s : State} (h : Canon s) {c} :
    Result.Canon (execSetWqService c s) := h.runStep (fun _ hu => by
    split
    · exact hu
    · exact hu.acceptSetting)

theorem Canon.applyWqService {s : State} (h : Canon s) {x} : Canon (s.applyWqService x) := h.modQueue

end Sys2Proof.Machine
end

section
/-!
PROOFS. Every step keeps the canonical form: the functions of Machine/Faults.lean.
-/

namespace Sys2Proof.Machine

/-! #### The floor, R726 -/

theorem Canon.floorCheck {s : State} (h : Canon s) {before} :
    Canon (s.floorCheck before) := h.foldl (fun _ hu _ => Canon.branch hu.count.raise hu)

/-! #### Fences, R719 and R720 -/

theorem Canon.linksDown {s : State} (h : Canon s) {ps} : Canon (s.linksDown ps) :=
  h.foldl (fun _ hu _ => Canon.modPort (Canon.branch hu.bringCredit.linkFalls hu.bringCredit))

theorem Canon.relocate {s : State} (h : Canon s) : Canon (s.relocate) := h.fresh.countN

theorem Canon.discardFrame {s : State} (h : Canon s) {id} : Canon (s.discardFrame id) := by
  unfold State.discardFrame
  split
  · exact h
  · extract_lets +onlyGivenNames -merge s _ _ _ _ _ s3
    have hs : Canon s := h.foldl (fun _ hu _ => hu.abortEgress.noteIdle.copyOf)
    have hs3 : Canon s3 := by
      unfold s3
      split
      · exact Canon.setThread (Canon.update (Canon.branch hs.copyOf hs))
      · exact Canon.update (Canon.branch hs.copyOf hs)
    exact hs3.dropFrame.flushOrder

theorem Canon.fenceDiscard {s : State} (h : Canon s) {id} :
    Canon (s.fenceDiscard id) := Canon.branch h h.count.discardFrame

theorem Canon.endTest {s : State} (h : Canon s) {u} : Canon (s.endTest u) := h.withFlt.finishKind

theorem Canon.leaveService {s : State} (h : Canon s) {u} : Canon (s.leaveService u) := by
  unfold State.leaveService
  split
  · exact h.relocate
  · exact h.linksDown
  · exact h.linksDown
  · exact h.modLane
  · exact h

theorem Canon.fenceFault {s : State} (h : Canon s) {u gate lost} : Canon (s.fenceFault u gate lost) :=
  Canon.branch h (Canon.floorCheck (Canon.branch (Canon.foldl (Canon.count (Canon.withFlt
    (h.leaveService.endTest.foldl (fun _ hu _ => hu.endTest.setJoinerFence)))) (fun _ hu _ => hu.fenceDiscard))
    (Canon.count (Canon.withFlt (h.leaveService.endTest.foldl (fun _ hu _ => hu.endTest.setJoinerFence))))))

theorem Canon.returnUnit {s : State} (h : Canon s) {u} : Canon (s.returnUnit u) :=
  Canon.floorCheck (Canon.foldl (h.withFlt.foldl (fun _ hu _ => Canon.branch hu hu.setJoinerFence)) (fun _ hu _ =>
    hu.modPort))

/-! #### Reactions, R717 to R724 -/

theorem Canon.stopPost {s : State} (h : Canon s) {source fatal} : Canon (s.stopPost source fatal) := by
  unfold State.stopPost
  extract_lets +onlyGivenNames -merge s s1
  have hs : Canon s := h.abandonSuspended
  have hs1 : Canon s1 := hs.beginResign
  exact Canon.branch hs1 hs1.withFlt

theorem Canon.degrade {s : State} (h : Canon s) {m} : Canon (s.degrade m) := by
  unfold State.degrade
  split
  · exact h.withFlt
  · exact h.withFlt
  · exact h.withFlt.setHostFn.count
  · exact h.withMem.count
  · exact h

theorem Canon.carryOut {s : State} (h : Canon s) {m r lost} : Canon (s.carryOut m r lost) := by
  unfold State.carryOut
  refine Canon.branch h.withFlt.stopPost ?_
  split
  · exact h.degrade
  · exact h.fenceFault
  · exact h.beginResign
  · exact h.stopPost
  · exact h

/-! #### Taking, R708 to R713 -/

theorem Canon.take {s : State} (h : Canon s) {n m lost} : Canon (s.take n m lost) :=
  Canon.branch h.setSource.withFlt.count.count.carryOut.finishKind.notify
    h.setSource.withFlt.count.count.carryOut.finishKind

/-! #### Forcing, R714 and R715 -/

theorem Canon.force {s : State} (h : Canon s) {n kind cls} :
    Canon (s.force n kind cls) := Canon.branch h.count.raiseMsg h.count

/-! #### Unit tests, R735 and R736 -/

theorem Canon.testResult {s : State} (h : Canon s) {u fail} :
    Canon (s.testResult u fail) := Canon.branch h.count.raise h.count

theorem Canon.beginTest {s : State} (h : Canon s) {u why} : Canon (s.beginTest u why) := h.withFlt

theorem Canon.fenceTest {s : State} (h : Canon s) {u why} :
    Canon (s.fenceTest u why) := Canon.branch h.withFlt.setJoinerFence.testsBegin h.leaveService.withFlt.beginTest

theorem Canon.unfenceDone {s : State} (h : Canon s) {u fail} : Canon (s.unfenceDone u fail) := by
  unfold State.unfenceDone
  extract_lets +onlyGivenNames -merge s
  have hs : Canon s := Canon.branch h h.returnUnit.count
  split
  · exact hs
  · split
    · exact Canon.branch hs.finishWaiting hs.withClerk
    · exact hs

theorem Tab.wf_filter {α : Type} [DecidableEq α] {d : α} {l : Tab α} (h : Tab.wf d l = true)
    (f : Nat × α → Bool) :
    Tab.wf d (l.filter f) = true := by
  simp only [Tab.wf, Bool.and_eq_true] at h ⊢
  obtain ⟨hk, hd⟩ := h
  exact ⟨Tab.above_filter l f 0 hk, List.all_eq_true.2 fun x hx => List.all_eq_true.1 hd x (List.mem_filter.1 hx).1⟩

theorem Canon.bistZero {s : State} (h : Canon s) {target index} : Canon (s.bistZero target index) := by
  unfold State.bistZero
  extract_lets
  split
  · exact h.withFrames
  · exact h.withJoinery
  · exact h.withClerk
  · obtain ⟨hh, hb, hc⟩ := (wf_iff s).1 h
    exact (wf_iff _).2 ⟨hh, Tab.wf_filter hb _, hc⟩
  · exact h

theorem Canon.unitTestEnds {s : State} (h : Canon s) {source fail a b} : Canon (s.unitTestEnds source fail a b) := by
  unfold State.unitTestEnds
  split
  · exact h
  · extract_lets +onlyGivenNames -merge _ _ ends
    clear_value ends
    refine Canon.branch h ?_
    extract_lets +onlyGivenNames -merge s _ _
    have hs : Canon s := by
      unfold s
      split
      · exact h.advanceTo
      · exact h
    split
    · exact hs.withFlt.testResult.unfenceDone
    · exact hs.withFlt.finishKind
    · exact hs.withFlt.bistZero.finishKind
    · exact Canon.finishKind (Canon.testResult (Canon.branch hs.withFlt.setJoinerFence (Canon.branch hs.withFlt
        hs.withFlt.returnUnit)))

theorem Canon.rotationStart {s : State} (h : Canon s) {hold} :
    Canon (s.rotationStart hold) := Canon.branch h h.fenceTest

theorem Canon.rotationDone {s : State} (h : Canon s) {hold fail} : Canon (s.rotationDone hold fail) := by
  unfold State.rotationDone
  split
  · exact h
  · extract_lets +onlyGivenNames -merge s _ _ _ _
    have hs : Canon s := by
      unfold s
      split
      · exact h.advanceTo
      · exact h
    exact hs.withFlt.returnUnit.testResult

theorem Canon.gapEnds {s : State} (h : Canon s) {rotation} : Canon (s.gapEnds rotation) := by
  unfold State.gapEnds
  split
  · split
    · exact h.advanceTo.withFlt.rotationStart
    · exact h
  · split
    · exact h.advanceTo.withFlt.rotationStart
    · exact h
  · split
    · exact h.advanceTo.withFlt.rotationFence
    · exact h
  · exact h

/-! #### Events -/

theorem Canon.execForemanTake {s : State} (h : Canon s) {lost} : Result.Canon (execForemanTake lost s) := by
  unfold Machine.execForemanTake
  split
  · exact h.take
  · exact h

theorem Canon.execFaultForceWrite {s : State} (h : Canon s) {source} :
    Result.Canon (execFaultForceWrite source s) := h.force

theorem Canon.execThermalCrossing {s : State} (h : Canon s) {level above} :
    Result.Canon (execThermalCrossing level above s) := by
  unfold Machine.execThermalCrossing
  split
  · exact Canon.branch h h.withFlt.raise
  · exact Canon.branch h h.withFlt.raise
  · exact Canon.branch h h.withFlt.raise
  · exact h.withFlt
  · exact h.withFlt
  · exact h.withFlt
  · exact h

theorem Canon.execIslandMonitorEvent {s : State} (h : Canon s) {source clock dv dt} :
    Result.Canon (execIslandMonitorEvent source clock dv dt s) := Canon.branch h.withPwr h.withPwr.raise

theorem Canon.execCrossingFail {s : State} (h : Canon s) {source addr critical} :
    Result.Canon (execCrossingFail source addr critical s) := Canon.branch h.raise h

theorem Canon.execFhTestStart {s : State} (h : Canon s) : Result.Canon (execFhTestStart s) := h.rotationStart

theorem Canon.execTcTestStart {s : State} (h : Canon s) : Result.Canon (execTcTestStart s) := h.rotationStart

theorem Canon.execRotationTestDone {s : State} (h : Canon s) {hold fail} :
    Result.Canon (execRotationTestDone hold fail s) := h.rotationDone

theorem Canon.execRotationGapExpire {s : State} (h : Canon s) {rotation} :
    Result.Canon (execRotationGapExpire rotation s) := h.gapEnds

theorem Canon.execUnitTestDone {s : State} (h : Canon s) {source fail a b} :
    Result.Canon (execUnitTestDone source fail a b s) := h.unitTestEnds

/-! #### Commands -/

theorem Canon.execFaultStatus {s : State} (h : Canon s) {c} :
    Result.Canon (execFaultStatus c s) := h.runStep (fun _ hu => hu)

theorem Canon.execFaultClear {s : State} (h : Canon s) {c} : Result.Canon (execFaultClear c s) :=
  h.runStep (fun _ hu => Canon.branchEff hu (Canon.branchEff hu.withFlt (hu.withFlt.withFlt.foldl (fun _ hv _ =>
    hv.beginTest))))

theorem Canon.execFaultInject {s : State} (h : Canon s) {c} :
    Result.Canon (execFaultInject c s) := h.runStep (fun _ hu => Canon.branchEff hu.force hu.force)

theorem Canon.execSetFaultKind {s : State} (h : Canon s) {c} : Result.Canon (execSetFaultKind c s) := h.benchSet

theorem Canon.execSetFaultGlobal {s : State} (h : Canon s) {c} : Result.Canon (execSetFaultGlobal c s) := h.benchSet

theorem Canon.execSetSelftest {s : State} (h : Canon s) {c} : Result.Canon (execSetSelftest c s) := h.benchSet

theorem Canon.applyFault {s : State} (h : Canon s) {x} : Canon (s.applyFault x) := by
  unfold State.applyFault
  extract_lets +onlyGivenNames -merge _
  split
  · exact h.setReg
  · exact h.setReg.setReg
  · exact h.setRegBits.setReg.setReg

theorem Canon.execMaintEnter {s : State} (h : Canon s) {c} :
    Result.Canon (execMaintEnter c s) := h.runStep (fun _ hu => by
    refine Canon.branchEff hu ?_
    extract_lets +onlyGivenNames -merge _ _ _ _ _ s5 _
    have hs5 : Canon s5 := Canon.foldl (Canon.foldl (Canon.foldl (Canon.linksDown (Canon.branch hu.beginResign
        hu.beginResign.leaveCycle)) (fun _ hv _ => Canon.branch hv hv.stopQueue.queueStopped)) (fun _ hv _ =>
        hv.stopBook)) (fun _ hv _ => by
        extract_lets
        refine Canon.branch hv ?_
        split
        · exact hv
        · exact hv.setChan
        · exact hv.chainStopped
        · exact hv.setChan.chainStopped)
    exact Canon.branchEff hs5 hs5.withFlt)

theorem Canon.execSelftest {s : State} (h : Canon s) {c} : Result.Canon (execSelftest c s) :=
  h.runStep (fun _ hu => Canon.branchEff hu (Canon.branchEff hu (Canon.branchEff hu (Canon.fenceTest (Canon.branch
    hu.raise hu)))))

theorem Canon.execMemBist {s : State} (h : Canon s) {c} :
    Result.Canon (execMemBist c s) := h.runStep (fun _ hu => Canon.branchEff hu (Canon.branchEff hu hu.withFlt))

theorem Canon.execEyeScan {s : State} (h : Canon s) {c} :
    Result.Canon (execEyeScan c s) := h.runStep (fun _ hu => hu.withFlt)

end Sys2Proof.Machine
end

section
/-!
PROOFS. Every step keeps the canonical form: the functions of Machine/Resets.lean.
-/

namespace Sys2Proof.Machine

/-! #### GLB_RESET_CAUSE, R824 -/

theorem Canon.withCause {s : State} (h : Canon s) {bit_} : Canon (s.withCause bit_) := h.withGlb

/-! #### Power-on and cold reset, R818 and R820 -/

theorem Canon.outside {s : State} (h : Canon s) : Canon s.outside := by
  obtain ⟨hh, -, -⟩ := (wf_iff s).1 h
  exact (wf_iff _).2 ⟨hh, rfl, rfl⟩

theorem Canon.powerLost {s : State} (h : Canon s) : Canon (s.powerLost) := h.outside.withGlb

theorem Canon.coldReset {s : State} (h : Canon s) {cause pd000} : Canon (s.coldReset cause pd000) := by
  obtain ⟨hh, -, hc⟩ := (wf_iff s).1 h
  have ho : Canon s.outside := h.outside
  obtain ⟨-, hb, -⟩ := (wf_iff _).1 ho
  unfold State.coldReset
  extract_lets +onlyGivenNames -merge o o1 o2
  have h1 : Canon o1 := by
    unfold o1
    split
    · exact (wf_iff _).2 ⟨hh, hb, Tab.wf_filter hc _⟩
    · exact (wf_iff _).2 ⟨hh, hb, Tab.wf_filter hc _⟩
  have h2 : Canon o2 := h1.withCause
  exact Canon.branch h2 h2.withBent.enterForming

theorem Canon.coldWake {s : State} (h : Canon s) {cause} : Canon (s.coldWake cause) := h.coldReset.withPwr

theorem Canon.goOff {s : State} (h : Canon s) : Canon (s.goOff) := h.powerLost.withPwr

/-! #### Warm reset, R819 -/

theorem Canon.warmResign {s : State} (h : Canon s) : Canon (s.warmResign) := Canon.branch h.beginResign.resignDone h

theorem Canon.warmPort {s : State} (h : Canon s) {p} : Canon (s.warmPort p) := by
  unfold State.warmPort
  extract_lets +onlyGivenNames -merge _ _ _ held s1 s2
  have hs1 : Canon s1 := h.bringCredit.modPort
  clear_value held
  have hs2 : Canon s2 := by
    unfold s2
    split
    · refine Canon.branch hs1.refuseCopy ?_
      split
      · exact Canon.branch hs1 hs1.settleGroup
      · exact hs1
    · exact hs1
  exact hs2.dropSuspended.dropQueued

theorem Canon.abortCopies {s : State} (h : Canon s) :
    Canon (s.abortCopies) := h.foldl (fun _ hu _ => hu.foldl (fun _ hv _ => Canon.branch hv.copyDone hv))

theorem Canon.warmFree {s : State} (h : Canon s) : Canon (s.warmFree) :=
  Canon.testsBegin (Canon.foldl (Canon.update (h.foldl (fun _ hu _ => hu.setAccount.releaseThrough))) (fun _ hu _ =>
    hu.pauseCheck))

theorem Canon.warmQueue {s : State} (h : Canon s) {q} :
    Canon (s.warmQueue q) := Canon.writeShadow (Canon.modQueue (Canon.branch h.setRegBits h))

theorem Canon.warmRings {s : State} (h : Canon s) : Canon (s.warmRings) :=
  Canon.withDray (Canon.foldl (h.foldl (fun _ hu _ => hu.warmQueue)) (fun _ hu _ => hu.stopBook))

theorem Canon.warmReset {s : State} (h : Canon s) : Canon (s.warmReset) := by
  unfold State.warmReset
  extract_lets +onlyGivenNames -merge s _ s1 s2 s3 s4 _ s5 s6
  have hs : Canon s := h.withClerk.countN
  have hs1 : Canon s1 := hs.warmResign
  have hs2 : Canon s2 := hs1.foldl (fun _ hu _ => hu.warmPort)
  have hs3 : Canon s3 := hs2.abortCopies.countN.warmFree.warmRings
  have hs4 : Canon s4 := Canon.branch hs3 hs3.leaveCycle
  have hs5 : Canon s5 := hs4.withSpan
  have hs6 : Canon s6 := Canon.branch hs5 hs5.enterForming
  exact hs6.update.withCause

theorem Canon.askWarm {s : State} (h : Canon s) : Canon (s.askWarm) := by
  unfold State.askWarm
  refine Canon.branch h ?_
  split
  · exact h.withPwr.fillPending
  · exact Canon.branch h.warmReset h.withPwr.startWake

/-! #### Function level reset, R504, R557, R602, R792 and R818 -/

theorem Canon.flrQueue {s : State} (h : Canon s) {q} :
    Canon (s.flrQueue q) := Canon.branch h (Canon.branch h.modQueue.finishKind h.modQueue.finishKind.mirror)

theorem Canon.flrBook {s : State} (h : Canon s) {b} : Canon (s.flrBook b) := Canon.branch h h.stopBook.mirror

theorem Canon.flrChan {s : State} (h : Canon s) {k} : Canon (s.flrChan k) := Canon.branch h h.setChan.finishKind

theorem Canon.clearRange {s : State} (h : Canon s) {a n} : Canon (s.clearRange a n) := h.withCfg

theorem Canon.flrVf {s : State} (h : Canon s) {f n} : Canon (s.flrVf f n) :=
  Canon.branch h.clearRange (Canon.maintCheck (Canon.clearRange (Canon.withMsixPending (Canon.foldl (Canon.foldl
    (h.foldl (fun _ hu _ => hu.flrQueue)) (fun _ hu _ => hu.flrBook)) (fun _ hu _ => hu.flrChan)))))

theorem Canon.discardOf {s : State} (h : Canon s) {f} : Canon (s.discardOf f) := h.withClerk

theorem Canon.flrPf {s : State} (h : Canon s) {f} : Canon (s.flrPf f) := by
  unfold State.flrPf
  extract_lets +onlyGivenNames -merge s s1 s2 s3 s4 s5 s6
  have hs : Canon s := h.discardOf
  have hs1 : Canon s1 := hs.foldl (fun _ hu _ => hu.flrQueue)
  have hs2 : Canon s2 := hs1.foldl (fun _ hu _ => hu.flrBook)
  have hs3 : Canon s3 := hs2.foldl (fun _ hu _ => hu.flrChan)
  have hs4 : Canon s4 := hs3.clearRange.clearRange
  have hs5 : Canon s5 := hs4.foldl (fun _ hu _ => hu.clearRange)
  clear_value s5
  exact Canon.maintCheck (Canon.setHostFn hs5.update)

end Sys2Proof.Machine
end

section
/-!
PROOFS. Every step keeps the canonical form: the functions of Machine/Power.lean.
-/

namespace Sys2Proof.Machine

/-! #### Idle timers, R747 -/

theorem Canon.restartIdle {s : State} (h : Canon s) : Canon (s.restartIdle) := h.withPwr

theorem Canon.restartOne {s : State} (h : Canon s) {k} : Canon (s.restartOne k) := h.withPwr

/-! #### Entries, R749, R759 and R769 -/

theorem Canon.releaseHeld {s : State} (h : Canon s) :
    Canon (s.releaseHeld) := h.foldl (fun _ hu _ => hu.releaseThrough)

theorem Canon.beginEntry {s : State} (h : Canon s) {dest} : Canon (s.beginEntry dest) := by
  unfold State.beginEntry
  extract_lets +onlyGivenNames -merge _ _ _ _ s1
  have hs1 : Canon s1 := Canon.branch h.withPwr.withBent h.withPwr
  exact Canon.branch hs1.releaseHeld hs1

theorem Canon.ageAll {s : State} (h : Canon s) {p} : Canon (s.ageAll p) := h.foldl (fun _ hu _ => hu.setFlow.count)

theorem Canon.dropUnretained {s : State} (h : Canon s) {p} :
    Canon (s.dropUnretained p) := h.countN.dropSuspended.ageAll.modPort.withJoinery

theorem Canon.hostPm {s : State} (h : Canon s) {pm} : Canon (s.hostPm pm) := h.withHost

theorem Canon.enterDeep {s : State} (h : Canon s) : Canon (s.enterDeep) := by
  unfold State.enterDeep
  extract_lets +onlyGivenNames -merge s s1 s2 s3
  have hs : Canon s := h.foldl (fun _ hu _ => hu.dropUnretained)
  have hs1 : Canon s1 := hs.linksDown
  have hs2 : Canon s2 := Canon.branch hs1 hs1.modLane.modLane
  have hs3 : Canon s3 := hs2.hostPm
  exact hs3.update

theorem Canon.enterSleep {s : State} (h : Canon s) :
    Canon (s.enterSleep) := Canon.withPwr (Canon.hostPm (h.foldl (fun _ hu _ => hu.disqualify)))

/-! #### The end of a transition, R750 to R752 -/

theorem Canon.settle {s : State} (h : Canon s) {entry} : Canon (s.settle entry) := by
  unfold State.settle
  extract_lets +onlyGivenNames -merge _ slot _ _ _ level
  clear_value slot level
  split
  · split
    · exact h.withPwr.startWake
    · exact h.withPwr
  · refine Canon.branch ?_ ?_
    · extract_lets +onlyGivenNames -merge s1
      have hs1 : Canon s1 := Canon.branch h.withPwr.count h.withPwr
      split
      · exact Canon.branch hs1.startWake hs1.startWake
      · exact hs1.startWake
    · refine Canon.branch ?_ ?_
      · split
        · exact h.withPwr.startWake
        · exact h.withPwr
      · refine Canon.branch h.withPwr.beginEntry ?_
        extract_lets
        split
        · exact h.withPwr.count.startWake
        · exact h.withPwr.count

theorem Canon.reached {s : State} (h : Canon s) {st} : Canon (s.reached st) := Canon.settle (by
    split
    · exact h.withPwr.restartIdle.count
    · exact h.withPwr.restartIdle.enterSleep.count
    · exact h.withPwr.restartIdle.enterDeep.count
    · exact h.withPwr.restartIdle)

theorem Canon.offReached {s : State} (h : Canon s) : Canon (s.offReached) := Canon.branch h.goOff h.goOff.startWake

theorem Canon.setEn {s : State} (h : Canon s) {r v} : Canon (s.setEn r v) := h.withPwr

theorem Canon.setGood {s : State} (h : Canon s) {r v} : Canon (s.setGood r v) := h.withPwr

theorem Canon.setTrans {s : State} (h : Canon s) {t} : Canon (s.setTrans t) := h.withPwr

theorem Canon.dropRail {s : State} (h : Canon s) {t r} : Canon (s.dropRail t r) := h.setEn.setTrans

theorem Canon.entryDone {s : State} (h : Canon s) : Canon (s.entryDone) := by
  unfold State.entryDone
  split
  · exact h
  · refine Canon.branch h ?_
    split
    · exact h.dropRail
    · exact Canon.branch h h.reached
    · exact h.reached

/-! #### Wakes, R756 to R758, and the power-up order of R837 -/

theorem Canon.wakeFails {s : State} (h : Canon s) {t} : Canon (s.wakeFails t) :=
  Canon.branch (Canon.branch h.goOff.countN.withPwr h.goOff.countN.withPwr.startWake) h.withPwr.count.settle

theorem Canon.nextStep {s : State} (h : Canon s) {t step} : Canon (s.nextStep t step) := h.setTrans

theorem Canon.coreGood {s : State} (h : Canon s) : Canon (s.coreGood) := h.powerLost.withCause.withPwr

theorem Canon.railGood {s : State} (h : Canon s) {r} : Canon (s.railGood r) := by
  unfold State.railGood
  split
  · exact h
  · exact Canon.branch h (Canon.branch h.coreGood (Canon.branch h.setGood.nextStep h.setGood.setEn.setTrans))

theorem Canon.railOff {s : State} (h : Canon s) {t} :
    Canon (s.railOff t) := Canon.branch h.setGood.offReached h.setGood.dropRail

theorem Canon.railTimeout {s : State} (h : Canon s) : Canon (s.railTimeout) := by
  unfold State.railTimeout
  split
  · exact h
  · exact Canon.branch h (Canon.branch (Canon.branch h.advanceTo.wakeFails h) h.advanceTo.railOff)

theorem Canon.oscReady {s : State} (h : Canon s) : Canon (s.oscReady) := by
  unfold State.oscReady
  split
  · exact h.withPwr
  · exact Canon.branch h (Canon.nextStep (Canon.withPwr (Canon.branch h.coldReset h)))

theorem Canon.memoryReady {s : State} (h : Canon s) {gib width ranks rate popError} :
    Canon (s.memoryReady gib width ranks rate popError) := by
  unfold State.memoryReady
  extract_lets +onlyGivenNames -merge boot
  have hboot : ∀ u, Canon u → Canon (boot u) := fun _ hu => Canon.branch hu.withMem hu.update
  split
  · exact Canon.branch h (hboot _ h)
  · exact Canon.branch h (Canon.branch (Canon.nextStep (h.withPwr.foldl (fun _ hu _ => hu.count))) (Canon.branch
      (Canon.nextStep (hboot _ h)) (hboot _ h)))

theorem Canon.stepTimeout {s : State} (h : Canon s) : Canon (s.stepTimeout) := by
  unfold State.stepTimeout
  split
  · exact h
  · exact Canon.branch h h.advanceTo.wakeFails

theorem Canon.rebuildTime {s : State} (h : Canon s) :
    Canon (s.rebuildTime) := Canon.branch h.withTime.setFlag h.withTime.withTime

theorem Canon.restore {s : State} (h : Canon s) :
    Canon (s.restore) := Canon.branch h.coldReset.update.raise h.rebuildTime

theorem Canon.logicReady {s : State} (h : Canon s) : Canon (s.logicReady) := by
  unfold State.logicReady
  split
  · exact h.withPwr
  · extract_lets +onlyGivenNames -merge _
    refine Canon.branch h ?_
    extract_lets +onlyGivenNames -merge _ _ _ _ _ _ s3 _ _ s4 _ _
    have hs3 : Canon s3 := Canon.branch (Canon.restartIdle (Canon.count (Canon.update (Canon.branch (Canon.branch
        h.rebuildTime h.restore) h)))) (Canon.hostPm (Canon.restartIdle (Canon.count (Canon.update (Canon.branch
        (Canon.branch h.rebuildTime h.restore) h)))))
    have hs4 : Canon s4 := Canon.branch (Canon.branch hs3.withBent.enterResync hs3.withBent.becomeOrphan) hs3
    exact Canon.settle (Canon.branch hs4.withPwr.warmReset hs4)

theorem Canon.wakeSourceActs {s : State} (h : Canon s) {source port} : Canon (s.wakeSourceActs source port) := by
  unfold State.wakeSourceActs
  split
  · exact h
  · exact h.wakeEvent
  · split
    · exact h.advanceToU.wakeEvent
    · exact h
  · exact Canon.branch h.wakeEvent h

/-! #### Registers -/

theorem Canon.applyPower {s : State} (h : Canon s) {x} : Canon (s.applyPower x) :=
  h.setReg.setReg.setReg.setReg.setReg.setReg.setReg.setReg.foldl (fun _ hu _ => Canon.branch hu hu.restartOne)

/-! #### Meanings: commands -/

theorem Canon.execPowerStatus {s : State} (h : Canon s) {c} :
    Result.Canon (execPowerStatus c s) := h.runStep (fun _ hu => hu)

theorem Canon.execPowerRequest {s : State} (h : Canon s) {c} : Result.Canon (execPowerRequest c s) :=
  h.runStep (fun _ hu => Canon.branchEff hu (Canon.branchEff hu (Canon.branchEff hu.fillPending hu.beginEntry)))

theorem Canon.execSetPower {s : State} (h : Canon s) {c} : Result.Canon (execSetPower c s) := h.benchSet

/-! #### Meanings: events -/

theorem Canon.execIdleTimerExpire {s : State} (h : Canon s) {target} :
    Result.Canon (execIdleTimerExpire target s) := Canon.branch h (Canon.branch h.restartOne h.advanceTo.beginEntry)

theorem Canon.execEntryDone {s : State} (h : Canon s) : Result.Canon (execEntryDone s) := h.entryDone

theorem Canon.execWakeEvent {s : State} (h : Canon s) {source port} :
    Result.Canon (execWakeEvent source port s) := Canon.branch h h.wakeSourceActs

theorem Canon.execRailGood {s : State} (h : Canon s) {rail} : Result.Canon (execRailGood rail s) := h.railGood

theorem Canon.execRailGoodTimeout {s : State} (h : Canon s) : Result.Canon (execRailGoodTimeout s) := h.railTimeout

theorem Canon.execRailGoodFall {s : State} (h : Canon s) {rail} : Result.Canon (execRailGoodFall rail s) := by
  unfold Machine.execRailGoodFall
  split
  · exact Canon.branch h.railOff h
  · exact h

theorem Canon.execOscReady {s : State} (h : Canon s) : Result.Canon (execOscReady s) := h.oscReady

theorem Canon.execMemReady {s : State} (h : Canon s) {gib width ranks rate popError} :
    Result.Canon (execMemReady gib width ranks rate popError s) := h.memoryReady

theorem Canon.execWakeStepTimeout {s : State} (h : Canon s) : Result.Canon (execWakeStepTimeout s) := h.stepTimeout

theorem Canon.execLogicReady {s : State} (h : Canon s) : Result.Canon (execLogicReady s) := h.logicReady

theorem Canon.execAonResetRelease {s : State} (h : Canon s) :
    Result.Canon (execAonResetRelease s) := h.powerLost.update

theorem Canon.execPowerOn {s : State} (h : Canon s) {split bar4} :
    Result.Canon (execPowerOn split bar4 s) := h.withBoard.coreGood

theorem Canon.execPwrGoodCoreFall {s : State} (h : Canon s) : Result.Canon (execPwrGoodCoreFall s) := h.offReached

theorem Canon.execSysRstNAssert {s : State} (h : Canon s) : Result.Canon (execSysRstNAssert s) := by
  unfold Machine.execSysRstNAssert
  refine Canon.branch ?_ ?_
  · extract_lets +onlyGivenNames -merge s
    have hs : Canon s := h.startWake
    exact hs.update
  · extract_lets +onlyGivenNames -merge s
    have hs : Canon s := h.coldReset
    exact hs.withBoard

theorem Canon.execSysRstNRelease {s : State} (h : Canon s) {split bar4} :
    Result.Canon (execSysRstNRelease split bar4 s) := by
  unfold Machine.execSysRstNRelease
  extract_lets
  refine Canon.branch h.withBoard ?_
  split
  · exact h.withBoard.setEn.setTrans
  · exact h.withBoard.coldWake

theorem Canon.execWakeNAssert {s : State} (h : Canon s) {stays} :
    Result.Canon (execWakeNAssert stays s) := Canon.withBoard (Canon.branch h.withBoard h.withBoard.wakeEvent)

theorem Canon.execWarmReset {s : State} (h : Canon s) : Result.Canon (execWarmReset s) := h.askWarm

theorem Canon.execWarmResetDone {s : State} (h : Canon s) :
    Result.Canon (execWarmResetDone s) := Canon.branch h h.update.count

theorem Canon.execColdReset {s : State} (h : Canon s) {split bar4} :
    Result.Canon (execColdReset split bar4 s) := Canon.branch h h.withBoard.coldWake

theorem Canon.execFunctionLevelReset {s : State} (h : Canon s) {fn vf} :
    Result.Canon (execFunctionLevelReset fn vf s) := by
  unfold Machine.execFunctionLevelReset
  refine Canon.branch h ?_
  split
  · exact Canon.branch h.flrVf h
  · exact h.flrPf

end Sys2Proof.Machine
end

section
/-!
PROOFS. Every step keeps the canonical form: the functions of Machine/HostMem.lean.
-/

namespace Sys2Proof.Machine

/-! #### Links, R755, R794 and R843 -/

theorem Canon.linkDown {s : State} (h : Canon s) {f} :
    Canon (s.linkDown f) := Canon.branch h h.flrPf.setHostFn.count.raise

theorem Canon.linkUp {s : State} (h : Canon s) {f speed width} : Canon (s.linkUp f speed width) :=
  Canon.branch h (Canon.branch (Canon.withPwr (Canon.setHostFn (Canon.branch h.count h))) (Canon.setHostFn
    (Canon.branch h.count h)))

/-! #### Virtual functions, R788 and R789 -/

theorem Canon.vfEnable {s : State} (h : Canon s) {f n} :
    Canon (s.vfEnable f n) := Canon.branch h (Canon.branch h.setHostFn (Canon.branch h h.setHostFn))

theorem Canon.vfWrite {s : State} (h : Canon s) {f o v} : Canon (s.vfWrite f o v) := by
  unfold State.vfWrite
  refine Canon.branch h ?_
  split
  · exact h
  · exact Canon.branch h.count h.setReg

/-! #### Poisoned bursts and scrub, R800 and R801 -/

theorem Canon.spillLost {s : State} (h : Canon s) : Canon (s.spillLost) := by
  unfold State.spillLost
  extract_lets
  split
  · exact h
  · exact h.fresh.count.discardFrame

theorem Canon.poolLost {s : State} (h : Canon s) : Canon (s.poolLost) := by
  unfold State.poolLost
  extract_lets
  split
  · exact h
  · exact h.fresh.setAccount.count.freeFrame

theorem Canon.poisonRead {s : State} (h : Canon s) {o master} : Canon (s.poisonRead o master) :=
  Canon.branch (Canon.raise (Canon.count (Canon.branch h.count h))) (Canon.branch (Canon.branch (Canon.withPwr
    (Canon.raise (Canon.count (Canon.branch h.count h)))) (Canon.raise (Canon.count (Canon.branch h.count h))))
    (Canon.branch (Canon.spillLost (Canon.raise (Canon.count (Canon.branch h.count h)))) (Canon.branch
    (Canon.poolLost (Canon.raise (Canon.count (Canon.branch h.count h)))) (Canon.raise (Canon.count (Canon.branch
    h.count h))))))

theorem Canon.scrub {s : State} (h : Canon s) {o found} : Canon (s.scrub o found) := by
  unfold State.scrub
  refine Canon.branch h ?_
  extract_lets +onlyGivenNames -merge _ _ _ _
  split
  · exact h.withMem.count.raise
  · exact Canon.branch h.withMem h.withMem.withMem.count
  · exact h.withMem

/-! #### BAR4, R783, R786 and R787 -/

theorem Canon.bar4 {s : State} (h : Canon s) {f x n write data} : Canon (s.bar4 f x n write data) := by
  unfold State.bar4
  refine Canon.branch h ?_
  extract_lets +onlyGivenNames -merge s1 o s2
  have h1 : Canon s1 := h.hostTouch
  have h2 : Canon s2 := h1.count
  clear_value o
  refine Canon.branch (Canon.branch h2 h2.update) (Canon.branch h1.writeBulk ?_)
  split
  · exact h1.poisonRead.update
  · exact h1.update

/-! #### Registers -/

theorem Canon.writeMarks {s : State} (h : Canon s) {v} : Canon (s.writeMarks v) := Canon.branch h.setReg h.count

theorem Canon.writeScrub {s : State} (h : Canon s) {v} : Canon (s.writeScrub v) := Canon.branch h.setReg h

/-! #### Meanings -/

theorem Canon.execHostLinkDown {s : State} (h : Canon s) {fn} : Result.Canon (execHostLinkDown fn s) := h.linkDown

theorem Canon.execHostLinkUp {s : State} (h : Canon s) {fn speed width} :
    Result.Canon (execHostLinkUp fn speed width s) := h.linkUp

theorem Canon.execPerstAssert {s : State} (h : Canon s) {fn} :
    Result.Canon (execPerstAssert fn s) := Canon.branch h h.linkDown.setHostFn

theorem Canon.execAerError {s : State} (h : Canon s) {fn corrected} :
    Result.Canon (execAerError fn corrected s) := Canon.branch h (Canon.branch h.count.raise h.count.raise)

theorem Canon.execCompletionError {s : State} (h : Canon s) {fn timeout addr} :
    Result.Canon (execCompletionError fn timeout addr s) := Canon.branch h h.count.raise

theorem Canon.execVfEnable {s : State} (h : Canon s) {fn n} : Result.Canon (execVfEnable fn n s) := h.vfEnable

theorem Canon.execHstVfWrite {s : State} (h : Canon s) {fn off v} :
    Result.Canon (execHstVfWrite fn off v s) := h.hostTouch.vfWrite

theorem Canon.execBar4Access {s : State} (h : Canon s) {fn off n write data} :
    Result.Canon (execBar4Access fn off n write data s) := h.bar4

theorem Canon.execBar2Write {s : State} (h : Canon s) {fn _off} :
    Result.Canon (execBar2Write fn _off s) := Canon.branch h.hostTouch.count h

theorem Canon.execMemSpillMarksWrite {s : State} (h : Canon s) {v} :
    Result.Canon (execMemSpillMarksWrite v s) := h.hostTouch.writeMarks

theorem Canon.execMemScrubHoursWrite {s : State} (h : Canon s) {v} :
    Result.Canon (execMemScrubHoursWrite v s) := h.hostTouch.writeScrub

theorem Canon.execScrubRead {s : State} (h : Canon s) {off found} :
    Result.Canon (execScrubRead off found s) := h.scrub

theorem Canon.execPoisonedRead {s : State} (h : Canon s) {off master uncorrectable} :
    Result.Canon (execPoisonedRead off master uncorrectable s) := Canon.branch h h.poisonRead

end Sys2Proof.Machine
end

section
/-!
PROOFS. Every step keeps the canonical form: the functions of Machine/Boot.lean.
-/

namespace Sys2Proof.Machine

/-! #### Slot images, R846 and R847 -/

theorem Canon.runImage {s : State} (h : Canon s) {i} : Canon (s.runImage i) := h.fresh.update

theorem Canon.boot {s : State} (h : Canon s) {a b} : Canon (s.boot a b) := by
  unfold State.boot
  refine Canon.branch h ?_
  split
  · exact h.runImage
  · exact h.withBoard

/-! #### Debug, R850 -/

theorem Canon.challengeBytes {s : State} (h : Canon s) : Canon s.challengeBytes.2 := h.fresh.fresh.fresh.fresh

theorem Canon.challenge {s : State} (h : Canon s) :
    Canon (s.challenge) := Canon.branch h.update h.challengeBytes.update

theorem Canon.response {s : State} (h : Canon s) {signature key} :
    Canon (s.response signature key) := Canon.branch h.withBoard h.withBoard

/-! #### Commands -/

theorem Canon.execBootDone {s : State} (h : Canon s) {a b} : Result.Canon (execBootDone a b s) := h.boot

theorem Canon.execDbgChallenge {s : State} (h : Canon s) : Result.Canon (execDbgChallenge s) := h.challenge

theorem Canon.execDbgResponse {s : State} (h : Canon s) {signature key} :
    Result.Canon (execDbgResponse signature key s) := h.response

theorem Canon.execTrstAssert {s : State} (h : Canon s) : Result.Canon (execTrstAssert s) := h.withBoard

end Sys2Proof.Machine
end

section
/-!
PROOFS. Every step keeps the canonical form: the functions of Machine/RegRead.lean.
-/

namespace Sys2Proof.Machine

/-! #### Latches, R810 -/

theorem Canon.fillLatch {s : State} (h : Canon s) {req f b n} : Canon (s.fillLatch req f b n) := by
  induction n generalizing s with
  | zero => exact h
  | succ n ih => exact ih h.withLatches

theorem Canon.beforeRead {s : State} (h : Canon s) {f o} : Canon (s.beforeRead f o) := Canon.branch h.touchTlp h

theorem Canon.readWord {s : State} (h : Canon s) {req f o} : Canon (s.readWord req f o).2 := by
  unfold State.readWord
  extract_lets
  split
  · exact h.beforeRead
  · refine Canon.branchSnd h.beforeRead.fillLatch ?_
    split
    · exact h.beforeRead
    · exact h.beforeRead

theorem Canon.readWords {s : State} (h : Canon s) {req f o n} : Canon (s.readWords req f o n).2 := by
  induction n generalizing s o with
  | zero => exact h
  | succ n ih => exact ih h.readWord

theorem Canon.badAccess {s : State} (h : Canon s) {req o} : Canon (s.badAccess req o) := h.withGlb.count

theorem Canon.hostRead {s : State} (h : Canon s) {f o n} : Canon (s.hostRead f o n) :=
  Canon.branch h.update (Canon.branch h.badAccess.update (Canon.branch h.beforeRead.update h.readWords.update))

/-! #### Direct writes, R812 to R815 and R823 -/

theorem Canon.ignoredWrite {s : State} (h : Canon s) {req o} : Canon (s.ignoredWrite req o) := h.withGlb.count

theorem Canon.unmask {s : State} (h : Canon s) {e} :
    Canon (s.unmask e) := Canon.branch h (h.withMsixPending.foldl (fun _ hu _ => hu.sendMsix))

theorem Canon.writeRw {s : State} (h : Canon s) {f o v} : Canon (s.writeRw f o v) := by
  unfold State.writeRw
  split
  · exact h
  · exact Canon.branch h (Canon.branch h.setReg.unmask h.setReg)

theorem Canon.writeReset {s : State} (h : Canon s) {req v} :
    Canon (s.writeReset req v) := Canon.branch h.badAccess (Canon.branch (Canon.branch h h.coldWake) h.askWarm)

theorem Canon.writeFields {s : State} (h : Canon s) {req f o v} : Canon (s.writeFields req f o v) :=
  Canon.branch h.writeReset (Canon.branch (Canon.branch h.force h) (Canon.branch (Canon.branch h.chainDoorbell h)
    (Canon.branch h.vfWrite (Canon.branch h.writeMarks (Canon.branch h.writeScrub h.writeRw)))))

theorem Canon.writeWord {s : State} (h : Canon s) {req f o v skip} :
    Canon (s.writeWord req f o v skip) := Canon.writeFields (Canon.branch h.ignoredWrite h)

theorem Canon.hostWriteWord {s : State} (h : Canon s) {f o v} :
    Canon (s.hostWriteWord f o v) := Canon.branch h.writeWord (Canon.branch (Canon.branch h.pageWrite h) h)

theorem Canon.hostWrite {s : State} (h : Canon s) {f o n v} : Canon (s.hostWrite f o n v) :=
  Canon.branch h.hostWriteWord (Canon.branch (Canon.branch (Canon.writeWord (Canon.writeWord (Canon.branch
    h.ignoredWrite h))) h.hostWriteWord.hostWriteWord) h.badAccess)

/-! #### A virtual function's BAR0, R791 -/

theorem Canon.vfRead {s : State} (h : Canon s) {f vf o n} :
    Canon (s.vfRead f vf o n) := Canon.branch h.update (Canon.branch h.badAccess.update h.update)

theorem Canon.vfWriteWord {s : State} (h : Canon s) {f n o v} : Canon (s.vfWriteWord f n o v) := by
  unfold State.vfWriteWord
  extract_lets +onlyGivenNames -merge _ _ _
  refine Canon.branch h ?_
  refine Canon.branch (Canon.branch h.pageWrite h) ?_
  refine Canon.branch ?_ ?_
  · split
    · exact Canon.branch h.chainDoorbell h
    · exact h
  · refine Canon.branch ?_ h
    extract_lets
    split
    · exact h
    · exact Canon.branch h.setReg.unmask h.setReg

theorem Canon.vfHostWrite {s : State} (h : Canon s) {f vf o n v} : Canon (s.vfHostWrite f vf o n v) :=
  Canon.branch h.vfWriteWord (Canon.branch h.vfWriteWord.vfWriteWord h.badAccess)

/-! #### Commands -/

theorem Canon.execBar0BadAccess {s : State} (h : Canon s) {fn off read} :
    Result.Canon (execBar0BadAccess fn off read s) :=
  Canon.branch h (Canon.branch h.hostTouch.badAccess.update h.hostTouch.badAccess)

theorem Canon.execLatchingRead {s : State} (h : Canon s) {fn off n} : Result.Canon (execLatchingRead fn off n s) :=
  Canon.branch h (Canon.branch h.hostTouch.hostRead h.hostTouch.vfRead)

theorem Canon.execRegisterWrite {s : State} (h : Canon s) {fn off n v} :
    Result.Canon (execRegisterWrite fn off n v s) :=
  Canon.branch h (Canon.branch h.hostTouch.hostWrite h.hostTouch.vfHostWrite)

theorem Canon.execRegRead {s : State} (h : Canon s) {c} :
    Result.Canon (execRegRead c s) := h.runStep (fun _ hu => Canon.branchEff hu hu.readWords)

theorem Canon.execRegWrite {s : State} (h : Canon s) {c} :
    Result.Canon (execRegWrite c s) := h.runStep (fun _ hu => Canon.branchEff hu hu.writeWord)

end Sys2Proof.Machine
end

section
/-!
PROOFS. Every step keeps the canonical form: the functions of Machine/BenchFit.lean.
-/

namespace Sys2Proof.Machine

/-! #### What a bench leaves in force -/

theorem Canon.applySetting {s : State} (h : Canon s) {x} : Canon (s.applySetting x) := by
  unfold State.applySetting
  extract_lets +onlyGivenNames -merge op
  clear_value op
  refine Canon.branch h.applyTime ?_
  refine Canon.branch h.applySpan ?_
  refine Canon.branch h.applyMac ?_
  refine Canon.branch h.applyGate ?_
  split
  · exact h.applyService
  · exact h.applyService
  · exact h.applyStreamFilter
  · exact h.applyFlowMeter
  · exact h.applyStreams
  · exact h.applyRecovery
  · exact h.applyAccounts
  · exact h.applyMaskRule
  · exact h.applyLearnRule
  · exact h.applyStreamGlobal
  · exact h.applyMicrocode
  · exact h.applyHook
  · exact h.applyClassRules
  · exact h.applySteerEntries
  · exact h.applyHookTable
  · exact h.applyWqService
  · exact h.applyDrayChannel
  · exact h.applyBent
  · exact h.applyFault
  · exact h.applyFault
  · exact h.applyFault
  · exact h.applyPower
  · exact h

theorem Canon.applySettings {s : State} (h : Canon s) {xs} :
    Canon (s.applySettings xs) := Canon.applyFlows (h.foldl (fun _ hu _ => hu.applySetting))

theorem Canon.writeAccounts {s : State} (h : Canon s) {xs} :
    Canon (s.writeAccounts xs) := h.foldl (fun _ hu _ => hu.foldl (fun _ hv _ => hv.writeHost))

/-! #### The whole dry fit -/

theorem Canon.fitBase {s : State} (h : Canon s) : Canon (s.fitBase) := by
  unfold State.fitBase
  split
  · exact h.applySettings
  · exact h

end Sys2Proof.Machine
end

section
/-!
PROOFS. Every step keeps the canonical form: the functions of Machine/Bench.lean.
-/

namespace Sys2Proof.Machine

/-! #### The instant of a peg, R596 and R597 -/

theorem Canon.pegBench {s : State} (h : Canon s) {h1 b xs staged} :
    Canon (s.pegBench h1 b xs staged) := h.setBench.writeAccounts

theorem Canon.fitRefused {s : State} (h : Canon s) {h1 b} : Canon (s.fitRefused h1 b) := h.setBench.count

/-! #### At the instant, R112 and R599 -/

theorem Canon.settleWaiting {s : State} (h : Canon s) {xs} :
    Canon (s.settleWaiting xs) := Canon.branch h (h.withStream.foldl (fun _ hu _ => hu.secondDomain))

theorem Canon.noteSetting {s : State} (h : Canon s) {x} :
    Canon (s.noteSetting x) := Canon.branch h (Canon.branch h.withBent.mirror.mirror h.withBent.mirror)

theorem Canon.takeEffect {s : State} (h : Canon s) {xs} :
    Canon (s.takeEffect xs) := h.settleWaiting.portsPrepare.portsReact.timeReact.foldl (fun _ hu _ => hu.noteSetting)

theorem Canon.firePeg {s : State} (h : Canon s) {h1} :
    Canon (s.firePeg h1) := Canon.branch h h.setBench.takeEffect.count.finishKind

theorem Canon.pegComes {s : State} (h : Canon s) {h1} : Canon (s.pegComes h1) := by
  unfold State.pegComes
  extract_lets +onlyGivenNames -merge _
  refine Canon.branch h ?_
  split
  · exact h.advanceTo.firePeg
  · exact Canon.branch (Canon.branch h (Canon.branch h.advanceToU.firePeg h.firePeg)) h.advanceToU.firePeg

theorem Canon.cyclePegs {s : State} (h : Canon s) {n} : Canon (s.cyclePegs n) := by
  unfold State.cyclePegs
  split
  · exact Canon.branch h.firePeg h
  · exact h

/-! #### The partner's answers -/

theorem Canon.stageAnswer {s : State} (h : Canon s) {w h2 st detail} : Canon (s.stageAnswer w h2 st detail) := by
  unfold State.stageAnswer
  extract_lets
  refine Canon.branch h.finishWaiting ?_
  refine Canon.branch h.finishWaiting ?_
  split
  · exact h.fitRefused.finishWaiting
  · split
    · exact h.count.finishWaiting
    · exact h.pegBench.withClerk

theorem Canon.partnerAnswer {s : State} (h : Canon s) {ref st clamps detail reply} :
    Canon (s.partnerAnswer ref st clamps detail reply) := by
  unfold State.partnerAnswer
  split
  · exact h
  · split
    · exact h.stageAnswer
    · exact Canon.branch h.finishWaiting h.finishWaiting
    · exact h.finishWaiting

/-! #### Bench commands -/

theorem Canon.execBenchOpen {s : State} (h : Canon s) {c} :
    Result.Canon (execBenchOpen c s) := h.runStep (fun _ hu => by
    extract_lets +onlyGivenNames -merge _ _ pick
    clear_value pick
    split
    · exact hu
    · exact hu.setBench)

theorem Canon.execBenchDryFit {s : State} (h : Canon s) {c} :
    Result.Canon (execBenchDryFit c s) := h.runStep (fun _ hu => by
    extract_lets
    split
    · exact hu.fitRefused
    · exact hu.setBench.writeAccounts)

theorem Canon.execBenchPeg {s : State} (h : Canon s) {c} :
    Result.Canon (execBenchPeg c s) := h.runStep (fun _ hu => by
    extract_lets +onlyGivenNames -merge _ _
    split
    · exact hu
    · split
      · exact hu.fitRefused
      · split
        · exact hu.count
        · exact Canon.branchEff hu.toPartner hu.pegBench)

theorem Canon.execBenchDiscard {s : State} (h : Canon s) {c} : Result.Canon (execBenchDiscard c s) :=
  h.runStep (fun _ hu => Canon.branchEff hu.setBench.count (Canon.branchEff hu hu.setBench.count.count.finishKind))

theorem Canon.execBenchStatus {s : State} (h : Canon s) {c} :
    Result.Canon (execBenchStatus c s) := h.runStep (fun _ hu => hu)

/-! #### Events -/

theorem Canon.execBenchStaged {s : State} (h : Canon s) {h0} : Result.Canon (execBenchStaged h0 s) :=
  Canon.branch h (Canon.branch h.advanceTo.setBench.finishKind h.advanceTo.setBench)

theorem Canon.execBenchPegInstant {s : State} (h : Canon s) {h0} :
    Result.Canon (execBenchPegInstant h0 s) := h.pegComes

theorem Canon.execPartnerReplyRx {s : State} (h : Canon s) {ref st clamps detail reply} :
    Result.Canon (execPartnerReplyRx ref st clamps detail reply s) := h.partnerAnswer

theorem Canon.execPartnerReplyTimeout {s : State} (h : Canon s) : Result.Canon (execPartnerReplyTimeout s) := by
  unfold Machine.execPartnerReplyTimeout
  split
  · exact h
  · split
    · exact h.advanceTo.finishWaiting
    · exact h.advanceTo.finishWaiting
    · exact h

end Sys2Proof.Machine
end

section
/-!
PROOFS. Every step keeps the canonical form: the functions of Machine/SpanEvents.lean.
-/

namespace Sys2Proof.Machine

/-! #### Launches, R119 to R123 -/

theorem Canon.settleWire {s : State} (h : Canon s) {p q} : Canon (s.settleWire p q) := by
  unfold State.settleWire
  extract_lets +onlyGivenNames -merge s
  have hs : Canon s := by
    unfold s
    split
    · exact Canon.branch h (Canon.branch h.frameEnds h.fragmentEnds)
    · exact h
  split
  · exact Canon.branch hs.bringCredit.modPort.noteIdle hs
  · exact hs

theorem Canon.wayFor {s : State} (h : Canon s) {p q} : ∀ u ∈ s.wayFor p q, Canon u := by
  intro u hu
  unfold State.wayFor at hu
  extract_lets +onlyGivenNames -merge s1 t at hu
  have hs : Canon s1 := h.settleWire
  clear_value t
  split at hu
  · cases hu
  · split at hu
    · exact Option.some.inj hu ▸ hs
    · split at hu
      · cases hu
      · extract_lets at hu
        split at hu
        · cases hu
        · split at hu
          · cases hu
          · cases hu; exact hs.bringCredit.modPort.suspend

theorem Canon.launch {s : State} (h : Canon s) {l} : Canon (s.launch l).2 := by
  unfold State.launch
  extract_lets +onlyGivenNames -merge p _ s1
  have hs : Canon s1 := h.advanceToU
  refine Canon.branchSnd hs (Canon.branchSnd hs.count ?_)
  split
  · exact hs.count
  · next u e =>
    have hu : Canon u := hs.wayFor _ e
    split
    · exact hu
    · exact hu.count
    · extract_lets +onlyGivenNames -merge x _ _ _ _ _ s2
      have hx : Canon x.2 := by
        unfold x
        split
        · exact hu.takePn
        · exact hu.count
        · exact hu
      have hs2 : Canon s2 := hx.bringCredit.modPort
      exact Canon.branch hs2 hs2.count

theorem Canon.dropLaunch {s : State} (h : Canon s) {l} : Canon (s.dropLaunch l) := h.withSpan

theorem Canon.carryBody {s : State} (h : Canon s) : Canon s.carryBody.2 := by
  unfold State.carryBody
  extract_lets +onlyGivenNames -merge _
  split
  · exact h.withClerk.count
  · exact h.withSpan

theorem Canon.fillCarry {s : State} (h : Canon s) {l} :
    Canon (s.fillCarry l).2 := Canon.branchSnd h h.carryBody.withSpan

theorem Canon.sentOnce {s : State} (h : Canon s) {l} :
    Canon (s.sentOnce l) := Canon.branch h (Canon.branch h.withSpan.count (Canon.branch h.withSpan.count h.withSpan))

theorem Canon.spanLaunch {s : State} (h : Canon s) : Canon (s.spanLaunch) := by
  unfold State.spanLaunch
  split
  · exact h
  · exact Canon.settleGroup (Canon.branch h.dropLaunch.fillCarry.launch.sentOnce h.dropLaunch.fillCarry.launch)

theorem Canon.relayLaunch {s : State} (h : Canon s) : Canon (s.relayLaunch) := by
  unfold State.relayLaunch
  split
  · exact h
  · exact h.dropLaunch.launch

theorem Canon.plan {s : State} (h : Canon s) {tref h2 bell data frame} :
    Canon (s.plan tref h2 bell data frame) := Canon.settleGroup (h.planOwn.foldl (fun _ hu _ => hu.leaveLpi))

/-! #### Relays, R117 to R121 -/

theorem Canon.relayCopy {s : State} (h : Canon s) {p h2 bell carry data t tref dhop limit} :
    Canon (s.relayCopy p h2 bell carry data t tref dhop limit) :=
  Canon.branch h (h.foldl (fun _ hu _ => Canon.branch hu.count hu.withSpan.leaveLpi))

/-! #### Reception -/

theorem Canon.spanRx {s : State} (h : Canon s) {p n go} (hgo : ∀ u, Canon u → Canon (go u)) :
    Canon (s.spanRx p n go) := Canon.branch h (h.linkGate (fun _ hu => hgo _ hu.countRx))

theorem Canon.accept {s : State} (h : Canon s) {kind n o} : Canon (s.accept kind n o) := h.withSpan

theorem Canon.spanDeliver {s : State} (h : Canon s) {p b t edge} :
    Canon (s.spanDeliver p b t edge) := Canon.branch h.count h.addFrame.orderAdd.pauseCheck

theorem Canon.carriedReply {s : State} (h : Canon s) {owner data} :
    Canon (s.carriedReply owner data) := Canon.branch h (Canon.branch h.count.stockReply h.count)

theorem Canon.slotAccepted {s : State} (h : Canon s) {h1 o} : Canon (s.slotAccepted h1 o) := h.update

theorem Canon.dataCopy {s : State} (h : Canon s) {p h2 data t dyn} : Canon (s.dataCopy p h2 data t dyn) := by
  unfold State.dataCopy
  extract_lets +onlyGivenNames -merge _
  refine Canon.branch h.count ?_
  split
  · exact h.count
  · extract_lets +onlyGivenNames -merge _
    refine Canon.branch h.count ?_
    refine Canon.branch h.withSpan.count ?_
    extract_lets +onlyGivenNames -merge s _ _
    have hs : Canon s := Canon.branch h.count h
    refine Canon.branch (Canon.relayCopy (Canon.branch hs hs.count)) ?_
    extract_lets +onlyGivenNames -merge s3 s4 s5
    have hs3 : Canon s3 := Canon.accept (Canon.relayCopy (Canon.branch hs hs.count))
    have hs4 : Canon s4 := Canon.branch hs3 hs3.slotAccepted
    have hs5 : Canon s5 := Canon.branch hs4.count hs4
    exact Canon.branch (Canon.branch hs5 hs5.carriedReply) (Canon.branch hs5.spanDeliver hs5)

/-! #### Pattern change at a member, R148 and R149 -/

theorem Canon.memberChange {s : State} (h : Canon s) {k} : Canon (s.memberChange k) := by
  unfold State.memberChange
  extract_lets +onlyGivenNames -merge _ _ s
  have hs : Canon s := by
    unfold s
    split
    · exact Canon.branch (Canon.branch h.withSpan.count (Canon.branch h.withSpan.count h.withSpan)) h
    · exact h
  exact Canon.branch hs.withSpan hs

/-! #### Bells, R131, R140 and R145 -/

theorem Canon.integrate {s : State} (h : Canon s) {k} :
    Canon (s.integrate k) := h.gatesBefore.withSpan.count.memberChange.gatesAfter.assignRoles.reselect

theorem Canon.trialBell {s : State} (h : Canon s) {k} : Canon (s.trialBell k) := by
  unfold State.trialBell
  extract_lets +onlyGivenNames -merge keep
  have hkeep : ∀ u, Canon u → Canon (keep u) := fun _ hu => hu.withSpan
  split
  · exact hkeep _ h
  · exact Canon.branch (Canon.branch (hkeep _ h.count) (Canon.branch h.integrate (hkeep _ (Canon.branch h h.count))))
      (Canon.branch (hkeep _ h) h.count)

theorem Canon.rivalBell {s : State} (h : Canon s) {k} : Canon (s.rivalBell k) := by
  unfold State.rivalBell
  extract_lets +onlyGivenNames -merge _ yields
  have hyields : ∀ u, Canon u → Canon (yields u) := fun _ hu => hu.withSpan
  refine Canon.branch h.count ?_
  split
  · exact Canon.branch (hyields _ h) h
  · extract_lets +onlyGivenNames -merge s
    have hs : Canon s := Canon.count (hyields _ h)
    exact Canon.branch hs.raise hs

theorem Canon.memberBell {s : State} (h : Canon s) {k} :
    Canon (s.memberBell k) := Canon.branch h.leaveMember h.withSpan.memberChange

theorem Canon.bellEvent {s : State} (h : Canon s) {k} : Canon (s.bellEvent k) := by
  unfold State.bellEvent
  split
  · exact h
  · exact h.withSpan
  · exact h.trialBell
  · exact h.rivalBell
  · exact h.rivalBell
  · exact Canon.branch h.memberBell h.leaveMember
  · exact Canon.branch h.memberBell h.leaveMember

theorem Canon.bellCopy {s : State} (h : Canon s) {p hd b t} : Canon (s.bellCopy p hd b t) := by
  unfold State.bellCopy
  extract_lets +onlyGivenNames -merge _ _ _
  refine Canon.branch h.count ?_
  extract_lets +onlyGivenNames -merge _ _ o owned
  have howned : ∀ u, Canon u → ∀ v, Canon (owned u v) := by
    clear_value o
    intro u hu v
    unfold owned
    split
    · exact hu.count
    · exact hu
  refine Canon.branch (howned _ h _) ?_
  extract_lets +onlyGivenNames -merge s _ _ s1 _ _ _ s3
  have hs : Canon s := Canon.branch (howned _ h _) h
  have hs1 : Canon s1 := Canon.branch hs hs.withSpan.noteMargins
  have hs3 : Canon s3 := hs1.withSpan.relayCopy
  exact Canon.branch hs3.bellEvent hs3

theorem Canon.bellMissing {s : State} (h : Canon s) : Canon (s.bellMissing) := by
  unfold State.bellMissing
  split
  · split
    · exact h.advanceTo.withSpan
    · exact h
  · exact Canon.branch h (Canon.branch h.advanceToU.count.accept.withSpan.leaveMember
      h.advanceToU.count.accept.withSpan)

/-! #### Raising, R145 -/

theorem Canon.listenEnds {s : State} (h : Canon s) : Canon (s.listenEnds) := by
  unfold State.listenEnds
  split
  · extract_lets +onlyGivenNames -merge _
    split
    · exact h.advanceTo.withSpan
    · exact h.advanceTo.gatesBefore.withSpan.noteMargins.assignRoles
  · exact h

/-! #### Cycle boundaries, R111, R112, R136, R148 -/

theorem Canon.kingChange {s : State} (h : Canon s) {n} : Canon (s.kingChange n) := by
  unfold State.kingChange
  split
  · exact h
  · exact Canon.branch h (Canon.branch h.withSpan (Canon.branch h (Canon.branch h.withSpan.withSpan.count.finishKind
      h.withSpan.withSpan.count.finishKind)))

theorem Canon.beginCycle {s : State} (h : Canon s) : Canon (s.beginCycle) := by
  unfold State.beginCycle
  extract_lets +onlyGivenNames -merge _ _ _ _ _ _ _ s2 _ _ _ s5 s6 s7
  have hs2 : Canon s2 := Canon.stockSpanDone (Canon.kingChange (Canon.branch h.update.withSpan.count
      h.update.withSpan))
  have hs5 : Canon s5 := Canon.branch (Canon.withSpan (Canon.cyclePegs (Canon.branch hs2.beginDrain hs2)))
      (Canon.cyclePegs (Canon.branch hs2.beginDrain hs2))
  have hs6 : Canon s6 := Canon.branch hs5.plan hs5
  have hs7 : Canon s7 := Canon.branch hs6.plan hs6
  exact Canon.branch hs7.sendTb hs7

theorem Canon.advanceCycle {s : State} (h : Canon s) {u} : Canon (s.advanceCycle u) := h.withSpan

theorem Canon.boundary {s : State} (h : Canon s) : Canon (s.boundary) := by
  unfold State.boundary
  refine Canon.branch h ?_
  extract_lets +onlyGivenNames -merge _ _
  split
  · exact h.advanceToU.leaveCycle
  · exact Canon.branch h.advanceToU.gatesBefore.beginCycle.gatesAfter
      h.advanceToU.gatesBefore.captureAt.advanceCycle.beginCycle

/-! #### Static slots and dynamic frames, R124 to R130 -/

theorem Canon.dropMisfits {s : State} (h : Canon s) {n k} : Canon (s.dropMisfits n k) := by
  induction k generalizing s with
  | zero => exact h
  | succ k ih =>
    unfold State.dropMisfits
    split
    · exact h
    · split
      · exact h
      · exact Canon.branch h (ih h.setSource_.copyOf.releaseSlot)

theorem Canon.slotLead {s : State} (h : Canon s) {slot} : Canon (s.slotLead slot) := by
  unfold State.slotLead
  extract_lets +onlyGivenNames -merge _
  refine Canon.branch h ?_
  extract_lets +onlyGivenNames -merge _ _ _ s1 head s2 ack _ _ s3
  have hs1 : Canon s1 := Canon.branch h.advanceToU.accept h.advanceToU.accept.dropMisfits
  have hs2 : Canon s2 := Canon.branch hs1.count hs1
  clear_value ack head
  have hs3 : Canon s3 := by
    unfold s3
    split
    · exact hs2.withSpan
    · exact hs2
  split
  · exact hs3.withClerk.plan
  · exact hs3.setSource_.plan
  · exact Canon.branch hs3.plan hs3

theorem Canon.slotEnds {s : State} (h : Canon s) {slot} : Canon (s.slotEnds slot) := by
  unfold State.slotEnds
  extract_lets +onlyGivenNames -merge _
  split
  · exact h
  · exact Canon.branch h (Canon.branch h.advanceToU.accept h.advanceToU.accept.count)

theorem Canon.dynDecide {s : State} (h : Canon s) {n} : Canon (s.dynDecide n) := by
  unfold State.dynDecide
  extract_lets +onlyGivenNames -merge _ _
  refine Canon.branch h ?_
  extract_lets
  split
  · exact h.dropMisfits
  · exact Canon.branch h.dropMisfits.count h.dropMisfits.accept.setSource_.plan

theorem Canon.miniEnds {s : State} (h : Canon s) :
    Canon (s.miniEnds) := Canon.branch h (Canon.branch h.advanceToU.withSpan h.advanceToU.withSpan.dynDecide)

/-! #### Carriage, R140, R144 and R585 -/

theorem Canon.carryPart {s : State} (h : Canon s) {c} : Canon (s.carryPart c) :=
  Canon.branch h (Canon.branch h.withSpan (Canon.branch h.withSpan.storeImage.noteMargins h.withSpan))

theorem Canon.carryCopy {s : State} (h : Canon s) {p hd c t run} (hrun : ∀ u, Canon u → Canon (run u)) :
    Canon (s.carryCopy p hd c t run) := by
  unfold State.carryCopy
  extract_lets +onlyGivenNames -merge _
  refine Canon.branch h (Canon.branch h.count ?_)
  extract_lets +onlyGivenNames -merge _ _ o owned
  have howned : ∀ u, Canon u → ∀ v, Canon (owned u v) := by
    clear_value o
    intro u hu v
    unfold owned
    split
    · exact hu.count
    · exact hu
  refine Canon.branch (howned _ h _) ?_
  extract_lets +onlyGivenNames -merge s1 s2
  have hs2 : Canon s2 := Canon.relayCopy (Canon.branch (howned _ h _) h)
  refine Canon.branch hs2 ?_
  extract_lets +onlyGivenNames -merge s3
  have hs3 : Canon s3 := Canon.branch hs2.accept hs2
  exact Canon.branch hs3.carryPart (Canon.branch (hrun _ hs3) hs3)

/-! #### Meanings -/

theorem Canon.execListenTimerExpire {s : State} (h : Canon s) : Result.Canon (execListenTimerExpire s) := h.listenEnds

theorem Canon.execCycleBoundary {s : State} (h : Canon s) : Result.Canon (execCycleBoundary s) := h.boundary

theorem Canon.execBellRx {s : State} (h : Canon s) {p h1 b t} :
    Result.Canon (execBellRx p h1 b t s) := h.spanRx (fun _ hu => hu.bellCopy)

theorem Canon.execBellMissing {s : State} (h : Canon s) : Result.Canon (execBellMissing s) := h.bellMissing

theorem Canon.execSlotReadyLead {s : State} (h : Canon s) {slot} :
    Result.Canon (execSlotReadyLead slot s) := h.slotLead

theorem Canon.execSpanLaunch {s : State} (h : Canon s) : Result.Canon (execSpanLaunch s) := h.spanLaunch

theorem Canon.execMinislotEnd {s : State} (h : Canon s) : Result.Canon (execMinislotEnd s) := h.miniEnds

theorem Canon.execSlotEnd {s : State} (h : Canon s) {slot} : Result.Canon (execSlotEnd slot s) := h.slotEnds

theorem Canon.execSlotCopyRx {s : State} (h : Canon s) {p h1 data t} :
    Result.Canon (execSlotCopyRx p h1 data t s) := h.spanRx (fun _ hu => hu.dataCopy)

theorem Canon.execDynCopyRx {s : State} (h : Canon s) {p h1 data t} :
    Result.Canon (execDynCopyRx p h1 data t s) := h.spanRx (fun _ hu => hu.dataCopy)

theorem Canon.execRelayLaunch {s : State} (h : Canon s) : Result.Canon (execRelayLaunch s) := h.relayLaunch

theorem Canon.execCarriedReplyRx {s : State} (h : Canon s) {owner data} :
    Result.Canon (execCarriedReplyRx owner data s) := h.carriedReply

end Sys2Proof.Machine
end

section
/-!
PROOFS. Every step keeps the canonical form: the functions of Machine/BentTake.lean.
-/

namespace Sys2Proof.Machine

/-! #### The mirrored ledger, R617 to R620 -/

theorem Canon.setRing {s : State} (h : Canon s) {q r} : Canon (s.setRing q r) := h.withBent

theorem Canon.markRcvy {s : State} (h : Canon s) {r seq} : Canon (s.markRcvy r seq) := by
  unfold State.markRcvy
  extract_lets +onlyGivenNames -merge _
  split
  · exact h
  · exact Canon.branch h h.setRcvy

theorem Canon.markAccount {s : State} (h : Canon s) {a seq} : Canon (s.markAccount a seq) := by
  unfold State.markAccount
  extract_lets
  split
  · exact h
  · exact Canon.branch h.setAccount (Canon.branch h h.setAccount)

theorem Canon.coverKept {s : State} (h : Canon s) {js} :
    Canon (s.coverKept js) := h.withBent.foldl (fun _ hu _ => hu.freeFrame.count)

theorem Canon.addJournal {s : State} (h : Canon s) {j} : Canon (s.addJournal j) := Canon.branch h h.withBent

theorem Canon.applyItem {s : State} (h : Canon s) {it} : Canon (s.applyItem it) := by
  unfold State.applyItem
  split
  · exact h.setRing
  · exact h.withBent
  · exact Canon.branch h h.takeEffect
  · exact h.setEntry
  · exact h.setRcvy
  · exact h.setAccount
  · exact h.addJournal

theorem Canon.applyEntry {s : State} (h : Canon s) {e} : Canon (s.applyEntry e) := by
  unfold State.applyEntry
  split
  · exact Canon.branch h.setRing.setEntry h.setRing
  · exact Canon.branch h.setRing.addJournal.markAccount h.setRing.addJournal.markRcvy
  · exact h.setRing.withBent.coverKept
  · exact h.applyItem

/-! #### The MSEQ stream, R615, R618, R627 and R648 -/

theorem Canon.joinStream {s : State} (h : Canon s) {n} : Canon (s.joinStream n) :=
  Canon.update (Canon.foldl (h.foldl (fun _ hu _ => hu.freeFrame)) (fun _ hu _ => hu.freeFrame.count))

theorem Canon.takeEntry {s : State} (h : Canon s) {n run} (hrun : ∀ u, Canon u → Canon (run u)) :
    Canon (s.takeEntry n run) := by
  unfold State.takeEntry
  extract_lets +onlyGivenNames -merge s
  have hs : Canon s := Canon.branch h.joinStream h
  refine Canon.branch hs ?_
  refine Canon.branch (Canon.withBent (hrun _ hs)) ?_
  split
  · exact hs.outOfSync
  · exact hs.copyFail
  · exact hs.withBent

theorem Canon.takeEntries {s : State} (h : Canon s) {n es} : Canon (s.takeEntries n es) := by
  induction es generalizing s n with
  | nil => exact h
  | cons e es ih => exact ih (Canon.branch (h.takeEntry fun _ hu => hu.applyEntry) h)

theorem Canon.sendAck {s : State} (h : Canon s) : Canon (s.sendAck) := Canon.branch h.sendTb h

theorem Canon.mirrorRx {s : State} (h : Canon s) {n es} :
    Canon (s.mirrorRx n es) := Canon.branch h.heard.takeEntries.sendAck h.heard

theorem Canon.noteCopy {s : State} (h : Canon s) {it} : Canon (s.noteCopy it) := h.fresh.withBent

theorem Canon.copyRx {s : State} (h : Canon s) {n items} : Canon (s.copyRx n items) := by
  have hfold : ∀ {r : State × Nat}, Canon r.1 → Canon (items.foldl (fun (r : State × Nat) it =>
      (if r.1.bent.role == .resync then r.1.takeEntry r.2 (fun s => (s.noteCopy it).applyItem it) else r.1, r.2 + 1))
          r).1 := by
    intro r hr
    induction items generalizing r with
    | nil => exact hr
    | cons it l ih => exact ih (Canon.branch (hr.takeEntry fun _ hu => hu.noteCopy.applyItem) hr)
  exact Canon.branch h.heard (Canon.sendAck (hfold h.heard))

theorem Canon.syncDoneRx {s : State} (h : Canon s) {n} : Canon (s.syncDoneRx n) := by
  unfold State.syncDoneRx
  extract_lets +onlyGivenNames -merge _
  refine Canon.branch h.heard ?_
  extract_lets +onlyGivenNames -merge s1
  have hs1 : Canon s1 := Canon.branch h.heard h.heard.joinStream
  exact Canon.branch hs1.copyFail hs1.withBent.count.startHoldOff

/-! #### Sending a copy, R645 to R647 -/

theorem Canon.sendCopy {s : State} (h : Canon s) {it} : Canon (s.sendCopy it) := h.withBent.sendTb

theorem Canon.pumpCopy {s : State} (h : Canon s) {n} : Canon (s.pumpCopy n) := by
  induction n generalizing s with
  | zero => exact h
  | succ n ih =>
    unfold State.pumpCopy
    refine Canon.branch h ?_
    split
    · exact h.withBent.sendTb
    · exact ih (h.withBent.foldl fun _ hu _ => hu.sendCopy)

theorem Canon.resyncStart {s : State} (h : Canon s) : Canon (s.resyncStart) := Canon.branch h h.withBent.pumpCopy

theorem Canon.creditReturn {s : State} (h : Canon s) {lane n} :
    Canon (s.creditReturn lane n) := h.modLane.pumpWaiting.pumpCopy

/-! #### Taking control, R636 step 1, R96, R97, R147 and R151 -/

theorem Canon.timeTake {s : State} (h : Canon s) :
    Canon (s.timeTake) := Canon.branch h.withTime.reselect h.withTime.freeAdj.withTime.reselect

theorem Canon.spanTake {s : State} (h : Canon s) : Canon (s.spanTake) := by
  unfold State.spanTake
  refine Canon.branch h ?_
  extract_lets +onlyGivenNames -merge _ s
  have hs : Canon s := by
    unfold s
    split
    · exact h.withSpan.count
    · exact h
  exact hs.withSpan

theorem Canon.takeControl {s : State} (h : Canon s) {k} :
    Canon (s.takeControl k) := h.withBent.count.sendMsix.raise.timeTake.spanTake.assignRoles

theorem Canon.takeover {s : State} (h : Canon s) {settle upTo} :
    Canon (s.takeover settle upTo) := h.takeControl.withBent.madeActive

/-! #### The windows, R626 and R636 steps 3 to 9 -/

theorem Canon.installRing {s : State} (h : Canon s) {q r} : Canon (s.installRing q r) := by
  unfold State.installRing
  split
  · exact h.modQueue
  · exact h

theorem Canon.installBook {s : State} (h : Canon s) {it} : Canon (s.installBook it) := by
  unfold State.installBook
  split
  · exact Canon.branch h.modBook.withBent h.modBook
  · exact h

theorem Canon.undoRcvy {s : State} (h : Canon s) {j} : Canon (s.undoRcvy j) := by
  unfold State.undoRcvy
  extract_lets +onlyGivenNames -merge _
  split
  · exact h
  · exact Canon.branch h.setRcvy h

theorem Canon.undoAccount {s : State} (h : Canon s) {a seqs} :
    Canon (s.undoAccount a seqs) := Canon.branch h h.setAccount

theorem Canon.undoOne {s : State} (h : Canon s) {j} :
    Canon (s.undoOne j) := Canon.branch h.count (Canon.branch h.count h.count.undoRcvy)

theorem Canon.undoDeliveries {s : State} (h : Canon s) : Canon (s.undoDeliveries) :=
  Canon.foldl (Canon.foldl (h.foldl (fun _ hu _ => hu.undoOne)) (fun _ hu _ => hu.undoAccount)) (fun _ hu _ =>
    hu.modQueue)

theorem Canon.offerKept {s : State} (h : Canon s) {k} : Canon (s.offerKept k) := by
  unfold State.offerKept
  split
  · exact h
  · extract_lets +onlyGivenNames -merge _ _ r
    have hr : Canon r.2 := Canon.branchSnd h.modFrame.setAccount.accountPacket h.modFrame.recover
    split
    · exact hr.modFrame.release.count
    · exact hr.freeFrame
    · exact hr

theorem Canon.offerAll {s : State} (h : Canon s) : Canon (s.offerAll) := h.withBent.foldl (fun _ hu _ => hu.offerKept)

theorem Canon.runLedger {s : State} (h : Canon s) : Canon (s.runLedger) :=
  Canon.withBent (Canon.foldl (Canon.withBent (Canon.offerAll (Canon.undoDeliveries (Canon.foldl (h.foldl (fun _ hu _
    => hu.installRing)) (fun _ hu _ => hu.writeShadow))))) (fun _ hu _ => hu.installBook))

theorem Canon.windowRead {s : State} (h : Canon s) : Canon (s.windowRead) := by
  unfold State.windowRead
  split
  · exact Canon.branch h h.runLedger
  · exact h

theorem Canon.settleEnds {s : State} (h : Canon s) : Canon (s.settleEnds) := by
  unfold State.settleEnds
  split
  · exact h.advanceTo.withBent
  · exact h

/-! #### The partner gives up control -/

theorem Canon.resignRx {s : State} (h : Canon s) {n flushed} : Canon (s.resignRx n flushed) := by
  unfold State.resignRx
  extract_lets
  split
  · exact Canon.branch h.heard.withBent (Canon.branch h.heard.withBent.takeover h.heard.withBent.becomeOrphan)
  · exact h.heard.withBent.becomeOrphan
  · exact h.heard.withBent

theorem Canon.partnerLow {s : State} (h : Canon s) : Canon (s.partnerLow) := by
  unfold State.partnerLow
  extract_lets
  split
  · exact Canon.branch h.withBent.wakeEvent (Canon.branch h.withBent.takeover h.withBent.becomeOrphan)
  · exact h.withBent.becomeOrphan
  · exact h.withBent.formCheck
  · exact h.withBent

theorem Canon.partnerHigh {s : State} (h : Canon s) : Canon (s.partnerHigh) := by
  unfold State.partnerHigh
  extract_lets +onlyGivenNames -merge _ _
  split
  · exact Canon.branch h.withBent.count.raise h.withBent.count.raise.withBent.kingDown.maintCheck
  · exact h.withBent.formCheck
  · exact h.withBent.enterResync
  · exact h.withBent

/-! #### Handover, R643 -/

theorem Canon.keepHeld {s : State} (h : Canon s) : Canon (s.keepHeld) := h.foldl (fun _ hu _ => by
    extract_lets +onlyGivenNames -merge s
    have hs : Canon s := hu.foldl (fun _ hv _ => hv.keep)
    exact Canon.branch hs hs.setAccount)

theorem Canon.handOver {s : State} (h : Canon s) :
    Canon (s.handOver) := h.sendTb.dropRings.keepHeld.count.kingDown.withBent.reselect.finishKind

theorem Canon.handoverDrained {s : State} (h : Canon s) : Canon (s.handoverDrained) := by
  unfold State.handoverDrained
  extract_lets
  split
  · exact Canon.branch h.startPlanned.handOver h.startPlanned
  · exact h.startPlanned

theorem Canon.handoverRx {s : State} (h : Canon s) {n} : Canon (s.handoverRx n) :=
  Canon.branch h.heard (Canon.branch h.heard.outOfSync h.heard.takeControl.withBent.runLedger.madeActive)

/-! #### Meanings: events -/

theorem Canon.execMirrorRx {s : State} (h : Canon s) {bad n es} :
    Result.Canon (execMirrorRx bad n es s) := Canon.branch h.badPacket h.mirrorRx

theorem Canon.execCopyRx {s : State} (h : Canon s) {bad n items} :
    Result.Canon (execCopyRx bad n items s) := Canon.branch h.badPacket h.copyRx

theorem Canon.execSyncDoneRx {s : State} (h : Canon s) {n} : Result.Canon (execSyncDoneRx n s) := h.syncDoneRx

theorem Canon.execResyncStart {s : State} (h : Canon s) : Result.Canon (execResyncStart s) := h.resyncStart

theorem Canon.execTbCreditReturn {s : State} (h : Canon s) {lane n} :
    Result.Canon (execTbCreditReturn lane n s) := Canon.branch h h.creditReturn

theorem Canon.execResignRx {s : State} (h : Canon s) {n flushed _fatal} :
    Result.Canon (execResignRx n flushed _fatal s) := h.resignRx

theorem Canon.execPartnerHeldLow {s : State} (h : Canon s) : Result.Canon (execPartnerHeldLow s) := h.partnerLow

theorem Canon.execPartnerHeldHigh {s : State} (h : Canon s) : Result.Canon (execPartnerHeldHigh s) := h.partnerHigh

theorem Canon.execTakeoverSettleExpire {s : State} (h : Canon s) :
    Result.Canon (execTakeoverSettleExpire s) := h.settleEnds

theorem Canon.execTakeoverWindowRead {s : State} (h : Canon s) :
    Result.Canon (execTakeoverWindowRead s) := h.windowRead

theorem Canon.execHandoverDrained {s : State} (h : Canon s) :
    Result.Canon (execHandoverDrained s) := h.handoverDrained

theorem Canon.execHandoverRx {s : State} (h : Canon s) {n} : Result.Canon (execHandoverRx n s) := h.handoverRx

theorem Canon.execSpanStateRx {s : State} (h : Canon s) {cycle start pattern ann} :
    Result.Canon (execSpanStateRx cycle start pattern ann s) := Canon.branch h.heard h.heard.withSpan

/-! #### Meanings: commands -/

theorem Canon.execLedgerWrite {s : State} (h : Canon s) {c} : Result.Canon (execLedgerWrite c s) := by
  unfold Machine.execLedgerWrite
  refine h.runStep (fun u hu => ?_)
  extract_lets +onlyGivenNames -merge _ _ t
  have ht : Canon t := hu.foldl (fun _ hv _ => hv.applyItem)
  clear_value t
  generalize ledgerRange c = inRange
  exact Canon.branchEff hu (Canon.branchEff hu ht.withBent)

theorem Canon.takeAnyLeft {s : State} (h : Canon s) : Canon (s.takeAnyLeft) := by
  unfold State.takeAnyLeft
  extract_lets +onlyGivenNames -merge _ s
  have hs : Canon s := Canon.branch h h.withStream
  exact Canon.branch hs hs.withStream

theorem Canon.execBentAssume {s : State} (h : Canon s) {c} : Result.Canon (execBentAssume c s) :=
  h.runStep (fun _ hu => Canon.branchEff hu (Canon.branchEff hu (Canon.branchEff hu hu.takeAnyLeft.takeover)))

end Sys2Proof.Machine
end

section
/-!
PROOFS. Every step keeps the canonical form: the functions of Machine/Runs.lean.
-/

namespace Sys2Proof.Machine

/-! #### Commands that reach the clerk by another way than a command queue -/

/-- Every command of the list keeps the canonical form. -/
def KeepsCanon (l : List (Nat × (Cmd → State → Result))) : Prop :=
  ∀ e ∈ l, ∀ c s, Canon s → Result.Canon (e.2 c s)

theorem KeepsCanon.nil : KeepsCanon [] := fun _ he => nomatch he

theorem KeepsCanon.cons {n f l} (h : ∀ {c s}, Canon s → Result.Canon (f c s)) (g : KeepsCanon l) :
    KeepsCanon ((n, f) :: l) :=
  List.forall_mem_cons.2 ⟨fun _ _ => h, g⟩

theorem KeepsCanon.append {k l} (h : KeepsCanon k) (g : KeepsCanon l) : KeepsCanon (k ++ l) :=
  List.forall_mem_append.2 ⟨h, g⟩

theorem Canon.runs00 : KeepsCanon runs00 := by
  unfold Machine.runs00
  exact .cons (·.execNop) <| .cons (·.execIdentify) <| .cons (·.execFence) <| .cons (·.execEcho) <|
    .cons (·.execRegRead) <| .cons (·.execRegWrite) <| .nil

theorem Canon.runs01 : KeepsCanon runs01 := by
  unfold Machine.runs01
  exact .cons (·.execBenchOpen) <| .cons (·.execBenchDryFit) <| .cons (·.execBenchPeg) <|
    .cons (·.execBenchDiscard) <| .cons (·.execBenchStatus) <| .nil

theorem Canon.runs02 : KeepsCanon runs02 := by
  unfold Machine.runs02
  exact .cons (·.execTimeGet) <| .cons (·.execTimeSet) <| .cons (·.execTimeAccept) <| .cons (·.execTimeSlew) <|
    .cons (·.execTimePortRead) <| .cons (·.execSetTimeRef) <| .cons (·.execSetDpll) <| .cons (·.execSetPtpInstance) <|
    .cons (·.execSetPtpPort) <| .cons (·.execSetPortLatency) <| .cons (·.execSetSynce) <| .cons (·.execSetTimeIo) <|
    .cons (·.execSetTsDaybook) <| .nil

theorem Canon.runs03 : KeepsCanon runs03 := by
  unfold Machine.runs03
  exact .cons (·.execSpanStatus) <| .cons (·.execSpanJoin) <| .cons (·.execSpanLeave) <|
    .cons (·.execPatternChange) <| .cons (·.execSpanOwnerRead) <| .cons (·.execSetSpanLocal) <|
    .cons (·.execSetSpanPort) <| .cons (·.execSetPatternSet) <| .cons (·.execSetSlotSource) <| .nil

theorem Canon.runs04 : KeepsCanon runs04 := by
  unfold Machine.runs04
  exact .cons (·.execPortStatus) <| .cons (·.execLinkRestart) <| .cons (·.execMacsecScRead) <|
    .cons (·.execThreshReset) <| .cons (·.execMacMergeStatus) <| .cons (·.execMacMergePartner) <|
    .cons (·.execVerifyRestart) <| .cons (·.execSetPortMode) <| .cons (·.execSetPortFrame) <|
    .cons (·.execSetFlowControl) <| .cons (·.execSetEee) <| .cons (·.execSetPortWake) <|
    .cons (·.execSetMacsecPort) <| .cons (·.execSetMacsecSc) <| .cons (·.execSetMacsecSa) <|
    .cons (·.execSetMacMerge) <| .nil

theorem Canon.runs05 : KeepsCanon runs05 := by
  unfold Machine.runs05
  exact .cons (·.execGateStatus) <| .cons (·.execGateListRead) <| .cons (·.execSetCuttingList) <|
    .cons (·.execSetGatePort) <| .nil

theorem Canon.runs06 : KeepsCanon runs06 := by
  unfold Machine.runs06
  exact .cons (·.execQsvStatus) <| .cons (·.execFlowRead) <| .cons (·.execFilterRead) <| .cons (·.execMeterRead) <|
    .cons (·.execFilterUnblock) <| .cons (·.execMeterUnmark) <| .cons (·.execSetQsvPort) <|
    .cons (·.execSetClassService) <| .cons (·.execSetFlow) <| .cons (·.execSetStreamFilter) <|
    .cons (·.execSetFlowMeter) <| .nil

theorem Canon.runs07 : KeepsCanon runs07 := by
  unfold Machine.runs07
  exact .cons (·.execStreamStatus) <| .cons (·.execStreamRead) <| .cons (·.execStreamFind) <|
    .cons (·.execRcvyRead) <| .cons (·.execAccountRead) <| .cons (·.execSeqReset) <| .cons (·.execStreamForget) <|
    .cons (·.execSetStreams) <| .cons (·.execSetRecovery) <| .cons (·.execSetAccounts) <| .cons (·.execSetMaskRule) <|
    .cons (·.execSetLearnRule) <| .cons (·.execSetStreamGlobal) <| .nil

theorem Canon.runs08 : KeepsCanon runs08 := by
  unfold Machine.runs08
  exact .cons (·.execJoineryStatus) <| .cons (·.execMicrocodeRead) <| .cons (·.execHookTableRead) <|
    .cons (·.execSetMicrocode) <| .cons (·.execSetHook) <| .cons (·.execSetClassRules) <|
    .cons (·.execSetSteerEntries) <| .cons (·.execSetHookTable) <| .nil

theorem Canon.runs09 : KeepsCanon runs09 := by
  unfold Machine.runs09
  exact .cons (·.execWqStatus) <| .cons (·.execWqEnable) <| .cons (·.execWqDisable) <| .cons (·.execBookStatus) <|
    .cons (·.execBookEnable) <| .cons (·.execBookDisable) <| .cons (·.execSetWqService) <| .nil

theorem Canon.runs0A : KeepsCanon runs0A := by
  unfold Machine.runs0A
  exact .cons (·.execDrayStatus) <| .cons (·.execDrayStart) <| .cons (·.execDrayStop) <| .cons (·.execDrayAbort) <|
    .cons (·.execSetDrayChannel) <| .nil

theorem Canon.runs0B : KeepsCanon runs0B := by
  unfold Machine.runs0B
  exact .cons (·.execBentStatus) <| .cons (·.execBentSwitch) <| .cons (·.execBentResign) <|
    .cons (·.execBentResync) <| .cons (·.execLedgerRead) <| .cons (·.execLedgerWrite) <| .cons (·.execBentAssume) <|
    .cons (·.execSetBent) <| .nil

theorem Canon.runs0C : KeepsCanon runs0C := by
  unfold Machine.runs0C
  exact .cons (·.execAsyStatus) <| .cons (·.execAsyParam) <| .cons (·.execAsyKey) <| .cons (·.execAsyFirmware) <|
    .cons (·.execAsySnapshot) <| .cons (·.execAsyLegalTime) <| .cons (·.execAsyLogRoll) <| .cons (·.execAsyRead) <|
    .nil

theorem Canon.runs0D : KeepsCanon runs0D := by
  unfold Machine.runs0D
  exact .cons (·.execFaultStatus) <| .cons (·.execFaultClear) <| .cons (·.execFaultInject) <|
    .cons (·.execSetFaultKind) <| .cons (·.execSetFaultGlobal) <| .nil

theorem Canon.runs0E : KeepsCanon runs0E := by
  unfold Machine.runs0E
  exact .cons (·.execPowerStatus) <| .cons (·.execPowerRequest) <| .cons (·.execSetPower) <| .nil

theorem Canon.runs0F : KeepsCanon runs0F := by
  unfold Machine.runs0F
  exact .cons (·.execStocktake) <| .cons (·.execStocktakeStatus) <| .cons (·.execStocktakeRelease) <|
    .cons (·.execStocktakeCancel) <| .nil

theorem Canon.runs7F : KeepsCanon runs7F := by
  unfold Machine.runs7F
  exact .cons (·.execMaintEnter) <| .cons (·.execSelftest) <| .cons (·.execMemBist) <| .cons (·.execEyeScan) <|
    .cons (·.execSetSelftest) <| .nil

theorem Canon.opRuns : KeepsCanon opRuns := by
  unfold Machine.opRuns
  exact Canon.runs00 |>.append Canon.runs01 |>.append Canon.runs02 |>.append Canon.runs03 |>.append Canon.runs04
      |>.append Canon.runs05 |>.append Canon.runs06 |>.append Canon.runs07 |>.append Canon.runs08
      |>.append Canon.runs09 |>.append Canon.runs0A |>.append Canon.runs0B |>.append Canon.runs0C
      |>.append Canon.runs0D |>.append Canon.runs0E |>.append Canon.runs0F |>.append Canon.runs7F

theorem Canon.runOpcode {s : State} (h : Canon s) {code c} :
    Result.Canon (runOpcode code c s) := by
  unfold Machine.runOpcode
  split
  · next e he => exact Canon.opRuns e (List.mem_of_find?_eq_some he) c s h
  · exact h.runStep (fun _ hu => hu)

theorem Canon.goOn {s : State} (h : Canon s) {r} (hr : r.Canon) : Canon (goOn s r) := by
  unfold Machine.goOn
  split
  · exact hr
  · exact h

theorem Canon.runCarried {s : State} (h : Canon s) {king c} : Canon (s.runCarried king c) := by
  unfold State.runCarried
  split
  · exact h
  · exact Canon.branch h (h.withClerk.count.goOn h.withClerk.count.runOpcode)

theorem Canon.execCarriedCommandRx {s : State} (h : Canon s) {king c} :
    Result.Canon (execCarriedCommandRx king c s) := h.runCarried

theorem Canon.execCarryRx {s : State} (h : Canon s) {p h1 c t} :
    Result.Canon (execCarryRx p h1 c t s) := h.spanRx (fun _ hu => hu.carryCopy (fun _ hv => hv.runCarried))

theorem Canon.execPartnerCommandRx {s : State} (h : Canon s) {ref opcode c} :
    Result.Canon (execPartnerCommandRx ref opcode c s) := by
  unfold Machine.execPartnerCommandRx
  extract_lets
  split
  · exact h.heard
  · exact h.heard.runOpcode

end Sys2Proof.Machine
end

section
/-!
PROOFS. Every step keeps the canonical form: the functions of Machine/Dispatch.lean.
-/

namespace Sys2Proof.Machine

/-! #### One arm per constructor of Instr -/

theorem Canon.exec {s : State} (h : Canon s) {i : Instr} : Result.Canon (exec i s) := by
  cases i with
  | nop _ => exact h.execNop
  | identify _ => exact h.execIdentify
  | fence _ => exact h.execFence
  | echo _ => exact h.execEcho
  | regRead _ => exact h.execRegRead
  | regWrite _ => exact h.execRegWrite
  | benchOpen _ => exact h.execBenchOpen
  | benchDryFit _ => exact h.execBenchDryFit
  | benchPeg _ => exact h.execBenchPeg
  | benchDiscard _ => exact h.execBenchDiscard
  | benchStatus _ => exact h.execBenchStatus
  | benchStaged _ => exact h.execBenchStaged
  | benchPegInstant _ => exact h.execBenchPegInstant
  | commandTake => exact h.execCommandTake
  | carriedCommandRx _ _ => exact h.execCarriedCommandRx
  | carriedReplyRx _ _ => exact h.execCarriedReplyRx
  | partnerCommandRx _ _ _ => exact h.execPartnerCommandRx
  | partnerReplyRx _ _ _ _ _ => exact h.execPartnerReplyRx
  | partnerReplyTimeout => exact h.execPartnerReplyTimeout
  | timeGet _ => exact h.execTimeGet
  | timeSet _ => exact h.execTimeSet
  | timeAccept _ => exact h.execTimeAccept
  | timeSlew _ => exact h.execTimeSlew
  | timePortRead _ => exact h.execTimePortRead
  | timeSetPpsTimeout => exact h.execTimeSetPpsTimeout
  | setTimeRef _ => exact h.execSetTimeRef
  | setDpll _ => exact h.execSetDpll
  | setPtpInstance _ => exact h.execSetPtpInstance
  | setPtpPort _ => exact h.execSetPtpPort
  | setPortLatency _ => exact h.execSetPortLatency
  | setSynce _ => exact h.execSetSynce
  | setTimeIo _ => exact h.execSetTimeIo
  | setTsDaybook _ => exact h.execSetTsDaybook
  | slewDone => exact h.execSlewDone
  | timeBusLoad => exact h.execTimeBusLoad
  | timeBusRecal => exact h.execTimeBusRecal
  | dpllUpdate _ => exact h.execDpllUpdate
  | refQualified _ _ => exact h.execRefQualified
  | refDisqualified _ _ => exact h.execRefDisqualified
  | holdoverLimitExpire => exact h.execHoldoverLimitExpire
  | ppsInEdge => exact h.execPpsInEdge
  | todMessageRx _ _ => exact h.execTodMessageRx
  | secondBoundary => exact h.execSecondBoundary
  | syncTx _ => exact h.execSyncTx
  | announceTx _ => exact h.execAnnounceTx
  | syncRx _ _ _ _ _ => exact h.execSyncRx
  | announceRx _ _ _ => exact h.execAnnounceRx
  | pdelayReqTx _ => exact h.execPdelayReqTx
  | pdelayReqRx _ _ _ => exact h.execPdelayReqRx
  | pdelayRespRx _ _ _ _ => exact h.execPdelayRespRx
  | pdelayLost _ => exact h.execPdelayLost
  | syncTimeout _ => exact h.execSyncTimeout
  | phaseReportTx _ => exact h.execPhaseReportTx
  | phaseReportRx _ _ _ => exact h.execPhaseReportRx
  | esmcRx _ _ => exact h.execEsmcRx
  | esmcTx _ => exact h.execEsmcTx
  | spanStatus _ => exact h.execSpanStatus
  | spanJoin _ => exact h.execSpanJoin
  | spanLeave _ => exact h.execSpanLeave
  | patternChange _ => exact h.execPatternChange
  | spanOwnerRead _ => exact h.execSpanOwnerRead
  | setSpanLocal _ => exact h.execSetSpanLocal
  | setSpanPort _ => exact h.execSetSpanPort
  | setPatternSet _ => exact h.execSetPatternSet
  | setSlotSource _ => exact h.execSetSlotSource
  | listenTimerExpire => exact h.execListenTimerExpire
  | cycleBoundary => exact h.execCycleBoundary
  | bellRx _ _ _ _ => exact h.execBellRx
  | bellMissing => exact h.execBellMissing
  | slotReadyLead _ => exact h.execSlotReadyLead
  | spanLaunch => exact h.execSpanLaunch
  | minislotEnd => exact h.execMinislotEnd
  | slotEnd _ => exact h.execSlotEnd
  | slotCopyRx _ _ _ _ => exact h.execSlotCopyRx
  | dynCopyRx _ _ _ _ => exact h.execDynCopyRx
  | carryRx _ _ _ _ => exact h.execCarryRx
  | relayLaunch => exact h.execRelayLaunch
  | gateEntryChange _ => exact h.execGateEntryChange
  | gateStatus _ => exact h.execGateStatus
  | gateListRead _ => exact h.execGateListRead
  | setCuttingList _ => exact h.execSetCuttingList
  | setGatePort _ => exact h.execSetGatePort
  | wireFree _ => exact h.execWireFree
  | fragmentEnd _ => exact h.execFragmentEnd
  | frameTxEnd _ => exact h.execFrameTxEnd
  | cbsCreditEligible _ _ => exact h.execCbsCreditEligible
  | shaperEligible _ _ _ => exact h.execShaperEligible
  | enqueueComplete _ => exact h.execEnqueueComplete
  | flowAgeExpire _ _ => exact h.execFlowAgeExpire
  | qsvStatus _ => exact h.execQsvStatus
  | flowRead _ => exact h.execFlowRead
  | filterRead _ => exact h.execFilterRead
  | meterRead _ => exact h.execMeterRead
  | filterUnblock _ => exact h.execFilterUnblock
  | meterUnmark _ => exact h.execMeterUnmark
  | setQsvPort _ => exact h.execSetQsvPort
  | setClassService _ => exact h.execSetClassService
  | setFlow _ => exact h.execSetFlow
  | setStreamFilter _ => exact h.execSetStreamFilter
  | setFlowMeter _ => exact h.execSetFlowMeter
  | pauseRx _ _ _ t => exact h.execPauseRx (_t := t)
  | pauseTimerExpire _ _ => exact h.execPauseTimerExpire
  | pauseRefresh _ _ => exact h.execPauseRefresh
  | macMergeStatus _ => exact h.execMacMergeStatus
  | macMergePartner _ => exact h.execMacMergePartner
  | verifyRestart _ => exact h.execVerifyRestart
  | setMacMerge _ => exact h.execSetMacMerge
  | verifySend _ => exact h.execVerifySend
  | verifyTimeout _ => exact h.execVerifyTimeout
  | verifyMpacketRx _ _ => exact h.execVerifyMpacketRx
  | respondMpacketRx _ _ => exact h.execRespondMpacketRx
  | fragmentRx _ _ _ _ _ _ => exact h.execFragmentRx
  | lldpTx _ => exact h.execLldpTx
  | lldpduRx _ _ _ => exact h.execLldpduRx
  | partnerValuesExpire _ => exact h.execPartnerValuesExpire
  | operationModeChange _ => exact h.execOperationModeChange
  | portStatus _ => exact h.execPortStatus
  | linkRestart _ => exact h.execLinkRestart
  | macsecScRead _ => exact h.execMacsecScRead
  | threshReset _ => exact h.execThreshReset
  | setPortMode _ => exact h.execSetPortMode
  | setPortFrame _ => exact h.execSetPortFrame
  | setFlowControl _ => exact h.execSetFlowControl
  | setEee _ => exact h.execSetEee
  | setPortWake _ => exact h.execSetPortWake
  | setMacsecPort _ => exact h.execSetMacsecPort
  | setMacsecSc _ => exact h.execSetMacsecSc
  | setMacsecSa _ => exact h.execSetMacsecSa
  | pcsLinkUp _ => exact h.execPcsLinkUp
  | pcsLinkDown _ _ _ => exact h.execPcsLinkDown
  | linkDebounceExpire _ => exact h.execLinkDebounceExpire
  | linkDownDiscard _ => exact h.execLinkDownDiscard
  | frameRx _ _ _ _ _ => exact h.execFrameRx
  | tsRecordWrite _ => exact h.execTsRecordWrite
  | txUnderrun _ => exact h.execTxUnderrun
  | underrunDecay _ _ => exact h.execUnderrunDecay
  | lpiEnter _ => exact h.execLpiEnter
  | knockRx _ _ _ t => exact h.execKnockRx (_t := t)
  | stocktake _ => exact h.execStocktake
  | stocktakeStatus _ => exact h.execStocktakeStatus
  | stocktakeRelease _ => exact h.execStocktakeRelease
  | stocktakeCancel _ => exact h.execStocktakeCancel
  | stocktakeCopyDone _ => exact h.execStocktakeCopyDone
  | frameDispatch _ => exact h.execFrameDispatch
  | frameDataArrival _ _ => exact h.execFrameDataArrival
  | lookupAnswer _ => exact h.execLookupAnswer
  | streamEngineFrame _ _ => exact h.execStreamEngineFrame
  | cacheFetchDone _ => exact h.execCacheFetchDone
  | learnAgeExpire _ => exact h.execLearnAgeExpire
  | rcvyResetTimeout _ => exact h.execRcvyResetTimeout
  | latentErrorTest _ _ => exact h.execLatentErrorTest
  | accountHoldExpire _ => exact h.execAccountHoldExpire
  | accountResetTimeout _ => exact h.execAccountResetTimeout
  | streamStatus _ => exact h.execStreamStatus
  | streamRead _ => exact h.execStreamRead
  | streamFind _ => exact h.execStreamFind
  | rcvyRead _ => exact h.execRcvyRead
  | accountRead _ => exact h.execAccountRead
  | seqReset _ => exact h.execSeqReset
  | streamForget _ => exact h.execStreamForget
  | setStreams _ => exact h.execSetStreams
  | setRecovery _ => exact h.execSetRecovery
  | setAccounts _ => exact h.execSetAccounts
  | setMaskRule _ => exact h.execSetMaskRule
  | setLearnRule _ => exact h.execSetLearnRule
  | setStreamGlobal _ => exact h.execSetStreamGlobal
  | threadTimeout _ => exact h.execThreadTimeout
  | csScrub _ _ _ => exact h.execCsScrub
  | csRewrite _ => exact h.execCsRewrite
  | rotationFence => exact h.execRotationFence
  | rotationTestEnd _ => exact h.execRotationTestEnd
  | clusterGate _ => exact h.execClusterGate
  | joineryStatus _ => exact h.execJoineryStatus
  | microcodeRead _ => exact h.execMicrocodeRead
  | hookTableRead _ => exact h.execHookTableRead
  | setMicrocode _ => exact h.execSetMicrocode
  | setHook _ => exact h.execSetHook
  | setClassRules _ => exact h.execSetClassRules
  | setSteerEntries _ => exact h.execSetSteerEntries
  | setHookTable _ => exact h.execSetHookTable
  | spillStart => exact h.execSpillStart
  | spillReturn _ _ => exact h.execSpillReturn
  | windowHandoff => exact h.execWindowHandoff
  | wqDoorbell _ _ _ => exact h.execWqDoorbell
  | wqInvalidate _ _ _ => exact h.execWqInvalidate
  | bookDoorbell _ _ _ => exact h.execBookDoorbell
  | cqCfgWrite _ _ _ _ => exact h.execCqCfgWrite
  | entryFetched _ _ => exact h.execEntryFetched
  | arbiterRound => exact h.execArbiterRound
  | shadowWrite _ => exact h.execShadowWrite
  | wqStopped _ => exact h.execWqStopped
  | rxDelivery _ => exact h.execRxDelivery
  | wqFenceDone _ => exact h.execWqFenceDone
  | daybookRecord _ => exact h.execDaybookRecord
  | daybookOverflow _ => exact h.execDaybookOverflow
  | daybookIrq _ => exact h.execDaybookIrq
  | wqStatus _ => exact h.execWqStatus
  | wqEnable _ => exact h.execWqEnable
  | wqDisable _ => exact h.execWqDisable
  | bookStatus _ => exact h.execBookStatus
  | bookEnable _ => exact h.execBookEnable
  | bookDisable _ => exact h.execBookDisable
  | setWqService _ => exact h.execSetWqService
  | fetchFrameMove _ _ _ => exact h.execFetchFrameMove
  | dryChannelDoorbell _ _ _ => exact h.execDryChannelDoorbell
  | descFetched _ _ _ _ => exact h.execDescFetched
  | descFinished _ _ => exact h.execDescFinished
  | descMoveError _ _ _ _ _ => exact h.execDescMoveError
  | descFenceDone _ _ _ _ => exact h.execDescFenceDone
  | lateError _ _ _ _ => exact h.execLateError
  | chainStopped _ _ => exact h.execChainStopped
  | pacingHi _ _ => exact h.execPacingHi
  | pacingFlush _ _ => exact h.execPacingFlush
  | drayStatus _ => exact h.execDrayStatus
  | drayStart _ => exact h.execDrayStart
  | drayStop _ => exact h.execDrayStop
  | drayAbort _ => exact h.execDrayAbort
  | setDrayChannel _ => exact h.execSetDrayChannel
  | bentStatus _ => exact h.execBentStatus
  | bentSwitch _ => exact h.execBentSwitch
  | bentResign _ => exact h.execBentResign
  | bentResync _ => exact h.execBentResync
  | ledgerRead _ => exact h.execLedgerRead
  | ledgerWrite _ => exact h.execLedgerWrite
  | bentAssume _ => exact h.execBentAssume
  | setBent _ => exact h.execSetBent
  | formWaitExpire => exact h.execFormWaitExpire
  | heartbeatTx => exact h.execHeartbeatTx
  | heartbeatRx _ _ _ _ => exact h.execHeartbeatRx
  | heartbeatLoss => exact h.execHeartbeatLoss
  | mirrorRx _ _ _ => exact h.execMirrorRx
  | ackRx _ => exact h.execAckRx
  | ackOverdue => exact h.execAckOverdue
  | tbCreditReturn _ _ => exact h.execTbCreditReturn
  | tbLaneDown _ => exact h.execTbLaneDown
  | resignFlushDone _ => exact h.execResignFlushDone
  | resignRx _ _ e => exact h.execResignRx (_fatal := e)
  | partnerHeldLow => exact h.execPartnerHeldLow
  | partnerHeldHigh => exact h.execPartnerHeldHigh
  | takeoverSettleExpire => exact h.execTakeoverSettleExpire
  | takeoverWindowRead => exact h.execTakeoverWindowRead
  | shadowKeepExpire => exact h.execShadowKeepExpire
  | holdOffExpire => exact h.execHoldOffExpire
  | reclaimRx => exact h.execReclaimRx
  | handoverDrained => exact h.execHandoverDrained
  | handoverAbandon => exact h.execHandoverAbandon
  | handoverRx _ => exact h.execHandoverRx
  | resyncStart => exact h.execResyncStart
  | copyRx _ _ _ => exact h.execCopyRx
  | syncDoneRx _ => exact h.execSyncDoneRx
  | copyFail _ => exact h.execCopyFail
  | resyncRetry => exact h.execResyncRetry
  | spanStateRx _ _ _ _ => exact h.execSpanStateRx
  | asyStatus _ => exact h.execAsyStatus
  | asyParam _ => exact h.execAsyParam
  | asyKey _ => exact h.execAsyKey
  | asyFirmware _ => exact h.execAsyFirmware
  | asySnapshot _ => exact h.execAsySnapshot
  | asyLegalTime _ => exact h.execAsyLegalTime
  | asyLogRoll _ => exact h.execAsyLogRoll
  | asyRead _ => exact h.execAsyRead
  | asyResultTimeout => exact h.execAsyResultTimeout
  | telegramRecord => exact h.execTelegramRecord
  | paramRecord => exact h.execParamRecord
  | keyRecord => exact h.execKeyRecord
  | fwChunkRecord => exact h.execFwChunkRecord
  | snapshotFetchRecord => exact h.execSnapshotFetchRecord
  | legalTimeSetRecord => exact h.execLegalTimeSetRecord
  | logRollRecord => exact h.execLogRollRecord
  | timeSample => exact h.execTimeSample
  | powerPeriodClose => exact h.execPowerPeriodClose
  | billingSnapshot _ => exact h.execBillingSnapshot
  | checkpointRotation => exact h.execCheckpointRotation
  | sealChange _ => exact h.execSealChange
  | statusPageRewrite => exact h.execStatusPageRewrite
  | islandBoot _ => exact h.execIslandBoot
  | asyPfail => exact h.execAsyPfail
  | aliveLost => exact h.execAliveLost
  | hallmarkMirrorRead => exact h.execHallmarkMirrorRead
  | readPortAccess _ _ => exact h.execReadPortAccess
  | foremanTake _ => exact h.execForemanTake
  | faultForceWrite _ => exact h.execFaultForceWrite
  | thermalCrossing _ _ => exact h.execThermalCrossing
  | islandMonitorEvent _ _ _ _ => exact h.execIslandMonitorEvent
  | crossingFail _ _ _ => exact h.execCrossingFail
  | fhTestStart => exact h.execFhTestStart
  | tcTestStart => exact h.execTcTestStart
  | rotationTestDone _ _ => exact h.execRotationTestDone
  | rotationGapExpire _ => exact h.execRotationGapExpire
  | faultStatus _ => exact h.execFaultStatus
  | faultClear _ => exact h.execFaultClear
  | faultInject _ => exact h.execFaultInject
  | setFaultKind _ => exact h.execSetFaultKind
  | setFaultGlobal _ => exact h.execSetFaultGlobal
  | maintEnter _ => exact h.execMaintEnter
  | selftest _ => exact h.execSelftest
  | memBist _ => exact h.execMemBist
  | eyeScan _ => exact h.execEyeScan
  | setSelftest _ => exact h.execSetSelftest
  | unitTestDone _ _ _ _ => exact h.execUnitTestDone
  | powerStatus _ => exact h.execPowerStatus
  | powerRequest _ => exact h.execPowerRequest
  | setPower _ => exact h.execSetPower
  | idleTimerExpire _ => exact h.execIdleTimerExpire
  | entryDone => exact h.execEntryDone
  | wakeEvent _ _ => exact h.execWakeEvent
  | railGood _ => exact h.execRailGood
  | railGoodTimeout => exact h.execRailGoodTimeout
  | oscReady => exact h.execOscReady
  | memReady _ _ _ _ _ => exact h.execMemReady
  | wakeStepTimeout => exact h.execWakeStepTimeout
  | logicReady => exact h.execLogicReady
  | bootDone _ _ => exact h.execBootDone
  | aonResetRelease => exact h.execAonResetRelease
  | powerOn _ _ => exact h.execPowerOn
  | pwrGoodCoreFall => exact h.execPwrGoodCoreFall
  | sysRstNAssert => exact h.execSysRstNAssert
  | wakeNAssert _ => exact h.execWakeNAssert
  | asyRstNAssert => exact h.execAsyRstNAssert
  | warmReset => exact h.execWarmReset
  | coldReset _ _ => exact h.execColdReset
  | warmResetDone => exact h.execWarmResetDone
  | functionLevelReset _ _ => exact h.execFunctionLevelReset
  | perstAssert _ => exact h.execPerstAssert
  | hostLinkDown _ => exact h.execHostLinkDown
  | aerError _ _ => exact h.execAerError
  | completionError _ _ _ => exact h.execCompletionError
  | vfEnable _ _ => exact h.execVfEnable
  | hstVfWrite _ _ _ => exact h.execHstVfWrite
  | bar4Access _ _ _ _ _ => exact h.execBar4Access
  | bar2Write _ o => exact h.execBar2Write (_off := o)
  | bar0BadAccess _ _ _ => exact h.execBar0BadAccess
  | latchingRead _ _ _ => exact h.execLatchingRead
  | registerWrite _ _ _ _ => exact h.execRegisterWrite
  | memSpillMarksWrite _ => exact h.execMemSpillMarksWrite
  | memScrubHoursWrite _ => exact h.execMemScrubHoursWrite
  | scrubRead _ _ => exact h.execScrubRead
  | poisonedRead _ _ _ => exact h.execPoisonedRead
  | dbgChallenge => exact h.execDbgChallenge
  | dbgResponse _ _ => exact h.execDbgResponse
  | trstAssert => exact h.execTrstAssert
  | syncTableExpire _ => exact h.execSyncTableExpire
  | hostLinkUp _ _ _ => exact h.execHostLinkUp
  | tbLaneUp _ => exact h.execTbLaneUp
  | sysRstNRelease _ _ => exact h.execSysRstNRelease
  | railGoodFall _ => exact h.execRailGoodFall
  | islandPowerLoss => exact h.execIslandPowerLoss
  | asyPfailRelease => exact h.execAsyPfailRelease
  | delayReqTx _ => exact h.execDelayReqTx
  | delayReqRx _ _ _ => exact h.execDelayReqRx
  | delayRespRx _ _ => exact h.execDelayRespRx

end Sys2Proof.Machine
end

section
/-!
PROOFS. Every step keeps the canonical form: the functions of Machine/Step.lean.
-/

namespace Sys2Proof.Machine

/-! #### One step of the post -/

theorem Canon.step {s : State} (h : Canon s) : Result.Canon (step s) := by
  unfold Machine.step
  split
  · exact h.advance
  · exact h.withPending.exec

end Sys2Proof.Machine
end

section
/-!
PROOFS. The canonical form of memory and counters: at reset, and kept by every step.
-/

namespace Sys2Proof.Machine

/-- Settles O6: `Canon.step`, the last of the lemmas that say of each state function that it keeps the form. -/
theorem everyStepKeepsTheCanonicalForm : Obligations.EveryStepKeepsTheCanonicalForm := by
  intro s t h e
  have hs : Result.Canon (step s) := Canon.step h
  rw [e] at hs
  exact hs

/-- Settles O5: the three tables are empty at reset. -/
theorem resetIsCanonical : Obligations.ResetIsCanonical := (wf_iff _).2 ⟨rfl, rfl, rfl⟩

end Sys2Proof.Machine
end

section
/-!
PROOFS. Commands that read or act on one object (R238, R239, R275, R293, R326, R386 to R389, R527, R531, R604, R688, R701):
what they answer where the object is there, and their refusal where it is not.
-/

namespace Sys2Proof.Claims

open Sys2Proof.Machine

/-! ### Tables of commands -/

theorem Refused.nil : Refused [] := fun _ hr => nomatch hr

theorem Refused.cons {r : RefusedRow} {l : List RefusedRow}
    (h : ∀ {s : State} {c : Cmd}, runs s r.code c = true → r.fails (begun s r.code c) c = true →
      exec (r.make c) s =
        .next (completedAs (begun s r.code c) c r.code r.status (r.detail (begun s r.code c) c) [] 0))
    (g : Refused l) : Refused (r :: l) :=
  List.forall_mem_cons.2 ⟨fun _ _ => h, g⟩

theorem Complete.nil : Complete [] := fun _ hr => nomatch hr

theorem Complete.cons {r : Row} {l : List Row}
    (h : ∀ {s : State} {c : Cmd}, runs s r.code c = true → r.holds (begun s r.code c) c = true →
      exec (r.make c) s = .next (completed (r.leaves (begun s r.code c) c) c r.code
        (r.detail (begun s r.code c) c) (r.reply (begun s r.code c) c)))
    (g : Complete l) : Complete (r :: l) :=
  List.forall_mem_cons.2 ⟨fun _ _ => h, g⟩

end Sys2Proof.Claims

namespace Sys2Proof.Machine

open Sys2Proof.Claims

/-! ### Objects that are not there -/

/-- FLOW_READ of a flow context by number that is not in use is refused (R239). -/
theorem flowRead_absent {s : State} {c : Cmd} (h : runs s 0x0601 c = true)
    (hfail : (c.f 0 8 1 == 0 && c.f 0 16 13 != 0
      && ((begun s 0x0601 c).flowAt (c.f 0 0 8) (c.f 0 9 3) (c.f 0 16 13)).number == 0) = true) :
    exec (.flowRead c) s = .next (completedAs (begun s 0x0601 c) c 0x0601 .notActive none [] 0) := by
  simp only [Bool.and_eq_true, beq_iff_eq, bne_iff_ne] at hfail
  obtain ⟨⟨hby, hn⟩, hfree⟩ := hfail
  exact runStep_refuse h (by simp [hby, hn, hfree])

/-- Settles O30: each command tests its object before anything else. -/
theorem absentObjectsAreRefused : Obligations.AbsentObjectsAreRefused := by
  unfold Obligations.AbsentObjectsAreRefused Claims.absentRows
  refine .cons ?portStatus <| .cons ?macMergeStatus <| .cons ?macsecScRead <| .cons ?linkRestart <|
    .cons ?threshReset <| .cons ?verifyRestart <| .cons ?macMergePartner <| .cons ?filterRead <| .cons ?meterRead <|
    .cons ?filterUnblock <| .cons ?meterUnmark <| .cons ?flowRead <| .cons ?gateListRead <| .cons ?streamRead <|
    .cons ?rcvyRead <| .cons ?accountRead <| .cons ?streamForget <| .cons ?regRead .nil
  case portStatus | macMergeStatus | macsecScRead | linkRestart | threshReset | verifyRestart | macMergePartner =>
    exact fun h e => runStep_refuse h (if_neg (by simpa using e))
  case filterRead | meterRead | filterUnblock | meterUnmark | gateListRead | accountRead | streamForget | regRead =>
    exact fun h e => runStep_refuse h (if_pos e)
  case streamRead | rcvyRead => exact fun h e => runStep_refuse h (if_pos (beq_iff_eq.1 e))
  case flowRead => exact flowRead_absent

/-! ### Objects that are there -/

/-- FLOW_READ by number answers with the context 0, which always is, or one in use (R239). -/
theorem flowRead_number {s : State} {c : Cmd} (h : runs s 0x0601 c = true)
    (hflow : (c.f 0 8 1 == 0 && (c.f 0 16 13 == 0
      || ((begun s 0x0601 c).flowAt (c.f 0 0 8) (c.f 0 9 3) (c.f 0 16 13)).number != 0)) = true) :
    exec (.flowRead c) s = .next (completed (begun s 0x0601 c) c 0x0601 none
      (flowBytes (begun s 0x0601 c) ((begun s 0x0601 c).flowAt (c.f 0 0 8) (c.f 0 9 3) (c.f 0 16 13)))) := by
  simp only [Bool.and_eq_true, Bool.or_eq_true, beq_iff_eq, bne_iff_ne] at hflow
  obtain ⟨hby, hthere⟩ := hflow
  refine runStep_done h ?_
  simp only [hby, Nat.zero_ne_one, if_false]
  exact if_neg (by rcases hthere with h0 | hn <;> simp [*])

/-- A queue of the command's function is not refused where the post runs its rings (R527). -/
theorem wqRefusal_none {u : State} {c : Cmd} {q : Nat} (h : (u.fnOfQueue q == u.cmdFn c
    && (u.isCommandQueue q || u.bent.role == .solo || u.bent.role == .active)) = true) :
    wqRefusal u c q false = none := by
  simp only [Bool.and_eq_true, Bool.or_eq_true, beq_iff_eq] at h
  obtain ⟨hown, hrole⟩ := h
  simp only [wqRefusal, hown, bne_self_eq_false, Bool.false_and, Bool.or_false, Bool.false_eq_true, if_false]
  exact if_neg (by rcases hrole with (hq | hsolo) | hactive <;> simp [*])

/-- A daybook of the command's function is not refused where the post runs its rings (R531). -/
theorem bookRefusal_none {u : State} {c : Cmd} {b : Nat}
    (h : (u.fnOfBook b == u.cmdFn c && (u.bent.role == .solo || u.bent.role == .active)) = true) :
    bookRefusal u c b = none := by
  simp only [Bool.and_eq_true, Bool.or_eq_true, beq_iff_eq] at h
  obtain ⟨hown, hrole⟩ := h
  simp only [bookRefusal, hown, bne_self_eq_false, Bool.false_eq_true, if_false]
  exact if_neg (by rcases hrole with hsolo | hactive <;> simp [*])

/-- REG_READ of words below the end of the register space. -/
theorem regRead_inRange {s : State} {c : Cmd} (h : runs s 0x0004 c = true)
    (hwords : (c.n 0 4 % 4 == 0 && decide (c.n 0 4 + 4 * c.f 4 0 8 ≤ 0x1000000)) = true) :
    exec (.regRead c) s = .next (completed
      ((begun s 0x0004 c).readWords 2 ((begun s 0x0004 c).cmdFn c) (c.n 0 4) (c.f 4 0 8)).2 c 0x0004 none
      ((begun s 0x0004 c).readWords 2 ((begun s 0x0004 c).cmdFn c) (c.n 0 4) (c.f 4 0 8)).1) := by
  simp only [Bool.and_eq_true, beq_iff_eq, decide_eq_true_eq] at hwords
  obtain ⟨haligned, hend⟩ := hwords
  exact runStep_done h (if_neg (by simp [haligned, hend]))

/-- MACSEC_SC_READ tests its port, then its channel (R293). -/
theorem macsecScRead_test {u : State} {c : Cmd} {x y : Eff}
    (h : (u.inService (c.f 0 0 8) && (u.secChan (c.f 0 0 8) (c.f 0 8 8)).defined) = true) :
    (if u.inService (c.f 0 0 8) then if !(u.secChan (c.f 0 0 8) (c.f 0 8 8)).defined then y else x else y) = x := by
  simp only [Bool.and_eq_true] at h
  simp [h]

/-- STREAM_FIND answers with the handle it finds. -/
theorem streamFind_found {s : State} {c : Cmd}
    (h : runs s 0x0702 c = true)
    (hfind : (findStream (begun s 0x0702 c) (c.f 0 0 3) (c.f 0 8 8) (slice c.params 4 40)).isSome = true) :
    exec (.streamFind c) s = .next (completed (begun s 0x0702 c) c 0x0702
      (findStream (begun s 0x0702 c) (c.f 0 0 3) (c.f 0 8 8) (slice c.params 4 40)) []) := by
  obtain ⟨k, hk⟩ := Option.isSome_iff_exists.1 hfind
  rw [hk]
  exact runStep_done h (by simp only [hk]; rfl)

/-- ASY_STATUS reads the first four blocks of the Assay port's publication area (R688). -/
theorem asyStatus_completes {s : State} {c : Cmd} (h : runs s 0x0C00 c = true) :
    exec (.asyStatus c) s = .next (completed ((begun s 0x0C00 c).readPort 0xB40000 4).2 c 0x0C00 none
      ((begun s 0x0C00 c).readPort 0xB40000 4).1) := by
  refine runStep_done h ?_
  generalize (begun s 0x0C00 c).readPort 0xB40000 4 = r
  rfl

/-- ASY_READ of blocks of the Assay port: the bytes go to host memory and into the reply (R701, log entry 36). -/
theorem asyRead_inRange {s : State} {c : Cmd} (h : runs s 0x0C07 c = true)
    (hr : (c.n 0 4 % 64 == 0 && c.n 4 4 % 64 == 0 && decide (64 ≤ c.n 4 4 ∧ c.n 4 4 ≤ 1048576 ∧
        0xB40000 ≤ c.n 0 4 ∧ c.n 0 4 + c.n 4 4 ≤ 0x1800000)) = true) :
    exec (.asyRead c) s = .next (completed (((begun s 0x0C07 c).readPort (c.n 0 4) (c.n 4 4 / 64)).2.writeHost
      ((begun s 0x0C07 c).cmdFn c) (c.n 8 8) ((begun s 0x0C07 c).readPort (c.n 0 4) (c.n 4 4 / 64)).1) c 0x0C07 none
      ((begun s 0x0C07 c).readPort (c.n 0 4) (c.n 4 4 / 64)).1) := by
  simp only [Bool.and_eq_true, beq_iff_eq, decide_eq_true_eq] at hr
  obtain ⟨⟨haddr, hlen⟩, hmin, hmax, hfrom, hto⟩ := hr
  refine runStep_done h ?_
  simp only [haddr, hlen, Nat.not_lt.2 hmin, Nat.not_lt.2 hmax, Nat.not_lt.2 hfrom, Nat.not_lt.2 hto,
    bne_self_eq_false, decide_false, Bool.or_false, Bool.false_eq_true, if_false]
  rfl

/-- Settles O29: each command tests its object, and answers with it. -/
theorem objectQueriesAnswer : Obligations.ObjectQueriesAnswer := by
  unfold Obligations.ObjectQueriesAnswer Claims.objectRows
  refine .cons ?regRead <| .cons ?portStatus <| .cons ?macMergeStatus <| .cons ?macsecScRead <| .cons ?flowRead <|
    .cons ?filterRead <| .cons ?meterRead <| .cons ?streamRead <| .cons ?streamFind <| .cons ?rcvyRead <|
    .cons ?accountRead <| .cons ?wqStatus <| .cons ?bookStatus <| .cons ?asyStatus <| .cons ?asyRead .nil
  case portStatus | macMergeStatus => exact fun h e => runStep_done h (if_pos e)
  case filterRead | meterRead | accountRead => exact fun h e => runStep_done h (if_neg (by simpa using e))
  case streamRead | rcvyRead => exact fun h e => runStep_done h (if_neg (bne_iff_ne.1 e))
  case asyStatus =>
    intro s c h _
    dsimp only
    exact asyStatus_completes h
  case flowRead => exact flowRead_number
  case streamFind => exact streamFind_found
  case wqStatus => exact fun h e => runStep_done h (by simp only [wqRefusal_none e]; rfl)
  case bookStatus => exact fun h e => runStep_done h (by simp only [bookRefusal_none e]; rfl)
  case asyRead =>
    intro s c h e
    dsimp only
    exact asyRead_inRange h e
  case regRead =>
    intro s c h e
    dsimp only
    exact regRead_inRange h e
  case macsecScRead => exact fun h e => runStep_done h (macsecScRead_test e)

end Sys2Proof.Machine
end

section
/-!
PROOFS. Ring, dray, bent, stocktake, fault and power commands (R330, R528 to R531, R545, R562, R656 to R658, R727, R748,
R768). The layout of a ledger's bytes is log entry 77.
-/

namespace Sys2Proof.Machine

open Sys2Proof.Claims

/-! ### Tables and folds -/

/-- A fold whose steps change nothing changes nothing. -/
theorem foldl_eq_self {α β : Type} {f : α → β → α} {a : α} {l : List β} (h : ∀ x ∈ l, f a x = a) : l.foldl f a = a := by
  induction l with
  | nil => rfl
  | cons x l ih =>
    rw [List.foldl_cons, h x (List.mem_cons_self ..)]
    exact ih fun y hy => h y (List.mem_cons_of_mem _ hy)

/-- A key reads as the value of an entry, or as what an unlisted key reads as. -/
theorem Tab.get_mem_or {α : Type} (d : α) (t : Tab α) (i : Nat) : (i, Tab.get d t i) ∈ t ∨ Tab.get d t i = d := by
  induction t with
  | nil => exact .inr rfl
  | cons e t ih =>
    obtain ⟨k, v⟩ := e
    by_cases hk : i = k
    · subst hk
      simp [Tab.get]
    · simpa [Tab.get, hk] using ih

/-- What a change of every value brings about holds of a key read after it. -/
theorem Tab.get_mapAll_of {α : Type} [DecidableEq α] {P : α → Prop} {d : α} {f : Nat → α → α} {i : Nat} (hd : P d)
    (hf : ∀ v, P (f i v)) (t : Tab α) : P (Tab.get d (Tab.mapAll d f t) i) := by
  induction t with
  | nil => exact hd
  | cons e t ih =>
    obtain ⟨k, v⟩ := e
    unfold Tab.mapAll
    split
    · exact ih
    · by_cases hk : i = k
      · subst hk
        simpa [Tab.get] using hf v
      · simpa [Tab.get, hk] using ih

/-! ### Shared operations -/

section
variable (s : State)

/-- Nothing waits, so nothing is finished. -/
theorem finishKind_idle {s : State} (h : s.clerk.waiting = []) (p : WaitKind → Bool) (st : Status) (d : Option Nat)
    (r : List Byte) : s.finishKind p st d r = s := by
  simp [State.finishKind, h]

/-- What the mirror stream takes changes only the bent. -/
theorem mirror_frame (e : MirrorEntry) (w : MirrorWait) : s.mirror e w = { s with bent := (s.mirror e w).bent } := by
  unfold State.mirror
  simp only
  split
  · rfl
  · split
    · rfl
    · rw [sendTb_frame]

/-- A stopped daybook changes only the daybooks. -/
theorem stopBooks_frame (l : List Nat) :
    l.foldl (fun u b => u.stopBook b) s = { s with books := (l.foldl (fun (u : State) b => u.stopBook b) s).books } := by
  induction l generalizing s with
  | nil => rfl
  | cons b l ih =>
    rw [List.foldl_cons, ih]
    rfl

/-- Ports that are out of service lose only what their PCS holds. -/
theorem linksDown_frame {s : State} {l : List Nat} (h : ∀ p ∈ l, s.inService p = false) :
    s.linksDown l = { s with ports := (s.linksDown l).ports } := by
  induction l generalizing s with
  | nil => rfl
  | cons p l ih =>
    have hout : (s.bringCredit p).inService p = false := by
      rw [bringCredit_frame]
      exact h p (List.mem_cons_self ..)
    have hstep : ∃ v, s.linksDown (p :: l) = ({ s with ports := v } : State).linksDown l := by
      simp only [State.linksDown, List.foldl_cons, hout, Bool.false_and, Bool.false_eq_true, if_false]
      rw [bringCredit_frame]
      exact ⟨_, rfl⟩
    obtain ⟨v, hv⟩ := hstep
    rw [hv]
    exact ih (s := { s with ports := v }) fun q hq => h q (List.mem_cons_of_mem _ hq)

end

/-! ### Rings -/

section
variable {s : State} {c : Cmd}

/-- STOCKTAKE_CANCEL of a reservation that no command waits for (R330). -/
theorem stocktakeCancel_completes (h : runs s 0x0F03 c = true)
    (hbank : (((begun s 0x0F03 c).bank (c.n 0 4 % 2)).state == .reserved
      && ((begun s 0x0F03 c).bank (c.n 0 4 % 2)).seq.toNat == c.n 0 4 && (begun s 0x0F03 c).clerk.waiting.isEmpty) = true) :
    exec (.stocktakeCancel c) s = .next (completed
      (let v := ((begun s 0x0F03 c).setBank (c.n 0 4 % 2) {}).count (prtCommon + 0x110)
       let ks := v.span.stocktakes.filter (fun k => k.seq != ((begun s 0x0F03 c).bank (c.n 0 4 % 2)).seq)
       { v with span := { v.span with stocktakes := ks } }) c 0x0F03 none []) := by
  rw [Bool.and_eq_true, List.isEmpty_iff] at hbank
  obtain ⟨hbank, hidle⟩ := hbank
  refine runStep_done h ((if_pos hbank).trans ?_)
  simp only
  rw [finishKind_idle (by exact hidle)]
  rfl

end

theorem complete_ringRows : Complete Claims.ringRows := by
  unfold Claims.ringRows
  refine .cons ?stocktakeRelease <| .cons ?stocktakeCancel <| .cons ?wqEnable <| .cons ?wqDisable <|
    .cons ?bookDisable <| .cons ?drayStart <| .cons ?drayStop <| .cons ?drayStopError <| .cons ?drayAbort <|
    .cons ?drayAbortError <| .cons ?bentResign <| .cons ?bentResync <| .cons ?bentResyncAgain <| .cons ?ledgerRead <|
    .cons ?ledgerWrite <| .cons ?bentAssume <| .cons ?powerRequest .nil
  case stocktakeRelease => exact fun h e => runStep_done h (if_pos e)
  case stocktakeCancel => exact fun h e => stocktakeCancel_completes h e
  case bookDisable =>
    intro s c h e
    simp only [Option.isNone_iff_eq_none] at e
    refine runStep_done h ?_
    simp only [e]
    rfl
  case bentResign =>
    intro s c h e
    simp only [beq_iff_eq] at e
    refine runStep_done h ?_
    simp only [e, bne_self_eq_false, Bool.false_eq_true, if_false]
    rfl
  case bentResync => exact fun h e => runStep_done h (if_pos e)
  case drayStart =>
    intro s c h e
    simp only [Bool.and_eq_true, beq_iff_eq] at e
    obtain ⟨⟨hown, hstate⟩, haligned⟩ := e
    exact runStep_done h (if_neg (by simp [hown, hstate, haligned]))
  case drayStop | drayStopError | drayAbort | drayAbortError =>
    intro s c h e
    simp only [Bool.and_eq_true, beq_iff_eq] at e
    obtain ⟨hown, hstate⟩ := e
    refine runStep_done h ((if_neg (by simp [hown])).trans ?_)
    simp only [hstate]
    rfl
  case wqEnable =>
    intro s c h e
    simp only [Bool.and_eq_true, Option.isNone_iff_eq_none] at e
    obtain ⟨hq, hok⟩ := e
    refine runStep_done h ?_
    simp only [hq]
    exact if_neg (by simp [hok])
  case wqDisable =>
    intro s c h e
    simp only [Bool.and_eq_true, Option.isNone_iff_eq_none, beq_iff_eq] at e
    obtain ⟨hq, hstate⟩ := e
    refine runStep_done h ?_
    simp only [hq, hstate]
    rfl
  case bentResyncAgain =>
    intro s c h e
    refine runStep_done h ((if_neg ?_).trans (if_pos e))
    simp [beq_iff_eq.1 e]
  case bentAssume =>
    intro s c h e
    simp only [Bool.and_eq_true, Bool.or_eq_true, beq_iff_eq, Bool.not_eq_true'] at e
    obtain ⟨⟨hforce, hrole⟩, hfree⟩ := e
    refine runStep_done h ?_
    rcases hrole with horphan | hforming
    · simp only [hforce, horphan, hfree, Bool.not_true, Bool.false_eq_true, if_false, bne_self_eq_false, Bool.false_and]
      rfl
    · simp only [hforce, hforming, hfree, Bool.not_true, Bool.false_eq_true, if_false, bne_self_eq_false, Bool.and_false]
      rfl
  case powerRequest =>
    intro s c h e
    simp only [Bool.and_eq_true, decide_eq_true_eq, beq_iff_eq, Option.isNone_iff_eq_none] at e
    obtain ⟨⟨hdeeper, hfail⟩, hidle⟩ := e
    have hsleep : pstateOf (c.f 0 0 3) ≠ .run := fun hrun => by simp [hrun, PState.code] at hdeeper
    refine runStep_done h ((if_neg (by simp [hsleep, hdeeper])).trans ?_)
    simp only [hfail, hidle]
    rfl
  case ledgerRead =>
    intro s c h e
    simp only [Bool.and_eq_true, beq_iff_eq] at e
    obtain ⟨hrole, hrange⟩ := e
    refine runStep_done h ?_
    simp only [hrole, hrange, bne_self_eq_false, Bool.not_true, Bool.false_eq_true, if_false]
    rfl
  case ledgerWrite =>
    intro s c h e
    simp only [Bool.and_eq_true, beq_iff_eq] at e
    obtain ⟨hrole, hrange⟩ := e
    refine runStep_done h ?_
    simp only [hrole, hrange, bne_self_eq_false, Bool.not_true, Bool.false_eq_true, if_false]
    rfl


/-! ### BOOK_ENABLE, FAULT_CLEAR and MAINT_ENTER -/

section
variable {s : State} {c : Cmd}

/-- BOOK_ENABLE of a daybook that is not refused (R530). -/
theorem bookEnable_completes (h : runs s 0x0904 c = true)
    (hbook : (bookRefusal (begun s 0x0904 c) c (c.f 0 0 8)).isNone = true)
    (hok : bookEnableOk (begun s 0x0904 c) c = true) :
    ∃ u, exec (.bookEnable c) s = .next (completed u c 0x0904 none []) ∧ (u.book (c.f 0 0 8)).state = .running ∧
      (u.book (c.f 0 0 8)).homeWq = some (c.f 4 0 12) ∧ (u.book (c.f 0 0 8)).bpi = BitVec.ofNat 16 (c.f 0 16 16) ∧
      (u.book (c.f 0 0 8)).vector = c.f 4 16 12 ∧ u.hostMem = s.hostMem ∧ u.queues = s.queues := by
  rw [Option.isNone_iff_eq_none] at hbook
  refine ⟨?after, runStep_done h ?eff, ?effect⟩
  case eff =>
    simp only [hbook, hok, Bool.not_true, Bool.false_eq_true, if_false]
    rfl
  case effect =>
    rw [mirror_frame]
    simp only [State.book, State.modBook, State.setBook, Tab.get_set_same]
    exact ⟨trivial, trivial, trivial, trivial, rfl, rfl⟩

/-- FAULT_CLEAR of one source without RETURN (R727). -/
theorem faultClear_completes (h : runs s 0x0D01 c = true) (hstay : c.f 0 13 1 = 0) (hsource : populated (c.f 0 0 12) = true)
    (hone : c.f 0 12 1 = 0) :
    ∃ u, exec (.faultClear c) s = .next (completed u c 0x0D01 (some u.unclearedCount) []) ∧
      ((u.source (c.f 0 0 12)).uncleared = true → (u.source (c.f 0 0 12)).fatal = true) ∧
      u = { begun s 0x0D01 c with flt := u.flt } ∧ u.flt.fences = s.flt.fences := by
  refine ⟨?after, runStep_done h ?eff, ?cleared, ?frame, ?fences⟩
  case eff =>
    simp only [hone, hsource, hstay, Bool.not_true, Bool.and_false, Bool.false_eq_true, if_false]
    rfl
  case cleared =>
    refine Tab.get_mapAll_of (P := fun f : FaultSource => f.uncleared = true → f.fatal = true) (by simp) (fun f => ?_) _
    by_cases hfatal : f.fatal = true
    · simp [hfatal]
    · simp [hfatal]
  case frame => rfl
  case fences => rfl

/-- Where every listed queue is a command queue or DISABLED, every queue is. -/
theorem queue_at_rest {u : State} (h : ∀ e ∈ u.queues, u.isCommandQueue e.1 = true ∨ e.2.state = .disabled) (q : Nat) :
    (u.isCommandQueue q || (u.queue q).state == .disabled) = true := by
  rw [Bool.or_eq_true, beq_iff_eq]
  rcases Tab.get_mem_or {} u.queues q with hmem | hnone
  · exact h _ hmem
  · exact .inr (congrArg WorkQueue.state hnone)

/-- Where every listed channel is DISABLED, every channel is. -/
theorem chan_at_rest {u : State} (h : ∀ e ∈ u.dray.chans, e.2.state = .disabled) (k : Nat) :
    (u.chan k).state = .disabled := by
  rcases Tab.get_mem_or {} u.dray.chans k with hmem | hnone
  · exact h _ hmem
  · exact congrArg DrayChan.state hnone

/-- MAINT_ENTER at a post alone that has stopped everything else has nothing to wait for (R768). -/
theorem maintEnter_completes (h : runs s 0x7F00 c = true) (hforce : c.force = true) (hsolo : s.bent.role = .solo)
    (hspan : s.span.state = .disabled)
    (hqueues : ∀ e ∈ s.queues, s.isCommandQueue e.1 = true ∨ e.2.state = .disabled)
    (hchans : ∀ e ∈ s.dray.chans, e.2.state = .disabled) (hports : ∀ p < 25, s.inService p = false)
    (hstep : s.bent.step = .none) :
    ∃ u, exec (.maintEnter c) s = .next (completed u c 0x7F00 none []) ∧ u.flt.maint = true := by
  refine ⟨?after, runStep_done h ((if_neg (by simp [hforce])).trans ?eff), ?maint⟩
  case eff =>
    extract_lets s1 s2 s3 s4 s5 s6 busy
    have h1 : s1 = begun s 0x7F00 c := if_pos (by rw [show (begun s 0x7F00 c).bent.role = .solo from hsolo]; rfl)
    have h2 : s2 = begun s 0x7F00 c := by
      rw [← h1]
      exact if_pos (by rw [h1]; exact beq_iff_eq.2 hspan)
    have h3 : s3 = { begun s 0x7F00 c with ports := s3.ports } := by
      have hout : ∀ p ∈ upto 0 25, s2.inService p = false := by
        rw [h2]
        exact fun p hp => hports p (by revert p; decide)
      have hframe : s3 = { s2 with ports := s3.ports } := linksDown_frame hout
      rwa [h2] at hframe
    have h4 : s4 = s3 := foldl_eq_self fun q _ => if_pos (queue_at_rest (by rw [h3]; exact hqueues) q)
    have h5 : s5 = { s3 with books := s5.books } := by
      have hframe : s5 = { s4 with books := s5.books } := stopBooks_frame s4 _
      rwa [h4] at hframe
    have hrest : ∀ k, (s5.chan k).state = .disabled := chan_at_rest (by rw [h5, h3]; exact hchans)
    have h6 : s6 = s5 := foldl_eq_self fun k _ => by simp only [hrest, ite_self]
    have hbusy : busy = false := by
      have hs6 : s6 = { begun s 0x7F00 c with ports := s3.ports, books := s5.books } := by rw [h6, h5, h3]
      have hflush : s6.bent.step = .none := by rw [hs6]; exact hstep
      have hcommand (q : Nat) : s6.isCommandQueue q = s.isCommandQueue q := by rw [hs6]; rfl
      have hq : s6.queues = s.queues := by rw [hs6]; rfl
      have hd : s6.dray = s.dray := by rw [hs6]; rfl
      refine Bool.or_eq_false_iff.2 ⟨Bool.or_eq_false_iff.2 ⟨by rw [hflush]; rfl, ?queues⟩, ?chans⟩
      case queues =>
        rw [hq, List.any_eq_false]
        intro e he
        rcases hqueues e he with h | h
        · simp [hcommand, h]
        · simp [h]
      case chans =>
        rw [hd, List.any_eq_false]
        exact fun e he => by simp [hchans e he]
    rw [if_neg (by rw [hbusy]; decide)]
    rfl
  case maint => rfl

end

/-- Settles O32. -/
theorem ringAndUnitCommandsTakeEffect : Obligations.RingAndUnitCommandsTakeEffect :=
  ⟨complete_ringRows, fun _ _ => bookEnable_completes, fun _ _ => faultClear_completes, fun _ _ => maintEnter_completes⟩

end Sys2Proof.Machine
end

section
/-!
PROOFS. Links, flow control, underrun, LPI and reception at a port (R281 to R286, R299, R301, R307, R310 to R312, R316).
The instants to which a timer's event moves the clock are log entry 26.
-/

namespace Sys2Proof.Machine

open Sys2Proof.Claims

/-! ### Steps of one port -/

namespace PortStep

variable {α : Type} {k : Port → α} {p : Nat} {s t : State}

/-- A gap runs by the wire and the frame hold. -/
theorem gapRuns_eq (h : PortStep Port.wire p s t) : gapRuns t p = gapRuns s p := by
  rw [gapRuns, h.keeps, h.reads (·.frames) fun _ _ => rfl, gapRuns]

theorem advertChanged (hk : ∀ v l, k { v with lldpAt := l } = k v) (s : State) : PortStep k p s (s.advertChanged p) :=
  modPort (hk _ _)

/-- What the MAC merge state machine's entry transitions do not touch stays. -/
theorem verifyStep_keeps
    (hk : ∀ v a b c d e f, k { v with verify := a, verifyAt := b, nested := c, modePending := d, lldpAt := e, attempts := f }
      = k v) (s : State) : PortStep k p s (s.verifyStep p) := by
  have hset (u : State) (f : Port → Port) (h : ∀ v, k (f v) = k v) : PortStep k p u (u.modPort p f) := modPort (h _)
  have henters (u : State) : PortStep k p u (u.mmgSucceed p) :=
    ((hset u _ fun v => hk v _ _ _ _ _ _).trans (hset _ _ fun v => hk v _ _ _ _ _ _)).trans
      (advertChanged (fun v l => hk v _ _ _ _ l _) _)
  exact (ite (hset s _ fun v => hk v _ _ _ _ _ _) (refl s)).trans
    (ite (ite (henters _) (hset _ _ fun v => hk v _ _ _ _ _ _)) (refl _))

/-- What the MAC merge state machine's stop does not touch stays, where no frame is suspended. -/
theorem mmgStop_keeps (hk : ∀ v a b c d e f,
      k { v with verify := a, verifyAt := b, modePending := c, reasm := d, lldpAt := e, suspended := f } = k v)
    (next : Verify) (h : (s.port p).suspended = []) : PortStep k p s (s.mmgStop p next) := by
  obtain ⟨a, ha⟩ : ∃ a, a = if (s.port p).verify == .succeeded then s.advertChanged p else s := ⟨_, rfl⟩
  have hstep {β : Type} {j : Port → β} (hj : ∀ v l, j { v with lldpAt := l } = j v) : PortStep j p s a :=
    ha ▸ ite (advertChanged hj s) (refl s)
  have hnone : ((a.modPort p (fun t =>
      { t with verify := next, verifyAt := none, modePending := false, reasm := [] })).port p).suspended = [] := by
    rw [port_modPort]
    exact (hstep (j := Port.suspended) fun _ _ => rfl).keeps.trans h
  simp only [State.mmgStop, ← ha, dropSuspended_of_none hnone]
  exact (hstep fun v l => hk v _ _ _ _ l _).trans
    ((modPort (hk _ _ _ _ _ _ _)).trans (modPort (hk _ _ _ _ _ _ _)))

/-- A decision while a gap runs touches credits, the gates noted, the hold and the wire's OVERRUN mark. -/
theorem decide_keeps
    (hk : ∀ v a b c d e f, k { v with credit := a, creditAt := b, running := c, listPattern := d, noListNow := e, holdOn := f }
      = k v)
    (hw : ∀ v w, v.wire = some w → k { v with wire := some { w with overrun := true } } = k v)
    (hp : p ≤ 24) (hgap : gapRuns s p = true) : PortStep k p s (s.decide_ p) := by
  obtain ⟨hdecide, hend⟩ := Machine.decide_of_gapRuns hp hgap
  rw [hdecide]
  exact (((bringCredit (fun v c n => hk v c n _ _ _ _) s).trans (noteGates (fun v r l n => hk v _ _ r l n _) _)).trans
    (holdRule_of_wireEnded (fun v h => hk v _ _ _ _ _ h) hend)).trans (overrunRule hw _)

end PortStep

/-! ### Counters of the MAC -/

/-- The counters of port p's MAC stay: those below the blocks of its MAC merge sublayer, gates and shapers. -/
def MacKept (p : Nat) (s t : State) : Prop := ∀ x, x < mmgBase p → t.counter x = s.counter x

namespace MacKept

variable {p : Nat} {s t u : State}

theorem trans (h : MacKept p s t) (g : MacKept p t u) : MacKept p s u := fun x hx => (g x hx).trans (h x hx)

theorem of_ctr (h : t.ctr = s.ctr) : MacKept p s t := fun x _ => by rw [State.counter, h, State.counter]

theorem count {o : Nat} (h : mmgBase p ≤ o) : MacKept p s (s.count o) :=
  fun _ hx => counter_count_other s (Nat.ne_of_lt (hx.trans_le h))

theorem countIf {c : Prop} [Decidable c] {o : Nat} (h : mmgBase p ≤ o) : MacKept p s (if c then s.count o else s) :=
  fun _ hx => counter_countIf_other s c (Nat.ne_of_lt (hx.trans_le h))

theorem decide_of_gapRuns (hp : p ≤ 24) (hgap : gapRuns s p = true) : MacKept p s (s.decide_ p) := by
  obtain ⟨hdecide, hend⟩ := Machine.decide_of_gapRuns hp hgap
  have hcredit : MacKept p s (s.bringCredit p) := of_ctr (ctr_bringCredit s p)
  have hgates (u : State) : MacKept p u (u.noteGates p) :=
    (of_ctr (t := u.setPort p _) rfl).trans
      ((countIf (by simp only [gatBase, mmgBase]; omega)).trans (countIf (by simp only [gatBase, mmgBase]; omega)))
  have hhold (u : State) (h : (u.port p).wireEnded = true) : MacKept p u (u.holdRule p) := by
    have hcount (c : Prop) [Decidable c] : PortStep Port.wireEnded p u (if c then u.count (State.mmgCount p 5) else u) :=
      PortStep.countIf u c _
    unfold State.holdRule
    simp only
    rw [cut_of_wireEnded (((hcount _).trans (PortStep.modPort rfl)).keeps.trans h), ite_self]
    exact (countIf (by simp only [State.mmgCount, mmgBase]; omega)).trans (of_ctr rfl)
  have hoverrun (u : State) : MacKept p u (u.overrunRule p) := by
    unfold State.overrunRule
    split
    · split
      · exact (of_ctr (t := u.modPort p _) rfl).trans (count (by simp only [State.gateCount, gatBase, mmgBase]; omega))
      · exact of_ctr rfl
    · exact of_ctr rfl
  rw [hdecide]
  exact ((hcredit.trans (hgates _)).trans (hhold _ hend)).trans (hoverrun _)

end MacKept

/-- The MAC merge sublayer stops without a count where no frame is suspended. -/
theorem ctr_mmgStop {s : State} {p : Nat} (next : Verify) (h : (s.port p).suspended = []) :
    (s.mmgStop p next).ctr = s.ctr := by
  obtain ⟨a, ha⟩ : ∃ a, a = if (s.port p).verify == .succeeded then s.advertChanged p else s := ⟨_, rfl⟩
  have hctr : a.ctr = s.ctr := by
    rw [ha]
    split
    · rfl
    · rfl
  have hsusp : PortStep Port.suspended p s a := ha ▸ PortStep.ite (PortStep.advertChanged (fun _ _ => rfl) s)
    (PortStep.refl s)
  have hnone : ((a.modPort p (fun t =>
      { t with verify := next, verifyAt := none, modePending := false, reasm := [] })).port p).suspended = [] := by
    rw [port_modPort]
    exact hsusp.keeps.trans h
  simp only [State.mmgStop, ← ha, dropSuspended_of_none hnone]
  exact hctr

/-! ### Links -/

theorem linkNotice_frame (s : State) (p state : Nat) : ∃ n, s.linkNotice p state = { s with notices := s.notices ++ [n] } :=
  ⟨_, rfl⟩

section Links

variable {s : State} {p : Nat}

/-- A link that comes up from DOWN is up at once and notes it; the MAC merge sublayer and the scheduler follow. -/
theorem pcsUp_of_down (hserv : s.inService p = true) (hlink : (s.port p).link = .down) :
    ∃ a, PortStep Port.wire p s a ∧ (a.port p).link = .up ∧ (a.port p).discardAt = none ∧
      s.pcsUp p = ((a.linkNotice p 1).verifyStep p).decide_ p := by
  refine ⟨(s.setPort p { s.port p with pcs := true, signal := true, hiBer := false, fecLock := s.portFec p != 0 }).modPort
    p (fun t => { t with link := .up, discardAt := none }), ?_, ?_, ?_, ?_⟩
  · refine (PortStep.setPort ?_).trans (PortStep.modPort ?_)
    · rfl
    · rfl
  · rw [port_modPort]
  · rw [port_modPort]
  · simp only [State.pcsUp, hserv, hlink, Bool.not_true, Bool.false_eq_true, if_false]

theorem pcsLinkUp_of_down (hp : p ≤ 24) (hserv : s.inService p = true) (hlink : (s.port p).link = .down)
    (hgap : gapRuns s p = true) :
    s.pcsUp p = { s with time := (s.pcsUp p).time, ports := (s.pcsUp p).ports, ctr := (s.pcsUp p).ctr,
                         notices := (s.pcsUp p).notices } ∧
      ((s.pcsUp p).port p).link = .up ∧ ((s.pcsUp p).port p).discardAt = none ∧
      (s.pcsUp p).notices.length = s.notices.length + 1 := by
  obtain ⟨a, hstep, hup, hnone, hpcs⟩ := pcsUp_of_down hserv hlink
  obtain ⟨n, hnotice⟩ := linkNotice_frame a p 1
  have hverify : PortStep (fun v => (v.link, v.discardAt, v.wire)) p (a.linkNotice p 1) ((a.linkNotice p 1).verifyStep p) :=
    PortStep.verifyStep_keeps (fun _ _ _ _ _ _ _ => rfl) _
  have hgap' : gapRuns ((a.linkNotice p 1).verifyStep p) p = true := by
    rw [(hverify.map fun x => x.2.2).gapRuns_eq, ← hgap, ← hstep.gapRuns_eq]
    rfl
  have hdecide : PortStep (fun v => (v.link, v.discardAt)) p ((a.linkNotice p 1).verifyStep p) (s.pcsUp p) :=
    hpcs ▸ PortStep.decide_keeps (fun _ _ _ _ _ _ _ => rfl) (fun _ _ _ => rfl) hp hgap'
  have hall := (hverify.map fun x => (x.1, x.2.1)).trans hdecide
  have hnotices : (s.pcsUp p).notices = s.notices ++ [n] := by
    rw [hall.reads (·.notices) fun _ _ => rfl, hnotice, hstep.frame]
  obtain ⟨hlink', hdiscard'⟩ := Prod.mk.inj hall.keeps
  refine ⟨?_, hlink'.trans ?_, hdiscard'.trans ?_, ?_⟩
  · rw [hall.frame, hnotice, hstep.frame]
  · rw [hnotice]
    exact hup
  · rw [hnotice]
    exact hnone
  · rw [hnotices, List.length_append, List.length_singleton]

theorem pcsLinkUp_of_up (hserv : s.inService p = true) (hlink : (s.port p).link = .up) :
    PortOnly s (s.pcsUp p) p ∧ ((s.pcsUp p).port p).pcs = true ∧ ((s.pcsUp p).port p).link = .up ∧
      (s.pcsUp p).ctr = s.ctr := by
  have hpcs : s.pcsUp p = s.setPort p
      { s.port p with pcs := true, signal := true, hiBer := false, fecLock := s.portFec p != 0 } := by
    simp only [State.pcsUp, hserv, hlink, Bool.not_true, Bool.false_eq_true, if_false]
  rw [hpcs, State.port_setPort]
  exact ⟨(PortStep.setPort (k := fun _ => ()) rfl).only, rfl, hlink, rfl⟩

theorem pcsLinkDown_debounces (signal hiBer : Bool) (hserv : s.inService p = true) (hlink : (s.port p).link = .up)
    (hdebounce : s.regBits (prtBase p + 0x34) 0 8 ≠ 0) :
    PortOnly s (s.pcsDown p signal hiBer) p ∧ ((s.pcsDown p signal hiBer).port p).link = .debounce ∧
      ((s.pcsDown p signal hiBer).port p).debounceAt =
        some (s.time.ticks + msTicks (s.regBits (prtBase p + 0x34) 0 8)) ∧
      ((s.pcsDown p signal hiBer).port p).pcs = false := by
  obtain ⟨a, ha⟩ : ∃ a, a = s.modPort p
      (fun t => { t with pcs := false, signal := signal, hiBer := hiBer, fecLock := false }) := ⟨_, rfl⟩
  have hserv' : a.inService p = true := by rw [ha]; exact hserv
  have hlink' : (a.port p).link = .up := by rw [ha, port_modPort, hlink]
  have hdebounce' : a.regBits (prtBase p + 0x34) 0 8 = s.regBits (prtBase p + 0x34) 0 8 := by rw [ha]; rfl
  have hdown : s.pcsDown p signal hiBer = a.modPort p (fun t => { t with
      link := .debounce, debounceAt := some (a.time.ticks + msTicks (s.regBits (prtBase p + 0x34) 0 8)) }) := by
    simp only [State.pcsDown, ← ha, hserv', hlink', hdebounce', hdebounce, bne_self_eq_false, Bool.not_true, Bool.or_self,
      Bool.false_eq_true, if_false]
  rw [hdown, port_modPort, ha, port_modPort]
  exact ⟨((PortStep.modPort (k := fun _ => ()) rfl).trans (PortStep.modPort rfl)).only, rfl, rfl, rfl⟩

/-- The debounce runs out: the link is DOWN and notes it. -/
theorem debounceExpires_spec {u : Nat} (hlink : (s.port p).link = .debounce) (hat : (s.port p).debounceAt = some u)
    (hnone : (s.port p).suspended = []) :
    s.debounceExpires p = { s with time := (s.debounceExpires p).time, ports := (s.debounceExpires p).ports,
                                   ctr := (s.debounceExpires p).ctr, notices := (s.debounceExpires p).notices } ∧
      ((s.debounceExpires p).port p).link = .down ∧ ((s.debounceExpires p).port p).debounceAt = none ∧
      ((s.debounceExpires p).port p).discardAt.isSome = true ∧
      (s.debounceExpires p).notices.length = s.notices.length + 1 ∧
      (s.debounceExpires p).counter (macCount p 0x1A0) = s.counter (macCount p 0x1A0) + 1 := by
  obtain ⟨d, hd⟩ : ∃ d, d = some ((s.advanceTo u).time.ticks + msTicks ((s.advanceTo u).regBits (prtBase p + 0x34) 16 16)) :=
    ⟨_, rfl⟩
  obtain ⟨a, ha⟩ : ∃ a, a = ((s.advanceTo u).modPort p (fun t => { t with
    link := .down, debounceAt := none, ctrl := [], discardAt := d })).count (macCount p 0x1A0) := ⟨_, rfl⟩
  have hexpires : s.debounceExpires p = (s.advanceTo u).linkFalls p := by
    simp only [State.debounceExpires, hat, hlink, beq_self_eq_true, if_true]
  obtain ⟨n, hnotice⟩ := linkNotice_frame a p 0
  have hport : (a.linkNotice p 0).port p = { s.port p with link := .down, debounceAt := none, ctrl := [], discardAt := d } := by
    rw [show (a.linkNotice p 0).port p = a.port p from rfl, ha, port_count, port_modPort]
    rfl
  have hnone' : ((a.linkNotice p 0).port p).suspended = [] := by rw [hport, hnone]
  have hfalls : PortStep (fun v => (v.link, v.debounceAt, v.discardAt)) p (a.linkNotice p 0) (s.debounceExpires p) ∧
      (s.debounceExpires p).ctr = a.ctr := by
    rw [hexpires, State.linkFalls]
    simp only [← hd, ← ha]
    split
    · rw [dropSuspended_of_none hnone']
      exact ⟨PortStep.modPort rfl, rfl⟩
    · exact ⟨PortStep.mmgStop_keeps (fun _ _ _ _ _ _ _ => rfl) _ hnone', ctr_mmgStop _ hnone'⟩
  obtain ⟨hstep, hctr⟩ := hfalls
  have hnotices : (s.debounceExpires p).notices = s.notices ++ [n] := by
    rw [hstep.reads (·.notices) fun _ _ => rfl, hnotice, ha]
    rfl
  obtain ⟨hlink', hdebounce', hdiscard'⟩ : _ ∧ _ ∧ _ := by simpa only [hport, Prod.mk.injEq] using hstep.keeps
  refine ⟨?_, hlink', hdebounce', ?_, ?_, ?_⟩
  · rw [hstep.frame, hnotice, ha]
    rfl
  · rw [hdiscard', hd, Option.isSome_some]
  · rw [hnotices, List.length_append, List.length_singleton]
  · rw [State.counter, hctr, ha]
    exact State.counter_count _ _

end Links

/-! ### Frames that wait on a port that is down -/

/-- A flow that holds no frame. -/
def idleFlow (e : Nat × Flow) : Bool := e.2.frames.isEmpty

/-- No flow of a port holds a frame. -/
def Port.flowsEmpty (v : Port) : Prop := v.flows.all idleFlow = true ∧ v.spill.all idleFlow = true

/-- A port after every frame that waits on it is taken from it. -/
def Port.emptied (v : Port) : Port :=
  { v with
    flows := v.flows.map (fun f => (f.1, { f.2 with frames := [] }))
    spill := Tab.mapAll {} (fun _ (f : Flow) => { f with frames := [] }) v.spill
    retry := [], suspended := [], arriving := [] }

theorem all_set_idleFlow {t : Tab Flow} (h : t.all idleFlow = true) (n : Nat) {f : Flow} (hf : f.frames = []) :
    (Tab.set {} t n f).all idleFlow = true := by
  unfold Tab.set
  split
  · exact List.all_eq_true.2 fun e he => List.all_eq_true.1 h e (List.mem_of_mem_filter he)
  · exact Tab.all_put t n f idleFlow (by rw [idleFlow, hf]; rfl) h

theorem all_mapAll_idleFlow (t : Tab Flow) :
    (Tab.mapAll {} (fun _ (f : Flow) => { f with frames := [] }) t).all idleFlow = true := by
  induction t with
  | nil => rfl
  | cons e t ih =>
    unfold Tab.mapAll
    split
    · exact ih
    · exact List.all_eq_true.2 (List.forall_mem_cons.2 ⟨rfl, List.all_eq_true.1 ih⟩)

theorem flowsEmpty_emptied (v : Port) : v.emptied.flowsEmpty :=
  ⟨by simp [Port.emptied, idleFlow], all_mapAll_idleFlow _⟩

section Discard

variable {s : State} {p : Nat}

theorem flowsEmpty_setFlow (h : (s.port p).flowsEmpty) (c n : Nat) {f : Flow} (hf : f.frames = []) :
    ((s.setFlow p c n f).port p).flowsEmpty := by
  unfold State.setFlow
  split
  · rw [port_modPort]
    exact ⟨h.1, all_set_idleFlow h.2 _ hf⟩
  · rw [port_modPort]
    exact ⟨all_set_idleFlow h.1 _ hf, h.2⟩

/-- Noting which contexts are idle gives no flow a frame. -/
theorem flowsEmpty_noteIdle (h : (s.port p).flowsEmpty) : ((s.noteIdle p).port p).flowsEmpty := by
  refine List.foldlRecOn (motive := fun u : State => (u.port p).flowsEmpty) _ _ h fun u hu e he => ?_
  have hidle : e.2.frames = [] := List.isEmpty_iff.1 (List.all_eq_true.1 h.1 e he)
  simp only
  split
  · split
    · exact flowsEmpty_setFlow hu _ _ hidle
    · exact hu
  · split
    · exact flowsEmpty_setFlow hu _ _ rfl
    · split
      · exact hu
      · exact flowsEmpty_setFlow hu _ _ hidle

/-- What `noteIdle` counts lies in the block of the queues. -/
theorem macKept_noteIdle (s : State) (p : Nat) : MacKept p s (s.noteIdle p) := by
  have hset (u : State) (c n : Nat) (f : Flow) : MacKept p u (u.setFlow p c n f) := MacKept.of_ctr (by
    unfold State.setFlow
    split <;> rfl)
  refine List.foldlRecOn (motive := fun u => MacKept p s u) _ _ (MacKept.of_ctr rfl) fun u hu e _ => hu.trans ?_
  simp only
  split
  · split
    · exact hset u _ _ _
    · exact MacKept.of_ctr rfl
  · split
    · exact (hset u _ _ _).trans (MacKept.count (by simp only [State.qsvCount, qsvBase, mmgBase]; omega))
    · split
      · exact MacKept.of_ctr rfl
      · exact hset u _ _ _

theorem queuedOn_of_flowsEmpty (h : (s.port p).flowsEmpty) (hretry : (s.port p).retry = [])
    (hsusp : (s.port p).suspended = []) (harr : (s.port p).arriving = []) : s.queuedOn p = [] := by
  have hnone {t : Tab Flow} (ht : t.all idleFlow = true) : t.flatMap (fun f => f.2.frames.map (·.id)) = [] :=
    List.flatMap_eq_nil_iff.2 fun e he => by rw [List.isEmpty_iff.1 (List.all_eq_true.1 ht e he), List.map_nil]
  simp only [State.queuedOn, hnone h.1, hnone h.2, hretry, hsusp, harr, List.filterMap_nil, List.map_nil, List.append_nil]

theorem queuedOn_emptied (s : State) (p : Nat) : ((s.modPort p Port.emptied).noteIdle p).queuedOn p = [] := by
  have hflows : ((s.modPort p Port.emptied).port p).flowsEmpty := by
    rw [port_modPort]
    exact flowsEmpty_emptied _
  have hstep : PortStep (fun v => (v.retry, v.suspended, v.arriving)) p (s.modPort p Port.emptied)
      ((s.modPort p Port.emptied).noteIdle p) := PortStep.noteIdle (fun _ _ _ => rfl) _
  obtain ⟨hretry, hsusp, harr⟩ : _ ∧ _ ∧ _ := by
    simpa only [port_modPort, Port.emptied, Prod.mk.injEq] using hstep.keeps
  exact queuedOn_of_flowsEmpty (flowsEmpty_noteIdle hflows) hretry hsusp harr

/-- The discard of a port that is down takes its frames from the queues at the instant of the timer and refuses each. -/
theorem downDiscard_empties {u : Nat} (hdown : (s.port p).link = .down) (hat : (s.port p).discardAt = some u) :
    ∃ a, PortOnly s a p ∧ (a.port p).discardAt = none ∧ a.queuedOn p = [] ∧ MacKept p s a ∧
      s.downDiscard p = (s.queuedOn p).foldl (fun s id => (s.count (macCount p 0x1A8)).refuseCopy p id 4) a := by
  obtain ⟨m, hm⟩ : ∃ m, m = ((s.advanceTo u).modPort p (fun t => { t with discardAt := none })).bringCredit p :=
    ⟨_, rfl⟩
  have hcredit : PortStep (fun v => (v.discardAt, v.flows, v.spill, v.retry, v.suspended, v.arriving)) p
      ((s.advanceTo u).modPort p (fun t => { t with discardAt := none })) m := hm ▸ PortStep.bringCredit (fun _ _ _ => rfl) _
  obtain ⟨hnone, hflows, hspill, hretry, hsusp, harr⟩ : _ ∧ _ ∧ _ ∧ _ ∧ _ ∧ _ := by
    simpa only [port_modPort, Prod.mk.injEq] using hcredit.keeps
  have hqueued : m.queuedOn p = s.queuedOn p := by
    simp only [State.queuedOn, hflows, hspill, hretry, hsusp, harr]
    rfl
  have hempty : PortStep Port.discardAt p m ((m.modPort p Port.emptied).noteIdle p) :=
    (PortStep.modPort rfl).trans (PortStep.noteIdle (fun _ _ _ => rfl) _)
  have hmac : MacKept p s m := MacKept.of_ctr (by rw [hm, ctr_bringCredit]; rfl)
  refine ⟨(m.modPort p Port.emptied).noteIdle p, ?_, hempty.keeps.trans hnone, queuedOn_emptied m p,
    (hmac.trans (MacKept.of_ctr rfl)).trans (macKept_noteIdle _ p), ?_⟩
  · exact (((PortStep.modPort rfl).trans (hcredit.map fun _ => ())).trans (hempty.map fun _ => ())).only_after
  · rw [← hqueued]
    simp only [State.downDiscard, hat, hdown, bne_self_eq_false, Bool.false_eq_true, if_false, ← hm]
    rfl

/-- A received frame that is refused at its last destination leaves the hold; its ingress port sends no pause frames. -/
theorem refuseCopy_last {id status : Nat} {f : Frame} (hframe : s.frame id = some f) (hrx : f.origin.isRx = true)
    (hlast : LastAt f p) (hgen : s.regBits (prtBase (State.inPort f) + 0xC) 3 1 = 0) :
    s.refuseCopy p id status = { s with frames := (s.refuseCopy p id status).frames } ∧
      (s.refuseCopy p id status).frame id = none := by
  obtain ⟨q, horigin⟩ : ∃ q, f.origin = .rx q := by
    cases h : f.origin with
    | rx q => exact ⟨q, rfl⟩
    | tx q sn => simp [h, FrameOrigin.isRx] at hrx
    | clerk => simp [h, FrameOrigin.isRx] at hrx
  obtain ⟨v, hv, hgone, hrelease⟩ := releaseEgress_last hframe horigin hlast
  have hquiet : v.txGen q = false := by
    have hin : State.inPort f = q := by rw [State.inPort, horigin]
    have hbits : v.regBits (prtBase q + 0xC) 3 1 = 0 := by
      rw [hv, ← hgen, hin]
      rfl
    rw [State.txGen, hbits]
    rfl
  have hrefuse : s.refuseCopy p id status = v := by
    simp only [State.refuseCopy, hframe, State.copyOf, horigin, hrelease]
    exact if_pos (by rw [hquiet]; rfl)
  rw [hrefuse]
  exact ⟨hv, hgone⟩

end Discard

/-! ### Flow control -/

section FlowControl

variable {s : State} {p : Nat}

theorem pauseExpires_spec {k : Nat} (hp : p ≤ 24) (hruns : Tab.get 0 (s.port p).pauseUntil k ≠ 0)
    (hgap : gapRuns s p = true) :
    PortOnly s (s.pauseExpires p k) p ∧ Tab.get 0 ((s.pauseExpires p k).port p).pauseUntil k = 0 := by
  obtain ⟨a, ha⟩ : ∃ a, a = ((s.advanceToQ (Tab.get 0 (s.port p).pauseUntil k)).bringCredit p).modPort p
    (fun t => { t with pauseUntil := Tab.set 0 t.pauseUntil k 0 }) := ⟨_, rfl⟩
  have hexpires : s.pauseExpires p k = a.decide_ p := by
    simp only [State.pauseExpires, hruns, if_false, ha]
  have hstep : PortStep Port.wire p (s.advanceToQ (Tab.get 0 (s.port p).pauseUntil k)) a :=
    ha ▸ (PortStep.bringCredit (fun _ _ _ => rfl) _).trans (PortStep.modPort rfl)
  have hgap' : gapRuns a p = true := by
    rw [hstep.gapRuns_eq, ← hgap]
    exact (later_advance s _).gapRuns
  have hdecide : PortStep Port.pauseUntil p a (a.decide_ p) :=
    PortStep.decide_keeps (fun _ _ _ _ _ _ _ => rfl) (fun _ _ _ => rfl) hp hgap'
  rw [hexpires]
  refine ⟨portOnly_trans hstep.only_after hdecide.only, ?_⟩
  rw [hdecide.keeps, ha, port_modPort, Tab.get_set_same]

/-- Where something is on the wire, a port that is woken goes on with it. -/
theorem kick_of_busy (h : (s.port p).wire.isSome = true) : s.kick p = s.leaveLpi p := by
  have hbusy : ((s.leaveLpi p).port p).wire.isSome = true := by
    rw [(PortStep.leaveLpi (k := Port.wire) (fun _ _ _ => rfl) s).keeps, h]
  exact if_neg (by simp [Option.isSome_iff_ne_none.1 hbusy])

/-- A refresh that finds the port above XON sends the request again at the instant of the timer. -/
theorem pauseRefresh_above {k u : Nat} (hat : Tab.get none (s.port p).xoffAt k = some u) (hgen : s.txGen p = true)
    (hheld : s.reg (prtBase p + 0x1C) < s.rxHeld p k) :
    ∃ v, s.pauseRefresh p k = (((s.advanceTo v).modPort p (fun x =>
      { x with xoffAt := Tab.set none x.xoffAt k (some (s.advanceTo v).time.ticks) })).sendPause p k
        (s.pauseQuanta p)).kick p := by
  obtain ⟨v, hv⟩ : ∃ v, v = u + ceilDiv (s.pauseQuanta p * 32 * s.byteTime p * 100) (nsQ * 128) := ⟨_, rfl⟩
  have hheld' : (s.advanceTo v).reg (prtBase p + 0x1C) < (s.advanceTo v).rxHeld p k := hheld
  have hquanta : (s.advanceTo v).pauseQuanta p = s.pauseQuanta p := rfl
  refine ⟨v, ?_⟩
  simp only [State.pauseRefresh, hat, hgen, Bool.not_true, Bool.false_eq_true, if_false, ← hv, hheld', if_true, hquanta]

theorem pauseRefresh_spec {k u : Nat} (hat : Tab.get none (s.port p).xoffAt k = some u) (hgen : s.txGen p = true)
    (hheld : s.reg (prtBase p + 0x1C) < s.rxHeld p k) (hbusy : (s.port p).wire.isSome = true) :
    PortOnly s (s.pauseRefresh p k) p ∧
      ((s.pauseRefresh p k).port p).ctrl =
        (s.port p).ctrl ++ [if k = 8 then .pause (s.pauseQuanta p) else .pfc k (s.pauseQuanta p)] ∧
      Tab.get none ((s.pauseRefresh p k).port p).xoffAt k = some (s.pauseRefresh p k).time.ticks := by
  obtain ⟨v, hrefresh⟩ := pauseRefresh_above hat hgen hheld
  obtain ⟨c, hc⟩ : ∃ c, c = if k = 8 then Ctrl.pause (s.pauseQuanta p) else .pfc k (s.pauseQuanta p) := ⟨_, rfl⟩
  obtain ⟨b, hb⟩ : ∃ b, b = ((s.advanceTo v).modPort p (fun x =>
    { x with xoffAt := Tab.set none x.xoffAt k (some (s.advanceTo v).time.ticks) })).addCtrl p c := ⟨_, rfl⟩
  have hport : b.port p = { s.port p with
      xoffAt := Tab.set none (s.port p).xoffAt k (some (s.advanceTo v).time.ticks), ctrl := (s.port p).ctrl ++ [c] } := by
    rw [hb, State.addCtrl, port_modPort, port_modPort]
    rfl
  have hleaves : s.pauseRefresh p k = b.leaveLpi p := by
    rw [hrefresh, State.sendPause, ← hc, ← hb]
    exact kick_of_busy (by rw [hport]; exact hbusy)
  have hstep : PortStep (fun _ => ()) p (s.advanceTo v) b :=
    hb ▸ (PortStep.modPort rfl).trans (PortStep.addCtrl (fun _ _ => rfl) _ _)
  have hleave : PortStep (fun v => (v.ctrl, v.xoffAt)) p b (b.leaveLpi p) := PortStep.leaveLpi (fun _ _ _ => rfl) _
  obtain ⟨hctrl, hxoff⟩ : _ ∧ _ := by simpa only [hport, Prod.mk.injEq] using hleave.keeps
  have htime : (b.leaveLpi p).time = (s.advanceTo v).time :=
    (hstep.trans (hleave.map fun _ => ())).reads (·.time) fun _ _ => rfl
  rw [hleaves, htime, ← hc]
  refine ⟨(hstep.trans (hleave.map fun _ => ())).only_after, hctrl, ?_⟩
  rw [hxoff, Tab.get_set_same]

/-- A frame that passes R286 counts in none of the counters of the control family. -/
theorem counter_countRx_control (s : State) (p dst n : Nat) {o : Nat} (hfrom : 0x128 ≤ o) (hto : o < 0x200) :
    (s.countRx p dst n).counter (macCount p o) = s.counter (macCount p o) := by
  have hother {x : Nat} (h : o ≠ x) : macCount p o ≠ macCount p x := by
    simp only [macCount]
    omega
  have hcast : macCount p o ≠ macCount p (if dst = 2 ^ 48 - 1 then 0x120 else if bit (dst / 2 ^ 40) 0 then 0x118
      else 0x110) := by
    refine hother ?_
    split
    · omega
    · split
      · omega
      · omega
  simp only [State.countRx]
  rw [counter_count_other _ hcast, counter_count_other _ (hother (by omega)),
    State.counter_countN_other _ _ _ _ (hother (by omega)), counter_count_other _ (hother (by omega))]

theorem counter_countRx (s : State) (p dst n : Nat) :
    (s.countRx p dst n).counter (macCount p 0x100) = s.counter (macCount p 0x100) + 1 := by
  have hother {x : Nat} (h : 0x100 ≠ x) : macCount p 0x100 ≠ macCount p x := by
    simp only [macCount]
    omega
  have hcast : macCount p 0x100 ≠ macCount p (if dst = 2 ^ 48 - 1 then 0x120 else if bit (dst / 2 ^ 40) 0 then 0x118
      else 0x110) := by
    refine hother ?_
    split
    · omega
    · split
      · omega
      · omega
  simp only [State.countRx]
  rw [counter_count_other _ hcast, counter_count_other _ (hother (by omega)),
    State.counter_countN_other _ _ _ _ (hother (by omega)), State.counter_count]

/-- A PAUSE frame that a port honours loads the PAUSE timer. -/
theorem macControl_of_pause {b : List Byte} (hp : p ≤ 24) (hlen : b.length = 60) (hdst : beAt b 0 6 = 0x0180C2000001)
    (hop : beAt b 14 2 = 1) (hmode : s.fcMode p = 1) (hhonour : s.rxHonour p = true) (hgap : gapRuns s p = true)
    (hquanta : beAt b 16 2 ≠ 0) :
    PortStep (fun _ => ()) p s (s.macControl p b) ∧
      Tab.get 0 ((s.macControl p b).port p).pauseUntil 8 = s.nowQ + beAt b 16 2 * 64 * s.byteTime p ∧
      (s.macControl p b).counter (macCount p 0x168) = s.counter (macCount p 0x168) + 1 := by
  obtain ⟨m, hm⟩ : ∃ m, m = (s.count (macCount p 0x168)).bringCredit p := ⟨_, rfl⟩
  have hstep {β : Type} {j : Port → β} (hj : ∀ v c n, j { v with credit := c, creditAt := n } = j v) : PortStep j p s m :=
    hm ▸ (PortStep.count _ _).trans (PortStep.bringCredit hj _)
  have hwire : PortStep Port.wire p s m := hstep fun _ _ _ => rfl
  obtain ⟨n, hn⟩ : ∃ n, n = m.setPort p { m.port p with
    pauseUntil := Tab.set 0 (m.port p).pauseUntil 8 (m.nowQ + beAt b 16 2 * 64 * m.byteTime p) } := ⟨_, rfl⟩
  have hload : m.loadPause p 8 (beAt b 16 2) = n := by rw [hn]; exact if_neg hquanta
  have hstepN : PortStep Port.wire p m n := hn ▸ PortStep.setPort rfl
  have hgapN : gapRuns n p = true := by rw [(hwire.trans hstepN).gapRuns_eq, hgap]
  have hhonour' : m.rxHonour p = true := (hwire.reads (·.rxHonour p) fun _ _ => rfl).trans hhonour
  have hstay (before : Nat → Bool) : n.pauseOnWire p before = n := by
    obtain ⟨w, hw, hdone⟩ := (Option.any_eq_true _ _).1 (Bool.and_eq_true_iff.1 hgapN).1
    simp [State.pauseOnWire, hw, hdone]
  have hcontrol : s.macControl p b = n.decide_ p := by
    simp only [State.macControl, hdst, hlen, hop, hmode, beq_self_eq_true, Bool.true_or, Bool.and_self, if_true, ← hm,
      hhonour', Bool.not_true, Bool.false_eq_true, if_false, hload, hstay]
  have hdecide : PortStep Port.pauseUntil p n (n.decide_ p) :=
    PortStep.decide_keeps (fun _ _ _ _ _ _ _ => rfl) (fun _ _ _ => rfl) hp hgapN
  rw [hcontrol]
  refine ⟨((hwire.trans hstepN).map fun _ => ()).trans (hdecide.map fun _ => ()), ?_, ?_⟩
  · rw [hdecide.keeps, hn, State.port_setPort, Tab.get_set_same, hwire.reads (·.nowQ) fun _ _ => rfl,
      hwire.reads (·.byteTime p) fun _ _ => rfl]
  · have hctr : n.ctr = (s.count (macCount p 0x168)).ctr := by
      rw [hn, hm]
      exact ctr_bringCredit _ p
    rw [MacKept.decide_of_gapRuns hp hgapN _ (by simp only [macCount, mmgBase]; omega), State.counter, hctr]
    exact State.counter_count _ _

theorem pauseRx_spec (u : Nat) {b : List Byte} (hp : p ≤ 24) (hup : s.portUp p = true) (hawake : s.asleep = false)
    (hmac : s.macError p (b.length + 4) false = none) (hlen : b.length = 60) (hdst : beAt b 0 6 = 0x0180C2000001)
    (hop : beAt b 14 2 = 1) (hmode : s.fcMode p = 1) (hhonour : s.rxHonour p = true) (hgap : gapRuns s p = true)
    (hquanta : beAt b 16 2 ≠ 0) :
    ∃ t, exec (.pauseRx p b false u) s = .next t ∧ PortOnly s t p ∧
      Tab.get 0 (t.port p).pauseUntil 8 = s.nowQ + beAt b 16 2 * 64 * s.byteTime p ∧
      t.counter (macCount p 0x168) = s.counter (macCount p 0x168) + 1 := by
  obtain ⟨a, ha⟩ : ∃ a, a = s.countRx p (beAt b 0 6) (b.length + 4) := ⟨_, rfl⟩
  have hcount : Received s a := ha ▸ received_countRx s p _ _
  have hstep : PortStep (fun _ => ()) p s a := ⟨by rw [hcount.frame], fun q _ => hcount.reads (·.port q) fun _ => rfl, rfl⟩
  have hrx : exec (.pauseRx p b false u) s = ok (a.macControl p b) := by
    refine congrArg ok ((if_neg (by omega)).trans ((linkGate_of_portUp hup hawake _).trans ?_))
    simp only [State.controlRx, hmac, ha]
  obtain ⟨hcontrol, htimer, hcounter⟩ := macControl_of_pause (s := a) hp hlen hdst hop
    ((hcount.reads (·.fcMode p) fun _ => rfl).trans hmode) ((hcount.reads (·.rxHonour p) fun _ => rfl).trans hhonour)
    ((hcount.reads (gapRuns · p) fun _ => rfl).trans hgap) hquanta
  refine ⟨_, hrx, (hstep.trans hcontrol).only, ?_, ?_⟩
  · rw [htimer, hcount.reads (·.nowQ) fun _ => rfl, hcount.reads (·.byteTime p) fun _ => rfl]
  · rw [hcounter, ha, counter_countRx_control s p _ _ (by decide) (by decide)]

end FlowControl

/-! ### Underrun and LPI -/

section Transmit

variable {s : State} {p : Nat}

theorem underrun_spec {w : Wire} {f : Frame} (hwire : (s.port p).wire = some w) (hkind : w.kind = .frame)
    (hdone : w.done = false) (hretry : w.retry = false) (hframe : s.frame w.qf.id = some f) (hplace : f.place = .returning)
    (hdry : f.arrived < f.size) :
    PortOnly s (s.underrun p) p ∧ (s.underrun p).time = s.time ∧
      Tab.get none ((s.underrun p).port p).retry w.cls = some (w.qf, w.flow) ∧
      Tab.get 0 ((s.underrun p).port p).threshUp w.cls = min (Tab.get 0 (s.port p).threshUp w.cls + 512)
        (16384 - s.regBits (prtBase p + 0x80 + 4 * w.cls) 0 16) ∧
      (((s.underrun p).port p).wire.map (·.done)) = some true ∧
      (s.underrun p).counter (macCount p 0x1B8) = s.counter (macCount p 0x1B8) + 1 := by
  simp only [State.underrun, hwire, hframe, hkind, hdone, hretry, hplace, hdry, bne_self_eq_false, beq_self_eq_true,
    decide_true, Bool.and_self, Bool.not_true, Bool.or_self, Bool.false_eq_true, if_false, port_count,
    State.port_setPort, Tab.get_set_same, State.counter_count]
  exact ⟨((PortStep.setPort (k := fun _ => ()) rfl).trans (PortStep.count _ _)).only, rfl, trivial, trivial, rfl, rfl⟩

theorem underrunDecay_spec {c : Nat} (hat : Tab.get 0 (s.port p).decayAt c ≠ 0) :
    PortOnly s (s.underrunDecay p c) p ∧
      Tab.get 0 ((s.underrunDecay p c).port p).threshUp c = Tab.get 0 (s.port p).threshUp c - 512 ∧
      (s.underrunDecay p c).ctr = s.ctr := by
  simp only [State.underrunDecay, hat, if_false, State.port_setPort, Tab.get_set_same]
  exact ⟨(PortStep.setPort (k := fun _ => ()) rfl).only_after, rfl, rfl⟩

theorem lpiEnter_spec (hfrom : 16 ≤ p) (hto : p ≤ 23) (hup : s.portUp p = true) (hmode : s.portMode p = 7)
    (heee : s.reg (prtBase p + 0x20) % 2 = 1) (hlpi : (s.port p).txLpi = false) (hwire : (s.port p).wire = none)
    (hcommit : (s.port p).commit = none) (hctrl : (s.port p).ctrl = []) (harr : (s.port p).arriving = [])
    (hgates : s.gateScheduled p = false) (hidle : (upto 0 8).all (fun c => !s.classWaits p c) = true) :
    PortOnly s (s.lpiEnter p) p ∧ ((s.lpiEnter p).port p).txLpi = true ∧
      ((s.lpiEnter p).port p).lpiSince = (s.lpiEnter p).time.ticks ∧
      (s.lpiEnter p).counter (macCount p 0x278) = s.counter (macCount p 0x278) + 1 := by
  have henters : s.lpiEnter p = ((s.advanceToQ ((s.port p).idleFrom +
      s.regBits (prtBase p + 0x20) 16 16 * 1000 * nsQ)).modPort p (fun t => { t with
        txLpi := true, lpiSince := (s.advanceToQ ((s.port p).idleFrom +
          s.regBits (prtBase p + 0x20) 16 16 * 1000 * nsQ)).time.ticks })).count (macCount p 0x278) := by
    simp only [State.lpiEnter, hup, hmode, heee, hlpi, hwire, hcommit, hctrl, harr, hgates, hidle, hfrom, hto]
    rfl
  rw [henters, port_count, port_modPort]
  exact ⟨((PortStep.modPort (k := fun _ => ()) rfl).trans (PortStep.count _ _)).only_after, rfl, rfl,
    State.counter_count _ _⟩

end Transmit

/-! ### Reception -/

section Receive

variable {s : State} {p : Nat}

theorem frameRx_of_down (u : Nat) (b : List Byte) (bad cut : Bool) (hp : p ≤ 24) (hserv : s.inService p = true)
    (hdown : (s.port p).link ≠ .up) :
    exec (.frameRx p b bad cut u) s = .next (s.count (macCount p 0x150)) := by
  have hlink : ((s.port p).link == .up) = false := by simpa using hdown
  have hgate (go : State → State) : s.linkGate p go = s.count (macCount p 0x150) := by
    simp only [State.linkGate, hserv, bne, hlink, Bool.not_true, Bool.not_false, Bool.false_eq_true, if_false, if_true]
  refine congrArg ok ((if_neg (by omega)).trans ((if_neg ?_).trans (hgate _)))
  simp [hlink]

/-- A knock frame that an awake post hears, with no transition under way, counts and does nothing more. -/
theorem knockRx_awake (u : Nat) {b : List Byte} (hp : p ≤ 24) (hup : s.portUp p = true) (hawake : s.asleep = false)
    (hmac : s.macError p (b.length + 4) false = none) (htrans : s.pwr.trans = none) :
    ∃ o, (o = 0x188 ∨ o = 0x190) ∧ exec (.knockRx p b false u) s =
      .next (((s.countRx p (beAt b 0 6) (b.length + 4)).count (macCount p o)).count (macCount p 0x198)) := by
  obtain ⟨⟨hserv, hlink⟩, -⟩ : (s.inService p = true ∧ ((s.port p).link == .up) = true) ∧ _ := by
    simpa only [State.portUp, Bool.and_eq_true] using hup
  refine ⟨if !false && s.isKnock p b && s.knockFits p b then 0x188 else 0x190, ?_, congrArg ok ?_⟩
  · split
    · exact .inl rfl
    · exact .inr rfl
  · have hentry : ¬ (decide (25 ≤ p) || !s.inService p) = true := by simp [hserv]; omega
    refine (if_neg hentry).trans ((if_neg (by simp [bne, hlink])).trans ?_)
    simp only [State.knock, hawake, hmac, Bool.false_eq_true, if_false]
    exact if_neg (by rw [Option.isSome_iff_ne_none]; exact not_not.2 htrans)

theorem knockRx_spec (u : Nat) {b : List Byte} (hp : p ≤ 24) (hup : s.portUp p = true) (hawake : s.asleep = false)
    (hmac : s.macError p (b.length + 4) false = none) (htrans : s.pwr.trans = none) :
    ∃ t, exec (.knockRx p b false u) s = .next t ∧ t = { s with ctr := t.ctr } ∧
      t.counter (macCount p 0x198) = s.counter (macCount p 0x198) + 1 ∧
      t.counter (macCount p 0x100) = s.counter (macCount p 0x100) + 1 := by
  obtain ⟨o, ho, hexec⟩ := knockRx_awake u hp hup hawake hmac htrans
  have hother {x y : Nat} (h : x ≠ y) : macCount p x ≠ macCount p y := by
    simp only [macCount]
    omega
  refine ⟨_, hexec, ?_, ?_, ?_⟩
  · rw [State.count, State.countN, State.count, State.countN, (received_countRx s p _ _).frame]
  · rw [State.counter_count, counter_count_other _ (hother (by omega)),
      counter_countRx_control s p _ _ (by decide) (by decide)]
  · rw [counter_count_other _ (hother (by omega)), counter_count_other _ (hother (by omega)), counter_countRx]

/-- Where the frame hold has room, a whole frame enters it as it was received. -/
theorem holdFrame_whole {b : List Byte} (hroom : State.cellsOf b.length ≤ s.holdFree) (p : Nat) (u : Nat) :
    ∃ f : Frame, (f.bytes, f.whole, f.rxTime, f.rxFlag) = (b, true, u, s.time.flag) ∧
      s.holdFrame p b false false 0 u = ((s.addFrame f).2.orderAdd p s.nextFrame).pauseCheck p :=
  ⟨_, rfl, if_neg (Nat.not_lt.2 hroom)⟩

/-- A whole frame in the clear is counted and goes to the frame hold. -/
theorem frameRx_clear {b : List Byte} (u : Nat) (hp : p ≤ 24) (hup : s.portUp p = true) (hawake : s.asleep = false)
    (hmac : s.macError p (b.length + 4) false = none) (hknock : s.isKnock p b = false) (hctrl : beAt b 12 2 ≠ 0x8808)
    (hsec : s.macsecOn p = false) :
    exec (.frameRx p b false false u) s =
      .next ((s.countRx p (beAt b 0 6) (b.length + 4)).holdFrame p b false false 0 u) := by
  have hsec' : (s.countRx p (beAt b 0 6) (b.length + 4)).macsecOn p = false :=
    ((received_countRx s p _ _).reads (·.macsecOn p) fun _ => rfl).trans hsec
  refine congrArg ok ((if_neg (by omega)).trans ((if_neg (by simp [hknock])).trans
    ((linkGate_of_portUp hup hawake _).trans ?_)))
  simp only [State.frameRx, hknock, beq_eq_false_iff_ne.2 hctrl, State.takeFrame, hmac, State.secRx, hsec',
    Bool.false_and, Bool.not_false, Bool.false_eq_true, if_false, if_true]

theorem frameRx_spec {b : List Byte} (u : Nat) (hp : p ≤ 24) (hup : s.portUp p = true) (hawake : s.asleep = false)
    (hmac : s.macError p (b.length + 4) false = none) (hknock : s.isKnock p b = false) (hctrl : beAt b 12 2 ≠ 0x8808)
    (hsec : s.macsecOn p = false) (hroom : State.cellsOf b.length ≤ s.holdFree) :
    ∃ t, exec (.frameRx p b false false u) s = .next t ∧
      t = { s with
        ports := t.ports, ctr := t.ctr, frames := t.frames, nextFrame := t.nextFrame, joinery := t.joinery } ∧
      t.nextFrame = s.nextFrame + 1 ∧
      (t.frame s.nextFrame).map (fun f => (f.bytes, f.whole, f.rxTime, f.rxFlag)) = some (b, true, u, s.time.flag) ∧
      t.counter (macCount p 0x100) = s.counter (macCount p 0x100) + 1 := by
  obtain ⟨a, ha⟩ : ∃ a, a = s.countRx p (beAt b 0 6) (b.length + 4) := ⟨_, rfl⟩
  have hcount : Received s a := ha ▸ received_countRx s p _ _
  obtain ⟨f, hf, hheld⟩ := holdFrame_whole (s := a)
    (hroom.trans_eq (hcount.reads (·.holdFree) fun _ => rfl).symm) p u
  obtain ⟨v, hv⟩ : ∃ v, v = (a.addFrame f).2.orderAdd p a.nextFrame := ⟨_, rfl⟩
  have hcheck : PortStep (fun _ => ()) p v (v.pauseCheck p) := PortStep.pauseCheck (fun _ _ _ => rfl) v
  have hnext : a.nextFrame = s.nextFrame := hcount.reads (·.nextFrame) fun _ => rfl
  refine ⟨v.pauseCheck p, ?_, ?_, ?_, ?_, ?_⟩
  · rw [frameRx_clear u hp hup hawake hmac hknock hctrl hsec, ← ha, hheld, ← hv]
  · rw [hcheck.frame, hv, hcount.frame]
    rfl
  · rw [hcheck.reads (·.nextFrame) fun _ _ => rfl, hv, ← hnext]
    rfl
  · have hframe : v.frame s.nextFrame = some f := by
      rw [hv, ← hnext]
      exact State.frame_setFrame a _ (some f)
    rw [State.frame, hcheck.reads (·.frames) fun _ _ => rfl, ← State.frame, hframe, Option.map_some, hf,
      hcount.reads (·.time) fun _ => rfl]
  · have hctr : v.ctr = a.ctr := by
      rw [hv]
      rfl
    have hcounter : a.counter (macCount p 0x100) = s.counter (macCount p 0x100) + 1 := ha ▸ counter_countRx s p _ _
    exact (congrArg (Tab.get 0 · _) ((ctr_pauseCheck v p).trans hctr)).trans hcounter

end Receive

/-! ### Timestamp records and the copy of a bank -/

/-- A daybook with room takes a record as its next one. -/
theorem putRecord_frame (s : State) (b kind : Nat) (body : List Byte) :
    s.putRecord b kind body = { s with books := (s.putRecord b kind body).books
                                       hostMem := (s.putRecord b kind body).hostMem } ∧
      ((s.putRecord b kind body).book b).bpi = (s.book b).bpi + 1 := by
  unfold State.putRecord
  simp only
  split
  · exact ⟨rfl, by rw [State.book_setBook]⟩
  · exact ⟨rfl, by rw [State.book_setBook]⟩

theorem tsRecordWrite_spec {s : State} {p : Nat} {r : TsRec} {l : List TsRec} (hp : p ≤ 24)
    (hq : (s.ptime p).tsq = r :: l) (hruns : (s.book (s.regBits (timPort p + 0x28) 0 8)).state = .running)
    (hroom : State.bookFull (s.book (s.regBits (timPort p + 0x28) 0 8)) = false)
    (hnone : (s.book (s.regBits (timPort p + 0x28) 0 8)).bitmap = [])
    (hawait : s.bent.awaitBci.contains (s.regBits (timPort p + 0x28) 0 8) = false) :
    ∃ t, exec (.tsRecordWrite p) s = .next t ∧
      t = { s with time := t.time, books := t.books, hostMem := t.hostMem } ∧ (t.ptime p).tsq = l ∧
      (t.book (s.regBits (timPort p + 0x28) 0 8)).bpi = (s.book (s.regBits (timPort p + 0x28) 0 8)).bpi + 1 := by
  obtain ⟨k, hk⟩ : ∃ k, k = s.regBits (timPort p + 0x28) 0 8 := ⟨_, rfl⟩
  rw [← hk] at hruns hroom hnone hawait ⊢
  have hover : s.overflow k = s := by
    simp only [State.overflow, hnone, List.isEmpty_nil, Bool.or_true, Bool.true_or, if_true]
  obtain ⟨a, ha⟩ : ∃ a, a = s.setPtime p { s.ptime p with tsq := l } := ⟨_, rfl⟩
  have hwrite : exec (.tsRecordWrite p) s = .next (a.putRecord k 2 r.body) := by
    refine congrArg ok ((if_pos hp).trans ?_)
    simp only [State.stampWrite, hq, ← hk, hruns, hroom, hawait, hover, bne_self_eq_false, Bool.or_self,
      Bool.false_eq_true, if_false, ha]
  obtain ⟨hframe, hbpi⟩ := putRecord_frame a k 2 r.body
  refine ⟨_, hwrite, ?_, ?_, ?_⟩
  · rw [hframe, ha]
    rfl
  · have hptime : (a.putRecord k 2 r.body).ptime p = a.ptime p := by rw [State.ptime, hframe, State.ptime]
    rw [hptime, ha, State.ptime_setPtime]
  · rw [hbpi, ha]
    rfl

theorem stocktakeCopyDone_spec {s : State} {b : Nat} (hb : b < 2) (hstate : (s.bank b).state = .filling)
    (hidle : s.clerk.waiting = []) :
    ∃ t, exec (.stocktakeCopyDone b) s = .next t ∧ t = { s with stock := t.stock, ctr := t.ctr } ∧
      (t.bank b).state = .held ∧ (t.bank b).valid = true ∧ (t.bank b).ctr = (s.bank b).ctr ∧
      t.counter (prtCommon + 0x100) = s.counter (prtCommon + 0x100) + 1 := by
  obtain ⟨a, ha⟩ : ∃ a, a = s.setBank b { s.bank b with state := .held, valid := true } := ⟨_, rfl⟩
  have hends : exec (.stocktakeCopyDone b) s = .next (a.count (prtCommon + 0x100)) := by
    refine congrArg ok ((if_pos hb).trans ?_)
    simp only [State.copyEnds, hstate, bne_self_eq_false, Bool.false_eq_true, if_false, ← ha]
    exact finishKind_idle (by rw [ha]; exact hidle) _ _ _ _
  have hbank : (a.count (prtCommon + 0x100)).bank b = { s.bank b with state := .held, valid := true } := by
    rw [ha]
    exact State.bank_setBank s b _
  refine ⟨_, hends, ?_, ?_, ?_, ?_, ?_⟩
  · rw [ha]
    rfl
  · rw [hbank]
  · rw [hbank]
  · rw [hbank]
  · rw [State.counter_count, ha]
    rfl

/-- Settles O23, event by event. -/
theorem portLinkEventsComplete : Obligations.PortLinkEventsComplete := by
  refine ⟨fun s p hp hserv hlink hgap _ => ?comesUp, fun s p hp hserv hlink => ?staysUp,
    fun s p sig hb hp hserv hlink hdebounce => ?debounces, fun s p u hp hlink hat hnone => ?falls,
    fun s p u hp hdown hat hnone => ?discardsNone, fun s p u id f hp hdown hat hone hframe hrx hgen hegress hwq hwindow
      hslot hstage => ?discardsOne,
    fun s p u b hp hup hawake hmac hlen hdst hop hmode hhonour hgap hquanta => ?pauseRx,
    fun s p k hp hruns hgap => ?pauseEnds, fun s p k u hp hat hgen hheld hbusy => ?pauseRefresh,
    fun s p w f hp hwire hkind hdone hretry hframe hplace hdry => ?underrun, fun s p c hp hat => ?underrunDecay,
    fun s p hfrom hto hup hmode heee hlpi hwire hcommit hctrl harr hgates hidle => ?lpiEnter,
    fun s p u b hp hup hawake hmac _ htrans => ?knockRx,
    fun s p u b hp hup hawake hmac hknock hctrl hsec hroom => ?frameRx,
    fun s p u b bad cut hp hserv hdown => ?frameRxDown,
    fun s p r l hp hq hruns hroom hnone hawait => ?stampWrite, fun s b hb hstate hidle => ?copyDone⟩
  case comesUp => exact ⟨_, congrArg ok (if_pos hp), pcsLinkUp_of_down hp hserv hlink hgap⟩
  case staysUp => exact ⟨_, congrArg ok (if_pos hp), pcsLinkUp_of_up hserv hlink⟩
  case debounces => exact ⟨_, congrArg ok (if_pos hp), pcsLinkDown_debounces sig hb hserv hlink hdebounce⟩
  case falls => exact ⟨_, congrArg ok (if_pos hp), debounceExpires_spec hlink hat hnone⟩
  case discardsNone =>
    obtain ⟨a, honly, hdiscard, hempty, -, heq⟩ := downDiscard_empties hdown hat
    rw [hnone] at heq
    exact ⟨a, congrArg ok ((if_pos hp).trans heq), honly, hdiscard, hempty⟩
  case discardsOne =>
    obtain ⟨a, ⟨hthen, -, -⟩, -, hempty, hkept, heq⟩ := downDiscard_empties hdown hat
    rw [hone] at heq
    have hframe' : (a.count (macCount p 0x1A8)).frame id = some f := by
      rw [State.frame, hthen]
      exact hframe
    have hgen' : (a.count (macCount p 0x1A8)).regBits (prtBase (State.inPort f) + 0xC) 3 1 = 0 := by
      rw [← hgen, hthen]
      rfl
    obtain ⟨hrefused, hgone⟩ := refuseCopy_last (status := 4) hframe' hrx ⟨hegress, hwq, hwindow, hslot, hstage⟩ hgen'
    refine ⟨_, congrArg ok ((if_pos hp).trans heq), ?_, ?_, ?_, ?_⟩
    · rw [List.foldl_cons, List.foldl_nil, hrefused, hthen]
      rfl
    · rw [List.foldl_cons, List.foldl_nil, hgone]
      rfl
    · rw [List.foldl_cons, List.foldl_nil, hrefused]
      exact hempty
    · rw [List.foldl_cons, List.foldl_nil, hrefused]
      exact (State.counter_count _ _).trans
        (congrArg (· + 1) (hkept _ (by simp only [macCount, mmgBase]; omega)))
  case pauseRx => exact pauseRx_spec u hp hup hawake hmac hlen hdst hop hmode hhonour hgap hquanta
  case pauseEnds => exact ⟨_, congrArg ok (if_pos hp), pauseExpires_spec hp hruns hgap⟩
  case pauseRefresh => exact ⟨_, congrArg ok (if_pos hp), pauseRefresh_spec hat hgen hheld hbusy⟩
  case underrun => exact ⟨_, congrArg ok (if_pos hp), underrun_spec hwire hkind hdone hretry hframe hplace hdry⟩
  case underrunDecay => exact ⟨_, congrArg ok (if_pos hp), underrunDecay_spec hat⟩
  case lpiEnter =>
    exact ⟨_, congrArg ok (if_pos (by omega)),
      lpiEnter_spec hfrom hto hup hmode heee hlpi hwire hcommit hctrl harr hgates hidle⟩
  case knockRx => exact knockRx_spec u hp hup hawake hmac htrans
  case frameRx => exact frameRx_spec u hp hup hawake hmac hknock hctrl hsec hroom
  case frameRxDown => exact ⟨_, frameRx_of_down u b bad cut hp hserv hdown, rfl, State.counter_count _ _⟩
  case stampWrite => exact tsRecordWrite_spec hp hq hruns hroom hnone hawait
  case copyDone => exact stocktakeCopyDone_spec hb hstate hidle

end Sys2Proof.Machine
end

section
/-!
PROOFS. Timers and fetches of the stream engine on a post in no bent (R347, R362, R363, R372 to R374, R378, R379). The
instants to which a timer's event moves the clock are log entry 26.
-/

namespace Sys2Proof.Machine

open Sys2Proof.Claims

/-! ### A post in no bent -/

section Solo

variable {s : State}

theorem mirrored_of_solo (h : s.bent.role = .solo) : s.mirrored = false := by
  rw [State.mirrored, h]
  rfl

/-- A post in no bent handles the timers of its stream engine itself (R623). -/
theorem runs_of_solo (h : s.bent.role = .solo) (t : State) : (if s.mirrored then s else t) = t :=
  if_neg (by rw [mirrored_of_solo h]; decide)

/-- A post in no bent has no mirror stream. -/
theorem mirror_of_solo (h : s.bent.role = .solo) (e : MirrorEntry) (w : MirrorWait) : s.mirror e w = s :=
  if_pos (by rw [h]; rfl)

theorem mirrorEntryOf_of_solo (h : s.bent.role = .solo) (i : Nat) : s.mirrorEntryOf i = s := mirror_of_solo h _ _

theorem mirrorRcvyOf_of_solo (h : s.bent.role = .solo) (r : Nat) : s.mirrorRcvyOf r = s := mirror_of_solo h _ _

theorem mirrorAccountOf_of_solo (h : s.bent.role = .solo) (a : Nat) : s.mirrorAccountOf a = s := mirror_of_solo h _ _

end Solo

/-! ### Learned entries, R347 -/

section Learned

variable {s : State}

theorem freeEntry_of_solo {h : Nat} (hsolo : s.bent.role = .solo) (hused : (s.entry h).state ≠ 0) :
    s.freeEntry h = { s.setEntry h {} with stream := { (s.setEntry h {}).stream with streamsFull := false } } := by
  simp only [State.freeEntry, hused, if_false]
  rw [mirrorEntryOf_of_solo (s := s.setEntry h {}) hsolo]

/-- A recovery function that becomes free leaves the entries and the accounts as they were. -/
theorem freeRcvy_of_solo (hsolo : s.bent.role = .solo) (r : Nat) :
    s.freeRcvy r = { s with stream := (s.freeRcvy r).stream } ∧ (s.freeRcvy r).stream.entries = s.stream.entries ∧
      (s.freeRcvy r).stream.accounts = s.stream.accounts := by
  unfold State.freeRcvy
  split
  · exact ⟨rfl, rfl, rfl⟩
  · rw [mirrorRcvyOf_of_solo (s := s.setRcvy r {}) hsolo]
    exact ⟨rfl, rfl, rfl⟩

theorem forget_of_solo {h : Nat} (hsolo : s.bent.role = .solo) (hused : (s.entry h).state ≠ 0) :
    s.forget h = { s with stream := (s.forget h).stream } ∧ (s.forget h).entry h = {} ∧
      (s.forget h).stream.accounts = s.stream.accounts := by
  simp only [State.forget, freeEntry_of_solo hsolo hused]
  split
  · obtain ⟨hframe, hentries, haccounts⟩ := freeRcvy_of_solo
      (s := { s.setEntry h {} with stream := { (s.setEntry h {}).stream with streamsFull := false } }) hsolo
      (s.entry h).rcvy
    refine ⟨?_, ?_, haccounts⟩
    · rw [hframe]
      rfl
    · rw [State.entry, hentries]
      exact State.entry_setEntry s h {}
  · exact ⟨rfl, State.entry_setEntry s h {}, rfl⟩

theorem learnAge_spec {h : Nat} (hsolo : s.bent.role = .solo) (hlearned : (s.entry h).state = 2) :
    s.learnAge h =
        { s with time := (s.learnAge h).time, stream := (s.learnAge h).stream, ctr := (s.learnAge h).ctr } ∧
      Passed s (s.learnAge h) ∧ (s.learnAge h).entry h = {} ∧
      (s.learnAge h).counter (stmBase + 0x218) = s.counter (stmBase + 0x218) + 1 ∧
      (s.learnAge h).stream.accounts = s.stream.accounts := by
  obtain ⟨u, hu⟩ : ∃ u, u = s.advanceTo (((s.entry h).lastSeen + s.reg (stmBase + 0x44)) * 781250) := ⟨_, rfl⟩
  have hlater : Later s u := hu ▸ later_advance s _
  have heq : s.learnAge h = (u.forget h).count (stmBase + 0x218) := by
    rw [hu]
    exact if_neg (by rw [hlearned]; decide)
  have hsolo' : u.bent.role = .solo := by rw [hlater.frame]; exact hsolo
  have hused : (u.entry h).state ≠ 0 := by
    rw [hlater.frame]
    exact hlearned.trans_ne (by decide)
  obtain ⟨hframe, hentry, haccounts⟩ := forget_of_solo hsolo' hused
  rw [heq]
  refine ⟨?_, ?_, hentry, ?_, haccounts.trans (by rw [hlater.frame])⟩
  · rw [hframe, hlater.frame]
    rfl
  · rw [hframe]
    exact hlater.passed
  · rw [State.counter_count, hframe, hlater.frame]
    rfl

end Learned

/-! ### Recovery functions, R362 and R363 -/

section Recovery

variable {s : State} {r : Nat}

theorem rcvyReset_spec (hsolo : s.bent.role = .solo) (hused : (s.rcvy r).state ≠ 0)
    (htake : (s.rcvy r).takeAny = false) :
    s.rcvyReset r =
        { s with time := (s.rcvyReset r).time, stream := (s.rcvyReset r).stream, ctr := (s.rcvyReset r).ctr } ∧
      Passed s (s.rcvyReset r) ∧
      (s.rcvyReset r).rcvy r = { s.rcvy r with takeAny := true, resets := (s.rcvy r).resets + 1 } ∧
      (s.rcvyReset r).counter (stmBase + 0x258) = s.counter (stmBase + 0x258) + 1 := by
  obtain ⟨u, hu⟩ : ∃ u, u = s.advanceTo ((s.rcvy r).lastPass + msTicks (s.rcvy r).resetMs) := ⟨_, rfl⟩
  have hlater : Later s u := hu ▸ later_advance s _
  obtain ⟨v, hv⟩ : ∃ v, v = u.setRcvy r { s.rcvy r with takeAny := true, resets := (s.rcvy r).resets + 1 } := ⟨_, rfl⟩
  have hsolo' : (v.count (stmBase + 0x258)).bent.role = .solo := by
    rw [hv, hlater.frame]
    exact hsolo
  have heq : s.rcvyReset r = v.count (stmBase + 0x258) := by
    refine Eq.trans ?_ (mirrorRcvyOf_of_solo hsolo' r)
    rw [hv, hu]
    exact if_neg (by simp [hused, htake])
  rw [heq]
  refine ⟨?_, ?_, ?_, ?_⟩
  · rw [hv, hlater.frame]
    rfl
  · rw [hv]
    exact hlater.passed
  · rw [hv]
    exact State.rcvy_setRcvy ..
  · rw [State.counter_count, hv, hlater.frame]
    rfl

/-- A latent error of a recovery function gives one notice. -/
theorem rcvyLatent_spec (hused : (s.rcvy r).state ≠ 0) (hon : (s.rcvy r).leEn = true)
    (hbad : State.latent (s.rcvy r).paths (modSub 64 (s.rcvy r).passed.toNat (s.rcvy r).leBasePassed)
      (modSub 64 (s.rcvy r).discarded.toNat (s.rcvy r).leBaseDiscarded) (s.rcvy r).leDiff = true) :
    s.rcvyLatent r = { s with time := (s.rcvyLatent r).time, stream := (s.rcvyLatent r).stream,
                              ctr := (s.rcvyLatent r).ctr, notices := (s.rcvyLatent r).notices } ∧
      Passed s (s.rcvyLatent r) ∧ ((s.rcvyLatent r).rcvy r).latentErrors = (s.rcvy r).latentErrors + 1 ∧
      ((s.rcvyLatent r).rcvy r).leBasePassed = (s.rcvy r).passed.toNat ∧
      (s.rcvyLatent r).notices.length = s.notices.length + 1 := by
  obtain ⟨u, hu⟩ : ∃ u, u = s.advanceTo ((s.rcvy r).leStart + msTicks (s.rcvy r).lePeriod) := ⟨_, rfl⟩
  have hlater : Later s u := hu ▸ later_advance s _
  obtain ⟨v, hv⟩ : ∃ v : Recovery, v = { s.rcvy r with
    leStart := u.time.ticks, leBasePassed := (s.rcvy r).passed.toNat
    leBaseDiscarded := (s.rcvy r).discarded.toNat, latentErrors := (s.rcvy r).latentErrors + 1 } := ⟨_, rfl⟩
  obtain ⟨w, hw⟩ : ∃ w, w = (u.setRcvy r v).count (stmBase + 0x260) := ⟨_, rfl⟩
  have heq : s.rcvyLatent r = w.streamNotice 1 false ((u.setRcvy r v).handleOfRcvy r) r := by
    refine (if_neg (by simp [hused, hon])).trans ?_
    simp only [hbad, if_true, hw, hv, hu]
  rw [heq]
  have hrcvy : w.rcvy r = v := by rw [hw]; exact State.rcvy_setRcvy u r v
  refine ⟨?_, ?_, ?_, ?_, ?_⟩
  · rw [hw, hlater.frame]
    rfl
  · rw [hw]
    exact hlater.passed
  · exact (congrArg Recovery.latentErrors hrcvy).trans (by rw [hv])
  · exact (congrArg Recovery.leBasePassed hrcvy).trans (by rw [hv])
  · rw [hw, hlater.frame]
    exact List.length_append ..

/-- A frame without the tag that its function reads is discarded as TAGLESS. -/
theorem recover_of_untagged {v : View} (hnone : v.seqOf (s.rcvy r).format = none) (id : Nat) :
    s.recover id r v = (.discard,
      (s.setRcvy r { s.rcvy r with tagless := (s.rcvy r).tagless + 1 }).count (stmBase + 0x250)) := by
  simp only [State.recover, hnone, Option.bind_none]

theorem recoverEntry_of_bound {h : Nat} (hon : (s.entry h).rcvyEn = true) (hbound : (s.entry h).unrecovered = false)
    (id port : Nat) (v : View) : s.recoverEntry id h port v = s.recover id (s.entry h).rcvy v := by
  simp only [State.recoverEntry, hon, hbound, Bool.not_true, Bool.not_false, Bool.false_eq_true, if_false, if_true]

end Recovery

/-! ### What the stream engine does at one instant -/

/-- Only the tables of the stream engine, the counters, the frames and the joinery have changed. -/
structure EngineStep (s t : State) : Prop where
  frame : t = { s with stream := t.stream, ctr := t.ctr, frames := t.frames, joinery := t.joinery }

namespace EngineStep

variable {s t u : State}

theorem refl (s : State) : EngineStep s s := ⟨rfl⟩

theorem trans (h : EngineStep s t) (g : EngineStep t u) : EngineStep s u := ⟨by rw [g.frame, h.frame]⟩

theorem count (s : State) (o : Nat) : EngineStep s (s.count o) := ⟨rfl⟩

theorem setAccount (s : State) (a : Nat) (v : Account) : EngineStep s (s.setAccount a v) := ⟨rfl⟩

theorem setRcvy (s : State) (r : Nat) (v : Recovery) : EngineStep s (s.setRcvy r v) := ⟨rfl⟩

theorem setFrame (s : State) (id : Nat) (f : Option Frame) : EngineStep s (s.setFrame id f) := ⟨rfl⟩

theorem deliver (s : State) (a id path : Nat) : EngineStep s (s.deliver a id path) :=
  ((setFrame s id _).trans (setAccount _ a _)).trans (count _ _)

theorem release (s : State) (id : Nat) : EngineStep s (s.release id) := ⟨rfl⟩

theorem orderDrop (s : State) (id : Nat) : EngineStep s (s.orderDrop id) := ⟨rfl⟩

end EngineStep

/-! ### Accounts, R372 to R374 and R378 -/

section Accounts

variable {s : State} {a : Nat}

/-- A test period without a latent error only starts the next one. -/
theorem accountLatent_spec (hdefined : (s.account a).defined = true) (hon : (s.account a).leEn = true)
    (hgood : State.latent (((s.account a).paths.filter (·.valid)).length - 1)
      (modSub 64 (s.account a).passed.toNat (s.account a).leBasePassed)
      (modSub 64 (s.account a).duplicate.toNat (s.account a).leBaseDuplicate) (s.account a).leDiff = false) :
    s.accountLatent a = { s with time := (s.accountLatent a).time, stream := (s.accountLatent a).stream } ∧
      Passed s (s.accountLatent a) ∧ ((s.accountLatent a).account a).leStart = (s.accountLatent a).time.ticks ∧
      ((s.accountLatent a).account a).leBasePassed = (s.account a).passed.toNat ∧
      ((s.accountLatent a).account a).latentErrors = (s.account a).latentErrors := by
  obtain ⟨u, hu⟩ : ∃ u, u = s.advanceTo ((s.account a).leStart + msTicks (s.account a).lePeriod) := ⟨_, rfl⟩
  have hlater : Later s u := hu ▸ later_advance s _
  have heq : s.accountLatent a = u.setAccount a { s.account a with
      leStart := u.time.ticks, leBasePassed := (s.account a).passed.toNat
      leBaseDuplicate := (s.account a).duplicate.toNat } := by
    refine (if_neg (by simp [hdefined, hon])).trans ?_
    simp only [hgood, Bool.false_eq_true, if_false, hu]
  rw [heq, State.account_setAccount]
  refine ⟨?_, hlater.passed, rfl, rfl, rfl⟩
  rw [hlater.frame]
  rfl

theorem accountReset_spec (hsolo : s.bent.role = .solo) (hdefined : (s.account a).defined = true)
    (htake : (s.account a).takeAny = false) (hheld : (s.account a).held = []) :
    s.accountReset a = { s with time := (s.accountReset a).time, stream := (s.accountReset a).stream,
                                ctr := (s.accountReset a).ctr, notices := (s.accountReset a).notices } ∧
      Passed s (s.accountReset a) ∧
      (s.accountReset a).account a = { s.account a with takeAny := true, resets := (s.account a).resets + 1 } ∧
      (s.accountReset a).counter (stmBase + 0x2C8) = s.counter (stmBase + 0x2C8) + 1 := by
  obtain ⟨u, hu⟩ : ∃ u, u = s.advanceTo ((s.account a).lastPass + msTicks (s.account a).resetMs) := ⟨_, rfl⟩
  have hlater : Later s u := hu ▸ later_advance s _
  obtain ⟨v, hv⟩ : ∃ v, v = u.setAccount a { s.account a with takeAny := true, resets := (s.account a).resets + 1 } :=
    ⟨_, rfl⟩
  have hsolo' : ((v.count (stmBase + 0x2C8)).streamNotice 4 true a 0).bent.role = .solo := by
    rw [hv, hlater.frame]
    exact hsolo
  have heq : s.accountReset a = (v.count (stmBase + 0x2C8)).streamNotice 4 true a 0 := by
    refine Eq.trans ?_ (mirrorAccountOf_of_solo hsolo' a)
    rw [hv, hu]
    exact if_neg (by simp [hdefined, htake, hheld])
  rw [heq]
  refine ⟨?_, ?_, ?_, ?_⟩
  · rw [hv, hlater.frame]
    rfl
  · rw [hv]
    exact hlater.passed
  · rw [hv]
    exact State.account_setAccount ..
  · refine (State.counter_count v _).trans ?_
    rw [hv, hlater.frame]
    rfl

/-! #### The numbers of an account -/

theorem le_accountQ (x : Account) : 2 ^ 28 - 1 ≤ accountQ x := by
  unfold accountQ
  split <;> decide

/-- The distance of R372 from n to a number k further, modulo an account's numbers. -/
theorem distance_add {n k q : Nat} (hn : n < q) (hk : k < q) : (n + k + q - n % q) % q = k := by
  rw [Nat.mod_eq_of_lt hn, show n + k + q - n = k + q by omega, Nat.add_mod_right, Nat.mod_eq_of_lt hk]

/-- The one packet held, one number after NEXT, is the highest. -/
theorem highestHeld_of_next {x : Account} {y : HeldPacket} (hheld : x.held = [y]) (hseq : y.seq = x.next + 1)
    (hlt : y.seq < accountQ x) : State.highestHeld x = y.seq := by
  have hfar : (y.seq + accountQ x - x.next % accountQ x) % accountQ x = 1 := by
    have hq := le_accountQ x
    rw [hseq]
    exact distance_add (by omega) (by omega)
  simp only [State.highestHeld, hheld, List.foldl_cons, List.foldl_nil, hfar, Nat.zero_max]
  rw [← hseq]
  exact Nat.mod_eq_of_lt hlt

/-- An account that skips its number NEXT, the first of a gap (R376). -/
def Account.skipNext (x : Account) : Account :=
  { x with delivered := 2 * x.delivered % 2 ^ 1024, next := (x.next + 1) % accountQ x
           gapSeqs := x.gapSeqs + 1, gap := x.gap + 1, gapReleased := x.gapReleased + 1 }

@[simp] theorem skipNext_held (x : Account) : x.skipNext.held = x.held := rfl

theorem skipNext_next {x : Account} {n : Nat} (hnext : n = x.next + 1) (hlt : n < accountQ x) :
    x.skipNext.next = n := by
  rw [hnext] at hlt ⊢
  exact Nat.mod_eq_of_lt hlt

theorem releaseLoop_skips (n : Nat) (hnone : (s.account a).held.find? (fun h => h.seq == (s.account a).next) = none)
    (hskip : (s.account a).skipSet = []) :
    s.releaseLoop a false (n + 1) = (((s.count (stmBase + 0x2A8)).count (stmBase + 0x2B0)).setAccount a
      (s.account a).skipNext).releaseLoop a true n := by
  have hcounted : (s.account a).skipSet.contains (s.account a).next = false := by
    rw [hskip]
    rfl
  rw [State.releaseLoop]
  simp only [hnone, hcounted, Bool.false_eq_true, if_false]
  rfl

theorem releaseLoop_delivers {h : HeldPacket} (n : Nat) (run : Bool)
    (hsome : (s.account a).held.find? (fun h => h.seq == (s.account a).next) = some h) :
    s.releaseLoop a run (n + 1) = (s.deliverOneHeld a h).releaseLoop a false n := by
  rw [State.releaseLoop]
  simp only [hsome]

theorem deliver_account (id path : Nat) :
    ((s.deliver a id path).account a).held = (s.account a).held ∧
      ((s.deliver a id path).account a).next = ((s.account a).next + 1) % accountQ (s.account a) ∧
      ((s.deliver a id path).account a).gapSeqs = (s.account a).gapSeqs ∧
      ((s.deliver a id path).account a).passed = (s.account a).passed + 1 := by
  have haccount : (s.deliver a id path).account a = { s.account a with
      delivered := (2 * (s.account a).delivered + 1) % 2 ^ 1024
      next := ((s.account a).next + 1) % accountQ (s.account a), gap := 0
      passed := (s.account a).passed + 1, lastPass := s.time.ticks
      won := Tab.set 0 (s.account a).won path (Tab.get 0 (s.account a).won path + 1) } := State.account_setAccount ..
  rw [haccount]
  exact ⟨rfl, rfl, rfl, rfl⟩

/-- The ordering pool's own mark is all that its check may change. -/
theorem poolDrained_step (s : State) : EngineStep s s.poolDrained ∧
    s.poolDrained.stream.accounts = s.stream.accounts ∧ s.poolDrained.joinery = s.joinery := by
  unfold State.poolDrained
  split
  · exact ⟨⟨rfl⟩, rfl, rfl⟩
  · exact ⟨.refl s, rfl, rfl⟩

/-- A held packet leaves the list of those held, and its frame goes to a new thread. -/
theorem deliverOneHeld_spec (h : HeldPacket) :
    EngineStep s (s.deliverOneHeld a h) ∧
      ((s.deliverOneHeld a h).account a).held = (s.account a).held.filter (fun y => y.seq != h.seq) ∧
      ((s.deliverOneHeld a h).account a).next = ((s.account a).next + 1) % accountQ (s.account a) ∧
      ((s.deliverOneHeld a h).account a).gapSeqs = (s.account a).gapSeqs ∧
      ((s.deliverOneHeld a h).account a).passed = (s.account a).passed + 1 ∧
      (s.deliverOneHeld a h).joinery.released = s.joinery.released ++ [h.frame] := by
  obtain ⟨u, hu⟩ : ∃ u, u = s.setAccount a { s.account a with
    held := (s.account a).held.filter (fun y => y.seq != h.seq) } := ⟨_, rfl⟩
  obtain ⟨v, hv⟩ : ∃ v, v = u.deliver a h.frame h.path := ⟨_, rfl⟩
  obtain ⟨w, hw⟩ : ∃ w, w = v.release h.frame := ⟨_, rfl⟩
  have heq : s.deliverOneHeld a h = w.poolDrained := by
    rw [hw, hv, hu]
    rfl
  have huaccount : u.account a = { s.account a with
      held := (s.account a).held.filter (fun y => y.seq != h.seq) } := by
    rw [hu]
    exact State.account_setAccount ..
  obtain ⟨hheld, hnext, hgap, hpassed⟩ := hv ▸ deliver_account (s := u) (a := a) h.frame h.path
  obtain ⟨hdrained, haccounts, hjoinery⟩ := poolDrained_step w
  have hkept : w.poolDrained.account a = v.account a := by
    rw [State.account, haccounts, hw]
    rfl
  rw [heq, hkept, hheld, hnext, hgap, hpassed, hjoinery, huaccount]
  refine ⟨?_, rfl, rfl, rfl, rfl, ?_⟩
  · refine EngineStep.trans ?_ hdrained
    rw [hw, hv, hu]
    exact ((EngineStep.setAccount s a _).trans (.deliver _ a _ _)).trans (.release _ _)
  · rw [hw, hv, hu]
    rfl

/-- The number before the one packet held is skipped, and the packet is delivered. -/
theorem releaseThrough_of_next {x : HeldPacket} (hsolo : s.bent.role = .solo) (hheld : (s.account a).held = [x])
    (hskip : (s.account a).skipSet = []) (hseq : x.seq = (s.account a).next + 1)
    (hlt : x.seq < accountQ (s.account a)) :
    s.releaseThrough a x.seq = (((s.count (stmBase + 0x2A8)).count (stmBase + 0x2B0)).setAccount a
      (s.account a).skipNext).deliverOneHeld a x := by
  obtain ⟨u, hu⟩ : ∃ u, u = ((s.count (stmBase + 0x2A8)).count (stmBase + 0x2B0)).setAccount a
    (s.account a).skipNext := ⟨_, rfl⟩
  have haccount : u.account a = (s.account a).skipNext := by
    rw [hu]
    exact State.account_setAccount ..
  have htwo : (x.seq + 1 + accountQ (s.account a) - (s.account a).next % accountQ (s.account a)) %
      accountQ (s.account a) = 2 := by
    have hq := le_accountQ (s.account a)
    rw [hseq]
    exact distance_add (k := 2) (by omega) (by omega)
  have hnone : (s.account a).held.find? (fun h => h.seq == (s.account a).next) = none := by
    simp [hheld, hseq]
  have hsome : (u.account a).held.find? (fun h => h.seq == (u.account a).next) = some x := by
    rw [haccount, skipNext_next hseq hlt]
    simp [hheld]
  obtain ⟨hstep, hempty, -⟩ := deliverOneHeld_spec (s := u) (a := a) x
  have hempty' : ((u.deliverOneHeld a x).account a).held = [] := by
    rw [hempty, haccount]
    simp [hheld]
  have hsolo' : (u.deliverOneHeld a x).bent.role = .solo := by
    rw [hstep.frame, hu]
    exact hsolo
  have hloop : s.releaseLoop a false 2 = u.deliverOneHeld a x := by
    rw [releaseLoop_skips 1 hnone hskip, ← hu, releaseLoop_delivers 0 true hsome, State.releaseLoop]
  rw [State.releaseThrough]
  simp only [htwo, hloop, hempty', List.length_nil, State.deliverHeld]
  rw [mirrorAccountOf_of_solo hsolo', hu]

theorem holdExpire_spec {x : HeldPacket} (hsolo : s.bent.role = .solo) (hheld : (s.account a).held = [x])
    (hskip : (s.account a).skipSet = []) (hseq : x.seq = (s.account a).next + 1)
    (hlt : x.seq < accountQ (s.account a)) :
    s.holdExpire a = { s with
        time := (s.holdExpire a).time, stream := (s.holdExpire a).stream, frames := (s.holdExpire a).frames
        joinery := (s.holdExpire a).joinery, ctr := (s.holdExpire a).ctr } ∧
      Passed s (s.holdExpire a) ∧ ((s.holdExpire a).account a).held = [] ∧
      ((s.holdExpire a).account a).next = (x.seq + 1) % accountQ (s.account a) ∧
      ((s.holdExpire a).account a).gapSeqs = (s.account a).gapSeqs + 1 ∧
      ((s.holdExpire a).account a).passed = (s.account a).passed + 1 ∧
      (s.holdExpire a).joinery.released = s.joinery.released ++ [x.frame] := by
  obtain ⟨u, hu⟩ : ∃ u, u = s.advanceTo ((s.account a).holdStart + usTicks (s.account a).holdMax) := ⟨_, rfl⟩
  have hlater : Later s u := hu ▸ later_advance s _
  have haccount : u.account a = s.account a := by
    rw [hlater.frame]
    rfl
  obtain ⟨v, hv⟩ : ∃ v, v = ((u.count (stmBase + 0x2A8)).count (stmBase + 0x2B0)).setAccount a
    (u.account a).skipNext := ⟨_, rfl⟩
  have hskipped : v.account a = (s.account a).skipNext := by
    rw [hv, ← haccount]
    exact State.account_setAccount ..
  have heq : s.holdExpire a = v.deliverOneHeld a x := by
    have hexpires : s.holdExpire a = u.releaseThrough a (State.highestHeld (s.account a)) := by
      rw [hu]
      exact if_neg (by simp [hheld])
    rw [hexpires, highestHeld_of_next hheld hseq hlt, hv]
    rw [← haccount] at hheld hskip hseq hlt
    exact releaseThrough_of_next (by rw [hlater.frame]; exact hsolo) hheld hskip hseq hlt
  obtain ⟨hstep, hempty, hnext, hgap, hpassed, hreleased⟩ := deliverOneHeld_spec (s := v) (a := a) x
  have hskips : EngineStep u v := by
    rw [hv]
    exact ((EngineStep.count u _).trans (.count _ _)).trans (.setAccount _ a _)
  obtain ⟨t, ht⟩ : ∃ t, t = v.deliverOneHeld a x := ⟨_, rfl⟩
  rw [← ht] at hstep
  rw [heq, hempty, hnext, hgap, hpassed, hreleased, hskipped, skipNext_next hseq hlt, ← ht]
  refine ⟨?_, ?_, ?_, rfl, rfl, rfl, ?_⟩
  · rw [(hskips.trans hstep).frame, hlater.frame]
  · rw [(hskips.trans hstep).frame]
    exact hlater.passed
  · simp [hheld]
  · rw [hv, hlater.frame]
    rfl

end Accounts

/-! ### Frames that wait for a fetch, R379 -/

section Fetch

variable {s : State} {id h : Nat} {f : Frame}

/-- No joiner is fenced for a test. -/
theorem testsBegin_of_no_fence (hnone : s.joinery.fences = []) : s.testsBegin = s := by
  have hmap (g : Nat × JoinerFence → Nat × JoinerFence) : s.joinery.fences.map g = s.joinery.fences := by
    rw [hnone]
    rfl
  rw [State.testsBegin, hmap]

/-- A discarded frame leaves the hold; its ingress port sends no pause frames. -/
theorem dropFrame_of_quiet {p : Nat} (hframe : s.frame id = some f) (horigin : f.origin = .rx p)
    (hquiet : s.txGen p = false) : s.dropFrame id = (s.orderDrop id).setFrame id none := by
  have hframe' : (s.orderDrop id).frame id = some f := hframe
  have hquiet' : ((s.orderDrop id).setFrame id none).txGen p = false := hquiet
  simp only [State.dropFrame, State.freeFrame, hframe', horigin, State.pauseCheck, hquiet', Bool.not_false, if_true]

/-- The frame that waited alone is handled. -/
theorem fetchDone_of_alone (hwait : s.stream.waiting = [id]) :
    s.fetchDone id = ({ s with stream := { s.stream with waiting := [] } } : State).secondDomain id := by
  simp [State.fetchDone, hwait]

/-- A frame that is discarded and that no thread holds is dropped. -/
theorem secondDomain_of_discard {u : State} (hframe : s.frame id = some f) (haccount : f.account = none)
    (hhandle : f.handle = some h) (hdiscard : s.recoverEntry id h (State.inPort f) (s.viewOf f) = (.discard, u))
    (hthread : u.threadOf id = none) : s.secondDomain id = u.dropFrame id := by
  simp only [State.secondDomain, hframe, haccount, hhandle, hdiscard, hthread]

theorem fetchDone_spec {p : Nat} (hwait : s.stream.waiting = [id]) (hframe : s.frame id = some f)
    (hhandle : f.handle = some h) (haccount : f.account = none) (horigin : f.origin = .rx p)
    (hquiet : s.txGen p = false) (hthread : s.threadOf id = none) (hon : (s.entry h).rcvyEn = true)
    (hbound : (s.entry h).unrecovered = false)
    (hnone : (s.viewOf f).seqOf (s.rcvy (s.entry h).rcvy).format = none) :
    EngineStep s (s.fetchDone id) ∧ (s.fetchDone id).joinery.fences = s.joinery.fences ∧
      (s.fetchDone id).stream.waiting = [] ∧
      ((s.fetchDone id).rcvy (s.entry h).rcvy).tagless = (s.rcvy (s.entry h).rcvy).tagless + 1 ∧
      (s.fetchDone id).frame id = none ∧
      (s.fetchDone id).counter (stmBase + 0x250) = s.counter (stmBase + 0x250) + 1 := by
  obtain ⟨r, hr⟩ : ∃ r, r = (s.entry h).rcvy := ⟨_, rfl⟩
  obtain ⟨u, hu⟩ : ∃ u : State, u = { s with stream := { s.stream with waiting := [] } } := ⟨_, rfl⟩
  obtain ⟨w, hw⟩ : ∃ w, w = u.setRcvy r { u.rcvy r with tagless := (u.rcvy r).tagless + 1 } := ⟨_, rfl⟩
  obtain ⟨v, hv⟩ : ∃ v, v = w.count (stmBase + 0x250) := ⟨_, rfl⟩
  have hrcvy : u.rcvy r = s.rcvy r := by
    rw [hu]
    rfl
  have hstep : EngineStep s v := by
    rw [hv, hw]
    exact (EngineStep.trans ⟨by rw [hu]⟩ (.setRcvy u r _)).trans (.count _ _)
  have hframes : v.frames = s.frames := by
    rw [hv, hw, hu]
    rfl
  have hjoinery : v.joinery = s.joinery := by
    rw [hv, hw, hu]
    rfl
  have hdiscard : u.recoverEntry id h (State.inPort f) (u.viewOf f) = (.discard, v) := by
    have hentry : u.entry h = s.entry h := by
      rw [hu]
      rfl
    have hview : u.viewOf f = s.viewOf f := by
      rw [hu]
      rfl
    rw [recoverEntry_of_bound (by rw [hentry, hon]) (by rw [hentry, hbound]), hentry, ← hr, hview, hv, hw]
    exact recover_of_untagged (by rw [hrcvy, hr, hnone]) id
  have hdrop : v.dropFrame id = (v.orderDrop id).setFrame id none := by
    refine dropFrame_of_quiet (by rw [State.frame, hframes]; exact hframe) horigin ?_
    rw [hstep.frame]
    exact hquiet
  have heq : s.fetchDone id = (v.orderDrop id).setFrame id none := by
    rw [fetchDone_of_alone hwait, ← hu, ← hdrop]
    refine secondDomain_of_discard (by rw [hu]; exact hframe) haccount hhandle hdiscard ?_
    rw [State.threadOf, hjoinery]
    exact hthread
  have hfound : v.rcvy r = { u.rcvy r with tagless := (u.rcvy r).tagless + 1 } := by
    rw [hv, hw]
    exact State.rcvy_setRcvy u r _
  have hfences : v.joinery.fences = s.joinery.fences := congrArg Joinery.fences hjoinery
  rw [heq, ← hr]
  refine ⟨(hstep.trans (.orderDrop v id)).trans (.setFrame _ id none), hfences, ?_,
    (congrArg Recovery.tagless hfound).trans (by rw [hrcvy]), State.frame_setFrame .., ?_⟩
  · rw [hv, hw, hu]
    rfl
  · refine (congrArg (·.counter (stmBase + 0x250)) hv).trans ((State.counter_count w _).trans ?_)
    rw [hw, hu]
    rfl

/-- Without stream filters nothing is policed. -/
theorem police_of_no_filter (hnone : s.stream.filters = []) (handle : Option Nat) (prio len t : Nat) (dei : Bool) :
    s.police handle prio len t dei = (true, false, s) := by
  simp [State.police, State.filterFor, hnone, Tab.findKey]

/-- A frame identified by a stream's entry carries its handle to the second domain. -/
theorem engineFrame_of_stream {k : Nat} {u : State} (miss : Bool) (hframe : s.frame id = some f)
    (hthread : s.threadOf id = some k) (hid : s.identify (State.inPort f) (s.viewOf f) f.bytes = (.stream h, u))
    (hfilters : u.stream.filters = []) :
    ∃ p : Frame → Nat, s.engineFrame id miss = (u.modFrame id fun x =>
      { x with handle := some h, account := none, path := p x, legal := false }).reachSecond id miss := by
  refine ⟨fun x => if (u.entry h).state = 2 then (if State.inPort x == u.learnPortA (u.entry h).rule then 0 else 1)
    else (u.entry h).path, ?_⟩
  simp only [State.engineFrame, hframe, hthread, hid]
  rw [police_of_no_filter (by exact hfilters)]
  rfl

/-- A frame whose function is not in the cache waits for it. -/
theorem reachSecond_of_miss {r : Nat} (hkey : s.domainKey id = some (false, r)) :
    s.reachSecond id true = { s.count (stmBase + 0x278) with
      stream := { s.stream with waiting := s.stream.waiting ++ [id] } } := by
  simp only [State.reachSecond, hkey, Option.isSome_some, Bool.true_or, Bool.and_self, if_true]
  rfl

theorem domainKey_of_stream (hframe : s.frame id = some f) (haccount : f.account = none) (hhandle : f.handle = some h)
    (hon : (s.entry h).rcvyEn = true) (hbound : (s.entry h).unrecovered = false) :
    s.domainKey id = some (false, (s.entry h).rcvy) := by
  simp [State.domainKey, hframe, haccount, hhandle, hon, hbound]

theorem engineFrame_of_miss {k : Nat} {u : State} (hframe : s.frame id = some f) (hthread : s.threadOf id = some k)
    (hid : s.identify (State.inPort f) (s.viewOf f) f.bytes = (.stream h, u)) (hkept : u.frames = s.frames)
    (hfilters : u.stream.filters = []) (hon : (u.entry h).rcvyEn = true) (hbound : (u.entry h).unrecovered = false) :
    ∃ x : Frame, x.handle = some h ∧ s.engineFrame id true = { (u.setFrame id (some x)).count (stmBase + 0x278) with
      stream := { u.stream with waiting := u.stream.waiting ++ [id] } } := by
  obtain ⟨p, heq⟩ := engineFrame_of_stream true hframe hthread hid hfilters
  obtain ⟨x, hx⟩ : ∃ x : Frame, x = { f with handle := some h, account := none, path := p f, legal := false } :=
    ⟨_, rfl⟩
  have hmod : (u.modFrame id fun x => { x with handle := some h, account := none, path := p x, legal := false }) =
      u.setFrame id (some x) := by
    rw [State.modFrame, State.frame, hkept, ← State.frame, hframe, hx]
    rfl
  have hkey := domainKey_of_stream (s := u.setFrame id (some x)) (State.frame_setFrame ..) (by rw [hx]) (by rw [hx])
    hon hbound
  exact ⟨x, by rw [hx], by rw [heq, hmod, reachSecond_of_miss hkey]; rfl⟩

theorem streamEngineFrame_spec {k : Nat} {x : Stream} {y : Tab DWord} (hturn : s.engineTurn id = true)
    (hframe : s.frame id = some f) (hthread : s.threadOf id = some k) (hfences : s.joinery.fences = [])
    (hstream : (s.identify (State.inPort f) (s.viewOf f) f.bytes).1 = .stream h)
    (hfound : (s.identify (State.inPort f) (s.viewOf f) f.bytes).2 = { s with stream := x, ctr := y })
    (hfilters : x.filters = []) (hwait : x.waiting = s.stream.waiting)
    (hon : (Tab.get ({} : StreamEntry) x.entries h).rcvyEn = true)
    (hbound : (Tab.get ({} : StreamEntry) x.entries h).unrecovered = false) :
    ∃ t, exec (.streamEngineFrame id true) s = .next t ∧
      t = { s with stream := t.stream, ctr := t.ctr, frames := t.frames } ∧
      t.stream.waiting = s.stream.waiting ++ [id] ∧ (t.frame id).map (·.handle) = some (some h) ∧
      t.counter (stmBase + 0x278) = Tab.get 0 y (stmBase + 0x278) + 1 := by
  obtain ⟨g, hhandle, heq⟩ := engineFrame_of_miss (u := { s with stream := x, ctr := y }) hframe hthread
    (Prod.ext hstream hfound) rfl hfilters hon hbound
  have hexec : exec (.streamEngineFrame id true) s = ok (s.engineFrame id true) := by
    refine congrArg ok ((if_pos hturn).trans ?_)
    rw [heq]
    exact testsBegin_of_no_fence hfences
  rw [heq] at hexec
  refine ⟨_, hexec, rfl, ?_, ?_, Tab.get_set_same ..⟩
  · exact congrArg (· ++ [id]) hwait
  · exact (congrArg (Option.map Frame.handle) (State.frame_setFrame _ id (some g))).trans (congrArg some hhandle)

theorem cacheFetchDone_spec {p : Nat} (hwait : s.stream.waiting = [id]) (hframe : s.frame id = some f)
    (hhandle : f.handle = some h) (haccount : f.account = none) (horigin : f.origin = .rx p)
    (hquiet : s.txGen p = false) (hthread : s.threadOf id = none) (hfences : s.joinery.fences = [])
    (hon : (s.entry h).rcvyEn = true) (hbound : (s.entry h).unrecovered = false)
    (hnone : (s.viewOf f).seqOf (s.rcvy (s.entry h).rcvy).format = none) :
    ∃ t, exec (.cacheFetchDone id) s = .next t ∧
      t = { s with stream := t.stream, ctr := t.ctr, frames := t.frames, joinery := t.joinery } ∧
      t.stream.waiting = [] ∧ (t.rcvy (s.entry h).rcvy).tagless = (s.rcvy (s.entry h).rcvy).tagless + 1 ∧
      (t.frame id).isNone = true ∧ t.counter (stmBase + 0x250) = s.counter (stmBase + 0x250) + 1 := by
  obtain ⟨hchange, hkept, hempty, htagless, hgone, hcount⟩ :=
    fetchDone_spec hwait hframe hhandle haccount horigin hquiet hthread hon hbound hnone
  refine ⟨_, congrArg ok (testsBegin_of_no_fence (hkept.trans hfences)), hchange.frame, hempty, htagless, ?_, hcount⟩
  rw [hgone]
  rfl

end Fetch

/-- Settles O24, event by event. -/
theorem streamTimersComplete : Obligations.StreamTimersComplete := by
  refine ⟨fun s h hsolo hlearned => ?learnAge, fun s r hsolo hused htake => ?rcvyReset,
    fun s r hsolo hused hon hbad => ?rcvyLatent, fun s a hsolo hdefined hon hgood => ?accountLatent,
    fun s a x hsolo hheld hskip hseq hlt => ?holdExpire, fun s a hsolo hdefined htake hheld => ?accountReset,
    fun s id h f hwait hframes hhandle haccount horigin hquiet hthread hfences hon hbound hnone => ?fetchDone,
    fun s id k h f x y hturn hframe hthread hfences hstream hfound hfilters hwait hon hbound => ?engineFrame⟩
  case learnAge => exact ⟨_, congrArg ok (runs_of_solo hsolo _), learnAge_spec hsolo hlearned⟩
  case rcvyReset => exact ⟨_, congrArg ok (runs_of_solo hsolo _), rcvyReset_spec hsolo hused htake⟩
  case rcvyLatent =>
    exact ⟨_, congrArg ok ((runs_of_solo hsolo _).trans (if_neg Bool.false_ne_true)), rcvyLatent_spec hused hon hbad⟩
  case accountLatent =>
    exact ⟨_, congrArg ok ((runs_of_solo hsolo _).trans (if_pos rfl)), accountLatent_spec hdefined hon hgood⟩
  case holdExpire => exact ⟨_, congrArg ok (runs_of_solo hsolo _), holdExpire_spec hsolo hheld hskip hseq hlt⟩
  case accountReset => exact ⟨_, congrArg ok (runs_of_solo hsolo _), accountReset_spec hsolo hdefined htake hheld⟩
  case fetchDone =>
    have hframe : s.frame id = some f := by
      rw [State.frame, hframes]
      exact if_pos rfl
    exact cacheFetchDone_spec hwait hframe hhandle haccount horigin hquiet hthread hfences hon hbound hnone
  case engineFrame =>
    exact streamEngineFrame_spec hturn hframe hthread hfences hstream hfound hfilters hwait hon hbound

end Sys2Proof.Machine
end

section
/-!
PROOFS. Events of the joinery, its control store, the spill engine and the window queue (R29, R30, R397, R398, R405, R421,
R429, R430, R438, R448, R468, R670, R731, R770). The instants to which a timer's event moves the clock are log entry 26,
the whole-frame move of the spill engine is log entry 83, and what DISPATCHED counts is log entry 94.
-/

namespace Sys2Proof.Machine

open Sys2Proof.Claims

/-! ### Lists and tables -/

/-- A table whose every value changes, where an unlisted key's value stays. -/
theorem Tab.get_map {α : Type} {d : α} {f : Nat → α → α} (hd : ∀ i, f i d = d) (t : Tab α) (i : Nat) :
    Tab.get d (t.map fun e => (e.1, f e.1 e.2)) i = f i (Tab.get d t i) := by
  induction t with
  | nil => exact (hd i).symm
  | cons e t ih =>
    by_cases hi : i = e.1
    · simp [Tab.get, hi]
    · simpa [Tab.get, hi] using ih

theorem contains_addBit (n : Nat) (l : List Nat) : (State.addBit n l).contains n = true := by
  induction l with
  | nil => simp [State.addBit]
  | cons a l ih =>
    unfold State.addBit
    split
    · next h => simp [h]
    · split
      · simp
      · simpa using .inr (List.contains_iff_mem.1 ih)

theorem contains_filter_bne (n : Nat) (l : List Nat) : (l.filter (· != n)).contains n = false := by simp

/-! ### Threads and fences -/

section Threads

variable {s : State} {k : Nat}

@[simp] theorem thread_setThread (s : State) (k : Nat) (x : Option Thread) : (s.setThread k x).thread k = x :=
  Tab.get_set_same ..

@[simp] theorem thread_testsBegin (s : State) (k : Nat) : s.testsBegin.thread k = s.thread k := rfl

@[simp] theorem frame_setThread (s : State) (k id : Nat) (x : Option Thread) : (s.setThread k x).frame id = s.frame id :=
  rfl

@[simp] theorem counter_setThread (s : State) (k o : Nat) (x : Option Thread) :
    (s.setThread k x).counter o = s.counter o := rfl

@[simp] theorem thread_countN (s : State) (o n k : Nat) : (s.countN o n).thread k = s.thread k := rfl

@[simp] theorem frame_countN (s : State) (o n id : Nat) : (s.countN o n).frame id = s.frame id := rfl

@[simp] theorem counter_setFrame (s : State) (id o : Nat) (f : Option Frame) :
    (s.setFrame id f).counter o = s.counter o := rfl

theorem modThread_of_some {x : Thread} (hthread : s.thread k = some x) (f : Thread → Thread) :
    s.modThread k f = s.setThread k (some (f x)) := by
  rw [State.modThread, hthread, Option.map_some]

theorem thread_of_idle (hidle : s.joinery.threads = []) (k : Nat) : s.thread k = none := by
  rw [State.thread, hidle]
  rfl

/-- What the fence of joiner j becomes where its test may begin (R429). -/
def State.fenceBegun (s : State) (j : Nat) : JoinerFence → JoinerFence
  | .test none => if s.joinerIdle j then .test (some (s.time.ticks + usTicks 500)) else .test none
  | f => f

theorem joinerFence_testsBegin (s : State) (j : Nat) : s.testsBegin.joinerFence j = s.fenceBegun j (s.joinerFence j) :=
  Tab.get_map (f := s.fenceBegun) (fun _ => rfl) s.joinery.fences j

theorem fenceBegun_test_none_ne (s : State) (j : Nat) : s.fenceBegun j (.test none) ≠ .none := by
  unfold State.fenceBegun
  simp only
  split
  · exact nofun
  · exact nofun

theorem testsBegin_of_begun {j u : Nat} (hfences : s.joinery.fences = [(j, .test (some u))]) : s.testsBegin = s := by
  have hmap : s.testsBegin.joinery.fences = s.joinery.fences := by
    simp only [State.testsBegin, hfences]
    rfl
  exact congrArg (fun l : Tab JoinerFence => { s with joinery := { s.joinery with fences := l } }) hmap

end Threads

/-! ### Dispatch, R397, R398 and R770 -/

section Dispatch

variable {s : State} {id src j p : Nat} {f : Frame}

theorem dispatch_gives (hoffer : s.nextOffer = some (id, false, src)) (hrun : s.inRun = true)
    (hoffered : s.offerLost = false) (hjoiner : s.chooseJoiner = some j) :
    s.dispatch = ({ s with joinery := { s.joinery with turn := src } } : State).startThread j id false := by
  simp only [State.dispatch, hoffer, hrun, hoffered, hjoiner, Bool.not_true, Bool.false_eq_true, if_false]

theorem dispatch_ungates {c : Nat} {r : Bool} (hoffer : s.nextOffer = some (id, r, src)) (hrun : s.inRun = true)
    (hoffered : s.offerLost = false) (hfull : s.chooseJoiner = none)
    (hgated : (upto 0 6).find? (fun c => s.joinery.gated.contains c) = some c) :
    s.dispatch = { s with joinery := { s.joinery with gated := s.joinery.gated.filter (· != c) } } := by
  simp only [State.dispatch, hoffer, hrun, hoffered, hfull, hgated, Bool.not_true, Bool.false_eq_true, if_false]

/-- A received frame not yet identified goes to the joiner's first thread, which is free, and its parse begins. -/
theorem startThread_parses (hfree : s.thread (4 * j) = none) (hframe : s.frame id = some f) (horigin : f.origin = .rx p)
    (haccount : f.account = none) (hjudged : f.judged = false) :
    s.startThread j id false = ((((s.setFrame id (some { f with stage := .joinery, handled := false })).setThread (4 * j)
      (some { frame := id, gen := s.joinery.gen, since := s.time.ticks })).count (jnrCount 0)).countN (jnrCount 1)
      0).parseStep (4 * j) := by
  have hfirst : (upto (4 * j) 4).find? (fun k => (s.thread k).isNone) = some (4 * j) := by simp [upto, hfree]
  simp only [State.startThread, State.modFrame, hfirst, hframe, horigin, haccount, hjudged, Option.getD_some,
    Option.map_some, Option.isSome_none, Bool.or_self, Bool.false_eq_true, if_false]
  rfl

/-- A frame whose PRP trailer is to be read waits for its end. -/
theorem parseStep_waits {k : Nat} {x : Thread} (hthread : s.thread k = some x) (hframe : s.frame x.frame = some f)
    (hprp : s.readsPrp f = true) (hpart : f.whole = false) :
    s.parseStep k = s.setThread k (some { x with wait := .frameEnd, since := s.time.ticks }) := by
  simp only [State.parseStep, hthread, hframe, hprp, hpart, Bool.not_false, Bool.and_self, if_true]
  exact modThread_of_some hthread _

/-- Only the joinery, the frames and the counters have changed. -/
structure DispatchStep (s t : State) : Prop where
  frame : t = { s with joinery := t.joinery, frames := t.frames, ctr := t.ctr }

namespace DispatchStep

theorem trans {s t u : State} (h : DispatchStep s t) (g : DispatchStep t u) : DispatchStep s u :=
  ⟨by rw [g.frame, h.frame]⟩

theorem setFrame (s : State) (id : Nat) (f : Option Frame) : DispatchStep s (s.setFrame id f) := ⟨rfl⟩

theorem setThread (s : State) (k : Nat) (x : Option Thread) : DispatchStep s (s.setThread k x) := ⟨rfl⟩

theorem countN (s : State) (o n : Nat) : DispatchStep s (s.countN o n) := ⟨rfl⟩

theorem count (s : State) (o : Nat) : DispatchStep s (s.count o) := countN s o 1

theorem testsBegin (s : State) : DispatchStep s s.testsBegin := ⟨rfl⟩

end DispatchStep

/-- The thread that a received frame goes to waits for the frame's end, to read its PRP trailer. -/
theorem startThread_waits (hfree : s.thread (4 * j) = none) (hframe : s.frame id = some f) (horigin : f.origin = .rx p)
    (haccount : f.account = none) (hjudged : f.judged = false) (hprp : s.readsPrp f = true) (hpart : f.whole = false) :
    ∃ t, s.startThread j id false = t ∧ DispatchStep s t ∧ t.joinery.turn = s.joinery.turn ∧
      (t.thread (4 * j)).map (fun x => (x.frame, x.wait, x.at_)) = some (id, .frameEnd, .parse) ∧
      (t.frame id).map (·.stage) = some .joinery ∧ t.counter (jnrCount 0) = s.counter (jnrCount 0) + 1 := by
  obtain ⟨g, hg⟩ : ∃ g : Frame, g = { f with stage := .joinery, handled := false } := ⟨_, rfl⟩
  obtain ⟨x, hx⟩ : ∃ x : Thread, x = { frame := id, gen := s.joinery.gen, since := s.time.ticks } := ⟨_, rfl⟩
  obtain ⟨u, hu⟩ : ∃ u, u = (s.setFrame id (some g)).setThread (4 * j) (some x) := ⟨_, rfl⟩
  obtain ⟨v, hv⟩ : ∃ v, v = (u.count (jnrCount 0)).countN (jnrCount 1) 0 := ⟨_, rfl⟩
  have hthread : v.thread (4 * j) = some x := by
    rw [hv, thread_countN, State.count, thread_countN, hu, thread_setThread]
  have hheld : v.frame id = some g := by
    rw [hv, frame_countN, State.count, frame_countN, hu, frame_setThread, State.frame_setFrame]
  have hcounter : v.counter (jnrCount 0) = s.counter (jnrCount 0) + 1 := by
    rw [hv, State.counter_countN_other _ _ _ _ (by decide), State.counter_count, hu, counter_setThread, counter_setFrame]
  have hstep : DispatchStep s v := by
    rw [hv, hu]
    exact (((DispatchStep.setFrame s id _).trans (.setThread _ _ _)).trans (.count _ _)).trans (.countN _ _ _)
  have hwaits : v.parseStep (4 * j) = v.setThread (4 * j) (some { x with wait := .frameEnd, since := v.time.ticks }) := by
    refine parseStep_waits (f := g) hthread (by rw [hx]; exact hheld) ?_ (by rw [hg]; exact hpart)
    rw [hstep.frame, hv, hu, hg]
    exact hprp
  have heq : s.startThread j id false =
      v.setThread (4 * j) (some { x with wait := .frameEnd, since := v.time.ticks }) := by
    rw [← hwaits, startThread_parses hfree hframe horigin haccount hjudged, hv, hu, hg, hx]
  refine ⟨_, heq, hstep.trans (.setThread _ _ _), ?_, ?_, ?_, ?_⟩
  · rw [hv, hu]
    rfl
  · rw [thread_setThread, hx]
    rfl
  · rw [frame_setThread, hheld, hg]
    rfl
  · rw [counter_setThread, hcounter]

theorem frameDispatch_gives (hoffer : s.nextOffer = some (id, false, src)) (hrun : s.inRun = true)
    (hoffered : s.offerLost = false) (hjoiner : s.chooseJoiner = some j) (hfree : s.thread (4 * j) = none)
    (hframe : s.frame id = some f) (horigin : f.origin = .rx p) (haccount : f.account = none)
    (hjudged : f.judged = false) (hprp : s.readsPrp f = true) (hpart : f.whole = false) :
    ∃ t, exec (.frameDispatch []) s = .next t ∧
      t = { s with joinery := t.joinery, frames := t.frames, ctr := t.ctr } ∧
      (t.thread (4 * j)).map (fun x => (x.frame, x.wait, x.at_)) = some (id, .frameEnd, .parse) ∧
      (t.frame id).map (·.stage) = some .joinery ∧ t.joinery.turn = src ∧
      t.counter (jnrCount 0) = s.counter (jnrCount 0) + 1 := by
  obtain ⟨t, hstart, hstep, hturn, hthread, hstage, hcount⟩ := startThread_waits
    (s := { s with joinery := { s.joinery with turn := src } }) hfree hframe horigin haccount hjudged hprp hpart
  have heq : s.dispatch = t := (dispatch_gives hoffer hrun hoffered hjoiner).trans hstart
  refine ⟨s.dispatch.testsBegin, rfl, ?_⟩
  rw [heq]
  refine ⟨?_, hthread, hstage, hturn, hcount⟩
  rw [(hstep.trans (.testsBegin t)).frame]

theorem frameDispatch_ungates {c : Nat} {r : Bool} (hoffer : s.nextOffer = some (id, r, src)) (hrun : s.inRun = true)
    (hoffered : s.offerLost = false) (hfull : s.chooseJoiner = none)
    (hgated : (upto 0 6).find? (fun c => s.joinery.gated.contains c) = some c) :
    ∃ t, exec (.frameDispatch []) s = .next t ∧ t = { s with joinery := t.joinery } ∧
      t.joinery.gated.contains c = false ∧ t.joinery.threads = s.joinery.threads ∧ t.joinery.order = s.joinery.order := by
  refine ⟨s.dispatch.testsBegin, rfl, ?_⟩
  rw [dispatch_ungates hoffer hrun hoffered hfull hgated]
  exact ⟨rfl, contains_filter_bne c s.joinery.gated, rfl, rfl⟩

end Dispatch

/-! ### Waits, R405, R430 and R448 -/

section Waits

variable {s : State} {id k p : Nat} {f : Frame} {x : Thread}

/-- Bytes short of a frame's end only add to those that have arrived, where no thread holds the frame. -/
theorem dataRx_partial {n : Nat} (hframe : s.frame id = some f) (horigin : f.origin = .rx p) (hpart : f.whole = false)
    (hlt : f.arrived + n < f.bytes.length) (hthread : s.threadOf id = none) :
    s.dataRx id n = s.setFrame id (some { f with arrived := f.arrived + n, whole := false }) := by
  have hmore : ¬ f.bytes.length ≤ f.arrived + n := Nat.not_le.2 hlt
  have hmin : min (f.arrived + n) f.bytes.length = f.arrived + n := Nat.min_eq_left hlt.le
  have harrives : s.dataRx id n = s.dataArrives id n := by
    simp only [State.dataRx, hframe, horigin, hmore, decide_false, Bool.and_false, Bool.false_and, Bool.false_eq_true,
      if_false]
  have hthread' (g : Option Frame) : (s.setFrame id g).threadOf id = none := hthread
  rw [harrives]
  simp only [State.dataArrives, hframe, hpart, hmin, hmore, hthread', decide_false, Bool.or_self]

theorem frameDataArrival_partial {n : Nat} (hframe : s.frame id = some f) (horigin : f.origin = .rx p)
    (hpart : f.whole = false) (hlt : f.arrived + n < f.bytes.length) (hthread : s.threadOf id = none) :
    ∃ t, exec (.frameDataArrival id n) s = .next t ∧ t = { s with frames := t.frames, joinery := t.joinery } ∧
      (t.frame id).map (·.arrived) = some (f.arrived + n) ∧ (t.frame id).map (·.whole) = some false ∧
      t.joinery.threads = s.joinery.threads := by
  refine ⟨(s.dataRx id n).testsBegin, rfl, ?_⟩
  rw [dataRx_partial hframe horigin hpart hlt hthread]
  have hheld := State.frame_setFrame s id (some { f with arrived := f.arrived + n, whole := false })
  exact ⟨rfl, congrArg (Option.map Frame.arrived) hheld, congrArg (Option.map Frame.whole) hheld, rfl⟩

theorem lookupAnswers_of_ready {h : HookRun} {l : List Word} {st : Word} (hthread : s.thread k = some x)
    (hhook : x.hook = some h) (hcoming : h.coming = some (l, st)) (hready : x.wait = .ready) :
    s.lookupAnswers k = s.setThread k (some { x with hook := some { h with lk := l, lkst := st, coming := none } }) := by
  simp only [State.lookupAnswers, hthread, hhook, hcoming]
  exact (if_neg (by rw [hready]; decide)).trans (modThread_of_some hthread _)

theorem lookupAnswer_of_ready {h : HookRun} {l : List Word} {st : Word} (hthread : s.thread k = some x)
    (hhook : x.hook = some h) (hcoming : h.coming = some (l, st)) (hready : x.wait = .ready) :
    ∃ t, exec (.lookupAnswer k) s = .next t ∧ t = { s with joinery := t.joinery } ∧
      t.thread k = some { x with hook := some { h with lk := l, lkst := st, coming := none } } := by
  refine ⟨(s.lookupAnswers k).testsBegin, rfl, ?_⟩
  rw [lookupAnswers_of_ready hthread hhook hcoming hready]
  exact ⟨rfl, by rw [thread_testsBegin, thread_setThread]⟩

/-- The only frame of the hold is discarded with its thread; its ingress port sends no pause frames. -/
theorem retireDrop_of_alone (k : Nat) (hframes : s.frames = [(id, some f)]) (horigin : f.origin = .rx p)
    (hquiet : s.txGen p = false) :
    ∃ j : Joinery, s.retireDrop k id = { s with joinery := j, frames := [] } ∧ Tab.get none j.threads k = none := by
  have hframe : s.frame id = some f := by
    rw [State.frame, hframes]
    exact if_pos rfl
  have hempty : Tab.set none s.frames id none = [] := by simp [Tab.set, hframes]
  have hdrop : (s.setThread k none).dropFrame id =
      { s with joinery := ((s.setThread k none).orderDrop id).joinery, frames := [] } := by
    rw [dropFrame_of_quiet (s := s.setThread k none) hframe horigin hquiet, ← hempty]
    rfl
  exact ⟨_, by rw [State.retireDrop, hdrop]; rfl, Tab.get_set_same none s.joinery.threads k none⟩

/-- A thread that has waited too long is counted and reported at the end of its time; then its frame goes. -/
theorem threadTimeout_of_waiting (hthread : s.thread k = some x) (hwait : x.wait ≠ .ready) :
    ∃ u : State, u = { s with time := u.time, stream := u.stream, ctr := u.ctr, flt := u.flt, free := u.free } ∧
      Passed s u ∧ u.stream.waiting.contains x.frame = false ∧
      u.counter (jnrCount 18) = s.counter (jnrCount 18) + 1 ∧ s.threadTimeout k = u.retireDrop k x.frame := by
  obtain ⟨v, hv⟩ : ∃ v, v = s.advanceTo (x.since + ceilDiv (65536 * 100000) (1100 * 128)) := ⟨_, rfl⟩
  have hlater : Later s v := hv ▸ later_advance s _
  obtain ⟨w, hw⟩ : ∃ w : State, w = { v with
    stream := { v.stream with waiting := v.stream.waiting.filter (· != x.frame) } } := ⟨_, rfl⟩
  obtain ⟨y, c, n, hraise⟩ := raise_frame (w.count (jnrCount 18)) (joinerSource (k / 4)) 0x07 1 none 0 0
  refine ⟨(w.count (jnrCount 18)).raise (joinerSource (k / 4)) 0x07 1, ?_, ?_, ?_, ?_, ?_⟩
  · rw [hraise, hw, hlater.frame]
    rfl
  · rw [hraise, hw]
    exact hlater.passed
  · rw [hraise, hw]
    exact contains_filter_bne x.frame v.stream.waiting
  · rw [counter_raise_below (by decide), State.counter_count, hw, hlater.frame]
    rfl
  · simp only [State.threadTimeout, hthread, beq_eq_false_iff_ne.2 hwait, Bool.false_eq_true, if_false, hw, hv]

theorem threadTimeout_drops (hthread : s.thread k = some x) (hwait : x.wait ≠ .ready)
    (hframes : s.frames = [(x.frame, some f)]) (horigin : f.origin = .rx p) (hquiet : s.txGen p = false) :
    ∃ t, exec (.threadTimeout k) s = .next t ∧
      t = { s with time := t.time, stream := t.stream, ctr := t.ctr, flt := t.flt, free := t.free
                   joinery := t.joinery, frames := t.frames } ∧
      Passed s t ∧ t.thread k = none ∧ (t.frame x.frame).isNone = true ∧
      t.stream.waiting.contains x.frame = false ∧ t.counter (jnrCount 18) = s.counter (jnrCount 18) + 1 := by
  obtain ⟨u, hchange, hpassed, hwaiting, hcount, heq⟩ := threadTimeout_of_waiting hthread hwait
  obtain ⟨j, hdrop, hnone⟩ := retireDrop_of_alone (s := u) k (by rw [hchange]; exact hframes) horigin
    (by rw [hchange]; exact hquiet)
  refine ⟨(s.threadTimeout k).testsBegin, rfl, ?_⟩
  rw [heq, hdrop]
  refine ⟨?_, hpassed, hnone, rfl, hwaiting, hcount⟩
  rw [hchange]
  rfl

end Waits

/-! ### The control store, R438 and R468 -/

section ControlStore

variable {s : State} {c : Nat}

theorem upset_setUpset (s : State) (c a v : Nat) : (s.setUpset c a v).upset c a = v := Tab.get_set_same ..

/-- The scrub writes a corrected word back, counts it and tells the foreman. -/
theorem scrubWord_of_corrected {a x : Nat} (hcustomer : isCustomer a = true)
    (hecc : eccCheck (Nat.xor (Tab.get hretWord (s.codeOf (Tab.get 0 s.joinery.loaded c)).1 a) (s.upset c a)) =
      .corrected x) :
    s.scrubWord c a = ((s.setUpset c a 0).count (jnrCount 19)).raise (copySource c) 0x05 0 a := by
  simp only [State.scrubWord, hcustomer, hecc, Bool.not_true, Bool.false_eq_true, if_false]

/-- A bit error that comes about and is corrected changes only the table of bit errors. -/
theorem setUpset_corrected (s : State) (c a m : Nat) : ∃ l, (s.setUpset c a m).setUpset c a 0 =
    { s with joinery := { s.joinery with upsets := l } } ∧ Tab.get 0 l (16384 * c + a) = 0 :=
  ⟨_, rfl, Tab.get_set_same ..⟩

theorem csScrub_corrects {a m x : Nat} (hc : c < 6) (hcustomer : isCustomer a = true)
    (hecc : eccCheck (Nat.xor (Tab.get hretWord (s.codeOf (Tab.get 0 s.joinery.loaded c)).1 a)
      (Nat.xor (s.upset c a) (m % 2 ^ 160))) = .corrected x) :
    ∃ t, exec (.csScrub c a m) s = .next t ∧
      t = { s with joinery := t.joinery, ctr := t.ctr, flt := t.flt, free := t.free } ∧ t.upset c a = 0 ∧
      t.counter (jnrCount 19) = s.counter (jnrCount 19) + 1 ∧ t.joinery.words = s.joinery.words := by
  obtain ⟨u, hu⟩ : ∃ u, u = s.setUpset c a (Nat.xor (s.upset c a) (m % 2 ^ 160)) := ⟨_, rfl⟩
  obtain ⟨l, hset, hzero⟩ := setUpset_corrected s c a (Nat.xor (s.upset c a) (m % 2 ^ 160))
  obtain ⟨v, hv⟩ : ∃ v, v = (u.setUpset c a 0).count (jnrCount 19) := ⟨_, rfl⟩
  have hread : u.upset c a = Nat.xor (s.upset c a) (m % 2 ^ 160) := by rw [hu, upset_setUpset]
  have hscrub : u.scrubWord c a = v.raise (copySource c) 0x05 0 a := by
    rw [hv]
    refine scrubWord_of_corrected (x := x) hcustomer ?_
    rw [hread, ← hecc, hu]
    rfl
  have heq : exec (.csScrub c a m) s = ok (v.raise (copySource c) 0x05 0 a) := by
    rw [← hscrub, hu]
    exact congrArg ok (if_pos (by simp [hc, hcustomer]))
  obtain ⟨y, x, n, hraise⟩ := raise_frame v (copySource c) 0x05 0 a 0 0
  refine ⟨_, heq, ?_, ?_, ?_, ?_⟩
  · rw [hraise, hv, hu, hset]
    rfl
  · rw [hraise, hv, hu, hset]
    exact hzero
  · rw [counter_raise_below (by decide), hv, State.counter_count, hu, hset]
    rfl
  · rw [hraise, hv, hu, hset]
    rfl

/-- With no thread at work a cluster takes the next load at once, and its copy holds what the load says. -/
theorem csRewrite_of_idle (hc : c < 6) (hold : Tab.get 0 s.joinery.loaded c < s.joinery.gen)
    (hidle : s.joinery.threads = []) :
    ∃ l, s.csRewrite c = { s with joinery := { s.joinery with
      loaded := Tab.set 0 s.joinery.loaded c (Tab.get 0 s.joinery.loaded c + 1)
      upsets := s.joinery.upsets.filter (fun e => e.1 / 16384 != c), past := l } } := by
  have hnone (k : Nat) : s.thread k = none := thread_of_idle hidle k
  have hready : ¬ (6 ≤ c ∨ s.joinery.gen ≤ Tab.get 0 s.joinery.loaded c) := by omega
  refine ⟨_, (if_neg ?_).trans (foldl_eq_self fun k _ => ?_)⟩
  · simpa [hnone] using hready
  · have hnone' (u : State) (hu : u.joinery.threads = s.joinery.threads) : u.thread k = none :=
      thread_of_idle (hu.trans hidle) k
    simp only [hnone']

theorem csRewrite_loads (hc : c < 6) (hold : Tab.get 0 s.joinery.loaded c < s.joinery.gen)
    (hidle : s.joinery.threads = []) :
    ∃ t, exec (.csRewrite c) s = .next t ∧ t = { s with joinery := t.joinery } ∧
      Tab.get 0 t.joinery.loaded c = Tab.get 0 s.joinery.loaded c + 1 ∧
      t.joinery.upsets.any (fun e => e.1 / 16384 == c) = false ∧ t.joinery.gen = s.joinery.gen := by
  obtain ⟨l, heq⟩ := csRewrite_of_idle hc hold hidle
  refine ⟨(s.csRewrite c).testsBegin, rfl, ?_⟩
  rw [heq]
  refine ⟨rfl, Tab.get_set_same 0 s.joinery.loaded c (Tab.get 0 s.joinery.loaded c + 1), ?_, rfl⟩
  exact List.any_eq_false.2 fun e he => bne_iff_ne.1 (List.mem_filter.1 he).2 ∘ beq_iff_eq.1

end ControlStore

/-! ### The rotation and the gating of clusters, R429, R731 and R770 -/

section Rotation

variable {s : State}

theorem rotationFence_fences (hon : s.reg (jnrBase + 0xC) % 2 = 1)
    (hfree : (upto 0 48).any (fun j => s.joinerFence j != .none || s.fenced (0x200 + 4 * j)) = false)
    (hgap : s.flt.gapJn = none) (hrun : s.inRun = true) :
    ∃ t, exec .rotationFence s = .next t ∧ t = { s with joinery := t.joinery } ∧
      t.joinerFence s.joinery.rotNext ≠ .none ∧ t.joinery.rotNext = (s.joinery.rotNext + 1) % 48 := by
  obtain ⟨u, hu⟩ : ∃ u : State, u = { s.setJoinerFence s.joinery.rotNext (.test none) with
    joinery := { (s.setJoinerFence s.joinery.rotNext (.test none)).joinery with
      rotNext := (s.joinery.rotNext + 1) % 48 } } := ⟨_, rfl⟩
  have hfence : u.joinerFence s.joinery.rotNext = .test none := by
    rw [hu]
    exact Tab.get_set_same JoinerFence.none s.joinery.fences s.joinery.rotNext (.test none)
  refine ⟨u.testsBegin, ?_, ?_, ?_, ?_⟩
  · rw [hu]
    exact congrArg ok (if_neg (by simp only [hon, hfree, hgap, hrun]; decide))
  · rw [hu]
    rfl
  · rw [joinerFence_testsBegin, hfence]
    exact fenceBegun_test_none_ne _ _
  · rw [hu]
    rfl

theorem rotationTestEnd_passes {j u : Nat} (hfences : s.joinery.fences = [(j, .test (some u))])
    (htests : s.flt.tests = []) :
    ∃ t, exec (.rotationTestEnd false) s = .next t ∧
      t = { s with time := t.time, joinery := t.joinery, flt := t.flt, ctr := t.ctr } ∧ Passed s t ∧
      t.joinerFence j = .none ∧ t.flt.gapJn = some (t.time.ticks + msTicks (s.regBits (fltBase + 0x14) 16 16)) ∧
      t.counter (fltBase + 0x158) = s.counter (fltBase + 0x158) + 1 := by
  have hbegun : s.testsBegin = s := testsBegin_of_begun hfences
  have hjoiner : s.rotationJoiner = some j := by
    rw [State.rotationJoiner, hfences, htests]
    rfl
  have hfence : s.joinerFence j = .test (some u) := by
    rw [State.joinerFence, hfences]
    exact if_pos rfl
  obtain ⟨v, hv⟩ : ∃ v, v = (s.advanceTo u).setJoinerFence j .none := ⟨_, rfl⟩
  obtain ⟨w, hw⟩ : ∃ w : State, w = { v with flt := { v.flt with
    gapJn := some (v.time.ticks + msTicks (v.regBits (fltBase + 0x14) 16 16)) } } := ⟨_, rfl⟩
  have heq : s.rotationEnd false = w.count (fltBase + 0x158) := by
    simp only [State.rotationEnd, hbegun, hjoiner, hfence, hw, hv, Bool.false_eq_true, if_false]
  refine ⟨s.rotationEnd false, rfl, ?_⟩
  rw [heq]
  refine ⟨?_, ?_, ?_, ?_, ?_⟩
  · rw [hw, hv]
    rfl
  · rw [hw, hv]
    exact (later_advance s _).passed
  · rw [hw, hv]
    exact Tab.get_set_same JoinerFence.none s.joinery.fences j .none
  · rw [hw, hv]
    rfl
  · rw [State.counter_count, hw, hv]
    rfl

theorem clusterGate_gates {c : Nat} (hc : c < 6) (hopen : s.joinery.gated.contains c = false)
    (hleast : s.regBits (pwrBase + 0x18) 16 3 < 6 - s.joinery.gated.length) (hrun : s.pwr.state = .run)
    (hidle : (upto (8 * c) 8).all s.joinerIdle = true) :
    ∃ t, exec (.clusterGate c) s = .next t ∧ t = { s with joinery := t.joinery, ctr := t.ctr } ∧
      t.joinery.gated.contains c = true ∧ t.joinery.gateWin = some (c, s.time.ticks) ∧
      t.counter (pwrBase + 0xD0) = s.counter (pwrBase + 0xD0) + 1 := by
  obtain ⟨u, hu⟩ : ∃ u : State, u = { s with joinery := { s.joinery with
    gated := State.addBit c s.joinery.gated, gateWin := some (c, s.time.ticks) } } := ⟨_, rfl⟩
  refine ⟨u.count (pwrBase + 0xD0), ?_, ?_, ?_, ?_, ?_⟩
  · rw [hu]
    refine congrArg ok (if_neg ?_)
    simp only [Nat.not_le.2 hc, hopen, Nat.not_le.2 hleast, hrun, hidle]
    decide
  · rw [hu]
    rfl
  · rw [hu]
    exact contains_addBit c s.joinery.gated
  · rw [hu]
    rfl
  · rw [State.counter_count, hu]
    rfl

end Rotation

/-! ### The residence times of two-step Syncs, R421 -/

theorem syncTableExpire_drops {s : State} {p : Nat} {e : SyncEntry} {l : List SyncEntry}
    (hsync : Tab.get [] s.joinery.sync p = e :: l) :
    ∃ t, exec (.syncTableExpire p) s = .next t ∧ t = { s with time := t.time, joinery := t.joinery } ∧ Passed s t ∧
      (Tab.get [] t.joinery.sync p).all (fun x => t.time.ticks < x.until_) = true ∧ e.until_ ≤ t.time.ticks := by
  obtain ⟨u, hu⟩ : ∃ u, u = s.advanceTo e.until_ := ⟨_, rfl⟩
  have hlater : Later s u := hu ▸ later_advance s _
  obtain ⟨rest, hrest⟩ : ∃ rest, rest = (Tab.get [] u.joinery.sync p).filter fun x => decide (u.time.ticks < x.until_) :=
    ⟨_, rfl⟩
  refine ⟨{ u with joinery := { u.joinery with sync := Tab.set [] u.joinery.sync p rest } }, ?_, ?_, hlater.passed, ?_, ?_⟩
  · rw [hrest, hu]
    refine congrArg ok ?_
    simp only [hsync]
  · rw [hlater.frame]
  · rw [Tab.get_set_same, hrest]
    exact List.all_eq_true.2 fun x hx => (List.mem_filter.1 hx).2
  · rw [hu]
    exact le_ticks_advanceTo s e.until_

/-! ### Spilled frames, R28 to R30 and R804 -/

section Spill

variable {s : State} {id : Nat} {f : Frame}

theorem abandonHoldTest_of_no_test (htests : s.flt.tests = []) : s.abandonHoldTest = s := by
  simp only [State.abandonHoldTest, htests, List.find?_nil]

theorem place_of_spillable (hspill : s.spillable id f = true) : f.place = .hold := by
  simp only [State.spillable, Bool.and_eq_true, beq_iff_eq] at hspill
  obtain ⟨⟨⟨⟨⟨⟨-, hplace⟩, -⟩, -⟩, -⟩, -⟩, -⟩ := hspill
  exact hplace

/-- The one frame of the hold moves where the spill store has room for it. -/
theorem spillLoop_moves (hframes : s.frames = [(id, some f)]) (hspill : s.spillable id f = true)
    (hlo : s.spillLo < s.holdLevel) (hfits : 256 * State.cellsOf f.size ≤ s.spillSize) :
    s.spillLoop 1 = (s.setFrame id (some { f with place := .spilled })).count (memBase + 0x100) := by
  have hframe : s.frame id = some f := by
    rw [State.frame, hframes]
    exact if_pos rfl
  have holdest : s.oldestSpillable = some id := by
    rw [State.oldestSpillable, hframes]
    exact if_pos hspill
  have hempty : s.spillLevel = 0 := by
    simp [State.spillLevel, hframes, place_of_spillable hspill]
  have hroom : ¬ s.spillSize < 0 + 256 * State.cellsOf f.size := by omega
  simp only [State.spillLoop, holdest, hframe, hempty, Nat.not_le.2 hlo, hroom, if_false, State.modFrame, Option.map_some]

/-- Occupancy at HI starts a spill; no test of a bank and no kept frame makes room first. -/
theorem spill_starts (htests : s.flt.tests = []) (hkept : s.bent.kept = []) (hhi : s.spillHi ≤ s.holdLevel)
    (hstore : s.spillSize ≠ 0) :
    s.spill = ({ s with mem := { s.mem with spilling := true, spillStopped := false } } : State).spillLoop
      s.frames.length := by
  simp only [State.spill, abandonHoldTest_of_no_test htests, hkept, List.length_nil, State.freeKept, Nat.not_lt.2 hhi,
    hstore, decide_false, Bool.false_and, Bool.false_eq_true, if_false]

theorem spillStart_moves (hframes : s.frames = [(id, some f)]) (hspill : s.spillable id f = true)
    (hhi : s.spillHi ≤ s.holdLevel) (hlo : s.spillLo < s.holdLevel)
    (hfits : 256 * State.cellsOf f.size ≤ s.spillSize) (hkept : s.bent.kept = []) (htests : s.flt.tests = []) :
    ∃ t, exec .spillStart s = .next t ∧ t = { s with frames := t.frames, mem := t.mem, ctr := t.ctr } ∧
      (t.frame id).map (·.place) = some .spilled ∧ t.mem.spilling = true ∧
      t.counter (memBase + 0x100) = s.counter (memBase + 0x100) + 1 := by
  obtain ⟨u, hu⟩ : ∃ u : State, u = { s with mem := { s.mem with spilling := true, spillStopped := false } } := ⟨_, rfl⟩
  have hcells : 1 ≤ State.cellsOf f.size := Nat.le_max_left ..
  have heq : s.spill = (u.setFrame id (some { f with place := .spilled })).count (memBase + 0x100) := by
    have hone : s.frames.length = 1 := by rw [hframes, List.length_singleton]
    rw [spill_starts htests hkept hhi (by omega), hone, ← hu]
    refine spillLoop_moves (f := f) ?_ ?_ ?_ ?_
    · rw [hu]
      exact hframes
    · rw [hu]
      exact hspill
    · rw [hu]
      exact hlo
    · rw [hu]
      exact hfits
  refine ⟨s.spill, rfl, ?_⟩
  rw [heq]
  refine ⟨?_, ?_, ?_, ?_⟩
  · rw [hu]
    rfl
  · exact congrArg (Option.map Frame.place) (State.frame_setFrame u id (some { f with place := .spilled }))
  · rw [hu]
    rfl
  · rw [State.counter_count, hu]
    rfl

/-- Bytes short of the end of a spilled frame that waits at no port bring it on its way back. -/
theorem spillBack_partial {n : Nat} (hframe : s.frame id = some f) (hplace : f.place = .spilled)
    (hegress : f.egress = []) (hlt : n < f.bytes.length) (hroom : State.cellsOf f.size ≤ s.holdFree) :
    s.spillBack id n = ({ s with mem := { s.mem with spillStopped := false } } : State).setFrame id
      (some { f with arrived := n, place := .returning }) := by
  have hframe' : ({ s with mem := { s.mem with spillStopped := false } } : State).frame id = some f := hframe
  simp only [State.spillBack, hframe, hplace, hegress, Nat.not_lt.2 hroom, if_false, Nat.not_le.2 hlt, decide_false,
    Bool.false_eq_true, List.foldl_nil, State.modFrame, hframe', Option.map_some, Nat.min_eq_left hlt.le]

theorem spillReturn_partial {n : Nat} (hframe : s.frame id = some f) (hplace : f.place = .spilled)
    (hegress : f.egress = []) (hlt : n < f.bytes.length) (hroom : State.cellsOf f.size ≤ s.holdFree) :
    ∃ t, exec (.spillReturn id n) s = .next t ∧ t = { s with frames := t.frames, mem := t.mem } ∧
      (t.frame id).map (fun x => (x.place, x.arrived)) = some (.returning, n) ∧ t.mem.spillStopped = false := by
  refine ⟨s.spillBack id n, rfl, ?_⟩
  rw [spillBack_partial hframe hplace hegress hlt hroom]
  exact ⟨rfl, congrArg (Option.map _) (State.frame_setFrame _ id _), rfl⟩

end Spill

/-! ### The window queue, R666, R667 and R670 -/

section Window

variable {s : State}

/-- A frame that leaves the hold changes the frames and, by the pause marks, a port. -/
theorem freeFrame_frame (s : State) (id : Nat) :
    s.freeFrame id = { s with frames := (s.freeFrame id).frames, ports := (s.freeFrame id).ports } := by
  unfold State.freeFrame
  split
  · rfl
  · simp only
    split
    · next p _ =>
      have hcheck : PortStep (fun _ => ()) p (s.setFrame id none) ((s.setFrame id none).pauseCheck p) :=
        PortStep.pauseCheck (fun _ _ _ => rfl) _
      have hframe := hcheck.frame
      rw [ctr_pauseCheck] at hframe
      rw [hframe]
      rfl
    · rfl

/-- The window lets go of a telegram's frame, which has no other destination (R20). -/
theorem releaseWindow_frame (s : State) (id : Nat) :
    s.releaseWindow id = { s with frames := (s.releaseWindow id).frames, ports := (s.releaseWindow id).ports } := by
  unfold State.releaseWindow State.freeIfDone
  split
  · split
    · rw [freeFrame_frame]
      rfl
    · rfl
  · rfl

/-- An empty input FIFO has room for a telegram of up to 4,096 bytes. -/
theorem room_of_empty {a : Assay} {r : AsyRec} (hempty : a.fifo = []) (hshort : r.payload.length ≤ 4096) :
    a.room r = true := by
  simp only [Assay.room, hempty, List.foldl_nil, Assay.recBytes, ceilDiv, decide_eq_true_eq]
  omega

/-- The record that a telegram crosses the input port as, R667. -/
def WindowEntry.record (e : WindowEntry) (n : BitVec 32) : AsyRec :=
  { typ := 1, flag := e.rxFlag.code, inseq := n, point := e.point, path := e.path, account := e.account, seq := e.seq
    time := toStamp e.rxTime, payload := e.telegram }

theorem windowHandoff_crosses {e : WindowEntry} {l : List WindowEntry} (hqueue : s.joinery.windowQueue = e :: l)
    (hon : s.windowOn = true) (hrunning : s.assay.running = true) (halive : s.assay.alive = true)
    (hsender : s.assay.sender = []) (hfifo : s.assay.fifo = []) (hshort : e.telegram.length ≤ 4096) :
    ∃ t, exec .windowHandoff s = .next t ∧
      t = { s with assay := t.assay, joinery := t.joinery, ctr := t.ctr, frames := t.frames, ports := t.ports } ∧
      t.joinery.windowQueue = l ∧
      t.assay.fifo.map (fun r => (r.typ, r.inseq, r.payload)) = [(1, s.assay.nextInseq, e.telegram)] ∧
      t.assay.nextInseq = s.assay.nextInseq + 1 ∧ t.counter (asyCount 0) = s.counter (asyCount 0) + 1 := by
  obtain ⟨u, hu⟩ : ∃ u : State, u = { s with
    assay := { s.assay with nextInseq := s.assay.nextInseq + 1, fifo := [e.record s.assay.nextInseq] }
    joinery := { s.joinery with windowQueue := l } } := ⟨_, rfl⟩
  obtain ⟨v, hv⟩ : ∃ v, v = (u.count (asyCount 0)).modFrame e.frame (fun f => { f with wq := none }) := ⟨_, rfl⟩
  have hroom : s.assay.room (e.record s.assay.nextInseq) = true := room_of_empty hfifo hshort
  have heq : exec .windowHandoff s = ok (v.releaseWindow e.frame) := by
    refine congrArg ok ?_
    simp only [hqueue]
    refine (if_neg ?_).trans ?_
    · rw [WindowEntry.record] at hroom
      simp [hon, hrunning, halive, hsender, hroom]
    · rw [hv, hu, hfifo]
      rfl
  refine ⟨_, heq, ?_⟩
  rw [releaseWindow_frame]
  refine ⟨?_, ?_, ?_, ?_, ?_⟩
  · rw [hv, hu]
    rfl
  · rw [hv, hu]
    rfl
  · rw [hv, hu]
    rfl
  · rw [hv, hu]
    rfl
  · refine (congrArg (·.counter (asyCount 0)) hv).trans ((State.counter_count u _).trans ?_)
    rw [hu]
    rfl

end Window

/-- Settles O25, event by event. -/
theorem joineryEventsComplete : Obligations.JoineryEventsComplete :=
  ⟨fun _ _ _ _ _ _ => frameDispatch_gives, fun _ _ _ _ _ => frameDispatch_ungates,
    fun _ _ _ _ _ => frameDataArrival_partial, fun _ _ _ _ _ _ => lookupAnswer_of_ready,
    fun _ _ _ _ _ => threadTimeout_drops, fun _ _ _ _ _ => csScrub_corrects, fun _ _ => csRewrite_loads,
    fun _ => rotationFence_fences, fun _ _ _ => rotationTestEnd_passes, fun _ _ => clusterGate_gates,
    fun _ _ _ _ => syncTableExpire_drops, fun _ _ _ => spillStart_moves, fun _ _ _ _ => spillReturn_partial,
    fun _ _ _ => windowHandoff_crosses⟩

end Sys2Proof.Machine
end

section
/-!
PROOFS. Command packets (R477, R565): decoding undoes encoding. The little-endian bytes of a number read as that number,
a reading at an offset skips the bytes before it, and the fields of a word do not overlap.
-/

namespace Sys2Proof.Machine

/-! ### Bytes at an offset -/

@[simp] theorem length_leBytes (n v : Nat) : (leBytes n v).length = n := by
  induction n generalizing v with
  | zero => rfl
  | succ n ih => simp [leBytes, ih]

/-- The bytes of a number hold what of it fits them. -/
theorem ofLe_leBytes (n v : Nat) : ofLe (leBytes n v) = v % 256 ^ n := by
  induction n generalizing v with
  | zero => simp [leBytes, ofLe, Nat.mod_one]
  | succ n ih => simp [leBytes, ofLe, ih, Nat.pow_succ', Nat.mod_mul]

/-- Reading beyond a prefix skips it. -/
theorem slice_append_skip (xs ys : List Byte) (off n : Nat) :
    slice (xs ++ ys) (xs.length + off) n = slice ys off n := by
  induction n generalizing off with
  | zero => rfl
  | succ n ih =>
    have hbyte : (xs ++ ys).getD (xs.length + off) 0 = ys.getD off 0 := by
      rw [List.getD_append_right _ _ _ _ (Nat.le_add_right _ _), Nat.add_sub_cancel_left]
    rw [slice, slice, hbyte, Nat.add_assoc, ih]

/-- Reading as many bytes as a prefix has, from the start, gives the prefix. -/
theorem slice_append_left (xs ys : List Byte) : slice (xs ++ ys) 0 xs.length = xs := by
  induction xs with
  | nil => rfl
  | cons x xs ih => simpa [slice, ih] using slice_append_skip [x] (xs ++ ys) 0 xs.length

/-- A whole string read from its start. -/
theorem slice_length (xs : List Byte) : slice xs 0 xs.length = xs := by
  simpa using slice_append_left xs []

/-- A little-endian number that fits its bytes is read at the head of a string. -/
theorem leAt_leBytes_append {n v : Nat} (ys : List Byte) (hv : v < 256 ^ n) : leAt (leBytes n v ++ ys) 0 n = v := by
  have hread := slice_append_left (leBytes n v) ys
  rw [length_leBytes] at hread
  rw [leAt, hread, ofLe_leBytes, Nat.mod_eq_of_lt hv]

/-- A little-endian number that fits its bytes is read where it stands after others. -/
theorem leAt_append_leBytes {off n v : Nat} (xs ys : List Byte) (hoff : xs.length = off) (hv : v < 256 ^ n) :
    leAt (xs ++ (leBytes n v ++ ys)) off n = v :=
  calc leAt (xs ++ (leBytes n v ++ ys)) off n
    _ = leAt (leBytes n v ++ ys) 0 n := by rw [leAt, ← hoff]; exact congrArg ofLe (slice_append_skip xs _ 0 n)
    _ = v := leAt_leBytes_append ys hv

/-! ### The words of a packet -/

/-- The header of a packet: LEN, KIND 0x04 and TAG (R477). -/
def packetHeader (c : Cmd) : Nat := field c.len 1 4 + field 4 8 8 + field c.tag.toNat 16 16

/-- The word at offset 4: opcode, SCOPE, PARTNER, FORCE and BENCH (R565). -/
def packetControl (code : Nat) (c : Cmd) : Nat :=
  field code 0 16 + field c.scope.toNat 16 2 + field (flag c.partner) 18 1 + field (flag c.force) 19 1
    + field c.bench.toNat 20 2

theorem packetBytes_eq (code : Nat) (c : Cmd) : packetBytes code c =
    leBytes 4 (packetHeader c) ++ (leBytes 4 (packetControl code c) ++ (leBytes 8 c.replyAddr.toNat ++
      (leBytes 4 c.replyLen.toNat ++ (zeros 4 ++ c.params)))) := by
  simp only [packetBytes, packetHeader, packetControl, List.append_assoc]

theorem packetHeader_lt (c : Cmd) : packetHeader c < 256 ^ 4 := by
  simp only [packetHeader, field]
  omega

theorem packetControl_lt (code : Nat) (c : Cmd) : packetControl code c < 256 ^ 4 := by
  simp only [packetControl, field]
  omega

/-- The fields of the header. -/
theorem hdr_packetHeader {c : Cmd} (hlen : c.len ≤ 8) :
    hdrLen (packetHeader c) = c.len ∧ hdrTag (packetHeader c) = c.tag.toNat := by
  have htag := c.tag.isLt
  simp only [hdrLen, hdrTag, bits, packetHeader, field]
  omega

theorem flag_lt_two (b : Bool) : flag b < 2 := by cases b <;> decide

theorem flag_beq_one (b : Bool) : (flag b == 1) = b := by cases b <;> rfl

/-- The fields of the word at offset 4. -/
theorem bits_packetControl {code : Nat} (hcode : code < 65536) (c : Cmd) :
    bits (packetControl code c) 0 16 = code ∧ bits (packetControl code c) 16 2 = c.scope.toNat ∧
      bits (packetControl code c) 18 1 = flag c.partner ∧ bits (packetControl code c) 19 1 = flag c.force ∧
      bits (packetControl code c) 20 2 = c.bench.toNat := by
  have hscope := c.scope.isLt
  have hpartner := flag_lt_two c.partner
  have hforce := flag_lt_two c.force
  have hbench := c.bench.isLt
  simp only [bits, packetControl, field]
  omega

/-! ### The packet read again -/

theorem entryHdr_packetBytes (code : Nat) (c : Cmd) : entryHdr (packetBytes code c) = packetHeader c := by
  rw [entryHdr, packetBytes_eq, leAt_leBytes_append _ (packetHeader_lt c)]

theorem fieldAt_packetBytes_control (code : Nat) (c : Cmd) (lo w : Nat) :
    fieldAt (packetBytes code c) 4 lo w = bits (packetControl code c) lo w := by
  rw [fieldAt, packetBytes_eq, leAt_append_leBytes _ _ (length_leBytes 4 _) (packetControl_lt code c)]

theorem leAt_packetBytes_replyAddr (code : Nat) (c : Cmd) : leAt (packetBytes code c) 8 8 = c.replyAddr.toNat := by
  rw [packetBytes_eq, ← List.append_assoc]
  exact leAt_append_leBytes _ _ (by simp) c.replyAddr.isLt

theorem leAt_packetBytes_replyLen (code : Nat) (c : Cmd) : leAt (packetBytes code c) 0x10 4 = c.replyLen.toNat := by
  rw [packetBytes_eq, ← List.append_assoc, ← List.append_assoc]
  exact leAt_append_leBytes _ _ (by simp) c.replyLen.isLt

theorem slice_packetBytes_params (code : Nat) (c : Cmd) :
    slice (packetBytes code c) 24 c.params.length = c.params := by
  have hskip := slice_append_skip (leBytes 4 (packetHeader c) ++ leBytes 4 (packetControl code c) ++
    leBytes 8 c.replyAddr.toNat ++ leBytes 4 c.replyLen.toNat ++ zeros 4) c.params 0 c.params.length
  rw [slice_length] at hskip
  simpa [packetBytes_eq, zeros] using hskip

/-- Settles O7, field by field: each is read where it is written. -/
theorem packetsDecodeAsEncoded : Obligations.PacketsDecodeAsEncoded := by
  rintro code q i c ⟨hcode, -, hlen, hparams⟩
  obtain ⟨hhdrLen, hhdrTag⟩ := hdr_packetHeader hlen
  obtain ⟨hop, hscope, hpartner, hforce, hbench⟩ := bits_packetControl hcode c
  simp only [packetOf, entryHdr_packetBytes, fieldAt_packetBytes_control, leAt_packetBytes_replyAddr,
    leAt_packetBytes_replyLen, hhdrLen, hhdrTag, hop, hscope, hpartner, hforce, hbench, flag_beq_one, ← hparams,
    slice_packetBytes_params, BitVec.ofNat_toNat, BitVec.setWidth_eq]

end Sys2Proof.Machine
end

section
/-!
PROOFS. WQ_ENABLE (R528): a queue of the function that is not DISABLED, a misaligned address or a foreign notice book.
-/

namespace Sys2Proof.Machine

open Sys2Proof.Claims

/-- A command that begins leaves queues, functions and roles, and so what WQ_ENABLE tests, as they are. -/
theorem wqEnableOk_begun (s : State) (code : Nat) (c : Cmd) : wqEnableOk (begun s code c) c = wqEnableOk s c := rfl

theorem wqRefusal_begun (s : State) (code : Nat) (c : Cmd) (q : Nat) (changes : Bool) :
    wqRefusal (begun s code c) c q changes = wqRefusal s c q changes := rfl

/-- What the fields of WQ_ENABLE that R528 accepts satisfy. -/
theorem wqEnableOk_spec {s : State} {c : Cmd} (h : wqEnableOk s c = true) :
    (s.queue (c.f 0 0 12)).state = .disabled ∧ c.n 8 8 % 4096 = 0 ∧ c.n 0x10 8 % 16 = 0 ∧
      (c.f 0 24 8 = 0xFF ∨ s.fnOfBook (c.f 0 24 8) = s.cmdFn c) := by
  simp only [wqEnableOk, Bool.and_eq_true, Bool.or_eq_true, beq_iff_eq] at h
  obtain ⟨⟨⟨⟨-, hring⟩, hshadow⟩, hbook⟩, hstate⟩ := h
  exact ⟨hstate, hring, hshadow, hbook⟩

/-- Settles O13: each of the cases fails a test of WQ_ENABLE, which then has no effect. -/
theorem wqEnableRefusals : Obligations.WqEnableRefusals := by
  intro s c hrun hown hbad
  have hfails : wqEnableOk s c = false := by
    refine Bool.eq_false_iff.2 fun hok => ?_
    obtain ⟨hstate, hring, hshadow, hbook⟩ := wqEnableOk_spec hok
    rcases hbad with hbusy | hmisring | hmisshadow | ⟨hsome, hforeign⟩
    · exact hbusy hstate
    · exact hmisring hring
    · exact hmisshadow hshadow
    · exact hbook.elim hsome hforeign
  refine runStep_refuse hrun ?_
  simp only [wqRefusal_begun, Option.isNone_iff_eq_none.1 hown, wqEnableOk_begun, hfails]
  rfl

end Sys2Proof.Machine
end

section
/-!
PROOFS. Events of the dray engines (R536 to R560): doorbells, descriptors, fences, late errors, stopping, pacing and
FETCH channels. The instant to which PACING_FLUSH moves the clock is log entry 26.
-/

namespace Sys2Proof.Machine

/-! ### What moving bytes changes -/

/-- What a descriptor reads depends on host memory and bulk memory alone. -/
theorem gather_withDray (s : State) (x : Dray) (y : Tab DWord) (fn : Nat) (ps : List DescPair) :
    State.gather { s with dray := x, ctr := y } fn ps = s.gather fn ps := by
  induction ps with
  | nil => rfl
  | cons p ps ih =>
    simp only [State.gather, ih]
    rfl

/-- What a descriptor writes does not depend on the engines and the counters, and leaves them. -/
theorem scatter_withDray (s : State) (x : Dray) (y : Tab DWord) (fn : Nat) (ps : List DescPair) (bs : List Byte) :
    State.scatter fn ps bs { s with dray := x, ctr := y } =
      { State.scatter fn ps bs s with dray := x, ctr := y } := by
  induction ps generalizing bs s with
  | nil => rfl
  | cons p ps ih =>
    unfold State.scatter
    simp only
    split
    · exact ih s bs
    · rw [← ih]
      refine congrArg (State.scatter fn ps (bs.drop p.len)) ?_
      split
      · rfl
      · split <;> rfl

/-- The destination pairs lie in host memory and bulk memory; a burst written whole loses its poison (R800). -/
theorem scatter_frame (s : State) (fn : Nat) (ps : List DescPair) (bs : List Byte) :
    ∃ h b m, State.scatter fn ps bs s = { s with hostMem := h, bulk := b, mem := m } := by
  induction ps generalizing bs s with
  | nil => exact ⟨_, _, _, rfl⟩
  | cons p ps ih =>
    unfold State.scatter
    simp only
    split
    · exact ih s bs
    · split
      · exact ih s _
      · split
        · exact ih (s.writeBulk p.addr _) _
        · exact ih (s.writeHost fn p.addr _) _

/-- A fault message changes the foreman and its counters. -/
theorem raiseMsg_frame (s : State) (m : FaultMsg) : ∃ f y, s.raiseMsg m = { s with flt := f, ctr := y } := by
  obtain ⟨t, ht⟩ : ∃ t, t = s.raiseMsg m := ⟨_, rfl⟩
  have hkeeps : ({ s.raiseMsg m with flt := t.flt, ctr := t.ctr } : State) = { s with flt := t.flt, ctr := t.ctr } := by
    unfold State.raiseMsg
    split
    · rfl
    · exact (fillSlot_keeps (fun u => { u with flt := t.flt, ctr := t.ctr }) _ _ (fun _ _ => rfl) fun _ _ => rfl).trans
        (escalate_keeps (fun u => { u with flt := t.flt, ctr := t.ctr }) _ _ (fun _ _ => rfl) fun _ _ => rfl)
  exact ⟨t.flt, t.ctr, by rw [← hkeeps, ← ht]⟩

/-! ### One channel changes -/

/-- Only the dray and the counters have changed; channel k has become c, and every other channel is as before. -/
structure ChanStep (k : Nat) (s t : State) (c : DrayChan) : Prop where
  frame : t = { s with dray := t.dray, ctr := t.ctr }
  chan : t.chan k = c
  others : ∀ x, x ≠ k → t.chan x = s.chan x

namespace ChanStep

variable {k : Nat} {s t u : State} {c c' : DrayChan}

theorem trans (h : ChanStep k s t c) (g : ChanStep k t u c') : ChanStep k s u c' where
  frame := by rw [g.frame, h.frame]
  chan := g.chan
  others x hx := (g.others x hx).trans (h.others x hx)

theorem refl (k : Nat) (s : State) : ChanStep k s s (s.chan k) := ⟨rfl, rfl, fun _ _ => rfl⟩

theorem setChan (h : ChanStep k s t c) (c' : DrayChan) : ChanStep k s (t.setChan k c') c' :=
  h.trans ⟨rfl, State.chan_setChan t k c', fun x hx => State.chan_setChan_other t k x c' hx⟩

theorem countN (h : ChanStep k s t c) (o n : Nat) : ChanStep k s (t.countN o n) c :=
  ⟨h.frame ▸ rfl, h.chan, h.others⟩

theorem count (h : ChanStep k s t c) (o : Nat) : ChanStep k s (t.count o) c := h.countN o 1

/-- The owner of an engine is no part of a channel. -/
theorem setOwner (h : ChanStep k s t c) (e o : Nat) : ChanStep k s (t.setOwner e o) c :=
  ⟨h.frame ▸ rfl, h.chan, h.others⟩

theorem takeEngine (h : ChanStep k s t c) : ChanStep k s (t.takeEngine k) c := by
  unfold State.takeEngine
  simp only
  split
  · split
    · exact (h.count _).setOwner _ _
    · exact h
  · exact h.setOwner _ _

theorem endBeats (h : ChanStep k s t c) (n : Nat) : ChanStep k s (t.endBeats k n) c := by
  unfold State.endBeats
  simp only
  split
  · exact ((h.countN _ n).setOwner _ _).setOwner _ _
  · exact (h.countN _ n).setOwner _ _

/-- A change of other parts of the state, made to both. -/
theorem map (h : ChanStep k s t c) (g : State → State)
    (hg : ∀ u x y, g { u with dray := x, ctr := y } = { g u with dray := x, ctr := y })
    (hdray : ∀ u, (g u).dray = u.dray) : ChanStep k (g s) (g t) c := by
  have hchan (u : State) (x : Nat) : (g u).chan x = u.chan x := by rw [State.chan, State.chan, hdray]
  refine ⟨?_, (hchan t k).trans h.chan, fun x hx => ?_⟩
  · rw [h.frame, hg]
  · rw [hchan, hchan, h.others x hx]

theorem writeHost (h : ChanStep k s t c) (fn a : Nat) (bs : List Byte) :
    ChanStep k (s.writeHost fn a bs) (t.writeHost fn a bs) c :=
  h.map (·.writeHost fn a bs) (fun _ _ _ => rfl) fun _ => rfl

/-- A message to the foreman at a given address. -/
theorem raise (h : ChanStep k s t c) (src kind cls a access master : Nat) :
    ∃ f, ChanStep k { s with flt := f } (t.raise src kind cls (some a) access master) c := by
  obtain ⟨f, y, hmsg⟩ := raiseMsg_frame t
    { source := src, kind := kind, cls := cls, address := a % 2 ^ 48, access := access, master := master }
  refine ⟨f, ?_⟩
  rw [show t.raise src kind cls (some a) access master = { t with flt := f, ctr := y } from hmsg]
  exact ⟨by rw [h.frame], h.chan, h.others⟩

theorem fnOfChan (h : ChanStep k s t c) (x : Nat) : t.fnOfChan x = s.fnOfChan x := by
  rw [h.frame]
  rfl

end ChanStep

/-! ### The parts of a descriptor's end, R545 to R549 -/

section Descriptors

variable {k : Nat} {s t : State} {c : DrayChan} {d : Desc}

/-- The state in which a descriptor has written its first n destination bytes and then its STATUS. -/
def State.descWritten (s : State) (k : Nat) (d : Desc) (n v : Nat) : State :=
  (State.scatter (s.fnOfChan k) d.pairs ((s.gather (s.fnOfChan k) d.pairs).take n) s).writeHost (s.fnOfChan k)
    (d.addr + 0xC) (leBytes 4 v)

theorem descWritten_frame (s : State) (k : Nat) (d : Desc) (n v : Nat) :
    ∃ h b m, s.descWritten k d n v = { s with hostMem := h, bulk := b, mem := m } := by
  obtain ⟨h, b, m, hscatter⟩ := scatter_frame s (s.fnOfChan k) d.pairs
    ((s.gather (s.fnOfChan k) d.pairs).take n)
  exact ⟨_, b, m, by rw [State.descWritten, hscatter]; rfl⟩

theorem readHost_descWritten (s : State) (k : Nat) (d : Desc) (n v : Nat) :
    (s.descWritten k d n v).readHost (s.fnOfChan k) (d.addr + 0xC) 4 = leBytes 4 v :=
  readHost_writeHost _ _ _ (leBytes 4 v)

namespace DrayChan

/-- What a channel becomes when the descriptor b at CUR, with its pairs, begins, R542. -/
def begun (c : DrayChan) (b : List Byte) (ps : List DescPair) : DrayChan :=
  { c with fetching := none, desc := some { addr := c.cur.toNat, copy := b, pairs := ps } }

/-- What a channel becomes when its descriptor has written n destination bytes. -/
def moved (c : DrayChan) (d : Desc) (n : Nat) : DrayChan :=
  { c with written := noteWritten d.pairs n c.written
           lateSeen := c.lateSeen.filter (fun a => a != d.addr)
           bulkDone := if d.pairs.any (fun p => p.dst && p.space == 1) && n != 0
             then d.addr :: c.bulkDone.filter (· != d.addr) else c.bulkDone.filter (· != d.addr) }

/-- What a channel becomes when it parks, R545. -/
def parked (c : DrayChan) : DrayChan := { c with desc := none, state := .parked }

/-- What a channel becomes when a fence begins a new count of late errors, R551. -/
def fenced (c : DrayChan) : DrayChan := { c with written := [], lateSince := 0, lateSeen := [], bulkDone := [] }

/-- What a channel becomes at the first late error of the descriptor at address a, R552. -/
def late (c : DrayChan) (a : Nat) : DrayChan := { c with lateSince := c.lateSince + 1, lateSeen := a :: c.lateSeen }

/-- What a FETCH channel becomes when the frame before rest leaves its source queue, R536. -/
def popped (c : DrayChan) (rest : List DrayItem) : DrayChan := { c with source := rest, framesIn := c.framesIn - 1 }

end DrayChan

/-- A descriptor whose IRQ is clear sends no message. -/
theorem descStatus_of_quiet (hquiet : descIrq d.copy = false) (v : Nat) :
    s.descStatus k d v = s.writeHost (s.fnOfChan k) (d.addr + 0xC) (leBytes 4 v) :=
  if_neg (by rw [hquiet]; decide)

namespace ChanStep

theorem descMove (h : ChanStep k s t c) (d : Desc) (n : Nat) :
    ChanStep k (State.scatter (s.fnOfChan k) d.pairs ((s.gather (s.fnOfChan k) d.pairs).take n) s) (t.descMove k d n)
      (c.moved d n) := by
  have hgather : t.gather (s.fnOfChan k) d.pairs = s.gather (s.fnOfChan k) d.pairs := by
    rw [h.frame, gather_withDray]
  have hdray (u : State) (bs : List Byte) : (State.scatter (s.fnOfChan k) d.pairs bs u).dray = u.dray := by
    obtain ⟨_, _, _, hu⟩ := scatter_frame u (s.fnOfChan k) d.pairs bs
    rw [hu]
  have hscatter := h.map (State.scatter (s.fnOfChan k) d.pairs ((s.gather (s.fnOfChan k) d.pairs).take n))
    (fun u x y => scatter_withDray u x y _ _ _) (fun u => hdray u _)
  unfold State.descMove
  simp only [h.fnOfChan, hgather, hscatter.chan]
  exact (hscatter.setChan _).countN _ _

/-- A descriptor without IRQ writes its bytes and its STATUS. -/
theorem descWritten (h : ChanStep k s t c) (hquiet : descIrq d.copy = false) (n v : Nat) :
    ChanStep k (s.descWritten k d n v) ((t.descMove k d n).descStatus k d v) (c.moved d n) := by
  have hmove := h.descMove d n
  have hfn : (t.descMove k d n).fnOfChan k = s.fnOfChan k := by
    obtain ⟨_, _, _, hscatter⟩ := scatter_frame s (s.fnOfChan k) d.pairs
      ((s.gather (s.fnOfChan k) d.pairs).take n)
    rw [hmove.fnOfChan, hscatter]
    rfl
  rw [descStatus_of_quiet hquiet, hfn]
  exact hmove.writeHost _ _ _

/-- A RUNNING channel without a pending doorbell parks behind a descriptor with EOC. -/
theorem descEnd (h : ChanStep k s t c) {b : List Byte} (hrunning : c.state = .running) (hdoorbell : c.dbPending = false)
    (heoc : descEoc b = true) : ChanStep k s (t.descEnd k b) c.parked := by
  have hchan : (t.count (chanReg k + 0x80)).chan k = c := h.chan
  unfold State.descEnd
  simp only [hchan, hrunning, heoc, Bool.not_true, Bool.false_eq_true, if_false]
  rw [if_neg (by simp [hdoorbell])]
  exact (((h.count _).setChan _).setChan c.parked).count _

/-- A descriptor that ends BAD on a channel that then parks. -/
theorem descBad (h : ChanStep k s t c) (hrunning : c.state = .running) (hdoorbell : c.dbPending = false)
    (heoc : descEoc d.copy = true) (hquiet : descIrq d.copy = false) (code n addr access : Nat) :
    ∃ f, ChanStep k { s.descWritten k d n (2 + 256 * code) with flt := f } (t.descBad k d code n addr access)
      (c.moved d n).parked := by
  obtain ⟨f, hraise⟩ := (((h.descWritten hquiet n (2 + 256 * code)).count (chanReg k + 0x90)).count
    (dryBase (k / 32) + 0x108)).raise (chanSource k) 0x28 1 addr access (chanSource k)
  exact ⟨f, (hraise.descEnd hrunning hdoorbell heoc).endBeats _⟩

end ChanStep

end Descriptors

/-! ### Chain channels, R545 to R552 and R560 -/

section Chains

variable {s : State} {k : Nat} {d : Desc}

/-- A doorbell of the owner at a PARKED chain. -/
theorem chainDoorbell_of_parked (hchain : isChain k = true) (hparked : (s.chan k).state = .parked) :
    s.chainDoorbell (s.requesterOfChan k) k =
      (s.setChan k { s.chan k with state := .running }).setChan k
        { s.chan k with state := .running, fetching := some true, dbPending := false } := by
  simp only [State.chainDoorbell, State.issueFetch, State.chan_setChan, hchain, hparked, Bool.not_true,
    bne_self_eq_false, Bool.or_self, Bool.false_eq_true, if_false]

/-- The descriptor at CUR has come, is no fence, passes every check and has bytes to move. -/
theorem descFetched_step {listBad : Bool} {b : List Byte} {ps : List DescPair} (hrunning : (s.chan k).state = .running)
    (hfetch : (s.chan k).fetching = some false) (hread : s.readHost (s.fnOfChan k) (s.chan k).cur.toNat 64 = b)
    (hfence : descFence b = false) (hcheck : s.descCheck k b listBad = (0, ps)) (hbytes : 0 < dstBytes ps) :
    ChanStep k s (s.descFetched k false listBad) ((s.chan k).begun b ps) := by
  have hcheck' (c : DrayChan) : (s.setChan k c).descCheck k b listBad = (0, ps) := hcheck
  have heq : s.descFetched k false listBad =
      ((s.setChan k { s.chan k with fetching := none }).setChan k ((s.chan k).begun b ps)).takeEngine k := by
    simp only [State.descFetched, DrayChan.begun, hrunning, hfetch, hread, hfence, hcheck', hbytes.ne',
      bne_self_eq_false, Bool.false_eq_true, if_false]
  rw [heq]
  exact (((ChanStep.refl k s).setChan _).setChan _).takeEngine

/-- The descriptor in progress writes its last byte and its STATUS, and the channel parks. -/
theorem descFinished_step (hrunning : (s.chan k).state = .running) (hdoorbell : (s.chan k).dbPending = false)
    (hdesc : (s.chan k).desc = some d) (hfence : d.fence = false) (heoc : descEoc d.copy = true)
    (hquiet : descIrq d.copy = false) :
    ChanStep k (s.descWritten k d (dstBytes d.pairs) 1) (s.descFinished k)
      ((s.chan k).moved d (dstBytes d.pairs)).parked := by
  simp only [State.descFinished, hdesc, hfence, Bool.false_eq_true, if_false]
  exact (((ChanStep.refl k s).takeEngine.descWritten hquiet _ 1).descEnd hrunning hdoorbell heoc).endBeats _

/-- The read-backs of a fence have returned: its STATUS tells the late errors, and the channel parks. -/
theorem descFenceDone_step (hrunning : (s.chan k).state = .running) (hdoorbell : (s.chan k).dbPending = false)
    (hdesc : (s.chan k).desc = some d) (hfence : d.fence = true) (heoc : descEoc d.copy = true)
    (hquiet : descIrq d.copy = false) (addr : Nat) :
    ChanStep k (s.writeHost (s.fnOfChan k) (d.addr + 0xC) (leBytes 4 (4 + 65536 * min (s.chan k).lateSince 65535)))
      (s.descFenceDone k false addr) (s.chan k).fenced.parked := by
  have heq : s.descFenceDone k false addr = (((s.setChan k (s.chan k).fenced).descStatus k d
      (4 + 65536 * min (s.chan k).lateSince 65535)).count (chanReg k + 0xA0)).descEnd k d.copy := by
    simp only [State.descFenceDone, DrayChan.fenced, hdesc, hfence, Bool.not_true, Bool.false_and, Bool.false_eq_true,
      if_false]
  rw [heq, descStatus_of_quiet hquiet]
  exact ((((ChanStep.refl k s).setChan (s.chan k).fenced).writeHost _ _ _).count _).descEnd hrunning hdoorbell heoc

/-- The first late error of a descriptor is counted, written behind it and told to the foreman. -/
theorem lateError_step {a : Nat} (hdone : (s.chan k).bulkDone.contains a = true)
    (hfirst : (s.chan k).lateSeen.contains a = false) (beat : Nat) :
    ∃ f, ChanStep k { s.writeHost (s.fnOfChan k) (a + 0x34)
      (leBytes 4 (1 + 256 * codeDstWrite + 65536 * min beat 65535)) with flt := f } (s.lateError k a beat)
      ((s.chan k).late a) := by
  simp only [State.lateError, hdone, hfirst, Bool.not_true, Bool.not_false, Bool.false_eq_true, if_false, if_true]
  exact ((((ChanStep.refl k s).setChan ((s.chan k).late a)).writeHost _ _ _).count _).raise _ _ _ _ _ _

/-- No MAINT_ENTER waits, so none is finished. -/
theorem maintCheck_idle (h : s.clerk.waiting = []) : s.maintCheck = s := by simp [State.maintCheck, h]

/-- A STOPPING channel with nothing in progress, for which no command waits. -/
theorem chainStopped_of_idle (hstopping : (s.chan k).state = .stopping) (hdesc : (s.chan k).desc = none)
    (hidle : s.clerk.waiting = []) : s.chainStopped k = s.setChan k { s.chan k with state := .disabled } := by
  simp only [State.chainStopped, hstopping, hdesc, bne_self_eq_false, Option.isSome_none, Bool.or_self,
    Bool.false_eq_true, if_false]
  rw [finishKind_idle (by exact hidle), maintCheck_idle (by exact hidle)]

end Chains

/-! ### Frame channels, R536, R538 and R556 -/

section FrameChannels

variable {s : State} {k : Nat} {c : DrayChan}

/-- A WAITING frame channel whose FILL reaches HI. -/
theorem pacingHi_step (hframes : isChain k = false) (hwaiting : (s.chan k).moving = false)
    (hhi : s.chanHi k ≤ s.chanFill k) (hfill : 0 < s.chanFill k) :
    ChanStep k s (s.pacingHi k) { s.chan k with moving := true } := by
  rw [show s.pacingHi k = (s.setChan k { s.chan k with moving := true }).takeEngine k from
    if_neg (by simp [hframes, hwaiting, hhi, hfill.ne'])]
  exact ((ChanStep.refl k s).setChan _).takeEngine

/-- Time passes to an instant that lies ahead. -/
theorem ticks_advanceTo (s : State) (n : Nat) : (s.advanceTo n).time.ticks = max s.time.ticks n := by
  rw [State.advanceTo, State.advance_ticks]
  omega

/-- The oldest frame of a WAITING frame channel has waited FLUSH. -/
theorem pacingFlush_step {b t0 : Nat} {rest : List (Nat × Nat)} (hframes : isChain k = false)
    (hwaiting : (s.chan k).moving = false) (hsource : s.sourceOf k = (b, t0) :: rest) (hfill : 0 < s.chanFill k) :
    ChanStep k (s.advanceTo (rest.foldl (fun m p => min m p.2) t0 + nsTicks (s.chanFlush k))) (s.pacingFlush k)
      { s.chan k with moving := true } := by
  unfold State.pacingFlush
  simp only [hsource]
  rw [if_neg (by simp [hframes, hwaiting, hfill.ne'])]
  exact (((ChanStep.refl k _).setChan _).count _).takeEngine

/-- At the end of a frame a frame channel may go back to WAITING. -/
theorem ChanStep.pacingEnd {t : State} (h : ChanStep k s t c) :
    ∃ m, ChanStep k s (t.pacingEnd k) { c with moving := m } := by
  unfold State.pacingEnd
  split
  · exact ⟨false, h.chan ▸ h.setChan _⟩
  · exact ⟨c.moving, h⟩

/-- The bytes of a frame that waits at a FETCH channel. -/
def State.itemBytes (s : State) (i : DrayItem) : List Byte :=
  i.segs.flatMap fun p => s.readHost (s.fnOfQueue i.queue) p.1 p.2

/-- The state in which such a frame is whole in the frame hold and next in its queue's order (R536). -/
def State.itemHeld (s : State) (i : DrayItem) : State :=
  let ids := Tab.get [] s.joinery.order (100 + i.queue) ++ [i.frame]
  let order := Tab.set [] s.joinery.order (100 + i.queue) ids
  State.modFrame { s with joinery := { s.joinery with order := order } } i.frame
    (fun f => { f with bytes := s.itemBytes i, whole := true, stage := .dispatch, since := s.time.ticks })

/-- A frame whose entry is still there is read into the frame hold. -/
theorem fetchMove_step {i : DrayItem} {rest : List DrayItem} (hmoving : (s.chan k).moving = true)
    (hsource : (s.chan k).source = i :: rest) (hstarted : (s.startedOf i.queue i.sn).isSome = true) :
    ∃ m, ChanStep k (s.itemHeld i) (s.fetchMove k false) { (s.chan k).popped rest with moving := m } := by
  obtain ⟨v, hv⟩ := Option.isSome_iff_exists.1 hstarted
  have htaken := (ChanStep.refl k s).takeEngine
  have hpopped := htaken.setChan ((s.chan k).popped rest)
  have hstill (c : DrayChan) : ((s.takeEngine k).setChan k c).startedOf i.queue i.sn = some v := by
    rw [htaken.frame]
    exact hv
  have hheld := hpopped.map (·.itemHeld i) (fun _ _ _ => rfl) fun _ => rfl
  obtain ⟨m, hend⟩ := ((hheld.count (chanReg k + 0xC8)).countN (chanReg k + 0x88)
    (((s.takeEngine k).setChan k ((s.chan k).popped rest)).itemBytes i).length).pacingEnd
  refine ⟨m, ?_⟩
  unfold State.fetchMove
  simp only [hsource, htaken.chan]
  rw [if_neg (by simp [hmoving])]
  simp only [hstill, Bool.false_eq_true, if_false]
  exact hend.endBeats _

end FrameChannels

/-! ### The events -/

section Events

variable {s : State} {e ch : Nat} {d : Desc}

theorem channel_exists (he : e < 4) (hch : ch < 32) : (decide (e < 4) && decide (ch < 32)) = true := by simp [he, hch]

theorem isChain_chainChannel (e : Nat) (hlow : 16 ≤ ch) (hch : ch < 32) : isChain (32 * e + ch) = true := by
  rw [isChain, decide_eq_true_eq]
  omega

theorem isChain_frameChannel (e : Nat) (hch : ch < 16) : isChain (32 * e + ch) = false := by
  rw [isChain, decide_eq_false_iff_not]
  omega

theorem dryChannelDoorbell_wakes {fn : Nat} (hrun : s.pwr.state = .run) (he : e < 4) (hlow : 16 ≤ ch) (hch : ch < 32)
    (howner : s.requesterOfChan (32 * e + ch) = fn) (hparked : (s.chan (32 * e + ch)).state = .parked) :
    ∃ t, exec (.dryChannelDoorbell fn e ch) s = .next t ∧ t = { s with dray := t.dray } ∧
      t.dray.engines = s.dray.engines ∧
      t.chan (32 * e + ch) =
        { s.chan (32 * e + ch) with state := .running, fetching := some true, dbPending := false } ∧
      ∀ k, k ≠ 32 * e + ch → t.chan k = s.chan k := by
  obtain ⟨w, hw⟩ : ∃ w : DrayChan, w =
    { s.chan (32 * e + ch) with state := .running, fetching := some true, dbPending := false } := ⟨_, rfl⟩
  have htouch : s.hostTouch = s := if_pos (by rw [hrun]; rfl)
  have hstep := ((ChanStep.refl (32 * e + ch) s).setChan { s.chan (32 * e + ch) with state := .running }).setChan w
  rw [← hw]
  refine ⟨(s.setChan (32 * e + ch) { s.chan (32 * e + ch) with state := .running }).setChan (32 * e + ch) w,
    congrArg ok ?_, rfl, rfl, hstep.chan, hstep.others⟩
  rw [htouch, if_pos (channel_exists he hch), ← howner, hw]
  exact chainDoorbell_of_parked (isChain_chainChannel e hlow hch) hparked

theorem descFetched_begins {listBad : Bool} {b : List Byte} {ps : List DescPair} (he : e < 4) (hch : ch < 32)
    (hrunning : (s.chan (32 * e + ch)).state = .running) (hfetch : (s.chan (32 * e + ch)).fetching = some false)
    (hread : s.readHost (s.fnOfChan (32 * e + ch)) (s.chan (32 * e + ch)).cur.toNat 64 = b)
    (hfence : descFence b = false) (hcheck : s.descCheck (32 * e + ch) b listBad = (0, ps))
    (hbytes : 0 < dstBytes ps) :
    ∃ t, exec (.descFetched e ch false listBad) s = .next t ∧ t = { s with dray := t.dray, ctr := t.ctr } ∧
      t.chan (32 * e + ch) = { s.chan (32 * e + ch) with
        fetching := none, desc := some { addr := (s.chan (32 * e + ch)).cur.toNat, copy := b, pairs := ps } } ∧
      ∀ k, k ≠ 32 * e + ch → t.chan k = s.chan k := by
  have hstep := descFetched_step hrunning hfetch hread hfence hcheck hbytes
  exact ⟨_, congrArg ok (if_pos (channel_exists he hch)), hstep.frame, hstep.chan, hstep.others⟩

theorem descFinished_parks (he : e < 4) (hch : ch < 32) (hrunning : (s.chan (32 * e + ch)).state = .running)
    (hdoorbell : (s.chan (32 * e + ch)).dbPending = false) (hdesc : (s.chan (32 * e + ch)).desc = some d)
    (hfence : d.fence = false) (heoc : descEoc d.copy = true) (hquiet : descIrq d.copy = false) :
    ∃ t, exec (.descFinished e ch) s = .next t ∧
      t = { s with dray := t.dray, hostMem := t.hostMem, bulk := t.bulk, mem := t.mem, ctr := t.ctr } ∧
      (t.chan (32 * e + ch)).state = .parked ∧ (t.chan (32 * e + ch)).desc = none ∧
      t.readHost (s.fnOfChan (32 * e + ch)) (d.addr + 0xC) 4 = leBytes 4 1 ∧
      t.hostMem = (s.descWritten (32 * e + ch) d (dstBytes d.pairs) 1).hostMem ∧
      t.bulk = (s.descWritten (32 * e + ch) d (dstBytes d.pairs) 1).bulk ∧
      ∀ k, k ≠ 32 * e + ch → t.chan k = s.chan k := by
  have hstep := descFinished_step hrunning hdoorbell hdesc hfence heoc hquiet
  obtain ⟨_, _, _, hwritten⟩ := descWritten_frame s (32 * e + ch) d (dstBytes d.pairs) 1
  refine ⟨_, congrArg ok (if_pos (channel_exists he hch)), ?_, congrArg (·.state) hstep.chan,
    congrArg (·.desc) hstep.chan, ?_, ?_, ?_, fun x hx => (hstep.others x hx).trans ?_⟩
  · rw [hstep.frame, hwritten]
  · rw [hstep.frame]
    exact readHost_descWritten s _ d _ 1
  · rw [hstep.frame]
  · rw [hstep.frame]
  · rw [hwritten]
    rfl

theorem descMoveError_parks {write : Bool} {addr n : Nat} (he : e < 4) (hch : ch < 32)
    (hrunning : (s.chan (32 * e + ch)).state = .running) (hdoorbell : (s.chan (32 * e + ch)).dbPending = false)
    (hdesc : (s.chan (32 * e + ch)).desc = some d) (hfence : d.fence = false) (heoc : descEoc d.copy = true)
    (hquiet : descIrq d.copy = false) :
    ∃ t, exec (.descMoveError e ch write addr n) s = .next t ∧
      t = { s with dray := t.dray, hostMem := t.hostMem, bulk := t.bulk, mem := t.mem, ctr := t.ctr, flt := t.flt } ∧
      (t.chan (32 * e + ch)).state = .parked ∧ (t.chan (32 * e + ch)).desc = none ∧
      t.readHost (s.fnOfChan (32 * e + ch)) (d.addr + 0xC) 4 = leBytes 4 (2 + 256 * (if write then 2 else 1)) ∧
      t.bulk = (s.descWritten (32 * e + ch) d (beatCut d.pairs (min n (dstBytes d.pairs)))
        (2 + 256 * (if write then 2 else 1))).bulk := by
  obtain ⟨f, hstep⟩ := (ChanStep.refl (32 * e + ch) s).takeEngine.descBad hrunning hdoorbell heoc hquiet
    (if write then 2 else 1) (beatCut d.pairs (min n (dstBytes d.pairs))) addr (if write then 2 else 1)
  obtain ⟨_, _, _, hwritten⟩ := descWritten_frame s (32 * e + ch) d (beatCut d.pairs (min n (dstBytes d.pairs)))
    (2 + 256 * (if write then 2 else 1))
  refine ⟨_, congrArg ok ?_, ?_, congrArg (·.state) hstep.chan, congrArg (·.desc) hstep.chan, ?_, ?_⟩
  · simp only [hdesc]
    exact if_neg (by simp [hfence, he, hch])
  · rw [hstep.frame, hwritten]
  · rw [hstep.frame]
    exact readHost_descWritten s _ d _ _
  · rw [hstep.frame]

theorem descFenceDone_parks {addr : Nat} (he : e < 4) (hch : ch < 32)
    (hrunning : (s.chan (32 * e + ch)).state = .running) (hdoorbell : (s.chan (32 * e + ch)).dbPending = false)
    (hdesc : (s.chan (32 * e + ch)).desc = some d) (hfence : d.fence = true) (heoc : descEoc d.copy = true)
    (hquiet : descIrq d.copy = false) :
    ∃ t, exec (.descFenceDone e ch false addr) s = .next t ∧
      t = { s with dray := t.dray, hostMem := t.hostMem, ctr := t.ctr } ∧ (t.chan (32 * e + ch)).state = .parked ∧
      (t.chan (32 * e + ch)).desc = none ∧ (t.chan (32 * e + ch)).written = [] ∧
      (t.chan (32 * e + ch)).lateSince = 0 ∧
      t.hostMem = (s.writeHost (s.fnOfChan (32 * e + ch)) (d.addr + 0xC)
        (leBytes 4 (4 + 65536 * min (s.chan (32 * e + ch)).lateSince 65535))).hostMem := by
  have hstep := descFenceDone_step hrunning hdoorbell hdesc hfence heoc hquiet addr
  refine ⟨_, congrArg ok (if_pos (channel_exists he hch)), ?_, congrArg (·.state) hstep.chan,
    congrArg (·.desc) hstep.chan, congrArg (·.written) hstep.chan, congrArg (·.lateSince) hstep.chan, ?_⟩
  · rw [hstep.frame]
    rfl
  · rw [hstep.frame]

theorem lateError_first {a beat : Nat} (he : e < 4) (hch : ch < 32)
    (hdone : (s.chan (32 * e + ch)).bulkDone.contains a = true)
    (hfirst : (s.chan (32 * e + ch)).lateSeen.contains a = false) :
    ∃ t, exec (.lateError e ch a beat) s = .next t ∧
      t = { s with dray := t.dray, hostMem := t.hostMem, ctr := t.ctr, flt := t.flt } ∧
      (t.chan (32 * e + ch)).lateSince = (s.chan (32 * e + ch)).lateSince + 1 ∧
      (t.chan (32 * e + ch)).lateSeen = a :: (s.chan (32 * e + ch)).lateSeen ∧
      t.hostMem = (s.writeHost (s.fnOfChan (32 * e + ch)) (a + 0x34)
        (leBytes 4 (1 + 256 * 2 + 65536 * min beat 65535))).hostMem := by
  obtain ⟨f, hstep⟩ := lateError_step hdone hfirst beat
  refine ⟨_, congrArg ok (if_pos (channel_exists he hch)), ?_, congrArg (·.lateSince) hstep.chan,
    congrArg (·.lateSeen) hstep.chan, ?_⟩
  · rw [hstep.frame]
    rfl
  · rw [hstep.frame]

theorem chainStopped_disables (he : e < 4) (hch : ch < 32) (hstopping : (s.chan (32 * e + ch)).state = .stopping)
    (hdesc : (s.chan (32 * e + ch)).desc = none) (hidle : s.clerk.waiting = []) :
    ∃ t, exec (.chainStopped e ch) s = .next t ∧ t = { s with dray := t.dray } ∧
      t.chan (32 * e + ch) = { s.chan (32 * e + ch) with state := .disabled } :=
  ⟨s.setChan (32 * e + ch) { s.chan (32 * e + ch) with state := .disabled },
    congrArg ok ((if_pos (channel_exists he hch)).trans (chainStopped_of_idle hstopping hdesc hidle)), rfl,
    State.chan_setChan ..⟩

theorem pacingHi_moves (he : e < 4) (hch : ch < 16) (hwaiting : (s.chan (32 * e + ch)).moving = false)
    (hhi : s.chanHi (32 * e + ch) ≤ s.chanFill (32 * e + ch)) (hfill : 0 < s.chanFill (32 * e + ch)) :
    ∃ t, exec (.pacingHi e ch) s = .next t ∧ t = { s with dray := t.dray, ctr := t.ctr } ∧
      t.chan (32 * e + ch) = { s.chan (32 * e + ch) with moving := true } ∧
      ∀ k, k ≠ 32 * e + ch → t.chan k = s.chan k := by
  have hstep := pacingHi_step (isChain_frameChannel e hch) hwaiting hhi hfill
  exact ⟨_, congrArg ok (if_pos (channel_exists he (by omega))), hstep.frame, hstep.chan, hstep.others⟩

theorem pacingFlush_moves {b t0 : Nat} {rest : List (Nat × Nat)} (he : e < 4) (hch : ch < 16)
    (hwaiting : (s.chan (32 * e + ch)).moving = false) (hsource : s.sourceOf (32 * e + ch) = (b, t0) :: rest)
    (hfill : 0 < s.chanFill (32 * e + ch)) :
    ∃ t, exec (.pacingFlush e ch) s = .next t ∧ t = { s with time := t.time, dray := t.dray, ctr := t.ctr } ∧
      t.chan (32 * e + ch) = { s.chan (32 * e + ch) with moving := true } ∧
      t.time.ticks =
        max s.time.ticks (rest.foldl (fun m p => min m p.2) t0 + nsTicks (s.chanFlush (32 * e + ch))) ∧
      ∀ k, k ≠ 32 * e + ch → t.chan k = s.chan k := by
  have hstep := pacingFlush_step (isChain_frameChannel e hch) hwaiting hsource hfill
  refine ⟨_, congrArg ok (if_pos (channel_exists he (by omega))), ?_, hstep.chan, ?_, hstep.others⟩
  · rw [hstep.frame, advanceTo_frame]
  · rw [hstep.frame, ticks_advanceTo]

theorem fetchFrameMove_holds {i : DrayItem} {rest : List DrayItem} {f : Frame} (he : e < 4) (hch : ch < 8)
    (hmoving : (s.chan (32 * e + ch)).moving = true) (hsource : (s.chan (32 * e + ch)).source = i :: rest)
    (hstarted : (s.startedOf i.queue i.sn).isSome = true) (hframe : s.frame i.frame = some f) :
    ∃ t, exec (.fetchFrameMove e ch false) s = .next t ∧
      t = { s with dray := t.dray, frames := t.frames, joinery := t.joinery, ctr := t.ctr } ∧
      (t.chan (32 * e + ch)).source = rest ∧
      (t.chan (32 * e + ch)).framesIn = (s.chan (32 * e + ch)).framesIn - 1 ∧
      t.frame i.frame = some
        { f with bytes := s.itemBytes i, whole := true, stage := .dispatch, since := s.time.ticks } := by
  obtain ⟨m, hstep⟩ := fetchMove_step hmoving hsource hstarted
  refine ⟨_, congrArg ok (if_pos (by simp [he, hch])), ?_, congrArg (·.source) hstep.chan,
    congrArg (·.framesIn) hstep.chan, ?_⟩
  · rw [hstep.frame]
    rfl
  · rw [hstep.frame]
    refine (State.frame_setFrame ..).trans ?_
    exact congrArg (Option.map _) hframe

end Events

/-- Settles O27, event by event. -/
theorem drayEventsComplete : Obligations.DrayEventsComplete :=
  ⟨fun _ _ _ _ => dryChannelDoorbell_wakes, fun _ _ _ _ _ _ => descFetched_begins, fun _ _ _ _ => descFinished_parks,
    fun _ _ _ _ _ _ _ => descMoveError_parks, fun _ _ _ _ _ => descFenceDone_parks, fun _ _ _ _ _ => lateError_first,
    fun _ _ _ => chainStopped_disables, fun _ _ _ => pacingHi_moves, fun _ _ _ _ _ _ => pacingFlush_moves,
    fun _ _ _ _ _ _ => fetchFrameMove_holds⟩

end Sys2Proof.Machine
end

section
/-!
PROOFS. What the clerk does before a command acts, for every command (R578, R580 to R582).
-/

namespace Sys2Proof.Machine

open Sys2Proof.Claims

/-- Every command runs under its own opcode, so the clerk's checks come before its effect. -/
theorem exec_command_eq_runStep : ∀ r ∈ Claims.commands, ∀ s c, ∃ eff, exec (r.2 c) s = runStep r.1 c s eff := by
  unfold Claims.commands
  repeat' refine List.forall_mem_cons.2 ⟨fun s c => ⟨_, rfl⟩, ?_⟩
  exact List.forall_mem_nil _

/-- A command with PARTNER that passes the checks has no effect, whatever it would do here: it is sent over. -/
theorem runStep_partner {s : State} {code : Nat} {c : Cmd} {eff : State → Eff} (h : answers s code c = true)
    (hp : c.partner = true) (e : (begun s code c).precheck code c = none) :
    runStep code c s eff = .next (sentOver s code c) := by
  obtain ⟨-, hkept⟩ := (answers_iff s code c).1 h
  simp only [runStep, ok, State.runCmd_eq, e, hkept, hp, if_true, sentOver]

/-- Settles O9. -/
theorem failedChecksRefuseTheCommand : Obligations.FailedChecksRefuseTheCommand := by
  intro r hr s c st d hans hfail
  obtain ⟨eff, hexec⟩ := exec_command_eq_runStep r hr s c
  rw [hexec]
  exact runStep_failed hans hfail

/-- Settles O10. -/
theorem partnerCommandsCrossTheTieBeam : Obligations.PartnerCommandsCrossTheTieBeam := by
  intro r hr s c hans hp hpass
  obtain ⟨eff, hexec⟩ := exec_command_eq_runStep r hr s c
  rw [hexec]
  exact runStep_partner hans hp hpass

end Sys2Proof.Machine
end

section
/-!
PROOFS. Bench commands without an image, and benches that are full (R588, R591, R594).
-/

namespace Sys2Proof.Machine

open Sys2Proof.Claims

/-- A bench command whose bench is full is refused and leaves the bench as it is. -/
theorem acceptSetting_of_full {u : State} {code : Nat} {c : Cmd} {params image : List Byte} (clamps : List Clamp)
    (hfull : 4096 ≤ (u.bench c.bench.toNat).settings.length ∨
      67108864 < benchBytes (u.bench c.bench.toNat) + image.length) :
    acceptSetting u code c params image clamps = .refuse u .noCapacity := by
  simp only [acceptSetting, Bool.or_eq_true, decide_eq_true_eq, hfull, if_true]

/-- The command of a row, where it runs and the row applies, hands the row's parameters, image and clamps to its bench.
PutsIntoBench says so of commands from anywhere; SET_WQ_SERVICE does it for those of a command queue only. -/
def HandsToBench (r : SettingRow) : Prop :=
  ∀ s c, runs s r.code c = true → r.holds (begun s r.code c) c = true → ∃ eff, exec (r.make c) s = runStep r.code c s eff ∧
    eff (begun s r.code c) = acceptSetting (begun s r.code c) r.code c (r.params (begun s r.code c) c)
      (r.image (begun s r.code c) c) (r.clamps (begun s r.code c) c)

theorem PutsIntoBench.handsToBench {r : SettingRow} (h : PutsIntoBench r) : HandsToBench r := by
  intro s c _ hholds
  obtain ⟨eff, hexec, heff⟩ := h s c
  exact ⟨eff, hexec, heff _ hholds⟩

/-- Rows whose commands hand over what they say are accepted while the bench has room. -/
theorem accepts_of_handsToBench {t : List SettingRow} (ht : ∀ r ∈ t, HandsToBench r) : Accepts t := by
  intro r hr s c hrun hholds hlen hbytes
  obtain ⟨eff, hexec, heff⟩ := ht r hr s c hrun hholds
  rw [hexec]
  exact runStep_done hrun (heff.trans (acceptSetting_of_room _ hlen hbytes))

/-- Rows whose commands hand over what they say are refused once the bench is full. -/
theorem overflows_of_handsToBench {t : List SettingRow} (ht : ∀ r ∈ t, HandsToBench r) : Overflows t := by
  intro r hr s c hrun hholds hfull
  obtain ⟨eff, hexec, heff⟩ := ht r hr s c hrun hholds
  rw [hexec]
  exact runStep_refuse hrun (heff.trans (acceptSetting_of_full _ hfull))

/-- SET_SLOT_SOURCE with a number in its range is not refused (R587). -/
theorem slotSource_number_ok {u : State} {c : Cmd} {e : Eff}
    (h : decide (1 ≤ c.f 0 16 16 ∧ c.f 0 16 16 ≤ if c.f 0 3 1 = 0 then 4096 else 16383) = true) :
    (if (decide (c.f 0 16 16 = 0) || decide ((if c.f 0 3 1 = 0 then 4096 else 16383) < c.f 0 16 16)) = true
      then Eff.refuse u .inconsistent (some 0) else e) = e := by
  obtain ⟨hmin, hmax⟩ := of_decide_eq_true h
  refine if_neg ?_
  rw [Bool.or_eq_true, decide_eq_true_eq, decide_eq_true_eq]
  omega

/-- SET_WQ_SERVICE of a command queue is refused as the other ring commands are (R527). -/
theorem handsToBench_wqService {s : State} {c : Cmd} (hrun : runs s 0x0910 c = true)
    (hq : (wqRefusal (begun s 0x0910 c) c (c.f 0 0 12) true).isNone = true) :
    ∃ eff, exec (.setWqService c) s = runStep 0x0910 c s eff ∧ eff (begun s 0x0910 c) =
      acceptSetting (begun s 0x0910 c) 0x0910 c (clampAll wqServiceFields c.params).1 []
        (clampAll wqServiceFields c.params).2 := by
  obtain ⟨q, i, ho⟩ := origin_of_runs hrun
  have hnone : serviceRefusal (begun s 0x0910 c) c = none := by
    simpa [serviceRefusal, ho] using hq
  refine ⟨_, rfl, ?_⟩
  simp only [hnone]

theorem handsToBench_settingRows : ∀ r ∈ Claims.settingRows, HandsToBench r := by
  simp only [Claims.settingRows, Claims.ranged, List.forall_mem_cons, List.not_mem_nil, false_imp_iff, implies_true, and_true]
  refine ⟨?timeRef, ?dpll, ?ptpInstance, ?ptpPort, ?portLatency, ?synce, ?timeIo, ?tsDaybook, ?spanLocal, ?spanPort,
    ?slotSource, ?portMode, ?portFrame, ?flowControl, ?eee, ?portWake, ?macsecPort, ?macsecSc, ?macsecSa, ?macMerge,
    ?gatePort, ?qsvPort, ?classService, ?flow, ?streamFilter, ?flowMeter, ?learnRule, ?streamGlobal, ?hook, ?wqService,
    ?drayChannel, ?bent, ?faultKind, ?faultGlobal, ?selftest, ?power⟩
  case wqService => exact fun s c => handsToBench_wqService
  all_goals
    refine PutsIntoBench.handsToBench (putsIntoBench_mk fun s c => ?_)
  case slotSource => exact ⟨_, rfl, fun u h => slotSource_number_ok h⟩
  all_goals exact ⟨_, rfl, fun u _ => rfl⟩

/-- Settles O34: each command clamps and hands over what its row says, and the bench has room. -/
theorem benchSettingsAreClampedAndHeld : Obligations.BenchSettingsAreClampedAndHeld :=
  accepts_of_handsToBench handsToBench_settingRows

/-- Settles O45: what each command hands over finds its bench full. -/
theorem fullBenchesRefuse : Obligations.FullBenchesRefuse :=
  ⟨overflows_of_handsToBench handsToBench_settingRows,
    overflows_of_handsToBench fun r hr => (putsIntoBench_imageRows r hr).handsToBench⟩

end Sys2Proof.Machine
end

section
/-!
PROOFS. Commands that only answer, and commands that act at once (R48, R106, R107, R153, R196, R239, R276, R281, R310,
R388, R471, R472, R590 to R592, R598, R603, R604).
-/

namespace Sys2Proof.Machine

open Sys2Proof.Claims

/-- Settles O28: none of these commands tests anything before it answers. -/
theorem queryCommandsAnswer : Obligations.QueryCommandsAnswer := by
  unfold Obligations.QueryCommandsAnswer Claims.queryRows
  repeat' refine Complete.cons (fun h _ => runStep_done h rfl) ?_
  exact .nil

/-- BENCH_OPEN of a command queue takes the lowest handle when it is free (R590). -/
theorem benchOpen_lowest {s : State} {c : Cmd} (h : runs s 0x0100 c = true)
    (hfree : (((begun s 0x0100 c).bench 0).state == .free) = true) :
    exec (.benchOpen c) s = .next (completed ((begun s 0x0100 c).setBench 0
      { state := .open, owner := (Cmd.queueOf c).getD 0, scope := c.scope.toNat }) c 0x0100 (some 0) []) := by
  obtain ⟨q, i, ho⟩ := origin_of_runs h
  have hfirst : (upto 0 4).find? (fun k => ((begun s 0x0100 c).bench k).state == .free) = some 0 :=
    List.find?_cons_of_pos hfree
  refine runStep_done h ?_
  simp only [ho, Bool.false_and, Bool.false_eq_true, if_false, hfirst]
  rfl

theorem complete_actionRows : Complete Claims.actionRows := by
  unfold Claims.actionRows
  refine .cons ?regWrite <| .cons ?benchOpen <| .cons ?benchDryFit <| .cons ?benchDiscard <| .cons ?timeSet <|
    .cons ?timeAccept <| .cons ?timeSlew <| .cons ?spanJoin <| .cons ?spanLeave <| .cons ?linkRestart <|
    .cons ?threshReset <| .cons ?macMergePartner <| .cons ?verifyRestart <| .cons ?filterUnblock <|
    .cons ?meterUnmark <| .cons ?seqResetRcvy <| .cons ?seqResetEntry <| .cons ?seqResetAccount <|
    .cons ?streamForget <| .cons ?gateListRead <| .cons ?microcodeRead <| .cons ?hookTableRead .nil
  all_goals
    intro s c h e
    dsimp only at h e ⊢
  case linkRestart | threshReset | benchDiscard => exact runStep_done h (if_pos e)
  case filterUnblock | meterUnmark => exact runStep_done h (if_neg (by simpa using e))
  case spanLeave => exact runStep_done h (if_neg (by simpa using e))
  case spanJoin | streamForget => exact runStep_done h (if_neg (by simpa using e))
  case benchOpen => exact benchOpen_lowest h e
  case regWrite =>
    simp only [Bool.and_eq_true, beq_iff_eq, decide_eq_true_eq, bne_iff_ne] at e
    obtain ⟨⟨haligned, hend⟩, hreset⟩ := e
    exact runStep_done h (if_neg (by simp [haligned, hend, hreset]))
  case benchDryFit =>
    split at e
    · next xs hfit => 
      refine runStep_done h ?_
      simp only [hfit]
      rfl
    · exact absurd e Bool.false_ne_true
  case timeSet =>
    simp only [Bool.and_eq_true, decide_eq_true_eq, Bool.not_eq_true', beq_iff_eq, List.isEmpty_iff] at e
    obtain ⟨⟨⟨⟨hns, hown⟩, hint⟩, hnow⟩, hidle⟩ := e
    refine runStep_done h ?_
    simp [Nat.not_le.2 hns, hown, hint, hnow, hidle, Eff.ok]
  case timeAccept =>
    simp only [Bool.and_eq_true, bne_iff_ne] at e
    obtain ⟨hown, hflag⟩ := e
    exact runStep_done h (if_neg (by simp [hown, hflag]))
  case timeSlew =>
    simp only [Bool.and_eq_true, Option.isNone_iff_eq_none] at e
    obtain ⟨hown, hidle⟩ := e
    exact runStep_done h ((if_neg (by simp [hown])).trans (if_neg (by simp [hidle])))
  case macMergePartner =>
    simp only [Bool.and_eq_true, bne_iff_ne] at e
    obtain ⟨⟨hport, hon⟩, hsize⟩ := e
    exact runStep_done h ((if_pos hport).trans ((if_neg hon).trans (if_neg hsize)))
  case verifyRestart =>
    simp only [Bool.and_eq_true] at e
    obtain ⟨hport, hfailed⟩ := e
    exact runStep_done h ((if_pos hport).trans (if_neg (by simpa using hfailed)))
  case seqResetRcvy | seqResetEntry =>
    simp only [Bool.and_eq_true, beq_iff_eq, bne_iff_ne] at e
    obtain ⟨hkind, hthere⟩ := e
    refine runStep_done h ?_
    simp only [hkind]
    exact if_neg hthere
  case seqResetAccount =>
    simp only [Bool.and_eq_true, beq_iff_eq] at e
    obtain ⟨⟨hkind, hthere⟩, hheld⟩ := e
    refine runStep_done h ?_
    simp only [hkind, hthere, hheld, if_true]
    rfl
  case gateListRead =>
    simp only [Bool.and_eq_true, Bool.not_eq_true', decide_eq_true_eq] at e
    obtain ⟨hlist, hroom⟩ := e
    exact runStep_done h ((if_neg (by simp [hlist])).trans (if_neg (Nat.not_lt.2 hroom)))
  case microcodeRead =>
    obtain ⟨hone, hmax, hvendor, hend, hroom⟩ := of_decide_eq_true e
    exact runStep_done h ((if_neg (by omega)).trans ((if_neg (by omega)).trans (if_neg (by omega))))
  case hookTableRead =>
    obtain ⟨hone, hmax, hroom, hthere⟩ := of_decide_eq_true e
    exact runStep_done h
      ((if_neg (by omega)).trans ((if_neg (Nat.not_le.2 hthere)).trans (if_neg (Nat.not_lt.2 hroom))))

/-- Settles O31. -/
theorem actionCommandsTakeEffect : Obligations.ActionCommandsTakeEffect := complete_actionRows

end Sys2Proof.Machine
end

section
/-!
PROOFS. Commands that pass their execution point and wait (R106, R151, R319, R529, R545, R574, R576, R595 to R600, R655,
R699, R736, R737, R739, R742).
-/

namespace Sys2Proof.Claims

open Sys2Proof.Machine

theorem Waits.nil : Waits [] := fun _ hr => nomatch hr

theorem Waits.cons {r : WaitRow} {l : List WaitRow}
    (h : ∀ {s : State} {c : Cmd}, passes s r.code c = true → r.holds (begun s r.code c) c = true →
      exec (r.make c) s = .next (waitsOn (r.leaves (begun s r.code c) c) (numberOf s r.code c) r.code c
        (r.kind (begun s r.code c) c)))
    (g : Waits l) : Waits (r :: l) :=
  List.forall_mem_cons.2 ⟨fun _ _ => h, g⟩

end Sys2Proof.Claims

namespace Sys2Proof.Machine

open Sys2Proof.Claims

theorem waits_waitRows : Waits Claims.waitRows := by
  unfold Claims.waitRows
  refine .cons ?fence <| .cons ?timeSet <| .cons ?patternChange <| .cons ?wqDisable <| .cons ?drayStop <|
    .cons ?drayAbort <| .cons ?bentSwitch <| .cons ?asyParam <| .cons ?asyKey <| .cons ?asyFirmware <|
    .cons ?asySnapshot <| .cons ?asyLegalTime <| .cons ?asyLogRoll <| .cons ?faultInject <| .cons ?selftest <|
    .cons ?memBist <| .cons ?eyeScan .nil
  all_goals
    intro s c h e
    dsimp only at h e ⊢
  case fence | asyParam | asyKey | asySnapshot | asyLegalTime | asyLogRoll | eyeScan => exact runStep_wait h rfl
  case timeSet =>
    simp only [Bool.and_eq_true, decide_eq_true_eq, Bool.not_eq_true', beq_iff_eq, List.isEmpty_iff] at e
    obtain ⟨⟨⟨⟨hns, hown⟩, hint⟩, hpps⟩, hidle⟩ := e
    exact runStep_wait h (by simp [Nat.not_le.2 hns, hown, hint, hpps, hidle])
  case patternChange =>
    simp only [Bool.and_eq_true, beq_iff_eq, Option.isNone_iff_eq_none, decide_eq_true_eq, bne_iff_ne] at e
    obtain ⟨⟨⟨⟨⟨hking, hidle⟩, hahead⟩, himg⟩, hother⟩, hshape⟩ := e
    refine runStep_wait h ((if_neg (by simp [hking])).trans ((if_neg (by simp [hidle])).trans (if_neg ?_)))
    simpa [Nat.not_lt.2 hahead, himg, hother] using hshape
  case wqDisable =>
    simp only [Bool.and_eq_true, Bool.or_eq_true, Option.isNone_iff_eq_none, beq_iff_eq] at e
    obtain ⟨hq, hrunning | herror⟩ := e
    · exact runStep_wait h (by simp only [hq, hrunning])
    · exact runStep_wait h (by simp only [hq, herror])
  case drayStop =>
    simp only [Bool.and_eq_true, Bool.or_eq_true, beq_iff_eq] at e
    obtain ⟨hown, hrunning | hparked⟩ := e
    · exact runStep_wait h (by simp [hown, hrunning])
    · exact runStep_wait h (by simp [hown, hparked])
  case drayAbort =>
    simp only [Bool.and_eq_true, Bool.or_eq_true, beq_iff_eq, Option.isNone_iff_eq_none] at e
    obtain ⟨⟨hown, hrunning | hparked⟩, hdesc⟩ := e
    · exact runStep_wait h (by simp [hown, hrunning, hdesc])
    · exact runStep_wait h (by simp [hown, hparked, hdesc])
  case bentSwitch =>
    simp only [Bool.and_eq_true, beq_iff_eq] at e
    obtain ⟨hbraced, hactive⟩ := e
    obtain ⟨hqueue, -, -, -⟩ := (passes_iff s _ c).1 h
    exact runStep_wait h (by simp [hbraced, hactive, hqueue])
  case asyFirmware =>
    obtain ⟨hmin, hmax⟩ := of_decide_eq_true e
    exact runStep_wait h (if_neg (by simp [hmin, hmax]))
  case faultInject => exact runStep_wait h ((if_pos e).trans (by simp only [State.force, e, if_true]))
  case selftest =>
    simp only [Bool.and_eq_true, decide_eq_true_eq, Bool.not_eq_true'] at e
    obtain ⟨⟨⟨hquiet, hunit⟩, hjoiner⟩, hkind⟩ := e
    exact runStep_wait h (by simp only [Nat.not_le.2 hquiet, hunit, hjoiner, hkind, decide_false, Bool.false_and,
      Bool.or_false, Bool.false_eq_true, if_false])
  case memBist =>
    simp only [Bool.and_eq_true, beq_iff_eq, bne_iff_ne] at e
    obtain ⟨⟨hmaint, hpattern⟩, htarget⟩ := e
    exact runStep_wait h (by simp [hmaint, hpattern, htarget])


section
variable {s : State} {c : Cmd}

/-- A capture keeps the number of its bank, and the number that is next (R319). -/
theorem capture_seq (s : State) (b : Nat) (n : BitVec 32) :
    (s.capture b n).stock.seq = s.stock.seq ∧ ((s.capture b n).bank b).seq = (s.bank b).seq := by
  refine ⟨?_, by simp only [State.capture, State.bank_setBank]⟩
  simp only [State.capture, State.setBank]
  split <;> rfl

/-- The bank of the next SEQ, where it is FREE, takes that SEQ (R320). -/
theorem reserveBank_free (k : Bank) (hfree : (s.bank (s.stock.seq.toNat % 2)).state = .free) :
    ∃ t, s.reserveBank k = some (s.stock.seq.toNat % 2, t) ∧ t.stock.seq = s.stock.seq + 1 ∧
      (t.bank (s.stock.seq.toNat % 2)).seq = s.stock.seq :=
  ⟨_, if_neg (by simp [hfree]), rfl, congrArg Bank.seq (State.bank_setBank ..)⟩

/-- A stocktake now of the whole post captures the bank it has reserved. -/
theorem stockSelf_now {b : Nat} {t : State} (hnow : c.f 0 16 2 = 0)
    (ht : s.reserveBank { all := true, tag := c.tag.toNat } = some (b, t)) :
    s.stockSelf c true false = .wait (t.capture b t.nowCycle) (.stocktake b) 0 := by
  have hinstant (n : BitVec 32) (v : Nat) : s.stockInstant 0 n v = none := rfl
  simp only [State.stockSelf, hnow, hinstant, Bool.not_true, Bool.false_and, Bool.false_eq_true, if_false, if_true,
    Nat.zero_ne_one, OfNat.zero_ne_ofNat, ht]

/-- STOCKTAKE now of the whole post takes the bank of the next SEQ, which is free, and waits for its copy (R319, R320). -/
theorem stocktakeNow_waits (h : runs s 0x0F00 c = true) (hself : c.scope = 0) (hall : c.f 0 0 1 = 1)
    (hnow : c.f 0 16 2 = 0) (hfree : ((begun s 0x0F00 c).bank (s.stock.seq.toNat % 2)).state = .free) :
    ∃ u, exec (.stocktake c) s =
        .next (waitsOn u (numberOf s 0x0F00 c) 0x0F00 c (.stocktake (s.stock.seq.toNat % 2))) ∧
      u.stock.seq = s.stock.seq + 1 ∧ (u.bank (s.stock.seq.toNat % 2)).seq = s.stock.seq := by
  obtain ⟨q, i, ho⟩ := origin_of_runs h
  obtain ⟨hpass, -⟩ := Bool.and_eq_true_iff.1 h
  obtain ⟨t, ht, hnext, hbank⟩ :=
    reserveBank_free (s := begun s 0x0F00 c) { all := true, tag := c.tag.toNat } hfree
  obtain ⟨hkept, hsame⟩ := capture_seq t (s.stock.seq.toNat % 2) t.nowCycle
  refine ⟨t.capture (s.stock.seq.toNat % 2) t.nowCycle, runStep_wait hpass ?eff, hkept.trans hnext, hsame.trans hbank⟩
  simp only [ho, hself, hall]
  exact stockSelf_now hnow ht

/-- BENCH_PEG of a fitted bench whose instant lies far enough ahead pegs it (R595 to R597). -/
theorem benchPeg_waits {xs : List Setting} {b : Bench} (h : runs s 0x0102 c = true)
    (hok : (begun s 0x0102 c).pegRefusal c = none)
    (hfit : (begun s 0x0102 c).dryFit (s.bench c.bench.toNat) = .inl xs)
    (hinstant : (begun s 0x0102 c).pegInstant c (stageUs (s.bench c.bench.toNat)) (s.bench c.bench.toNat) = some b) :
    exec (.benchPeg c) s = .next (waitsOn ((begun s 0x0102 c).pegBench c.bench.toNat b xs false)
      (numberOf s 0x0102 c) 0x0102 c (.peg c.bench.toNat)) := by
  obtain ⟨hpass, hself⟩ := Bool.and_eq_true_iff.1 h
  have hbench : (begun s 0x0102 c).bench c.bench.toNat = s.bench c.bench.toNat := rfl
  refine runStep_wait hpass ?_
  simp only [hok, hbench, hfit, hinstant]
  exact if_neg (by simp_all)

end

/-- Settles O33. -/
theorem waitingCommandsWait : Obligations.WaitingCommandsWait :=
  ⟨waits_waitRows, fun _ _ => stocktakeNow_waits, fun _ _ _ _ => benchPeg_waits⟩

end Sys2Proof.Machine
end

section
/-!
PROOFS. Events of the clerk: taking a command, staging and pegging a bench, and the partner's commands and answers (R568
to R582, R591, R599).
-/

namespace Sys2Proof.Machine

open Sys2Proof.Claims

/-! ### Taking a command, R572 and R578 -/

section Take

variable {s : State} {q : Nat} {f : Fetched}

/-- The checks of R578 look at no ring, counter or number of the clerk. -/
theorem precheck_takenState (s : State) (queues : Tab WorkQueue) (ctr : Tab DWord) (nextSn takeNo turn code : Nat)
    (c : Cmd) :
    State.precheck { s with queues := queues, ctr := ctr, nextSn := nextSn
                            clerk := { s.clerk with takeNo := takeNo, turn := turn } } code c = s.precheck code c := rfl

theorem queue_modQueue (s : State) (q : Nat) (g : WorkQueue → WorkQueue) : (s.modQueue q g).queue q = g (s.queue q) :=
  State.queue_setQueue s q _

theorem queue_count (s : State) (o q : Nat) : (s.count o).queue q = s.queue q := rfl

theorem queue_nextStart (s : State) (q : Nat) : s.nextStart.2.queue q = s.queue q := rfl

/-- Starting the head entry of a queue moves its CI over the entry's units. -/
theorem ci_passHead (h : (s.queue q).fetched.head? = some f) :
    ((s.passHead q).queue q).ci = (s.queue q).ci + BitVec.ofNat 16 f.units := by
  rw [State.passHead, queue_modQueue, h]
  rfl

/-- A well-formed command at the head of its queue that passes its checks: CI passes it, and it stands among those
taken. -/
theorem takeFrom_of_passes (hhead : s.cmdHead q = f) (hwell : malformedCause (s.queue q) f = 0)
    (hkind : hdrKind (entryHdr f.bytes) = 4) (hpass : s.precheck (packetOf q f).1 (packetOf q f).2 = none) :
    ∃ v, (Tab.get {} v q : WorkQueue).ci = (s.queue q).ci + BitVec.ofNat 16 f.units ∧ s.takeFrom q =
      { s with queues := v, nextSn := s.nextSn + 1, ctr := (s.count (cmdCount 0)).ctr
               clerk := { s.clerk with
                 turn := q, takeNo := s.clerk.takeNo + 1
                 taken := s.clerk.taken ++
                   [{ no := s.clerk.takeNo, opcode := (packetOf q f).1, cmd := (packetOf q f).2 }] } } := by
  unfold State.takeFrom
  extract_lets head a k r b no _ c
  have hf : head = f := hhead
  clear_value head
  subst hf
  have ha : a.queue q = { s.queue q with fetched := head :: (s.queue q).fetched.tail } := queue_modQueue s q _
  have hci : (b.queue q).ci = (s.queue q).ci + BitVec.ofNat 16 head.units := by
    dsimp only [b, r]
    rw [queue_count, queue_modQueue, queue_nextStart, ci_passHead (s := a) (f := head) (by rw [ha]; rfl), ha]
  obtain ⟨v, hv⟩ : ∃ v, a.passHead q = { s with queues := v } := ⟨_, rfl⟩
  have hr : r = (s.nextSn, { s with queues := v, nextSn := s.nextSn + 1 }) := by
    dsimp only [r]
    rw [hv]
    rfl
  obtain ⟨w, hw⟩ : ∃ w, b = { s with queues := w, nextSn := s.nextSn + 1, ctr := (s.count (cmdCount 0)).ctr } := by
    dsimp only [b]
    rw [hr]
    exact ⟨_, rfl⟩
  have hc : c = { s with queues := w, ctr := (s.count (cmdCount 0)).ctr, nextSn := s.nextSn + 1
                         clerk := { s.clerk with takeNo := s.clerk.takeNo + 1, turn := q } } := by
    dsimp only [c, no]
    rw [hw]
    rfl
  have hwell' : malformedCause (a.queue q) head = 0 := by
    rw [ha]
    exact hwell
  have hpass' : c.precheck k.1 k.2 = none := by
    rw [hc, precheck_takenState]
    exact hpass
  have hno : no = s.clerk.takeNo := by
    dsimp only [no]
    rw [hw]
  refine ⟨w, ?_, ?_⟩
  · rw [← hci, hw]
    rfl
  · rw [hwell', hkind, if_neg (by decide), if_neg (by decide), hpass']
    simp only [hc, hno]
    rfl

/-- With one host and nothing waiting or taken, COMMAND_TAKE takes the head of queue 0. -/
theorem commandTake_takesHead (hready : s.clerk.ready = true) (hrun : s.inRun = true) (hhost : s.glb.hostSplit = false)
    (hwait : s.clerk.waiting = []) (htaken : s.clerk.taken = []) (hrunning : (s.queue 0).state = .running)
    (hcovered : (s.queue 0).covered (s.queue 0).ci (s.cmdHead 0).units = true) :
    exec .commandTake s = .next (s.takeFrom 0) := by
  have hturn : s.cmdReady 0 = true := by simp [State.cmdReady, hrunning, hcovered, hwait, htaken]
  refine congrArg ok ((if_neg ?_).trans ?_)
  · simp [hready, hrun, hwait]
  · simp [hhost, hturn]

theorem commandTake_takes (hready : s.clerk.ready = true) (hrun : s.inRun = true) (hhost : s.glb.hostSplit = false)
    (hwait : s.clerk.waiting = []) (htaken : s.clerk.taken = []) (hrunning : (s.queue 0).state = .running)
    (hhead : s.cmdHead 0 = f) (hcovered : (s.queue 0).covered (s.queue 0).ci f.units = true)
    (hwell : malformedCause (s.queue 0) f = 0) (hkind : hdrKind (entryHdr f.bytes) = 4)
    (hpass : s.precheck (packetOf 0 f).1 (packetOf 0 f).2 = none) : ∃ t,
    exec .commandTake s = .next t ∧
    t = { s with queues := t.queues, clerk := t.clerk, ctr := t.ctr, nextSn := t.nextSn } ∧
    (t.queue 0).ci = (s.queue 0).ci + BitVec.ofNat 16 f.units ∧
    t.clerk = { s.clerk with
      turn := 0, takeNo := s.clerk.takeNo + 1
      taken := [{ no := s.clerk.takeNo, opcode := (packetOf 0 f).1, cmd := (packetOf 0 f).2 }] } ∧
    t.counter (cmdCount 0) = s.counter (cmdCount 0) + 1 ∧ t.nextSn = s.nextSn + 1 := by
  obtain ⟨v, hci, htake⟩ := takeFrom_of_passes hhead hwell hkind hpass
  rw [htaken] at htake
  rw [commandTake_takesHead hready hrun hhost hwait htaken hrunning (hhead ▸ hcovered), htake]
  exact ⟨_, rfl, rfl, hci, rfl, State.counter_count s _, rfl⟩

end Take

/-! ### Staging and pegs, R573 and R599 -/

section Peg

variable {s : State}

/-- A pegged bench of a command queue is staged when its time has come, and no command ends. -/
theorem benchStaged_stages {h : Nat} (hpegged : (s.bench h).state = .pegged) (hnot : (s.bench h).staged = false)
    (hown : (s.bench h).ownerPartner = false) : ∃ t, exec (.benchStaged h) s = .next t ∧
    t = { s with time := t.time, clerk := t.clerk } ∧ t.bench h = { s.bench h with staged := true } ∧
    t.clerk.waiting = s.clerk.waiting ∧ s.time.ticks ≤ t.time.ticks := by
  refine ⟨(s.advanceTo ((s.bench h).stagedBy.getD 0)).setBench h { s.bench h with staged := true }, congrArg ok ?_, rfl,
    State.bench_setBench .., rfl, Nat.le_add_right ..⟩
  simp [hpegged, hnot, hown]

/-- Bringing credits up leaves the transmitter's LPI. -/
theorem txLpi_bringCredit (s : State) (p q : Nat) : ((s.bringCredit p).port q).txLpi = (s.port q).txLpi :=
  (PortStep.bringCredit (k := Port.txLpi) (fun _ _ _ => rfl) s).keeps_at q

/-- Before a peg the ports bring their credits up, and nothing else changes (R224, R241). -/
theorem portsPrepare_frame (s : State) : s.portsPrepare = { s with ports := s.portsPrepare.ports } := by
  unfold State.portsPrepare
  generalize upto 0 25 = l
  induction l generalizing s with
  | nil => rfl
  | cons p l ih =>
    rw [List.foldl_cons, ih]
    split
    · rw [bringCredit_frame]
    · rfl

theorem txLpi_portsPrepare (s : State) (q : Nat) : (s.portsPrepare.port q).txLpi = (s.port q).txLpi :=
  List.foldlRecOn (motive := fun u : State => (u.port q).txLpi = (s.port q).txLpi) _ _ rfl fun u hu p _ => by
    split
    · exact (txLpi_bringCredit u p q).trans hu
    · exact hu

/-- A port whose mode and MAC merge settings stay, and whose transmitter is not in LPI, does nothing after a peg. -/
theorem portReact_of_kept {p : Nat} (h : (s.port p).txLpi = false) : s.portReact s p = s := by
  have hleave : s.leaveLpi p = s := if_pos (by simp [h])
  simp [State.portReact, hleave]

theorem portsReact_of_kept (h : ∀ p, (s.port p).txLpi = false) : s.portsReact s [] = s := by
  have hports : (upto 0 25).foldl (State.portReact s) s = s := foldl_eq_self fun p _ => portReact_of_kept (h p)
  simp [State.portsReact, hports]

/-- A peg without settings brings up the credits of the ports and looks at the hop margins. -/
theorem takeEffect_nil (h : s.ports = []) : s.takeEffect [] = s.portsPrepare.noteMargins := by
  have hlpi (p : Nat) : (s.portsPrepare.port p).txLpi = false := by
    rw [txLpi_portsPrepare, State.port, h]
    rfl
  have hsettings : s.portsPrepare.applySettings [] = s.portsPrepare := rfl
  have hreact := portsReact_of_kept hlpi
  simp [State.takeEffect, State.settleWaiting, hsettings, hreact, State.timeReact]

/-- The hop margins are noted in the span-cycle engine and told to the foreman (R122). -/
theorem noteMargins_frame (s : State) : s.noteMargins =
    { s with span := s.noteMargins.span, flt := s.noteMargins.flt, ctr := s.noteMargins.ctr, free := s.noteMargins.free } := by
  obtain ⟨t, ht⟩ : ∃ t, t = s.noteMargins := ⟨_, rfl⟩
  have hkeeps := noteMargins_keeps (fun u => { u with span := t.span, flt := t.flt, ctr := t.ctr, free := t.free }) s
    (fun _ _ => rfl) (fun _ _ => rfl) (fun _ _ => rfl) (fun _ _ => rfl)
  rw [← ht] at hkeeps ⊢
  exact hkeeps

/-- What the hop margins count, they count in the foreman's block. -/
theorem counter_noteMargins_below {x : Nat} (hx : x < fltBase) (s : State) : s.noteMargins.counter x = s.counter x := by
  refine List.foldlRecOn (motive := fun u : State => u.counter x = s.counter x) _ _ rfl fun u hu p _ => ?_
  dsimp only
  split
  · exact (counter_raise_below hx _ _ _ _ _ _ _).trans hu
  · split
    · exact hu
    · exact hu

/-- At its tick a pegged bench without settings is FREE again and counted. -/
theorem benchPegInstant_frees {h k : Nat} (hpegged : (s.bench h).state = .pegged) (hnone : (s.bench h).settings = [])
    (htick : (s.bench h).pegTick = some k) (hports : s.ports = []) (hwait : s.clerk.waiting = []) : ∃ t,
    exec (.benchPegInstant h) s = .next t ∧
    t = { s with time := t.time, clerk := t.clerk, ctr := t.ctr, ports := t.ports, span := t.span, flt := t.flt
                 free := t.free } ∧
    t.clerk = (s.setBench h {}).clerk ∧ t.time.ticks = max s.time.ticks k ∧
    t.counter (cmdCount 5) = s.counter (cmdCount 5) + 1 := by
  let u := (s.advanceTo k).setBench h {}
  have heffect : u.takeEffect [] = u.portsPrepare.noteMargins := takeEffect_nil hports
  obtain ⟨v, hv⟩ : ∃ v, v = u.takeEffect [] := ⟨_, rfl⟩
  have hframe : v = { u with ports := u.portsPrepare.ports, span := v.span, flt := v.flt, ctr := v.ctr, free := v.free } := by
    rw [hv, heffect, noteMargins_frame, portsPrepare_frame]
  have hcount : v.counter (cmdCount 5) = s.counter (cmdCount 5) := by
    rw [hv, heffect, counter_noteMargins_below (by decide), portsPrepare_frame]
    rfl
  have hclerk : v.clerk = (s.setBench h {}).clerk := by
    rw [hframe]
    rfl
  have hidle : (v.count (cmdCount 5)).clerk.waiting = [] := by
    rw [State.count_clerk, hclerk]
    exact hwait
  have hfire : (s.advanceTo k).firePeg h = v.count (cmdCount 5) := by
    have hu : u.takeEffect ((s.advanceTo k).bench h).settings = v := by
      rw [hv]
      exact congrArg u.takeEffect hnone
    have hpegs : ¬ ((s.advanceTo k).bench h).state != .pegged := by
      change ¬ (s.bench h).state != .pegged
      simp [hpegged]
    unfold State.firePeg
    rw [if_neg hpegs]
    change State.finishKind ((u.takeEffect _).count _) _ _ _ _ = _
    rw [hu]
    exact finishKind_idle hidle ..
  have hexec : exec (.benchPegInstant h) s = .next (v.count (cmdCount 5)) := by
    refine congrArg ok ?_
    rw [State.pegComes, htick, ← hfire]
    simp [hpegged]
  have htime : v.time.ticks = max s.time.ticks k := by
    rw [← ticks_advanceTo, hframe]
    rfl
  refine ⟨_, hexec, ?_, hclerk, htime, ?_⟩
  · have hcounted : v.count (cmdCount 5) = { v with ctr := (v.count (cmdCount 5)).ctr } := rfl
    rw [hcounted]
    generalize (v.count (cmdCount 5)).ctr = m
    rw [hframe]
    rfl
  · rw [State.counter_count, hcount]

end Peg
/-! ### Completions of a command queue, R568 -/

section Completion

/-- The first bytes of a range of memory. -/
theorem take_readBytes (m : Tab Byte) {n k : Nat} (h : k ≤ n) (a : Nat) :
    (readBytes m a n).take k = readBytes m a k := by
  induction k generalizing n a with
  | zero => rfl
  | succ k ih =>
    obtain ⟨n, rfl⟩ := Nat.exists_eq_add_one_of_ne_zero (Nat.ne_of_gt (Nat.lt_of_lt_of_le k.succ_pos h))
    simp only [readBytes, List.take_succ_cons, ih (Nat.le_of_succ_le_succ h)]

/-- The 16 bytes that complete a command at an index of its queue, R493 and R568. -/
def doneRecord (w : WorkQueue) (i : BitVec 16) (c : Cmd) (st : Status) (clamps detail : Nat) (reply : List Byte) :
    List Byte :=
  leBytes 4 (doneHdr (lapParity w.logN i + 2 * c.len + 65536 * c.tag.toNat) 0x84) ++
    State.cmdDoneBytes st clamps (!(reply.take c.replyLen.toNat).isEmpty)
      ((reply.take c.replyLen.toNat).length < reply.length) false detail (reply.take c.replyLen.toNat).length

theorem length_doneRecord (w : WorkQueue) (i : BitVec 16) (c : Cmd) (st : Status) (clamps detail : Nat)
    (reply : List Byte) : (doneRecord w i c st clamps detail reply).length = 16 := by
  simp [doneRecord, State.cmdDoneBytes]

/-- Header and status word of a completion without a reply. -/
theorem take_doneRecord (w : WorkQueue) (i : BitVec 16) (c : Cmd) (st : Status) (clamps detail : Nat) :
    (doneRecord w i c st clamps detail []).take 8 =
      leBytes 4 (doneHdr (lapParity w.logN i + 2 * c.len + 65536 * c.tag.toNat) 0x84) ++
        leBytes 4 (st.code + 256 * min clamps 255) := by
  simp [doneRecord, State.cmdDoneBytes, flag, List.take_append]

/-- The state v has completed, after u, the command at an index of a queue with a record. -/
structure CompletedAt (q : Nat) (i : BitVec 16) (record : List Byte) (u v : State) : Prop where
  frame : v = { u with queues := v.queues, hostMem := v.hostMem, ctr := v.ctr, notices := v.notices }
  completed : (v.queue q).cCompleted = (u.queue q).cCompleted + 1
  counter : v.counter (cmdCount 1) = u.counter (cmdCount 1) + 1
  record : v.readHost (u.fnOfQueue q) ((u.queue q).addr i) record.length = record

/-- A record written over an entry, its completion counted, whatever reply went before it and whatever notice comes
after. -/
theorem completedAt_write {u a b : State} {q : Nat} {i : BitVec 16} {record : List Byte} {w : WorkQueue}
    {m : Tab Byte} {l : List Notice} (hcount : w.cCompleted = (u.queue q).cCompleted)
    (hb : b = ({ u.setQueue q w with hostMem := m } : State).writeHost (u.fnOfQueue q) ((u.queue q).addr i) record)
    (ha : a = b.setQueue q { w with cCompleted := w.cCompleted + 1 }) :
    CompletedAt q i record u { a.count (cmdCount 1) with notices := l } := by
  have hctr : a.ctr = u.ctr := by rw [ha, hb]; rfl
  have hmem : a.hostMem = b.hostMem := by rw [ha]; rfl
  have hqueue : a.queue q = { w with cCompleted := w.cCompleted + 1 } := by rw [ha, State.queue_setQueue]
  refine ⟨?frame, ?completed, ?counter, ?record⟩
  case frame =>
    have hb' : b = { u with queues := b.queues, hostMem := b.hostMem } := by rw [hb]; rfl
    have ha' : a = { b with queues := a.queues } := by rw [ha]; rfl
    have hframe : a = { u with queues := a.queues, hostMem := a.hostMem } := by
      rw [hmem]
      exact ha'.trans (congrArg (fun x : State => { x with queues := a.queues }) hb')
    exact congrArg (fun x : State => { x with ctr := (a.count (cmdCount 1)).ctr, notices := l }) hframe
  case completed =>
    rw [← hcount]
    exact congrArg WorkQueue.cCompleted hqueue
  case counter => exact (State.counter_count a _).trans (congrArg (Tab.get 0 · _ + 1) hctr)
  case record =>
    have hread := readHost_writeHost
      ({ u.setQueue q w with hostMem := m } : State) (u.fnOfQueue q) ((u.queue q).addr i) record
    rw [← hb] at hread
    exact (congrArg (readBytes · _ _) hmem).trans hread

/-- A command of a queue whose completion is not discarded completes at its entry. -/
theorem completedAt_finishCmd {u : State} {c : Cmd} {q : Nat} {i : BitVec 16} {st : Status} {clamps : Nat}
    (ho : c.origin = .queue q i) (hst : st ≠ .ok ∨ clamps = 0) (code detail : Nat) (reply : List Byte) :
    CompletedAt q i (doneRecord (u.queue q) i c st clamps detail reply) u
      (u.finishCmd c code st detail reply clamps false false) := by
  unfold State.finishCmd
  extract_lets status
  have hstatus : status = st := by
    refine if_neg ?_
    rcases hst with hst | rfl <;> simp [*]
  rw [hstatus]
  clear_value status
  split
  case h_1 q' i' ho' =>
    obtain ⟨rfl, rfl⟩ : q = q' ∧ i = i' := by simpa [ho] using ho'
    extract_lets a b w h d e
    let w' : WorkQueue := { u.queue q with started := (u.queue q).started.filter (fun e => e.index != i) }
    obtain ⟨m, hreply⟩ : ∃ m, b = { u.setQueue q w' with hostMem := m } := by
      dsimp only [b]
      split
      · exact ⟨_, rfl⟩
      · exact ⟨_, rfl⟩
    have hw : w = w' := by
      dsimp only [w]
      rw [hreply]
      exact State.queue_setQueue ..
    have hrecord : d = ({ u.setQueue q w' with hostMem := m } : State).writeHost (u.fnOfQueue q) ((u.queue q).addr i)
        (doneRecord (u.queue q) i c st clamps detail reply) := by
      dsimp only [d, h]
      rw [hreply, hw]
      rfl
    have hqueue : d.queue q = w' := by
      rw [hrecord]
      exact State.queue_setQueue ..
    have hdone : e = d.setQueue q { w' with cCompleted := w'.cCompleted + 1 } := by
      dsimp only [e, State.modQueue]
      rw [hqueue]
    rw [if_neg Bool.false_ne_true, completionNotice_frame]
    exact completedAt_write (w := w') rfl hrecord hdone
  all_goals simp [ho] at *

/-- With no command left waiting, a completion sets no FENCE free (R576). -/
theorem CompletedAt.fenceSweep {q : Nat} {i : BitVec 16} {record : List Byte} {u v : State}
    (h : CompletedAt q i record u v) (hidle : u.clerk.waiting = []) : CompletedAt q i record u v.fenceSweep := by
  rwa [fenceSweep_of_none_waiting (by rw [h.frame]; exact hidle)]

/-- The only command that waits completes at its entry, and none waits then. A detail word that is not given is a free
value. -/
theorem completedAt_finishWaiting {s : State} {v w : Waiting} {q : Nat} {i : BitVec 16} {st : Status}
    (hwait : s.clerk.waiting = [v]) (hno : w.no = v.no) (ho : w.cmd.origin = .queue q i) (hkept : w.discard = false)
    (hst : st ≠ .ok ∨ w.clamps = 0) (d : Option Nat) (reply : List Byte) :
    CompletedAt q i (doneRecord (s.queue q) i w.cmd st w.clamps (s.detailWord d).1 reply)
      { s with clerk := { s.clerk with waiting := [] }, free := (s.detailWord d).2.free }
      (s.finishWaiting w st d reply) := by
  have hnone : s.clerk.waiting.filter (fun x => x.no != w.no) = [] := by simp [hwait, hno]
  have hstate : ({ (s.detailWord d).2 with clerk := { (s.detailWord d).2.clerk with
      waiting := (s.detailWord d).2.clerk.waiting.filter (fun x => x.no != w.no) } } : State) =
      { s with clerk := { s.clerk with waiting := [] }, free := (s.detailWord d).2.free } := by
    rw [← hnone]
    cases d with
    | none => rfl
    | some n => rfl
  have hfinish : s.finishWaiting w st d reply =
      (({ s with clerk := { s.clerk with waiting := [] }, free := (s.detailWord d).2.free } : State).finishCmd w.cmd w.opcode
        st (s.detailWord d).1 reply w.clamps false false).fenceSweep := by
    rw [State.finishWaiting, hkept]
    exact congrArg
      (fun u => (State.finishCmd u w.cmd w.opcode st (s.detailWord d).1 reply w.clamps false false).fenceSweep) hstate
  have hdone := completedAt_finishCmd
    (u := { s with clerk := { s.clerk with waiting := [] }, free := (s.detailWord d).2.free }) ho hst w.opcode
    (s.detailWord d).1 reply
  rw [hfinish]
  exact hdone.fenceSweep rfl

end Completion

/-! ### The partner's answers, R581 and R582 -/

section Partner

variable {s : State} {w : Waiting} {ref until_ q : Nat} {i : BitVec 16}

theorem partnerReplyRx_completes {st : Status} {clamps : Nat} (detail : Nat) (reply : List Byte)
    (hwait : s.clerk.waiting = [w]) (hkind : w.kind = .partner ref until_) (ho : w.cmd.origin = .queue q i)
    (hkept : w.discard = false) (hst : st ≠ .ok ∨ clamps = 0) : ∃ t,
    exec (.partnerReplyRx ref st clamps detail reply) s = .next t ∧
    CompletedAt q i (doneRecord (s.queue q) i w.cmd st clamps detail reply)
      { s with clerk := { s.clerk with waiting := [] } } t := by
  refine ⟨_, congrArg ok ?step, completedAt_finishWaiting (w := { w with clamps := clamps }) hwait rfl ho hkept hst
    (some detail) reply⟩
  simp [State.partnerAnswer, hwait, hkind]

theorem partnerReplyTimeout_completes (hwait : s.clerk.waiting = [w]) (hkind : w.kind = .partner ref until_)
    (ho : w.cmd.origin = .queue q i) (hkept : w.discard = false) : ∃ t,
    exec .partnerReplyTimeout s = .next t ∧
    CompletedAt q i (doneRecord (s.queue q) i w.cmd .timeout w.clamps ((s.advanceTo until_).detailWord none).1 [])
      { s.advanceTo until_ with clerk := { s.clerk with waiting := [] }
                                free := ((s.advanceTo until_).detailWord none).2.free } t := by
  refine ⟨_, congrArg ok ?step, completedAt_finishWaiting (s := s.advanceTo until_) hwait rfl ho hkept
    (.inl (by decide)) none []⟩
  simp [hwait, hkind]

/-- A command as the partner's own scope has it at this post. -/
abbrev fromPartner (ref : Nat) (c : Cmd) : Cmd := { c with origin := .partner ref, partner := false }

/-- Hearing from the partner changes no check of a command that comes from it. -/
theorem precheck_of_partner {code : Nat} {c : Cmd} (ho : c.origin = .partner ref) (n : Nat) :
    State.precheck { s.heard with clerk := { s.clerk with takeNo := n } } code c = s.precheck code c := by
  unfold State.precheck
  simp only [ho, Bool.and_false]
  rfl

theorem sendTb_of_lane0 (h : State.laneFree s.bent.lane0 = true) (p : TbPacket) : s.sendTb p =
    { s with bent := { s.bent with lane0 := { s.bent.lane0 with inFlight := s.bent.lane0.inFlight ++ [p] } } } :=
  if_pos h

/-- A command of the partner that passes its checks and is done at once is answered over the tie beam (R582). -/
theorem runStep_answer {u : State} {code d : Nat} {c : Cmd} {eff : State → Eff} {reply : List Byte}
    (ho : c.origin = .partner ref) (hp : c.partner = false) (hpass : (begun s code c).precheck code c = none)
    (he : eff (begun s code c) = .ok u (some d) reply) (hidle : u.clerk.waiting = []) :
    runStep code c s eff =
      .next ((u.countN (cmdCount 3) 0).sendTb (.reply ref 0 0 d (reply.take c.replyLen.toNat))) := by
  have hsweep (p : TbPacket) : ((u.countN (cmdCount 3) 0).sendTb p).fenceSweep = (u.countN (cmdCount 3) 0).sendTb p :=
    fenceSweep_of_none_waiting (by rw [sendTb_frame]; exact hidle)
  simp only [runStep, ok, State.runCmd_eq, hpass, hp, he, Eff.ok, State.detailWord, Cmd.queueOf, ho, Option.isSome_none,
    Bool.and_false, Bool.false_eq_true, if_false, State.finishCmd]
  exact congrArg Host.Outcome.next (hsweep _)

/-- NOP from the partner runs at once, and its answer goes back on lane 0, which has a credit (R582). -/
theorem partnerNop_answers {c : Cmd} (hbent : s.bent.role ≠ .solo) (hready : s.clerk.ready = true)
    (htaken : s.clerk.taken = []) (hwait : s.clerk.waiting = [])
    (hpass : s.precheck 0 (fromPartner ref c) = none) (hlane : State.laneFree s.bent.lane0 = true) : ∃ t,
    exec (.partnerCommandRx ref 0 c) s = .next t ∧ t = { s with bent := t.bent, clerk := t.clerk, ctr := t.ctr } ∧
    t.bent = { s.bent with
      lastHeard := s.time.ticks, hbLost := false
      lane0 := { s.bent.lane0 with inFlight := s.bent.lane0.inFlight ++ [.reply ref 0 0 0 []] } } ∧
    t.clerk = { s.clerk with takeNo := s.clerk.takeNo + 1 } := by
  have hrun : exec (.partnerCommandRx ref 0 c) s =
      runStep 0 (fromPartner ref c) s.heard (fun u => .ok u (some 0)) := by
    refine (if_neg ?_).trans rfl
    simpa [State.heard, hready] using hbent
  have hbegun : begun s.heard 0 (fromPartner ref c) =
      { s.heard with clerk := { s.clerk with takeNo := s.clerk.takeNo + 1 } } := by
    simp [begun, takenAs, State.heard, htaken]
  have hcmd : (begun s.heard 0 (fromPartner ref c)).precheck 0 (fromPartner ref c) = none := by
    rw [hbegun, precheck_of_partner rfl, hpass]
  have hclerk : (begun s.heard 0 (fromPartner ref c)).clerk = { s.clerk with takeNo := s.clerk.takeNo + 1 } := by
    rw [hbegun]
  have hanswer := runStep_answer (eff := fun u => .ok u (some 0)) rfl rfl hcmd rfl (by rw [hclerk]; exact hwait)
  have hsend := sendTb_of_lane0 (s := (begun s.heard 0 (fromPartner ref c)).countN (cmdCount 3) 0) hlane
    (.reply ref 0 0 0 [])
  rw [List.take_nil, hsend] at hanswer
  exact ⟨_, hrun.trans hanswer, rfl, rfl, hclerk⟩

end Partner

/-- Settles O36, event by event. -/
theorem clerkEventsComplete : Obligations.ClerkEventsComplete := by
  refine ⟨fun s f hready hrun hhost hwait htaken hrunning hhead hcovered hwell hkind hpass => ?take,
    fun s h hpegged hnot hown => ?staged, fun s h k hpegged hnone htick hports hwait => ?peg,
    fun s ref c hbent hready htaken hwait hpass hlane => ?command,
    fun s ref clamps detail st reply w until_ q i hwait hkind ho hkept hst => ?reply,
    fun s w ref until_ q i hwait hkind ho hkept => ?timeout⟩
  case take => exact commandTake_takes hready hrun hhost hwait htaken hrunning hhead hcovered hwell hkind hpass
  case staged => exact benchStaged_stages hpegged hnot hown
  case peg => exact benchPegInstant_frees hpegged hnone htick hports hwait
  case command => exact partnerNop_answers hbent hready htaken hwait hpass hlane
  case reply =>
    obtain ⟨t, hstep, hdone⟩ := partnerReplyRx_completes detail reply hwait hkind ho hkept hst
    have hclerk : t.clerk = { s.clerk with waiting := [] } := by rw [hdone.frame]
    have hrecord := hdone.record
    rw [length_doneRecord] at hrecord
    refine ⟨t, hstep, ?_, hclerk, hdone.completed, hdone.counter, hrecord⟩
    rw [hclerk]
    exact hdone.frame
  case timeout =>
    obtain ⟨t, hstep, hdone⟩ := partnerReplyTimeout_completes hwait hkind ho hkept
    have hclerk : t.clerk = { s.clerk with waiting := [] } := by rw [hdone.frame]
    have htime : t.time = (s.advanceTo until_).time := by rw [hdone.frame]
    have hfree : t.free = ((s.advanceTo until_).detailWord none).2.free := by rw [hdone.frame]
    have hrecord := hdone.record
    rw [length_doneRecord] at hrecord
    refine ⟨t, hstep, ?_, hclerk, ?_, hdone.completed, ?_⟩
    · rw [hclerk, htime, hfree]
      exact hdone.frame
    · rw [htime, ticks_advanceTo]
    · exact (take_readBytes t.hostMem (by decide) _).symm.trans
        ((congrArg (List.take 8) hrecord).trans (take_doneRecord ..))

end Sys2Proof.Machine
end


section
/-!
PROOFS. A step of the post: the command at the front acts, an empty queue ticks, and every command answers a next state.
-/

namespace Sys2Proof.Machine

/-- The answer is a next state: no fault and no refusal. -/
def Result.IsNext : Result → Prop
  | .next _ => True
  | _ => False

theorem Result.isNext_iff {r : Result} : Result.IsNext r ↔ ∃ t, r = .next t := by
  cases r with
  | next t => exact ⟨fun _ => ⟨t, rfl⟩, fun _ => trivial⟩
  | fault _ => exact ⟨False.elim, fun ⟨_, h⟩ => nomatch h⟩
  | refused _ => exact ⟨False.elim, fun ⟨_, h⟩ => nomatch h⟩

/-- A meaning that always answers a next state. -/
def Answers (f : Cmd → State → Result) : Prop := ∀ c s, Result.IsNext (f c s)

theorem answers_cons {n : Nat} {f : Cmd → State → Result} {l : List (Nat × (Cmd → State → Result))} (h : Answers f)
    (hl : ∀ e ∈ l, Answers e.2) : ∀ e ∈ (n, f) :: l, Answers e.2 :=
  List.forall_mem_cons.2 ⟨h, hl⟩

theorem answers_append {l m : List (Nat × (Cmd → State → Result))} (hl : ∀ e ∈ l, Answers e.2)
    (hm : ∀ e ∈ m, Answers e.2) : ∀ e ∈ l ++ m, Answers e.2 :=
  List.forall_mem_append.2 ⟨hl, hm⟩

/-- A command answers a next state by whatever way it reaches the clerk: each is a `runStep`. -/
theorem opRuns_answer : ∀ e ∈ opRuns, Answers e.2 := by
  repeat refine answers_append ?_ ?_
  all_goals
    repeat refine answers_cons (fun _ _ => trivial) ?_
    exact List.forall_mem_nil _

theorem runOpcode_answers (code : Nat) (c : Cmd) (s : State) : Result.IsNext (runOpcode code c s) := by
  unfold runOpcode
  split
  · next e he => exact opRuns_answer e (List.mem_of_find?_eq_some he) c s
  · trivial

/-- Settles O3: each arm of exec answers `ok`; a partner's command is run by its opcode. -/
theorem everyCommandAnswersANextState : Obligations.EveryCommandAnswersANextState := by
  refine fun c s => Result.isNext_iff.1 ?_
  cases c with
  | partnerCommandRx ref opcode cmd =>
    by_cases h : (s.bent.role == .solo || !s.clerk.ready) = true
    · exact Result.isNext_iff.2 ⟨_, if_pos h⟩
    · rw [show exec (.partnerCommandRx ref opcode cmd) s = _ from if_neg h]
      exact runOpcode_answers ..
  | _ => trivial

/-- Settles O1. -/
theorem stepRunsFront : Obligations.StepRunsFront := fun _ _ _ => rfl

/-- Settles O2: the step of an empty queue is `advance 1`. -/
theorem emptyQueueTicks : Obligations.EmptyQueueTicks := by
  intro s h
  have hstep : step s = .next (s.advance 1) := by rw [step, h]
  exact ⟨s.advance 1, hstep, ⟨rfl, Nat.le_add_right _ _⟩, rfl, rfl⟩

end Sys2Proof.Machine
end

section
/-!
PROOFS. BENT_RESIGN and BENT_ASSUME (R656, R659).
-/

namespace Sys2Proof.Machine

open Sys2Proof.Claims

/-- A command that has begun has changed nothing of the bent. -/
@[simp] theorem begun_bent (s : State) (code : Nat) (c : Cmd) : (begun s code c).bent = s.bent := rfl

/-- Settles O12: the effect's one test is the role. -/
theorem bentResignAnswers : Obligations.BentResignAnswers := by
  refine ⟨rfl, fun s c hruns hrole => ?_, fun s c hruns hrole => ?_⟩
  · exact runStep_refuse hruns (if_pos (bne_iff_ne.2 hrole))
  · exact runStep_done hruns (if_neg (by simp [hrole]))

/-- Settles O46. The causes of R659 are the branches of the effect; it takes the first that is present. -/
theorem bentAssumeAnswers : Obligations.BentAssumeAnswers := by
  refine ⟨fun s c hruns hcause => ?_, fun s c hruns hforce hrole hheld => ?_⟩
  · by_cases hforce : c.force = true
    · by_cases hrole : s.bent.role ≠ .orphan ∧ s.bent.role ≠ .forming
      · exact ⟨.notActive, .inr (.inl ⟨rfl, hrole⟩), runStep_refuse hruns (by simp [hforce, hrole])⟩
      · have hheld : s.bent.partnerHeld = true := by simpa [hforce, hrole] using hcause
        refine ⟨.busy, .inr (.inr ⟨rfl, hheld⟩), runStep_refuse hruns ?_⟩
        simp only [begun_bent, hforce, hheld, Bool.not_true, Bool.false_eq_true, if_false, if_true]
        exact if_neg (by simpa using hrole)
    · exact ⟨.inconsistent, .inl ⟨rfl, by simpa using hforce⟩, runStep_refuse hruns (by simp [hforce])⟩
  · refine runStep_done hruns ?_
    have hmay : (s.bent.role != .orphan && s.bent.role != .forming) = false := by
      rcases hrole with h | h <;> simp [h]
    simp only [begun_bent, hforce, hmay, hheld, Bool.not_true, Bool.false_eq_true, if_false]
    rfl

end Sys2Proof.Machine
end

section
/-!
PROOFS. Accesses of BAR0 that have no effect: reserved offsets (R806) and bad accesses (R807).
-/

namespace Sys2Proof.Machine

/-! ### Aligned words -/

/-- The last byte of an aligned unit lies in it. -/
theorem add_div_of_aligned {n r o : Nat} (h : o % n = 0) (hr : r < n) : (o + r) / n = o / n := by
  obtain ⟨k, rfl⟩ := Nat.dvd_of_mod_eq_zero h
  have hn := Nat.zero_lt_of_lt hr
  rw [Nat.mul_add_div hn, Nat.div_eq_of_lt hr, Nat.mul_div_cancel_left _ hn, Nat.add_zero]

theorem add_div_mul_of_aligned {n r o : Nat} (h : o % n = 0) (hr : r < n) (m : Nat) : (o + r) / (n * m) = o / (n * m) := by
  rw [← Nat.div_div_eq_div_mul, ← Nat.div_div_eq_div_mul, add_div_of_aligned h hr]

theorem wordLine {o : Nat} (h : o % 4 = 0) : (o + 3) / 64 = o / 64 := add_div_mul_of_aligned h (by decide) 16

theorem wordCount {o : Nat} (h : o % 4 = 0) : (o + 3) / 4 - o / 4 = 0 :=
  Nat.sub_eq_zero_of_le (Nat.le_of_eq (add_div_of_aligned h (by decide)))

theorem dwordLine {o : Nat} (h : o % 8 = 0) : (o + 7) / 64 = o / 64 := add_div_mul_of_aligned h (by decide) 8

theorem word_of_dword {o : Nat} (h : o % 8 = 0) : o % 4 = 0 :=
  Nat.mod_eq_zero_of_dvd (Nat.dvd_trans (by decide) (Nat.dvd_of_mod_eq_zero h))

theorem dwordCount {o : Nat} (h : o % 8 = 0) : (o + 7) / 4 - o / 4 = 1 := by
  have hnext : (o + 4) % 4 = 0 := (Nat.add_mod_right ..).trans (word_of_dword h)
  rw [show (o + 7) / 4 = (o + 4) / 4 from add_div_of_aligned (r := 3) hnext (by decide), Nat.add_div_right _ (by decide)]
  exact Nat.add_sub_cancel_left ..

theorem le_alignDown {a o : Nat} (ha : a % 8 = 0) (h : a ≤ o) : a ≤ o - o % 8 := by
  obtain ⟨k, rfl⟩ := Nat.dvd_of_mod_eq_zero ha
  rw [Nat.sub_eq_of_eq_add (Nat.div_add_mod o 8).symm]
  exact Nat.mul_le_mul_left 8 ((Nat.le_div_iff_mul_le (by decide)).2 (Nat.mul_comm 8 k ▸ h))

/-- An aligned unit that begins below an aligned bound ends there at the latest. -/
theorem add_le_of_aligned {n o b : Nat} (ho : o % n = 0) (hb : b % n = 0) (h : o < b) : o + n ≤ b := by
  obtain ⟨k, rfl⟩ := Nat.dvd_of_mod_eq_zero ho
  obtain ⟨m, rfl⟩ := Nat.dvd_of_mod_eq_zero hb
  exact Nat.mul_le_mul_left n (Nat.lt_of_mul_lt_mul_left h)

theorem add_four_lt {o b : Nat} (ho : o % 8 = 0) (hb : b % 8 = 0) (h : o < b) : o + 4 < b :=
  Nat.lt_of_lt_of_le (Nat.add_lt_add_left (by decide : 4 < 8) o) (add_le_of_aligned ho hb h)

theorem not_lt_of_le {a b o : Nat} (h : a ≤ o) (hb : Nat.ble b a = true) : ¬ o < b :=
  Nat.not_lt.2 (Nat.le_trans (Nat.le_of_ble_eq_true hb) h)

/-- An offset past the end of a block is looked for in the blocks above it. -/
theorem past_block {α : Type} {a b o : Nat} {x y z : α} (h : a ≤ o) (hb : Nat.ble b a = true) (hy : y = z) :
    (if o < b then x else y) = z :=
  (if_neg (not_lt_of_le h hb)).trans hy

theorem lt_of_lt_ble {a b o : Nat} (h : o < a) (hb : Nat.ble a b = true) : o < b :=
  Nat.lt_of_lt_of_le h (Nat.le_of_ble_eq_true hb)

/-! ### Reserved offsets of BAR0, R806 -/

/-- The reserved ranges of the map of BAR0 (R806). -/
def ReservedOffset (o : Nat) : Prop :=
  (0x490000 ≤ o ∧ o < 0x4F0000) ∨ (0x800000 ≤ o ∧ o < 0x900000) ∨ (0x2000000 ≤ o ∧ o < 0x4000000)

namespace ReservedOffset

variable {o : Nat} (h : ReservedOffset o)
include h

/-- The ranges begin and end at multiples of 8. -/
theorem alignDown : ReservedOffset (o - o % 8) := by
  have hlt {b : Nat} (hb : o < b) : o - o % 8 < b := Nat.lt_of_le_of_lt (Nat.sub_le ..) hb
  rcases h with ⟨hlow, hhigh⟩ | ⟨hlow, hhigh⟩ | ⟨hlow, hhigh⟩
  · exact .inl ⟨le_alignDown rfl hlow, hlt hhigh⟩
  · exact .inr (.inl ⟨le_alignDown rfl hlow, hlt hhigh⟩)
  · exact .inr (.inr ⟨le_alignDown rfl hlow, hlt hhigh⟩)

theorem next (ho : o % 8 = 0) : ReservedOffset (o + 4) := by
  rcases h with ⟨hlow, hhigh⟩ | ⟨hlow, hhigh⟩ | ⟨hlow, hhigh⟩
  · exact .inl ⟨Nat.le_add_right_of_le hlow, add_four_lt ho rfl hhigh⟩
  · exact .inr (.inl ⟨Nat.le_add_right_of_le hlow, add_four_lt ho rfl hhigh⟩)
  · exact .inr (.inr ⟨Nat.le_add_right_of_le hlow, add_four_lt ho rfl hhigh⟩)

/-- Every reserved range lies past the ports. -/
theorem not_lt {b : Nat} (hb : Nat.ble b 0x490000 = true) : ¬ o < b := by
  refine Nat.not_lt.2 (Nat.le_trans (Nat.le_of_ble_eq_true hb) ?_)
  rcases h with ⟨hlow, -⟩ | ⟨hlow, -⟩ | ⟨hlow, -⟩
  · exact hlow
  · exact Nat.le_trans (Nat.le_of_ble_eq_true rfl) hlow
  · exact Nat.le_trans (Nat.le_of_ble_eq_true rfl) hlow

/-- No reserved range meets the blocks between two of them. -/
theorem not_mem {a b : Nat} (hab : (0x4F0000 ≤ a ∧ b ≤ 0x800000) ∨ (0x900000 ≤ a ∧ b ≤ 0x2000000)) :
    ¬ (a ≤ o ∧ o < b) := by
  rintro ⟨ha, hb⟩
  rcases h with ⟨hlow, hhigh⟩ | ⟨hlow, hhigh⟩ | ⟨hlow, hhigh⟩ <;> rcases hab with ⟨hfrom, hto⟩ | ⟨hfrom, hto⟩
  · exact Nat.lt_irrefl _ (Nat.lt_of_lt_of_le hhigh (Nat.le_trans hfrom ha))
  · exact Nat.lt_irrefl _ (Nat.lt_of_lt_of_le hhigh (Nat.le_trans (Nat.le_trans (Nat.le_of_ble_eq_true rfl) hfrom) ha))
  · exact Nat.lt_irrefl _ (Nat.lt_of_lt_of_le hb (Nat.le_trans hto hlow))
  · exact Nat.lt_irrefl _ (Nat.lt_of_lt_of_le hhigh (Nat.le_trans hfrom ha))
  · exact Nat.lt_irrefl _ (Nat.lt_of_lt_of_le hb (Nat.le_trans (Nat.le_trans hto (Nat.le_of_ble_eq_true rfl)) hlow))
  · exact Nat.lt_irrefl _ (Nat.lt_of_lt_of_le hb (Nat.le_trans hto hlow))

/-- Nor does it meet the blocks from CMD to the doorbell pages. -/
theorem not_block {a b : Nat} (ha : Nat.ble 0x900000 a = true) (hb : Nat.ble b 0x2000000 = true) : ¬ (a ≤ o ∧ o < b) :=
  h.not_mem (.inr ⟨Nat.le_of_ble_eq_true ha, Nat.le_of_ble_eq_true hb⟩)

theorem wideAt_eq : wideAt o = false := by
  rcases h with ⟨hlow, hhigh⟩ | ⟨hlow, hhigh⟩ | ⟨hlow, hhigh⟩
  · repeat refine past_block hlow rfl ?_
    exact (if_pos (lt_of_lt_ble hhigh rfl)).trans <|
      Bool.and_eq_false_iff.2 (.inl (decide_eq_false (Nat.not_le.2 (lt_of_lt_ble hhigh rfl))))
  · repeat refine past_block hlow rfl ?_
    exact if_pos hhigh
  · repeat refine past_block hlow rfl ?_
    exact rfl

theorem latchOf_eq : latchOf o = none := by
  have hnone {a n : Nat} (hn : ¬ (a ≤ o ∧ o < a + 4 * n)) : ¬ (decide (a ≤ o) && decide (o < a + 4 * n)) = true := by
    rwa [Bool.and_eq_true, decide_eq_true_eq, decide_eq_true_eq]
  have hlow {a n : Nat} (hb : Nat.ble (a + 4 * n) 0x490000 = true) : ¬ (a ≤ o ∧ o < a + 4 * n) := fun hn => h.not_lt hb hn.2
  have hgroup : latchGroups.find? (fun g => g.1 ≤ o && o < g.1 + 4 * g.2) = none := by
    refine List.find?_eq_none.2 (List.forall_mem_cons.2 ⟨hnone (hlow rfl), List.forall_mem_cons.2 ⟨hnone (hlow rfl),
      List.forall_mem_cons.2 ⟨hnone (hlow rfl), List.forall_mem_cons.2 ⟨hnone (h.not_block rfl rfl),
      List.forall_mem_cons.2 ⟨hnone (h.not_block rfl rfl), List.forall_mem_cons.2 ⟨hnone (h.not_block rfl rfl),
      List.forall_mem_nil _⟩⟩⟩⟩⟩⟩)
  exact (if_neg (by rw [h.alignDown.wideAt_eq]; exact Bool.false_ne_true)).trans hgroup

theorem bar0Word_eq (s : State) (f : Nat) : s.bar0Word f o = 0 := by
  rcases h with ⟨hlow, hhigh⟩ | ⟨hlow, hhigh⟩ | ⟨hlow, hhigh⟩
  · repeat refine past_block hlow rfl ?_
    exact if_pos hhigh
  · repeat refine past_block hlow rfl ?_
    exact if_pos hhigh
  · repeat refine past_block hlow rfl ?_
    exact rfl

theorem readWord_eq (s : State) (req f : Nat) : s.readWord req f o = (0, s) := by
  have hbefore : s.beforeRead f o = s := if_neg fun hread => h.not_block rfl rfl ⟨hread.1, hread.2.1⟩
  simp only [State.readWord, hbefore, h.latchOf_eq, h.bar0Word_eq]

theorem regBlock_eq : regBlock o = ([], 0) := by
  rcases h with ⟨hlow, hhigh⟩ | ⟨hlow, hhigh⟩ | ⟨hlow, hhigh⟩
  · repeat refine past_block hlow rfl ?_
    exact if_pos (lt_of_lt_ble hhigh rfl)
  · repeat refine past_block hlow rfl ?_
    exact if_pos (lt_of_lt_ble hhigh rfl)
  · have hbelow {k : Nat} (hk : Nat.ble (pageBase k + 0x1000) 0x2000000 = true) : ¬ o = pageBase k + o % 0x1000 :=
      Nat.ne_of_gt (Nat.lt_of_lt_of_le (Nat.add_lt_add_left (Nat.mod_lt o (by decide)) _)
        (Nat.le_trans (Nat.le_of_ble_eq_true hk) hlow))
    have hpage : ¬ (decide (o = pageBase 0 + o % 0x1000) || decide (o = pageBase 2048 + o % 0x1000)) = true := by
      rw [decide_eq_false (hbelow (k := 0) rfl), decide_eq_false (hbelow (k := 2048) rfl)]
      exact Bool.false_ne_true
    repeat refine past_block hlow rfl ?_
    exact (if_neg hpage).trans <|
      (if_neg (Nat.not_le.2 (lt_of_lt_ble hhigh rfl))).trans <| if_neg (Nat.not_le.2 (lt_of_lt_ble hhigh rfl))

theorem regRow_eq : regRow o = none := by rw [regRow, h.regBlock_eq, List.find?_nil]

theorem rowAt_eq (s : State) (f : Nat) : s.rowAt f o = none := by
  simp only [State.rowAt, if_neg (h.not_block (a := hstBase) (b := memBase) rfl rfl), h.regRow_eq, Option.map_none, ite_self]

/-- Below the doorbell pages a write reaches the settings alone. -/
theorem writeFields_eq (s : State) (f v : Nat) : s.writeFields f f o v = s := by
  have hne {k : Nat} (ha : Nat.ble 0x900000 k = true) (hb : Nat.ble (k + 1) 0x2000000 = true) : ¬ o = k :=
    fun hk => h.not_block ha hb ⟨Nat.le_of_eq hk.symm, Nat.lt_succ_of_le (Nat.le_of_eq hk)⟩
  have hreset : ¬ o = 0x30 := fun hk => h.not_lt (b := 0x31) rfl (Nat.lt_succ_of_le (Nat.le_of_eq hk))
  have hdray : ¬ (0x700000 ≤ o ∧ o < 0x800000) :=
    h.not_mem (.inl ⟨Nat.le_of_ble_eq_true rfl, Nat.le_of_ble_eq_true rfl⟩)
  rw [State.writeFields, if_neg hreset, if_neg (h.not_block rfl rfl), if_neg hdray, if_neg (h.not_block rfl rfl),
    if_neg (hne rfl rfl), if_neg (hne rfl rfl), State.writeRw, h.rowAt_eq]

theorem hostWriteWord_eq (s : State) (f v : Nat) : s.hostWriteWord f o v = s := by
  by_cases hlow : o < 0x1000000
  · have hrwl : s.changesRwl f o v = false := by rw [State.changesRwl, h.rowAt_eq]
    rw [State.hostWriteWord, if_pos hlow, State.writeWord, hrwl]
    exact h.writeFields_eq s f v
  · have hpages : ¬ o < 0x2000000 := fun hhigh => h.not_block (a := 0x1000000) rfl rfl ⟨Nat.not_lt.1 hlow, hhigh⟩
    rw [State.hostWriteWord, if_neg hlow, if_neg hpages]

/-- An aligned access of a reserved offset stays within BAR0. -/
theorem not_past {n fn : Nat} (hlt : fn < 2) (hn : n = 4 ∨ n = 8) (halign : o % n = 0) : ¬ State.barSize fn < o + n := by
  have hbar : o < 0x4000000 := by
    rcases h with ⟨-, hhigh⟩ | ⟨-, hhigh⟩ | ⟨-, hhigh⟩
    · exact Nat.lt_trans hhigh (Nat.le_of_ble_eq_true rfl)
    · exact Nat.lt_trans hhigh (Nat.le_of_ble_eq_true rfl)
    · exact hhigh
  rw [State.barSize, if_pos hlt]
  exact Nat.not_lt.2 (add_le_of_aligned halign (by rcases hn with rfl | rfl <;> rfl) hbar)

end ReservedOffset

/-- The state after a good read. -/
noncomputable def State.afterRead (s : State) (d : List Byte) : State := { s with readData := d, readBad := false }

/-- A read of whole words that are not one wide register. -/
theorem hostRead_of_words {s t : State} {f o n : Nat} {d : List Byte} (hn : n ≠ 0) (halign : o % 4 = 0)
    (hline : (o + n - 1) / 64 = o / 64) (hwide : (n == 8 && o % 8 == 0 && wideAt o) = false)
    (hr : s.readWords f f o ((o + n - 1) / 4 - o / 4 + 1) = (d, t)) :
    s.hostRead f o n = t.afterRead (d.take n) := by
  have hstart : o - o % 4 = o := by rw [halign, Nat.sub_zero]
  refine (if_neg hn).trans ((if_neg (by rw [hline, bne_self_eq_false]; exact Bool.false_ne_true)).trans
    ((if_neg (ne_true_of_eq_false hwide)).trans ?_))
  dsimp only
  rw [hstart, hr, Nat.sub_self]
  rfl

theorem readWords_one {s t : State} {f o w : Nat} (h : s.readWord f f o = (w, t)) :
    s.readWords f f o 1 = (leBytes 4 w, t) :=
  congrArg (fun r : Nat × State => (leBytes 4 r.1 ++ [], r.2)) h

theorem readWords_two {s t : State} {f o w w' : Nat} (h : s.readWord f f o = (w, s))
    (h' : s.readWord f f (o + 4) = (w', t)) : s.readWords f f o 2 = (leBytes 4 w ++ leBytes 4 w', t) :=
  (congrArg (fun r : Nat × State => (leBytes 4 r.1 ++ (r.2.readWords f f (o + 4) 1).1, (r.2.readWords f f (o + 4) 1).2)) h).trans
    (congrArg (fun r : List Byte × State => (leBytes 4 w ++ r.1, r.2)) (readWords_one h'))

/-- Four bytes are one word. -/
theorem ReservedOffset.word {o : Nat} (h : ReservedOffset o) (halign : o % 4 = 0) (s : State) (f v : Nat) :
    s.hostRead f o 4 = s.afterRead (zeros 4) ∧ s.hostWrite f o 4 v = s := by
  refine ⟨hostRead_of_words (t := s) (n := 4) (d := leBytes 4 0) (by decide) halign (wordLine halign) rfl ?_, (if_pos (by rw [halign]; rfl)).trans
    (h.hostWriteWord_eq ..)⟩
  rw [show (o + 4 - 1) / 4 - o / 4 = 0 from wordCount halign]
  exact readWords_one (h.readWord_eq s f f)

/-- Eight bytes are two words, both reserved. -/
theorem ReservedOffset.dword {o : Nat} (h : ReservedOffset o) (halign : o % 8 = 0) (s : State) (f v : Nat) :
    s.hostRead f o 8 = s.afterRead (zeros 8) ∧ s.hostWrite f o 8 v = s := by
  refine ⟨hostRead_of_words (t := s) (n := 8) (d := leBytes 4 0 ++ leBytes 4 0) (by decide) (word_of_dword halign) (dwordLine halign)
    (by rw [h.wideAt_eq]; exact Bool.and_false _) ?_, (if_neg Bool.false_ne_true).trans ((if_pos (by rw [halign]; rfl)).trans
    ((if_neg (ne_true_of_eq_false h.wideAt_eq)).trans ?_))⟩
  · rw [show (o + 8 - 1) / 4 - o / 4 = 1 from dwordCount halign]
    exact readWords_two (h.readWord_eq s f f) ((h.next halign).readWord_eq s f f)
  · rw [h.hostWriteWord_eq, (h.next halign).hostWriteWord_eq]

/-- Settles O50. -/
theorem reservedOffsetsReadZero : Obligations.ReservedOffsetsReadZero := by
  intro s fn off n v hfn hlt hn halign (h : ReservedOffset off)
  have hgo : ¬ (!s.hasRequester fn || decide (State.barSize fn < off + n)) = true := by
    rw [show s.hasRequester fn = true from (if_pos hlt).trans hfn, decide_eq_false (h.not_past hlt hn halign)]
    exact Bool.false_ne_true
  have hacts : s.hostTouch.hostRead fn off n = s.hostTouch.afterRead (zeros n) ∧
      s.hostTouch.hostWrite fn off n v.toNat = s.hostTouch := by
    rcases hn with rfl | rfl
    · exact h.word halign ..
    · exact h.dword halign ..
  exact ⟨congrArg ok ((if_neg hgo).trans ((if_pos hlt).trans hacts.1)),
    congrArg ok ((if_neg hgo).trans ((if_pos hlt).trans hacts.2))⟩

/-! ### Bad accesses of BAR0, R807 -/

theorem hostWrite_of_bad (s : State) (f : Nat) {o n : Nat} (v : Nat)
    (hbad : ¬ ((n = 4 ∧ o % 4 = 0) ∨ (n = 8 ∧ o % 8 = 0))) : s.hostWrite f o n v = s.badAccess f o := by
  obtain ⟨h4, h8⟩ := not_or.1 hbad
  exact (if_neg (by simpa using h4)).trans (if_neg (by simpa using h8))

theorem vfHostWrite_of_bad (s : State) (f vf : Nat) {o n : Nat} (v : Nat)
    (hbad : ¬ ((n = 4 ∧ o % 4 = 0) ∨ (n = 8 ∧ o % 8 = 0))) : s.vfHostWrite f vf o n v = s.badAccess f o := by
  obtain ⟨h4, h8⟩ := not_or.1 hbad
  exact (if_neg (by simpa using h4)).trans (if_neg (by simpa using h8))

/-- A bad write of a physical or a virtual function is the same `badAccess`. -/
theorem write_of_bad {s : State} {fn off n : Nat} {v : BitVec 64} (hreq : s.hasRequester fn = true)
    (hin : off + n ≤ State.barSize fn) (hbad : ¬ ((n = 4 ∧ off % 4 = 0) ∨ (n = 8 ∧ off % 8 = 0))) :
    exec (.registerWrite fn off n v) s = .next (s.hostTouch.badAccess (if fn < 2 then fn else (fn - 2) / 64) off) := by
  have hgo : (!s.hasRequester fn || decide (State.barSize fn < off + n)) = false := by
    rw [hreq, decide_eq_false (Nat.not_lt.2 hin)]
    rfl
  refine congrArg ok ((if_neg (ne_true_of_eq_false hgo)).trans ?_)
  rw [hostWrite_of_bad _ _ _ hbad, vfHostWrite_of_bad _ _ _ _ hbad]
  exact (apply_ite (State.badAccess s.hostTouch · off) ..).symm

/-- Settles O51. -/
theorem badWritesAreCountedOnly : Obligations.BadWritesAreCountedOnly :=
  ⟨fun _ _ _ _ _ hreq hin hbad => ⟨_, write_of_bad hreq hin hbad⟩, fun s fn off hreq hin => ⟨_, congrArg ok (if_neg (by
    rw [hreq, decide_eq_false (Nat.not_le.2 hin)]
    exact Bool.false_ne_true))⟩⟩

end Sys2Proof.Machine
end

section
/-!
PROOFS. The power sequencer: entries, wakes and their rails, step by step (R746 to R757, R837, R839).
-/

namespace Sys2Proof.Machine

/-- A counter after one event of it, read off the table of counters. -/
theorem counter_of_ctr {s t : State} {o : Nat} (h : t.ctr = (s.count o).ctr) : t.counter o = s.counter o + 1 := by
  rw [State.counter, h]
  exact s.counter_count o

/-! ### Wake sources and the end of a transition -/

/-- The state with another power sequencer. -/
noncomputable def State.withPwr (s : State) (p : Power) : State := { s with pwr := p }

/-- The state in a transition or none, in or out of reset. -/
noncomputable def State.inTrans (s : State) (x : Option Transition) (r : Bool) : State :=
  { s with pwr := { s.pwr with trans := x }, board := { s.board with inReset := r } }

theorem inTrans_of {P : State → Prop} {s : State} {x : Option Transition} {r : Bool} (htrans : s.pwr.trans = x)
    (hreset : s.board.inReset = r) (h : P (s.inTrans x r)) : P s := by
  subst htrans hreset
  exact h

/-- No source wakes a post that runs (R753). -/
theorem heldLevel_run (s : State) : s.heldLevel .run = none := List.find?_eq_none.2 fun _ _ => Bool.false_ne_true

/-- A transition ends with nothing in the pending slot and no source that holds: nothing follows it (R750). -/
theorem settle_of_quiet {s : State} (hslot : s.pwr.slot = none) (hlevel : s.heldLevel s.pwr.state = none) (entry : Bool) :
    s.settle entry = s.withPwr { s.pwr with slot := none, slotFrom := (0, 0) } := by
  have hlevel' : State.heldLevel { s with pwr := { s.pwr with slot := none, slotFrom := (0, 0) } } s.pwr.state = none :=
    hlevel
  simp only [State.settle, hslot, hlevel']
  rfl

/-- A source whose level holds is none of the knock, the host and the peg: it asks for Run. -/
theorem wakeSourceActs_of_level (s : State) (source port : Nat) (h : s.levelHolds source port = true) :
    s.wakeSourceActs source port = s.wakeEvent source port := by
  obtain _ | _ | _ | _ | _ | _ | _ | _ | _ | n := source
  case succ.succ.succ.succ.zero => exact absurd h Bool.false_ne_true
  case succ.succ.succ.succ.succ.succ.zero => exact absurd h Bool.false_ne_true
  case succ.succ.succ.succ.succ.succ.succ.succ.zero => exact absurd h Bool.false_ne_true
  all_goals exact if_pos h

/-- The power sequencer in a wake to Run from a state other than Off. -/
noncomputable def State.pwrWaking (s : State) (source port : Nat) : Power := { s.pwr with
  trans := some { from_ := s.pwr.state, dest := .run, wake := true, step := State.firstStep s.pwr.state, rail := 0
                  stepBy := s.stepDeadline s.pwr.state (State.firstStep s.pwr.state) }
  wakeSource := source, wakePort := (if 2 ≤ source ∧ source ≤ 4 then port else 0)
  wakeFrom := s.pwr.state.code, wakeStep := 0 }

/-- A wake from a state other than Off drives no rail. -/
theorem startWake_of_powered {s : State} (h : s.pwr.state ≠ .off) (source port : Nat) :
    s.startWake .run source port = s.withPwr (s.pwrWaking source port) := by
  have hport : (if (decide (2 ≤ source) && decide (source ≤ 4)) = true then port else 0) =
      if 2 ≤ source ∧ source ≤ 4 then port else 0 :=
    if_congr (by rw [Bool.and_eq_true, decide_eq_true_eq, decide_eq_true_eq]) rfl rfl
  have hrails : (if (s.pwr.state == .off) = true then Tab.set false s.pwr.railEn 0 true else s.pwr.railEn) = s.pwr.railEn :=
    if_neg (by simpa using h)
  exact congrArg₂ (fun p e => s.withPwr { s.pwrWaking source port with wakePort := p, railEn := e }) hport hrails

/-- An armed source that wakes from the present state starts the wake. -/
theorem wakeEvent_starts {s : State} {source port : Nat} (harmed : s.wakeArmed source port = true)
    (htrans : s.pwr.trans = none) (hwakes : State.wakesFrom source s.pwr.state = true) :
    s.wakeEvent source port = s.startWake .run source port := by
  refine (if_neg (by rw [harmed]; decide)).trans ?_
  rw [htrans]
  exact if_pos hwakes

/-! ### Entries -/

theorem idleTimerExpire_enters {s : State} (htrans : s.pwr.trans = none) (hreset : s.board.inReset = false)
    (hrun : s.pwr.state = .run) (hvalue : s.idleValue .idle ≠ 0) (hfit : s.failFor .idle true = 0) :
    execIdleTimerExpire 1 s =
      .next ((s.advanceTo (Tab.get 0 s.pwr.idleFrom 1 + s.idleValue .idle)).beginEntry .idle) := by
  refine congrArg ok ((if_neg ?_).trans (if_neg (ne_true_of_eq_false (bne_eq_false_iff_eq.2 hfit))))
  rw [htrans, hreset, hrun, decide_eq_false (p := s.idleValue (pstateOf 1) = 0) hvalue]
  decide

/-- An entry to Idle neither puts a standby out of sync nor releases what is held. -/
theorem beginEntry_idle (s : State) : s.beginEntry .idle = s.withPwr { s.pwr with
    trans := some { from_ := s.pwr.state, dest := .idle, wake := false }, etelo := false } :=
  if_neg (by rw [Bool.and_eq_true]; exact fun h => absurd h.2 (by decide))

theorem idleTimerExpire_restarts {s : State} {n : Nat} (htrans : s.pwr.trans = none) (hreset : s.board.inReset = false)
    (hcode : s.pwr.state.code + 1 = n) (hn : n < 5) (hvalue : s.idleValue (pstateOf n) ≠ 0)
    (hfit : s.failFor (pstateOf n) true ≠ 0) : execIdleTimerExpire n s = .next (s.restartOne n) := by
  refine congrArg ok ((if_neg ?_).trans (if_pos (bne_iff_ne.2 hfit)))
  rw [htrans, hreset, hcode, decide_eq_false hvalue, decide_eq_false (Nat.not_le.2 hn), decide_eq_false
    (hcode ▸ Nat.succ_ne_zero _), bne_self_eq_false]
  decide

/-- The power sequencer in Idle: the timers have started again, and nothing is pending. -/
noncomputable def State.pwrIdle (s : State) : Power := { s.pwr with
  state := .idle, trans := none, idleFrom := (upto 1 4).map (fun k => (k, s.time.ticks)), slot := none, slotFrom := (0, 0) }

/-- The post reaches Idle: the timers start again and the entry is counted. -/
theorem reached_idle_of_quiet {s : State} (hslot : s.pwr.slot = none) (hlevel : s.heldLevel .idle = none) :
    s.reached .idle = (s.count (pwrCount 0)).withPwr s.pwrIdle :=
  settle_of_quiet (s := (s.count (pwrCount 0)).withPwr { s.pwrIdle with slot := s.pwr.slot, slotFrom := s.pwr.slotFrom })
    hslot hlevel true

theorem entryDone_idle {s : State} {x : Transition} (htrans : s.pwr.trans = some x) (hwake : x.wake = false)
    (hstep : x.step = 0) (hdest : x.dest = .idle) : s.entryDone = s.reached .idle := by
  obtain ⟨from_, dest, wake, step, rail, stepBy⟩ := x
  subst hwake hstep hdest
  exact inTrans_of (P := fun s => s.entryDone = s.reached .idle) htrans rfl rfl

/-! ### Rails, oscillator, memory and logic -/

theorem railGood_next {s : State} {r : Nat} {x : Transition} (htrans : s.pwr.trans = some x) (hwake : x.wake = true)
    (hfrom : x.from_ = .off) (hstep : x.step = 1) (hrail : x.rail = r) (hreset : s.board.inReset = false) (hr : 1 ≤ r)
    (hlt : r < 4) : s.railGood r = s.withPwr { s.pwr with
      railGood := Tab.set false s.pwr.railGood r true, railEn := Tab.set false s.pwr.railEn (r + 1) true
      trans := some { x with rail := r + 1, stepBy := s.time.ticks + msTicks 20 } } := by
  have hgo : ¬ (!x.wake || x.from_ != .off || x.step != 1 || x.rail != r || s.board.inReset || decide (5 ≤ r)) = true := by
    rw [hwake, hfrom, hstep, hrail, hreset, bne_self_eq_false (a := r), decide_eq_false (Nat.not_le.2 (Nat.lt_succ_of_lt hlt))]
    decide
  rw [State.railGood, htrans]
  exact (if_neg hgo).trans ((if_neg (Nat.ne_of_gt hr)).trans (if_neg (Nat.ne_of_lt hlt)))

theorem railGood_last {s : State} {x : Transition} (htrans : s.pwr.trans = some x) (hwake : x.wake = true)
    (hfrom : x.from_ = .off) (hstep : x.step = 1) (hrail : x.rail = 4) (hreset : s.board.inReset = false) :
    s.railGood 4 = (s.setGood 4 true).nextStep x 2 := by
  obtain ⟨from_, dest, wake, step, rail, stepBy⟩ := x
  subst hwake hfrom hstep hrail
  exact inTrans_of (P := fun s => s.railGood 4 = (s.setGood 4 true).nextStep _ 2) htrans hreset rfl

theorem railTimeout_offs {s : State} {x : Transition} (htrans : s.pwr.trans = some x) (hwake : x.wake = false)
    (hstep : x.step = 1) (hreset : s.board.inReset = false) :
    s.railTimeout = (s.advanceTo x.stepBy).railOff x := by
  obtain ⟨from_, dest, wake, step, rail, stepBy⟩ := x
  subst hwake hstep
  exact inTrans_of (P := fun s => s.railTimeout = (s.advanceTo stepBy).railOff _) htrans hreset rfl

theorem railGoodFall_offs {s : State} {x : Transition} (htrans : s.pwr.trans = some x) (hwake : x.wake = false)
    (hstep : x.step = 1) : execRailGoodFall x.rail s = .next (s.railOff x) := by
  rw [execRailGoodFall, htrans]
  exact congrArg ok (if_pos (by rw [hwake, hstep]; exact beq_self_eq_true x.rail))

/-- A rail but the first has gone: the next lower one is dropped. -/
theorem railOff_drops {x : Transition} (hstep : x.step = 1) (hrail : x.rail ≠ 0) (s : State) : s.railOff x =
    s.withPwr { s.pwr with
      railGood := Tab.set false s.pwr.railGood x.rail false, railEn := Tab.set false s.pwr.railEn (x.rail - 1) false
      trans := some { x with rail := x.rail - 1, stepBy := s.time.ticks + msTicks 20 } } := by
  obtain ⟨from_, dest, wake, step, rail, stepBy⟩ := x
  subst hstep
  exact if_neg hrail

theorem oscReady_steps {s : State} {x : Transition} (htrans : s.pwr.trans = some x) (hwake : x.wake = true)
    (hstep : x.step = 2) (hreset : s.board.inReset = false) (hkeeps : x.from_ ≠ .deep ∨ s.pwr.etelo = false) :
    s.oscReady = (s.withPwr { s.pwr with oscReady := true }).nextStep x 3 := by
  have hcold : ¬ (x.from_ == .deep && s.pwr.etelo) = true := by simpa [imp_iff_not_or] using hkeeps
  obtain ⟨from_, dest, wake, step, rail, stepBy⟩ := x
  subst hwake hstep
  rw [State.oscReady, htrans, hreset]
  exact congrArg (fun s : State => (s.withPwr { s.pwr with oscReady := true }).nextStep
    { from_ := from_, dest := dest, wake := true, step := 2, rail := rail, stepBy := stepBy } 3) (if_neg hcold)

/-- The memory interface as a population is read: bad, or trained. -/
noncomputable def State.memBooted (s : State) (gib width ranks rate : Nat) (bad : Bool) : State :=
  if bad then { s with mem := { s.mem with popError := true } }
  else { s with
    mem := { s.mem with trained := 0xFF, ready := true, popError := false, gibPerChannel := gib, devWidth := width
                        ranks := ranks, rate := rate }
    pwr := { s.pwr with memReady := true } }

/-- In its step a wake reads the population and goes on if the memory is trained. -/
theorem memoryReady_of_untrained {s : State} {x : Transition} (gib width ranks rate : Nat) (popError : Bool)
    (htrans : s.pwr.trans = some x) (hwake : x.wake = true) (hstep : x.step = 3) (hreset : s.board.inReset = false)
    (hpop : s.mem.popError = false) (hready : s.mem.ready = false) : s.memoryReady gib width ranks rate popError =
      (fun u : State => if u.mem.ready then u.nextStep x 4 else u)
        (s.memBooted gib width ranks rate (popError || !State.populationOk gib width ranks rate)) := by
  rw [State.memoryReady, htrans]
  refine (if_neg ?_).trans (if_neg (ne_true_of_eq_false hready))
  rw [hwake, hstep, hreset, hpop]
  decide

theorem memReady_steps {s : State} {x : Transition} {gib width ranks rate : Nat} (htrans : s.pwr.trans = some x)
    (hwake : x.wake = true) (hstep : x.step = 3) (hreset : s.board.inReset = false) (hpop : s.mem.popError = false)
    (hready : s.mem.ready = false) (hfits : State.populationOk gib width ranks rate = true) :
    s.memoryReady gib width ranks rate false = (s.memBooted gib width ranks rate false).nextStep x 4 := by
  have h := memoryReady_of_untrained gib width ranks rate false htrans hwake hstep hreset hpop hready
  rw [hfits] at h
  exact h

theorem memReady_of_misfit {s : State} {x : Transition} {gib width ranks rate : Nat} {popError : Bool}
    (htrans : s.pwr.trans = some x) (hwake : x.wake = true) (hstep : x.step = 3) (hreset : s.board.inReset = false)
    (hpop : s.mem.popError = false) (hready : s.mem.ready = false)
    (hmisfit : popError = true ∨ State.populationOk gib width ranks rate = false) :
    s.memoryReady gib width ranks rate popError = s.memBooted gib width ranks rate true := by
  have h := memoryReady_of_untrained gib width ranks rate popError htrans hwake hstep hreset hpop hready
  rw [show (popError || !State.populationOk gib width ranks rate) = true by simpa using hmisfit] at h
  exact h.trans (if_neg (ne_true_of_eq_false hready))

/-- A wake that fails in another state than Off leaves the post where it was (R757). -/
theorem wakeFails_of_quiet {s : State} {x : Transition} (hfrom : x.from_ ≠ .off) (hslot : s.pwr.slot = none)
    (hlevel : s.heldLevel s.pwr.state = none) : s.wakeFails x = (s.count (pwrCount 7)).withPwr
      { s.pwr with trans := none, wakeStep := x.step, slot := none, slotFrom := (0, 0) } :=
  (if_neg (by simpa using hfrom)).trans (settle_of_quiet
    (s := (s.count (pwrCount 7)).withPwr { s.pwr with trans := none, wakeStep := x.step }) hslot hlevel false)

theorem wakeStepTimeout_fails {s : State} {x : Transition} (htrans : s.pwr.trans = some x) (hwake : x.wake = true)
    (hby : x.stepBy ≠ 0) (hstep : x.step = 2 ∨ x.step = 3) (hreset : s.board.inReset = false) :
    s.stepTimeout = (s.advanceTo x.stepBy).wakeFails x := by
  rw [State.stepTimeout, htrans]
  refine if_neg ?_
  rw [hwake, hreset, decide_eq_false hby]
  rcases hstep with h | h <;> rw [h] <;> decide

/-- A standby that was cold comes back. -/
noncomputable def State.coldReturn (s : State) : State :=
  if s.bent.role == .standby && s.bent.cold
    then
      let s := { s with bent := { s.bent with cold := false } }
      if s.bent.partnerHeld then s.enterResync else s.becomeOrphan
    else s

/-- The end of a wake to Run: a warm reset that was asked for is made. -/
noncomputable def State.wakeEnds (s : State) : State :=
  State.settle (if s.coldReturn.pwr.warmAfter && PState.run == .run
    then { s.coldReturn with pwr := { s.coldReturn.pwr with warmAfter := false } }.warmReset else s.coldReturn) false

theorem wakeEnds_of_quiet {s : State} (hrole : s.bent.role ≠ .standby) (hwarm : s.pwr.warmAfter = false) :
    s.wakeEnds = s.settle false := by
  have hcold : s.coldReturn = s := if_neg (by rw [beq_false_of_ne hrole]; exact Bool.false_ne_true)
  rw [State.wakeEnds, hcold]
  exact congrArg (State.settle · false) (if_neg (by rw [hwarm]; decide))

/-- The power sequencer once a wake to Run is complete. -/
noncomputable def State.pwrAwake (s : State) : Power :=
  { s.pwr with
    state := .run, trans := none, logicReady := true, oscReady := true, memReady := true, saved := false, etelo := false
    wakeTime := s.nowStamp, pcieWake := false, idleFrom := (upto 1 4).map (fun k => (k, s.time.ticks)) }

/-- The state after a wake that is counted and takes the links to L0, with a power sequencer. -/
noncomputable def State.awakened (s : State) (p : Power) : State := { (s.count (pwrCount 3)).hostPm 0 with pwr := p }

/-- A wake from Idle or Sleep to Run restores nothing; at most the links are asked for a wake. -/
theorem logicReady_ends (s : State) {from_ : PState} (hfrom : from_ = .sleep ∨ from_ = .idle) (rail stepBy : Nat) :
    ∃ b t, (s.inTrans (some ⟨from_, .run, true, 4, rail, stepBy⟩) false).logicReady =
      State.wakeEnds (if s.regBits (pwrBase + 0x18) 2 1 == 1 && b then t else
        (s.inTrans (some ⟨from_, .run, true, 4, rail, stepBy⟩) false).awakened
          { s.pwrAwake with pcieWake := (s.regBits (pwrBase + 0x18) 2 1 == 1 && b) && s.hostNotL0 }) := by
  rcases hfrom with rfl | rfl
  · exact ⟨_, _, rfl⟩
  · exact ⟨_, _, rfl⟩

/-- The wake from Idle or Sleep completes: nothing is restored, and the links are asked for no wake. -/
theorem logicReady_completes {s : State} {x : Transition} (htrans : s.pwr.trans = some x) (hwake : x.wake = true)
    (hstep : x.step = 4) (hfrom : x.from_ = .sleep ∨ x.from_ = .idle) (hdest : x.dest = .run)
    (hreset : s.board.inReset = false) (hslot : s.pwr.slot = none) (hwarm : s.pwr.warmAfter = false)
    (hrole : s.bent.role ≠ .standby) (hask : s.regBits (pwrBase + 0x18) 2 1 = 0) :
    s.logicReady = s.awakened { s.pwrAwake with slot := none, slotFrom := (0, 0) } := by
  have hno (b : Bool) : (s.regBits (pwrBase + 0x18) 2 1 == 1 && b) = false := by rw [hask]; rfl
  obtain ⟨from_, dest, wake, step, rail, stepBy⟩ := x
  subst hwake hstep hdest
  have hwaking : s = s.inTrans (some ⟨from_, .run, true, 4, rail, stepBy⟩) false := by rw [State.inTrans, ← htrans, ← hreset]
  obtain ⟨b, t, hends⟩ := logicReady_ends s hfrom rail stepBy
  rw [← hwaking, hno b, if_neg Bool.false_ne_true] at hends
  exact hends.trans ((wakeEnds_of_quiet (s := s.awakened s.pwrAwake) hrole hwarm).trans
    (settle_of_quiet (s := s.awakened s.pwrAwake) hslot (heldLevel_run _) false))

/-! ### The statement -/

/-- Settles O42, event by event. -/
theorem powerEventsComplete : Obligations.PowerEventsComplete := by
  refine ⟨fun s htrans hreset hrun hvalue hfit => ?enters, fun s n htrans hreset hcode hn hvalue hfit => ?restarts,
    fun s x htrans hwake hstep hdest hslot hlevel => ?entry,
    fun s source port hreset htrans hlevel harmed hwakes hon => ?wakes,
    fun s r x htrans hwake hfrom hstep hrail hreset hr hlt => ?rail,
    fun s x htrans hwake hfrom hstep hrail hreset => ?lastRail,
    fun s x htrans hwake hstep hrail hreset => ?railTimeout, fun s r x htrans hwake hstep hrail hr => ?railFall,
    fun s x htrans hwake hstep hreset hkeeps => ?osc,
    fun s gib width ranks rate x htrans hwake hstep hreset hpop hready hfits => ?mem,
    fun s gib width ranks rate popError x htrans hwake hstep hreset hpop hready hmisfit => ?misfit,
    fun s x htrans hwake hby hstep hfrom hreset hslot hlevel => ?stepTimeout,
    fun s x htrans hwake hstep hfrom hdest hreset hslot hwarm hrole hask => ?logic⟩
  case enters =>
    refine ⟨_, (idleTimerExpire_enters htrans hreset hrun hvalue hfit).trans (congrArg ok (beginEntry_idle _)), rfl, ?_,
      ticks_advanceTo _ _⟩
    exact congrArg (fun st => { s.pwr with trans := some { from_ := st, dest := .idle, wake := false }, etelo := false }) hrun
  case restarts => exact ⟨_, idleTimerExpire_restarts htrans hreset hcode hn hvalue hfit, rfl, rfl⟩
  case entry =>
    exact ⟨_, congrArg ok ((entryDone_idle htrans hwake hstep hdest).trans (reached_idle_of_quiet hslot hlevel)), rfl, rfl, rfl,
      rfl, counter_of_ctr rfl⟩
  case wakes =>
    exact ⟨_, congrArg ok ((if_neg (ne_true_of_eq_false hreset)).trans ((wakeSourceActs_of_level s source port hlevel).trans
      ((wakeEvent_starts harmed htrans hwakes).trans (startWake_of_powered hon source port)))), rfl, rfl⟩
  case rail => exact ⟨_, congrArg ok (railGood_next htrans hwake hfrom hstep hrail hreset hr hlt), rfl, rfl⟩
  case lastRail =>
    refine ⟨_, congrArg ok (railGood_last htrans hwake hfrom hstep hrail hreset), rfl, ?_⟩
    rw [← hfrom]
    rfl
  case railTimeout =>
    exact ⟨_, congrArg ok ((railTimeout_offs htrans hwake hstep hreset).trans (railOff_drops hstep hrail _)), rfl, rfl, rfl, rfl,
      ticks_advanceTo _ _⟩
  case railFall =>
    subst hrail
    exact ⟨_, (railGoodFall_offs htrans hwake hstep).trans (congrArg ok (railOff_drops hstep hr s)), rfl, rfl, rfl, rfl⟩
  case osc => exact ⟨_, congrArg ok (oscReady_steps htrans hwake hstep hreset hkeeps), rfl, rfl⟩
  case mem => exact ⟨_, congrArg ok (memReady_steps htrans hwake hstep hreset hpop hready hfits), rfl, rfl, rfl⟩
  case misfit => exact ⟨_, congrArg ok (memReady_of_misfit htrans hwake hstep hreset hpop hready hmisfit), rfl, rfl⟩
  case stepTimeout =>
    exact ⟨_, congrArg ok ((wakeStepTimeout_fails htrans hwake hby hstep hreset).trans (wakeFails_of_quiet
      (s := s.advanceTo x.stepBy) hfrom hslot hlevel)), rfl, rfl, rfl, rfl, ticks_advanceTo _ _, counter_of_ctr rfl⟩
  case logic =>
    exact ⟨_, congrArg ok (logicReady_completes htrans hwake hstep hfrom hdest hreset hslot hwarm hrole hask), rfl, rfl, rfl,
      rfl, rfl, counter_of_ctr rfl⟩

end Sys2Proof.Machine
end

section
/-!
PROOFS. Messages to the foreman from a source whose slot is empty (R702 to R708): the slot takes the message, and nothing
is merged.
-/

namespace Sys2Proof.Machine

/-- A message as it is dated when it is raised (R703). -/
noncomputable def State.dated (s : State) (m : FaultMsg) : FaultMsg := { m with time := s.nowStamp % 2 ^ 64, flag := s.time.flag.code }

theorem fillSlot_of_empty {s : State} {m : FaultMsg} (h : (s.source m.source).slot = none) :
    s.fillSlot m = s.setSource m.source { s.source m.source with slot := some m } := by
  simp only [State.fillSlot, h]

/-- Kinds that do not escalate pass R707 as they are. -/
theorem escalate_of_other {m : FaultMsg} (h : escalates m.kind = false) (s : State) : s.escalate m = (m, s) := 
  if_pos (by rw [h]; rfl)

/-- Escalation leaves a message and its state, or it changes the window of the message's source, and of the counters
ESCALATED alone may count. -/
theorem escalate_induction {s : State} {m : FaultMsg} {P : FaultMsg × State → Prop} (hkept : P (m, s))
    (hwindow : ∀ m' : FaultMsg, m'.source = m.source → ∀ w c, (∀ x, x ≠ fltBase + 0x120 → Tab.get 0 c x = s.counter x) →
      P (m', State.setSource { s with ctr := c } m.source { s.source m.source with window := w })) : P (s.escalate m) :=
  iteInduction (motive := P) (fun _ => hkept) fun _ => iteInduction (motive := P)
    (fun _ => hwindow { m with kind := m.kind + 1, cls := 1, escalated := true } rfl _ _ fun _ hx => counter_count_other s hx)
    (fun _ => hwindow m rfl _ s.ctr fun _ _ => rfl)

theorem raiseMsg_eq (s : State) (m : FaultMsg) : s.raiseMsg m =
    if (s.underTest m.source && m.kind != 0x1A && !m.forced) = true then s
    else (s.escalate (s.dated m)).2.fillSlot (s.escalate (s.dated m)).1 := rfl

/-- The empty slot of a source that is not under test takes a message whole. -/
theorem raiseMsg_of_empty {s : State} {m : FaultMsg} (hslot : (s.source m.source).slot = none)
    (hmay : (s.underTest m.source && m.kind != 0x1A && !m.forced) = false) (hkind : escalates m.kind = false) :
    s.raiseMsg m = s.setSource m.source { s.source m.source with slot := some (s.dated m) } := by
  rw [raiseMsg_eq, if_neg (by simp [hmay]), escalate_of_other (m := s.dated m) hkind]
  exact fillSlot_of_empty (m := s.dated m) hslot

/-- The address of a message may take a free value, no more. -/
theorem faultAddr_frame (s : State) (addr : Option Nat) :
    (s.faultAddr addr).2 = { s with free := (s.faultAddr addr).2.free } := by
  cases addr <;> rfl

/-- What `raise` leaves of a source with an empty slot. -/
theorem raise_of_empty {s : State} {src kind cls : Nat} (hslot : (s.source src).slot = none)
    (hmay : (s.underTest src && kind != 0x1A) = false) (hkind : escalates kind = false) (addr : Option Nat)
    (access master : Nat) : s.raise src kind cls addr access master =
      (s.faultAddr addr).2.setSource src { s.source src with slot := some (s.dated
        { source := src, kind := kind, cls := cls, address := (s.faultAddr addr).1, access := access, master := master }) } := by
  cases addr with
  | none => exact raiseMsg_of_empty (s := s.fresh.2) hslot (by rw [Bool.and_eq_false_iff]; exact .inl hmay) hkind
  | some a => exact raiseMsg_of_empty (s := s) hslot (by rw [Bool.and_eq_false_iff]; exact .inl hmay) hkind

/-- With a known address no value is left free. -/
theorem raise_of_empty_at {s : State} {src kind cls : Nat} (hslot : (s.source src).slot = none)
    (hmay : (s.underTest src && kind != 0x1A) = false) (hkind : escalates kind = false) (addr access master : Nat) :
    s.raise src kind cls (some addr) access master = s.setSource src { s.source src with slot := some (s.dated
      { source := src, kind := kind, cls := cls, address := addr % 2 ^ 48, access := access, master := master }) } :=
  raise_of_empty hslot hmay hkind (some addr) access master

/-- Into an empty slot nothing is merged: of the counters only ESCALATED may count. -/
theorem counter_raiseMsg_of_empty {s : State} {m : FaultMsg} {x : Nat} (hslot : (s.source m.source).slot = none)
    (hx : x ≠ fltBase + 0x120) : (s.raiseMsg m).counter x = s.counter x := by
  rw [raiseMsg_eq]
  split
  · rfl
  · refine escalate_induction (P := fun r => (r.2.fillSlot r.1).counter x = s.counter x) ?_ fun m' hsource w c hc => ?_
    · exact (congrArg (State.counter · x) (fillSlot_of_empty (m := s.dated m) hslot)).trans rfl
    · refine (congrArg (State.counter · x) (fillSlot_of_empty ?_)).trans (hc x hx)
      rw [hsource]
      exact (congrArg FaultSource.slot (State.source_setSource { s with ctr := c } ..)).trans hslot

theorem counter_raise_of_empty {s : State} {src x : Nat} (hslot : (s.source src).slot = none) (hx : x ≠ fltBase + 0x120)
    (kind cls : Nat) (addr : Option Nat) (access master : Nat) :
    (s.raise src kind cls addr access master).counter x = s.counter x := by
  cases addr with
  | none => exact counter_raiseMsg_of_empty (s := s.fresh.2) hslot hx
  | some a => exact counter_raiseMsg_of_empty (s := s) hslot hx

end Sys2Proof.Machine
end

section
/-!
PROOFS. Host links, virtual functions, register accesses and bulk memory (R784 to R801, R804, R810 to R815).
-/

namespace Sys2Proof.Machine

/-- In Run an access of the host wakes nothing. -/
theorem hostTouch_run {s : State} (h : s.pwr.state = .run) : s.hostTouch = s := if_pos (by simp [h])

/-- The blocks of the host functions and the counter ESCALATED are apart. -/
theorem hstKey_ne_escalated (f k : Nat) : hstKey f + k ≠ fltBase + 0x120 := by
  unfold hstKey hstBase fltBase
  omega

/-! ### Links, R794 and R843 -/

theorem linkDown_of_down {s : State} {f : Nat} (hup : (s.hostFn f).up = false) : s.linkDown f = s :=
  if_pos (by simp [hup])

theorem clearRanges_frame (f : Nat) (l : List Nat) (s : State) :
    ∃ c, l.foldl (fun s n => s.clearRange (vfTable f n) 0x1000) s = { s with cfg := c } := by
  induction l generalizing s with
  | nil => exact ⟨_, rfl⟩
  | cons n l ih => exact ih (s.clearRange (vfTable f n) 0x1000)

/-- The messages, latches and virtual functions of a function go. -/
noncomputable def State.flrHost (s : State) (f : Nat) : State :=
  let s := { s with
    msixPending := s.msixPending.filter (fun m => m.fn != f), latches := s.latches.filter (fun e => e.1 / 2 ^ 32 != f) }
  s.setHostFn f { s.hostFn f with vfEnabled := 0, vfErr := [], vfHeld := [] }

theorem flrPf_steps {s s₁ s₂ s₃ s₄ s₅ : State} {f : Nat} (hdiscard : s.discardOf f = s₁)
    (hrings : (s₁.queues.filter (fun e => s₁.fnOfQueue e.1 == f)).foldl (fun s e => s.flrQueue e.1) s₁ = s₂)
    (hbooks : (s₂.books.filter (fun e => s₂.fnOfBook e.1 == f)).foldl (fun s e => s.flrBook e.1) s₂ = s₃)
    (hchains : (s₃.dray.chans.filter (fun e => isChain e.1 && s₃.fnOfChan e.1 == f)).foldl
      (fun s e => s.flrChan e.1) s₃ = s₄)
    (hregs : (upto 0 64).foldl (fun s n => s.clearRange (vfTable f n) 0x1000)
      ((s₄.clearRange (hstKey f) 0x100000).clearRange (pageBase (2048 * f) + 0x100) 0x14) = s₅) :
    s.flrPf f = (s₅.flrHost f).maintCheck := by
  subst hdiscard hrings hbooks hchains hregs
  rfl

theorem discardOf_of_idle {s : State} (f : Nat) (htaken : s.clerk.taken = []) (hwait : s.clerk.waiting = []) :
    s.discardOf f = s := by
  have hclerk : { s.clerk with taken := [], waiting := [] } = s.clerk := by rw [← htaken, ← hwait]
  exact (congrArg₂ (fun (t : List Taken) (w : List Waiting) =>
    State.discardOf { s with clerk := { s.clerk with taken := t, waiting := w } } f) htaken hwait).trans
    (congrArg (fun c => { s with clerk := c }) hclerk)

/-- A function level reset where nothing of the function runs or waits: its registers, its messages and latches, and
its virtual functions go. -/
theorem flrPf_of_idle {s : State} (f : Nat) (hqueues : s.queues = []) (hbooks : s.books = []) (hchans : s.dray.chans = [])
    (htaken : s.clerk.taken = []) (hwait : s.clerk.waiting = []) : ∃ c, s.flrPf f = State.flrHost { s with cfg := c } f := by
  obtain ⟨c, hregs⟩ : ∃ c, (upto 0 64).foldl (fun s n => s.clearRange (vfTable f n) 0x1000)
    ((s.clearRange (hstKey f) 0x100000).clearRange (pageBase (2048 * f) + 0x100) 0x14) = { s with cfg := c } :=
    clearRanges_frame ..
  exact ⟨c, (flrPf_steps (s₂ := s) (s₃ := s) (s₄ := s) (discardOf_of_idle f htaken hwait) (by rw [hqueues]; rfl)
    (by rw [hbooks]; rfl) (by rw [hchans]; rfl) hregs).trans (maintCheck_idle hwait)⟩

/-- The link of such a function falls: the reset, then the loss is counted and told (R794, R817). -/
theorem linkDown_of_idle {s : State} {fn : Nat} (hfn : s.hasFn fn = true) (hup : (s.hostFn fn).up = true)
    (hqueues : s.queues = []) (hbooks : s.books = []) (hchans : s.dray.chans = []) (htaken : s.clerk.taken = [])
    (hwait : s.clerk.waiting = []) : ∃ c, s.linkDown fn = State.raise (State.count ((State.flrHost { s with cfg := c } fn).setHostFn fn
        { (State.flrHost { s with cfg := c } fn).hostFn fn with up := false, speed := 0, width := 0, pm := 0 })
      (hstKey fn + 0x130)) (hostSource fn) 0x16 1 := by
  obtain ⟨c, hreset⟩ := flrPf_of_idle fn hqueues hbooks hchans htaken hwait
  exact ⟨c, (if_neg (by rw [hfn, hup]; decide)).trans (congrArg (fun u : State => State.raise (State.count (u.setHostFn fn
    { u.hostFn fn with up := false, speed := 0, width := 0, pm := 0 }) (hstKey fn + 0x130)) (hostSource fn) 0x16 1) hreset)⟩

/-- A link has come up: the function says so, and for function 0 no wake of the link is asked for. -/
noncomputable def State.linkTrained (s : State) (f speed width : Nat) : State :=
  if f = 0 then { s.setHostFn f { s.hostFn f with up := true, perst := false, pm := 0, width := width, speed := speed } with
    pwr := { s.pwr with pcieWake := false } }
  else s.setHostFn f { s.hostFn f with up := true, perst := false, pm := 0, width := width, speed := speed }

theorem linkUp_of_fits {s : State} {fn speed width : Nat} (hfn : s.hasFn fn = true)
    (hfits : (1 ≤ speed && speed ≤ 5 && [1, 2, 4, 8, 16].contains width && (width ≤ 8 || !s.glb.hostSplit)) = true) :
    s.linkUp fn speed width = (if (s.hostFn fn).up then s.count (hstKey fn + 0x138) else s).linkTrained fn
      (if s.flt.slowLink then min speed 4 else speed) width := by
  refine (if_neg ?_).trans ?_
  · rw [hfn, hfits]
    decide
  · cases (s.hostFn fn).up <;> rfl

theorem link_fits {speed width : Nat} (hlow : 1 ≤ speed) (hhigh : speed ≤ 5) (hwidth : [1, 2, 4, 8].contains width = true)
    (split : Bool) : (1 ≤ speed && speed ≤ 5 && [1, 2, 4, 8, 16].contains width && (width ≤ 8 || !split)) = true := by
  have hlane : ∀ w ∈ [1, 2, 4, 8], ∀ split : Bool, ([1, 2, 4, 8, 16].contains w && (decide (w ≤ 8) || !split)) = true := by
    decide
  rw [decide_eq_true hlow, decide_eq_true hhigh]
  exact hlane width (List.contains_iff_mem.1 hwidth) split

/-- A link that fits comes up; in no other case than function 0 the wake it was asked for is affected. -/
theorem linkUp_of_down {s : State} {fn speed width : Nat} (hfn : s.hasFn fn = true) (hup : (s.hostFn fn).up = false)
    (hslow : s.flt.slowLink = false) (hlow : 1 ≤ speed) (hhigh : speed ≤ 5) (hwidth : [1, 2, 4, 8].contains width = true) :
    ∃ p, s.linkUp fn speed width = State.setHostFn { s with pwr := p } fn { s.hostFn fn with
      up := true, perst := false, pm := 0, width := width, speed := speed } := by
  rw [linkUp_of_fits hfn (link_fits hlow hhigh hwidth s.glb.hostSplit), if_neg (ne_true_of_eq_false hup),
    if_neg (ne_true_of_eq_false hslow), State.linkTrained]
  split
  · exact ⟨_, rfl⟩
  · exact ⟨s.pwr, rfl⟩

/-- One of two counters of a link counts. -/
theorem counter_count_either {a b : Nat} (hab : a ≠ b) (s : State) (k : Nat) (c : Bool) :
    (s.count (k + if c then a else b)).counter (k + a) = s.counter (k + a) + (if c then 1 else 0) ∧
      (s.count (k + if c then a else b)).counter (k + b) = s.counter (k + b) + (if c then 0 else 1) := by
  cases c with
  | true => exact ⟨State.counter_count .., (counter_count_other (o := k + a) s (fun h => hab (Nat.add_left_cancel h).symm)).trans (add_zero _).symm⟩
  | false => exact ⟨(counter_count_other (o := k + b) s (fun h => hab (Nat.add_left_cancel h))).trans (add_zero _).symm, State.counter_count ..⟩

/-- An event of a link is counted and told; into an empty slot the message changes no other counter of the link (R794). -/
theorem next_hostTold {e : Instr} {s u : State} {fn k kind cls : Nat} {Q : State → Prop}
    (hrun : exec e s = .next ((u.count (hstKey fn + k)).raise (hostSource fn) kind cls))
    (hslot : (u.source (hostSource fn)).slot = none)
    (hQ : ∀ f x n, (∀ o, Tab.get 0 x (hstKey fn + o) = (u.count (hstKey fn + k)).counter (hstKey fn + o)) →
      Q { u with flt := f, ctr := x, free := n }) : ∃ t, exec e s = .next t ∧ Q t := by
  obtain ⟨f, x, n, hraise⟩ := raise_frame (u.count (hstKey fn + k)) (hostSource fn) kind cls none 0 0
  have hcounter (o : Nat) := counter_raise_of_empty (s := u.count (hstKey fn + k)) hslot (hstKey_ne_escalated fn o) kind cls
    none 0 0
  rw [hraise] at hrun hcounter
  exact ⟨_, hrun, hQ f x n hcounter⟩

/-- The same with a known address: the slot takes the message. -/
theorem next_hostMessage {e : Instr} {s : State} {fn k kind cls addr : Nat} {Q : State → Prop}
    (hrun : exec e s = .next ((s.count (hstKey fn + k)).raise (hostSource fn) kind cls addr))
    (hslot : (s.source (hostSource fn)).slot = none) (hmay : s.underTest (hostSource fn) = false)
    (hkind : escalates kind = false)
    (hQ : ∀ f x, (∀ o, Tab.get 0 x o = (s.count (hstKey fn + k)).counter o) →
      (State.source { s with flt := f } (hostSource fn)).slot.map (fun m => (m.source, m.kind, m.cls, m.address)) =
        some (hostSource fn, kind, cls, addr % 2 ^ 48) → Q { s with flt := f, ctr := x }) :
    ∃ t, exec e s = .next t ∧ Q t := by
  have hraise := raise_of_empty_at (s := s.count (hstKey fn + k)) (cls := cls) hslot (by rw [Bool.and_eq_false_iff]; exact .inl hmay)
    hkind addr 0 0
  refine ⟨_, hrun.trans (congrArg ok hraise), hQ _ _ (fun _ => rfl) ?_⟩
  exact congrArg (fun v : FaultSource => v.slot.map (fun m => (m.source, m.kind, m.cls, m.address)))
    (State.source_setSource (s.count (hstKey fn + k)) ..)

theorem aerError_goes {s : State} {fn : Nat} (hfn : s.hasFn fn = true) (corrected : Bool) : exec (.aerError fn corrected) s =
    .next ((s.count (hstKey fn + if corrected then 0x110 else 0x118)).raise (hostSource fn)
      (if corrected then 0x14 else 0x15) (if corrected then 0 else 1)) := by
  refine congrArg ok ((if_neg (by rw [hfn]; decide)).trans ?_)
  cases corrected <;> rfl

/-! ### Virtual functions, R788 and R789 -/

theorem vfEnable_gives {s : State} {fn n : Nat} (hfn : s.hasFn fn = true) (hpos : 0 < n) (hn : n ≤ 64)
    (hclear : (s.hostFn fn).vfEnabled = 0) : s.vfEnable fn n = s.setHostFn fn { s.hostFn fn with
      vfEnabled := n, vfHeld := (s.vfGive fn n).1, vfErr := (s.vfGive fn n).2 } := by
  simp [State.vfEnable, hfn, hclear, Nat.not_lt.2 hn, Nat.ne_of_gt hpos]

theorem vfEnable_zero {s : State} {fn : Nat} (hfn : s.hasFn fn = true) :
    s.vfEnable fn 0 = s.setHostFn fn { s.hostFn fn with vfEnabled := 0, vfHeld := [] } := by
  simp [State.vfEnable, hfn]

theorem vfWrite_of_row {s : State} {fn off v : Nat} {r : RegRow} (hfn : s.hasFn fn = true) (hlow : 0x1000 ≤ off)
    (hhigh : off < 0x1800) (hrow : regRow (hstKey fn + off) = some r) : s.vfWrite fn off v =
      if (s.hostFn fn).vfEnabled != 0 then s.count (hstKey fn + 0x150)
      else s.setReg (hstKey fn + off) (Nat.land v r.rw) := by
  simp [State.vfWrite, hfn, hrow, Nat.not_lt.2 hlow, Nat.not_le.2 hhigh]

/-! ### BAR4, R783, R786 and R787 -/

/-- The bulk-memory offset that function f's BAR4 offset x stands for (R787). -/
noncomputable def State.bar4Offset (s : State) (f x : Nat) : Nat := s.swBase + s.regBits (hstKey f + 4) 0 8 * GiB + x

section Bar4

variable {s : State} {fn x n : Nat} (hrun : s.pwr.state = .run) (hfn : s.hasFn fn = true) (hen : s.glb.bar4En = true)
  (hfit : x + n ≤ 2 ^ 36)
include hrun hfn hen hfit

theorem bar4_eq (write : Bool) (data : List Byte) : s.bar4 fn x n write data =
    if s.swEnd < s.bar4Offset fn x + n then
      if write then s.count (hstKey fn + 0x140)
      else { s.count (hstKey fn + 0x140) with readData := List.replicate n 0xFF, readBad := false }
    else if write then s.writeBulk (s.bar4Offset fn x) (data.take n)
    else match s.poisonIn (s.bar4Offset fn x) n with
      | some b => { s.poisonRead b (hostSource fn) with readData := [], readBad := true }
      | none => { s with readData := s.readBulk (s.bar4Offset fn x) n, readBad := false } := by
  have hgo : ¬ (!s.hasFn fn || !s.glb.bar4En || decide (2 ^ 36 < x + n)) = true := by
    rw [hfn, hen, decide_eq_false (Nat.not_lt.2 hfit)]
    decide
  unfold State.bar4
  rw [if_neg hgo, hostTouch_run hrun]
  rfl

theorem bar4_write (hend : s.bar4Offset fn x + n ≤ s.swEnd) {data : List Byte} (hlen : data.length = n) :
    s.bar4 fn x n true data = s.writeBulk (s.bar4Offset fn x) data := by
  rw [bar4_eq hrun hfn hen hfit, if_neg (Nat.not_lt.2 hend), if_pos rfl, List.take_of_length_le (Nat.le_of_eq hlen)]

theorem bar4_read (hend : s.bar4Offset fn x + n ≤ s.swEnd) (hclean : s.poisonIn (s.bar4Offset fn x) n = none)
    (data : List Byte) : s.bar4 fn x n false data =
      { s with readData := s.readBulk (s.bar4Offset fn x) n, readBad := false } := by
  rw [bar4_eq hrun hfn hen hfit, if_neg (Nat.not_lt.2 hend), if_neg (by decide), hclean]

theorem bar4_read_past (hend : s.swEnd < s.bar4Offset fn x + n) (data : List Byte) : s.bar4 fn x n false data =
    { s.count (hstKey fn + 0x140) with readData := List.replicate n 0xFF, readBad := false } := by
  rw [bar4_eq hrun hfn hen hfit, if_pos hend, if_neg (by decide)]

end Bar4

/-! ### Words of BAR0, R807 to R815 -/

theorem hasRequester_lt {s : State} {fn : Nat} (hreq : s.hasRequester fn = true) (hlt : fn < 2) : s.hasFn fn = true := by
  rwa [State.hasRequester, if_pos hlt] at hreq

/-- Below the HST blocks the host sees nothing that changes at a reading. -/
theorem beforeRead_of_low {off : Nat} (hoff : off < hstBase) (s : State) (f : Nat) : s.beforeRead f off = s :=
  if_neg fun h => Nat.not_le.2 hoff (Nat.le_of_add_right_le h.1)

/-- One aligned word that latches nothing. -/
theorem hostRead_word {s : State} {fn off : Nat} (halign : off % 4 = 0) (hoff : off < hstBase)
    (hlatch : latchOf off = none) : s.hostRead fn off 4 = s.afterRead (leBytes 4 (s.bar0Word fn off)) := by
  refine hostRead_of_words (n := 4) (d := leBytes 4 (s.bar0Word fn off)) (by decide) halign (wordLine halign) rfl ?_
  rw [show (off + 4 - 1) / 4 - off / 4 = 0 from wordCount halign]
  refine readWords_one ?_
  rw [State.readWord, beforeRead_of_low hoff, hlatch]

/-- A word below the HST blocks lies in the BAR0 of a physical function. -/
theorem word_within {s : State} {fn off : Nat} (hreq : s.hasRequester fn = true) (hlt : fn < 2) (hoff : off < hstBase) :
    ¬ (!s.hasRequester fn || decide (State.barSize fn < off + 4)) = true := by
  have hfit : off + 4 ≤ 0x4000000 := Nat.le_trans (Nat.add_le_add_right (Nat.le_of_lt hoff) 4) (by decide)
  rw [hreq, State.barSize, if_pos hlt, decide_eq_false (Nat.not_lt.2 hfit)]
  decide

/-- Four aligned bytes below the doorbell pages are one write of a word. -/
theorem hostWrite_word {s : State} {fn off v : Nat} (halign : off % 4 = 0) (hoff : off < 0x1000000) :
    s.hostWrite fn off 4 v = s.writeWord fn fn off (v % 2 ^ 32) false := by
  simp [State.hostWrite, halign, State.hostWriteWord, hoff]

theorem hostWrite_goes {s : State} {fn off : Nat} {v : BitVec 64} (hrun : s.pwr.state = .run)
    (hreq : s.hasRequester fn = true) (hlt : fn < 2) (halign : off % 4 = 0) (hoff : off < 0x700000) :
    (if !s.hasRequester fn || State.barSize fn < off + 4 then s
      else if fn < 2 then s.hostTouch.hostWrite fn off 4 v.toNat
      else s.hostTouch.vfHostWrite ((fn - 2) / 64) ((fn - 2) % 64) off 4 v.toNat) =
      s.writeWord fn fn off (v.toNat % 2 ^ 32) false := by
  rw [if_neg (word_within hreq hlt (Nat.lt_trans hoff (by decide))), if_pos hlt, hostTouch_run hrun,
    hostWrite_word halign (Nat.lt_trans hoff (by decide))]

theorem bar0BadAccess_goes {s : State} {fn off : Nat} (hrun : s.pwr.state = .run) (hreq : s.hasRequester fn = true)
    (hlt : fn < 2) (hoff : off < 0x4000000) (read : Bool) : exec (.bar0BadAccess fn off read) s =
      .next { s.badAccess fn off with readData := if read then [] else s.readData, readBad := read || s.readBad } := by
  refine congrArg ok ((if_neg ?_).trans ?_)
  · rw [hreq, State.barSize, if_pos hlt, decide_eq_false (Nat.not_le.2 hoff)]
    decide
  · rw [hostTouch_run hrun, if_pos hlt]
    cases read <;> rfl

/-- Offsets below the dray block, but GLB_RESET, hold plain settings. -/
theorem writeFields_of_low {off : Nat} (hoff : off < 0x700000) (hreset : off ≠ 0x30) (s : State) (req f v : Nat) :
    s.writeFields req f off v = s.writeRw f off v := by
  have hlow {a b : Nat} (ha : 0x700000 ≤ a) : ¬ (a ≤ off ∧ off < b) := fun h =>
    Nat.not_le.2 (Nat.lt_of_lt_of_le hoff ha) h.1
  have hne {a : Nat} (ha : 0x700000 ≤ a) : off ≠ a := Nat.ne_of_lt (Nat.lt_of_lt_of_le hoff ha)
  exact (if_neg hreset).trans ((if_neg (hlow (by decide))).trans ((if_neg (hlow (by decide))).trans
    ((if_neg (hlow (by decide))).trans ((if_neg (hne (by decide))).trans (if_neg (hne (by decide)))))))

/-- Below the HST blocks a row's key is its offset, and no key is a mask word of an MSI-X entry. -/
theorem rowAt_key {s : State} {fn off k : Nat} {r : RegRow} (hoff : off < hstBase) (hrow : s.rowAt fn off = some (r, k)) :
    k = off := by
  unfold State.rowAt at hrow
  split at hrow
  · exact absurd hrow (by simp)
  · simp only [if_neg (fun h => Nat.not_le.2 hoff h.1 : ¬ (hstBase ≤ off ∧ off < memBase)), Option.map_eq_some_iff, Prod.mk.injEq] at hrow
    obtain ⟨_, _, _, hk⟩ := hrow
    exact hk.symm

theorem isMaskWord_of_low {k : Nat} (hk : k < hstBase) : State.isMaskWord k = false := by
  unfold hstBase at hk
  simp only [State.isMaskWord, hstKey, hstBase, Bool.and_eq_false_iff, Bool.or_eq_false_iff, decide_eq_false_iff_not]
  right
  refine ⟨⟨.inl ?_, .inl ?_⟩, ?_⟩ <;> omega

theorem writeRw_of_row {s : State} {fn off k v : Nat} {r : RegRow} (hoff : off < hstBase)
    (hrow : s.rowAt fn off = some (r, k)) (hrw : r.rw ≠ 0) : s.writeRw fn off v =
      s.setReg k (s.reg k - Nat.land (s.reg k) r.rw + Nat.land v r.rw) := by
  have hmask : State.isMaskWord k = false := isMaskWord_of_low (by rwa [rowAt_key hoff hrow])
  simp [State.writeRw, hrow, hrw, hmask]

/-- A write that would change RWL fields is counted; the other fields of the word act by their own codes (R815). -/
theorem writeWord_ignored {s : State} {req fn off v : Nat} (hchanges : s.changesRwl fn off v = true) :
    ∃ reg, s.writeWord req fn off v false = (s.ignoredWrite req reg).writeFields req fn off v := by
  rw [State.writeWord, hchanges]
  exact ⟨_, rfl⟩

/-- A row without RW fields keeps its word. -/
theorem writeRw_of_rwl {s : State} {fn off k v : Nat} {r : RegRow} (hrow : s.rowAt fn off = some (r, k)) (hrw : r.rw = 0) :
    s.writeRw fn off v = s := by
  simp [State.writeRw, hrow, hrw]

/-! ### Bulk memory, R800, R801 and R804 -/

theorem scrub_goes {s : State} {off : Nat} (hoff : off < s.memCap) (hready : s.mem.ready = true) :
    ¬ (decide (s.memCap ≤ off) || !s.mem.ready) = true := by
  rw [hready, decide_eq_false (Nat.not_le.2 hoff)]
  decide

/-- A clean burst moves the patrol scrub on. -/
theorem scrub_clean {s : State} {off : Nat} (hoff : off < s.memCap) (hready : s.mem.ready = true) :
    s.scrub off 0 = { s with
      mem := { s.mem with scrubAt := off - off % 64, scrubDone := (off - off % 64) * 100 / s.memCap } } :=
  if_neg (scrub_goes hoff hready)

/-- The scrub after an uncorrectable burst: it goes on, and the burst is marked if it was not. -/
theorem scrub_of_uncorrectable {s : State} {off : Nat} (hoff : off < s.memCap) (hready : s.mem.ready = true) :
    s.scrub off 2 =
      (fun u : State => if u.mem.poisoned.contains (off - off % 64) then u
        else State.count { u with mem := { u.mem with poisoned := State.addBit (off - off % 64) u.mem.poisoned } }
          (channelCount (channelOf off) 3))
      { s with mem := { s.mem with scrubAt := off - off % 64, scrubDone := (off - off % 64) * 100 / s.memCap } } :=
  if_neg (scrub_goes hoff hready)

/-- An uncorrectable burst that was not poisoned is marked and counted. -/
theorem scrub_uncorrectable {s : State} {off done : Nat} (hoff : off < s.memCap) (hready : s.mem.ready = true)
    (hnew : s.mem.poisoned.contains (off - off % 64) = false) (hdone : done = (off - off % 64) * 100 / s.memCap) :
    s.scrub off 2 = State.count { s with
      mem := { s.mem with
        scrubAt := off - off % 64, scrubDone := done, poisoned := State.addBit (off - off % 64) s.mem.poisoned } }
      (channelCount (channelOf off) 3) := by
  refine (scrub_of_uncorrectable hoff hready).trans ?_
  rw [← hdone]
  simp only [hnew, Bool.false_eq_true, if_false]

/-- A poisoned burst below the retention area is counted twice, by the controllers and by its channel; the message is
of class 2. -/
theorem poisonRead_of_low {s : State} {off master : Nat} (hoff : off < retentionBase)
    (hpoison : s.mem.poisoned.contains (off - off % 64) = true)
    (hslot : (s.source (memSource (channelOf off))).slot = none) (hmay : s.underTest (memSource (channelOf off)) = false) :
    ∃ c, s.poisonRead off master = State.setSource { s with ctr := c } (memSource (channelOf off))
        { s.source (memSource (channelOf off)) with slot := some (s.dated
          { source := memSource (channelOf off), kind := 0x02, cls := 2, address := (off - off % 64) % 2 ^ 48
            access := 0, master := master }) } ∧
      Tab.get 0 c (memBase + 0x120) = s.counter (memBase + 0x120) + 1 := by
  have hspill : off < spillBase := Nat.lt_trans hoff (by decide)
  have hcounters : memBase + 0x120 ≠ channelCount (channelOf off) 1 := by
    unfold channelCount
    omega
  have hcounted := (counter_count_other (s.count (memBase + 0x120)) hcounters).trans (State.counter_count ..)
  obtain ⟨c, hc⟩ : ∃ c, (s.count (memBase + 0x120)).count (channelCount (channelOf off) 1) = { s with ctr := c } := ⟨_, rfl⟩
  have hraise : s.poisonRead off master = State.raise { s with ctr := c }
      (memSource (channelOf off)) 0x02 2 (some (off - off % 64)) 0 master := by
    have hledger : (decide (off < spillBase) && !(decide (retentionBase ≤ off) && decide (off < journalBase))) = true := by
      rw [decide_eq_true hspill, decide_eq_false (Nat.not_le.2 hoff)]
      rfl
    refine (if_pos hledger).trans ?_
    rw [if_pos hpoison, if_pos hledger, hc]
  rw [hc] at hcounted
  exact ⟨c, hraise.trans (raise_of_empty_at (s := { s with ctr := c }) hslot
    (by rw [Bool.and_eq_false_iff]; exact .inl hmay) rfl _ 0 master), hcounted⟩

/-! ### The statement -/

/-- Settles O43, event by event: what the event does stands in the lemmas above, and a message raised at an empty slot
changes no counter that is named. -/
theorem hostAndMemoryEventsComplete : Obligations.HostAndMemoryEventsComplete := by
  refine ⟨fun s fn hfn hup => ?perst, fun s fn hfn hup hqueues hbooks hchans htaken hwait hslot => ?linkDown,
    fun s fn speed width hfn hup hslow hlow hhigh hwidth => ?linkUp, fun s fn corrected hfn hslot => ?aer,
    fun s fn addr timeout hfn hslot hmay => ?completion, fun s fn n hfn hpos hn hclear => ?vfGives,
    fun s fn hfn => ?vfTakes, fun s fn off v r hrun hfn hlow hhigh hrow hclear => ?hstWrite,
    fun s fn off v r hrun hfn hlow hhigh hrow hset => ?hstDenied,
    fun s fn x n o data hrun hfn hen hfit ho hend hlen => ?bar4Write,
    fun s fn x n o data hrun hfn hen hfit ho hend hclean => ?bar4Read,
    fun s fn x n data hrun hfn hen hfit hend => ?bar4Past, fun s fn off hrun hfn => ?bar2,
    fun s fn off read hrun hreq hlt hoff => ?badAccess, fun s fn off hrun hreq hlt halign hoff hlatch => ?read,
    fun s fn off k v r hrun hreq hlt halign hoff hreset hrow hrw hsame => ?write,
    fun s fn off k v r hrun hreq hlt halign hoff hreset hrow hrw hchanges => ?ignored,
    fun s v hrun hmarks hmax => ?marks, fun s v hrun hbad => ?badMarks, fun s v hrun hlow hhigh => ?hours,
    fun s off hoff hready hnew => ?scrubBad, fun s off hoff hready => ?scrubClean,
    fun s off master hoff hlow hpoison hslot hmay => ?poisoned⟩
  case perst =>
    refine ⟨_, congrArg ok ((if_neg (by simp [hfn])).trans ?_), rfl, State.hostFn_setHostFn ..⟩
    rw [linkDown_of_down hup]
  case linkDown =>
    obtain ⟨c, hdown⟩ := linkDown_of_idle hfn hup hqueues hbooks hchans htaken hwait
    refine next_hostTold (congrArg ok hdown) hslot fun f x n hcounter => ⟨rfl, ?_, (hcounter _).trans (State.counter_count ..)⟩
    exact (State.hostFn_setHostFn ..).trans (congrArg (fun v : HostFn => { v with up := false, speed := 0, width := 0, pm := 0 })
      (State.hostFn_setHostFn ..))
  case linkUp =>
    obtain ⟨p, hp⟩ := linkUp_of_down hfn hup hslow hlow hhigh hwidth
    exact ⟨_, congrArg ok hp, rfl, State.hostFn_setHostFn ..⟩
  case aer =>
    refine next_hostTold (k := if corrected then 0x110 else 0x118) (aerError_goes hfn corrected) hslot fun f x n hcounter => ?_
    obtain ⟨hcorrected, hother⟩ := counter_count_either (by decide : 0x110 ≠ 0x118) s (hstKey fn) corrected
    exact ⟨rfl, (hcounter _).trans hcorrected, (hcounter _).trans hother⟩
  case completion =>
    refine next_hostMessage (congrArg ok (if_neg (by rw [hfn]; decide))) hslot hmay rfl fun f x hcounter hmessage => ?_
    obtain ⟨htimeout, hother⟩ := counter_count_either (by decide : 0x128 ≠ 0x120) s (hstKey fn) timeout
    exact ⟨rfl, (hcounter _).trans htimeout, (hcounter _).trans hother, hmessage⟩
  case vfGives => exact ⟨_, congrArg ok (vfEnable_gives hfn hpos hn hclear), rfl, State.hostFn_setHostFn ..⟩
  case vfTakes => exact ⟨_, congrArg ok (vfEnable_zero hfn), rfl, State.hostFn_setHostFn ..⟩
  case hstWrite =>
    refine ⟨s.setReg (hstKey fn + off) (Nat.land v.toNat r.rw), congrArg ok ?_, rfl, ?_⟩
    · rw [hostTouch_run hrun, vfWrite_of_row hfn hlow hhigh hrow, if_neg (by simp [hclear])]
    · rw [State.reg_setReg]
      exact Nat.mod_eq_of_lt (Nat.lt_of_le_of_lt Nat.and_le_left v.isLt)
  case hstDenied =>
    refine ⟨s.count (hstKey fn + 0x150), congrArg ok ?_, rfl, State.counter_count ..⟩
    rw [hostTouch_run hrun, vfWrite_of_row hfn hlow hhigh hrow, if_pos (by simpa using hset)]
  case bar4Write =>
    subst ho hlen
    exact ⟨_, congrArg ok (bar4_write hrun hfn hen hfit hend rfl), rfl, rfl, readBytes_writeBytes .., rfl⟩
  case bar4Read =>
    subst ho
    exact ⟨_, congrArg ok (bar4_read hrun hfn hen hfit hend hclean data), rfl, rfl, rfl⟩
  case bar4Past => exact ⟨_, congrArg ok (bar4_read_past hrun hfn hen hfit hend data), rfl, rfl, rfl, counter_of_ctr rfl⟩
  case bar2 =>
    refine ⟨s.count (hstKey fn + 0x148), congrArg ok ((if_pos hfn).trans ?_), rfl, State.counter_count ..⟩
    rw [hostTouch_run hrun]
  case badAccess =>
    refine ⟨_, bar0BadAccess_goes hrun hreq hlt hoff read, rfl, ?_, counter_of_ctr rfl, rfl⟩
    exact congrArg (fun o => { s.glb with lastIgnored := BitVec.ofNat 32 (o + 2 ^ 26 * fn + 2 ^ 28) })
      (Nat.mod_eq_of_lt (b := 2 ^ 26) hoff)
  case read =>
    refine ⟨s.afterRead (leBytes 4 (s.bar0Word fn off)), congrArg ok ((if_neg (word_within hreq hlt hoff)).trans ?_),
      rfl, rfl, rfl⟩
    rw [if_pos hlt, hostTouch_run hrun, hostRead_word halign hoff hlatch]
  case write =>
    refine ⟨_, congrArg ok ((hostWrite_goes hrun hreq hlt halign hoff).trans ?_), rfl, State.reg_setReg ..⟩
    rw [State.writeWord, hsame, writeFields_of_low hoff hreset]
    exact writeRw_of_row (Nat.lt_trans hoff (by decide)) hrow hrw
  case ignored =>
    obtain ⟨reg, hwrite⟩ := writeWord_ignored (req := fn) hchanges
    refine ⟨s.ignoredWrite fn reg, congrArg ok ((hostWrite_goes hrun hreq hlt halign hoff).trans ?_), rfl,
      counter_of_ctr rfl, rfl⟩
    rw [hwrite, writeFields_of_low hoff hreset]
    exact writeRw_of_rwl (s := s.ignoredWrite fn reg) hrow hrw
  case marks =>
    refine ⟨s.setReg (memBase + 0x30) v.toNat, congrArg ok ?_, rfl, ?_⟩
    · rw [hostTouch_run hrun]
      exact if_pos (by simp [hmarks, hmax])
    · rw [State.reg_setReg]
      exact Nat.mod_eq_of_lt v.isLt
  case badMarks =>
    refine ⟨s.count (memBase + 0x128), congrArg ok ?_, rfl, State.counter_count ..⟩
    rw [hostTouch_run hrun]
    refine if_neg ?_
    rw [Bool.and_eq_true, decide_eq_true_eq, decide_eq_true_eq]
    exact fun ⟨hbelow, hmost⟩ => hbad.elim (Nat.not_le.2 hbelow) (Nat.not_lt.2 hmost)
  case hours =>
    refine ⟨s.setReg (memBase + 0x34) (v.toNat % 256), congrArg ok ?_, rfl, ?_⟩
    · rw [hostTouch_run hrun]
      exact if_pos (by simp [hlow, hhigh])
    · rw [State.reg_setReg]
      exact Nat.mod_eq_of_lt (Nat.lt_trans (Nat.mod_lt _ (by decide)) (by decide))
  case scrubBad =>
    obtain ⟨done, hdone⟩ : ∃ done, done = (off - off % 64) * 100 / s.memCap := ⟨_, rfl⟩
    rw [← hdone]
    exact ⟨_, congrArg ok (scrub_uncorrectable hoff hready hnew hdone), rfl, rfl, counter_of_ctr rfl⟩
  case scrubClean => exact ⟨_, congrArg ok (scrub_clean hoff hready), rfl, rfl⟩
  case poisoned =>
    obtain ⟨c, hread, hcounted⟩ := poisonRead_of_low (master := master) hlow hpoison hslot hmay
    have hgo : ¬ (decide (s.memCap ≤ off) || !(true || s.mem.poisoned.contains (off - off % 64))) = true := by
      rw [decide_eq_false (Nat.not_le.2 hoff), Bool.true_or]
      decide
    refine ⟨_, congrArg ok ((if_neg hgo).trans hread), rfl, hcounted, ?_⟩
    · rw [State.source_setSource]
      have hmod : (off - off % 64) % 2 ^ 48 = off - off % 64 :=
        Nat.mod_eq_of_lt (Nat.lt_of_le_of_lt (Nat.sub_le ..) (Nat.lt_trans hlow (by decide)))
      rw [Option.map_some]
      exact congrArg (fun a => some (0x02, 2, a, master)) hmod

end Sys2Proof.Machine
end

section
/-!
PROOFS. The foreman: what a message that is taken leaves, forced and raised messages, and the tests of the table-cache and
frame-hold banks (R708 to R714, R719, R723, R731 to R736).
-/

namespace Sys2Proof.Machine

/-! ### Messages leave the rest of the foreman -/

/-- The state with another foreman. -/
noncomputable def State.withFlt (s : State) (f : Foreman) : State := { s with flt := f }

/-- The state t differs from s in the foreman's sources, the counters and the free values at most. -/
def SourcesOnly (s t : State) : Prop :=
  t = { s with flt := { s.flt with sources := t.flt.sources }, ctr := t.ctr, free := t.free }

namespace SourcesOnly

variable {s t u : State}

theorem refl (s : State) : SourcesOnly s s := rfl

theorem trans (h : SourcesOnly s t) (h' : SourcesOnly t u) : SourcesOnly s u :=
  Eq.trans h' (congrArg (fun x : State =>
    { x with flt := { x.flt with sources := u.flt.sources }, ctr := u.ctr, free := u.free }) h)

theorem count (h : SourcesOnly s t) (o : Nat) : SourcesOnly s (t.count o) := h.trans rfl

theorem setSource (h : SourcesOnly s t) (n : Nat) (f : FaultSource) : SourcesOnly s (t.setSource n f) := h.trans rfl

theorem frame (h : SourcesOnly s t) : t = { s with flt := t.flt, ctr := t.ctr, free := t.free } :=
  congrArg (fun x : State => { x with flt := t.flt, ctr := t.ctr, free := t.free }) h

theorem flt_eq (h : SourcesOnly s t) : t.flt = { s.flt with sources := t.flt.sources } := congrArg State.flt h

theorem fillSlot (s : State) (m : FaultMsg) : SourcesOnly s (s.fillSlot m) := by
  unfold State.fillSlot
  simp only
  split
  · exact (refl s).setSource ..
  · exact ((((refl s).setSource ..).count _).count _).count _

theorem escalate (s : State) (m : FaultMsg) : SourcesOnly s (s.escalate m).2 :=
  escalate_induction (P := fun r => SourcesOnly s r.2) (refl s) fun _ _ _ _ _ => rfl

theorem raiseMsg (s : State) (m : FaultMsg) : SourcesOnly s (s.raiseMsg m) := by
  rw [raiseMsg_eq]
  split
  · exact refl s
  · exact (escalate s _).trans (fillSlot ..)

/-- A fault message changes of the foreman its sources alone. -/
theorem raise (s : State) (src kind cls : Nat) (addr : Option Nat) (access master : Nat) :
    SourcesOnly s (s.raise src kind cls addr access master) := by
  cases addr with
  | none => exact trans (t := s.fresh.2) rfl (raiseMsg ..)
  | some a => exact raiseMsg s _

theorem floorCheck (s : State) (before : List Bool) : SourcesOnly s (s.floorCheck before) := by
  unfold State.floorCheck
  generalize before.zip s.belowFloor = l
  induction l generalizing s with
  | nil => exact refl s
  | cons x l ih =>
    rw [List.foldl_cons]
    refine trans ?_ (ih _)
    split
    · exact ((refl s).count _).trans (raise ..)
    · exact refl s

theorem testResult (s : State) (u : Nat) (fail : Bool) : SourcesOnly s (s.testResult u fail) := by
  cases fail with
  | true => exact ((refl s).count _).trans (raise ..)
  | false => exact (refl s).count _

end SourcesOnly

/-! ### Table-cache banks, R719 and R734 -/

/-- The banks of the table cache are the units of kind 2. -/
theorem bank_of_fenceKind {n : Nat} (h : fenceKind n = some 2) : unitRange 2 n = true :=
  List.find?_some (p := fun u => unitRange u n) h

/-- What the end of a test does, by the test that was found and whether it is a joiner's. -/
noncomputable def State.testFound (s : State) (x : UnitTest) (joiner fail : Bool) (a b : Nat) : State :=
  let u := x.unit_
  let ends : Option Nat := if joiner then (match s.joinerFence ((u - 0x200) / 4) with | .test e => e | _ => none) else x.endAt
  if joiner && ends.isNone then s else
    let s := match ends with | some e => s.advanceTo e | none => s
    let s := { s with flt := { s.flt with tests := s.flt.tests.erase x } }
    match x.why with
    | .unfence => (s.testResult u fail).unfenceDone u fail
    | .eyeScan => s.finishKind (fun k => k == .unitTest u) .ok none
        (State.testReply false u (a % 2 ^ 32) (bits b 0 8 + 2 ^ 16 * bits b 16 48))
    | .bist => (s.bistZero x.target x.index).finishKind (fun k => k == .unitTest u) .ok none
        (State.testReply fail u (a % 2 ^ 32) (if fail then b else 0))
    | _ =>
      let s := if joiner then s.setJoinerFence ((u - 0x200) / 4) .none
        else if fail && 4 ≤ (fenceKind u).getD 0 then s else s.returnUnit u
      (s.testResult u fail).finishKind (fun k => k == .unitTest u) .ok none (State.testReply fail u x.us (if fail then b else 0))

theorem unitTestEnds_eq (s : State) (u : Nat) (fail : Bool) (a b : Nat) : s.unitTestEnds u fail a b =
    match s.flt.tests.find? (fun t => (t.unit_ == u || t.unit_ == s.unitOf u) && t.why != TestWhy.rotation) with
    | none => s
    | some x => s.testFound x (unitRange 0 x.unit_ && x.why == TestWhy.selftest) fail a b := rfl

theorem erase_only {s : State} {x : UnitTest} (htests : s.flt.tests = [x]) : s.flt.tests.erase x = [] := by
  rw [htests]
  exact List.erase_cons_head ..

/-- The only test of the foreman is one of the unit, no joiner, and it is found. -/
theorem unitTestEnds_only {s : State} {x : UnitTest} {u : Nat} (htests : s.flt.tests = [x]) (hown : x.unit_ = u)
    (hwhy : (x.why != TestWhy.rotation) = true) (hjoiner : (unitRange 0 u && x.why == TestWhy.selftest) = false)
    (fail : Bool) (a b : Nat) : s.unitTestEnds u fail a b = s.testFound x false fail a b := by
  have hfind : s.flt.tests.find? (fun t => (t.unit_ == u || t.unit_ == s.unitOf u) && t.why != TestWhy.rotation) =
      some x := by
    rw [htests]
    exact List.find?_cons_of_pos (by rw [hown, beq_self_eq_true, hwhy]; rfl)
  rw [unitTestEnds_eq, hfind, ← hjoiner, ← hown]

section Bank

variable {u : Nat} (hbank : unitRange 2 u = true)
include hbank

theorem bank_cases {P : Nat → Prop} (h : ∀ k < 16, P (0x340 + k)) : P u := by
  obtain ⟨hlow, hhigh⟩ := Bool.and_eq_true_iff.1 (show (decide (0x340 ≤ u) && decide (u ≤ 0x34F)) = true from hbank)
  have hu := h (u - 0x340) (Nat.sub_lt_left_of_lt_add (of_decide_eq_true hlow) (Nat.lt_succ_of_le (of_decide_eq_true hhigh)))
  rwa [Nat.add_sub_cancel' (of_decide_eq_true hlow)] at hu

theorem fenceKind_bank : fenceKind u = some 2 := bank_cases (P := fun u => fenceKind u = some 2) hbank (by decide)

/-- A bank is neither a frame-hold bank nor a joiner nor a clerk core. -/
theorem unitRange_bank : unitRange 0 u = false ∧ unitRange 1 u = false :=
  bank_cases (P := fun u => unitRange 0 u = false ∧ unitRange 1 u = false) hbank (by decide)

theorem joinersOf_bank : State.joinersOf u = [] := bank_cases (P := fun u => State.joinersOf u = []) hbank (by decide)

/-- No port stands on a bank. -/
theorem portsOf_bank (s : State) : s.portsOf u = [] :=
  bank_cases (P := fun u => State.portsOf {} u = []) hbank (by decide)

theorem unitOf_bank (s : State) : unitRange 2 (s.unitOf u) = true ∧ s.unitOf (s.unitOf u) = s.unitOf u :=
  bank_cases (P := fun u => unitRange 2 (State.unitOf {} u) = true ∧ State.unitOf {} (State.unitOf {} u) = State.unitOf {} u)
    hbank (by decide)

theorem leaveService_bank (s : State) : s.leaveService u = s := by
  rw [State.leaveService, fenceKind_bank hbank]
  rfl

/-- A bank returns to service: its fences go, and the floor may be told. -/
theorem returnUnit_bank (s : State) : SourcesOnly
    (s.withFlt { s.flt with fences := s.flt.fences.filter (fun f => f.unit_ != u) }) (s.returnUnit u) := by
  simp only [State.returnUnit, joinersOf_bank hbank, portsOf_bank hbank, List.foldl_nil]
  exact SourcesOnly.floorCheck ..

/-- The tests and fences of the foreman once a unit's own test has ended without a result (R729). -/
noncomputable def Foreman.testEnded (f : Foreman) (u : Nat) : Foreman := { f with
  tests := f.tests.filter (fun t => t.unit_ != u || t.why == TestWhy.eyeScan || t.why == TestWhy.bist)
  fences := f.fences.filter (fun f => f.unit_ != u || f.why != FenceWhy.test) }

/-- The foreman once a unit is fenced for a fault. -/
noncomputable def Foreman.fenced (f : Foreman) (u : Nat) (gate : Bool) : Foreman := { f.testEnded u with
  fences := (f.testEnded u).fences ++ [Fence.mk u .fault gate] }

/-- A bank is fenced for a fault while no command waits. -/
theorem fenceFault_bank {s : State} (hopen : s.faultFenced u = false) (hwait : s.clerk.waiting = []) (gate : Bool)
    (lost : List Nat) : SourcesOnly (s.withFlt (s.flt.fenced u gate)) (s.fenceFault u gate lost) := by
  have hend : s.endTest u = s.withFlt (s.flt.testEnded u) :=
    finishKind_idle (s := s.withFlt (s.flt.testEnded u)) hwait (fun k => k == .unitTest u) .fencedUnit (some u) []
  rw [State.fenceFault, if_neg (by simp [hopen])]
  simp only [leaveService_bank hbank, joinersOf_bank hbank, List.foldl_nil, hend, (unitRange_bank hbank).2,
    Bool.false_eq_true, if_false]
  exact ((SourcesOnly.refl _).count _).trans (SourcesOnly.floorCheck ..)

/-- The rotation test of a bank ends: the bank returns, and the gap begins (R731, R735). -/
theorem rotationDone_bank {s : State} {us e : Nat}
    (htests : s.flt.tests = [UnitTest.mk u .rotation us (some e) 0 0]) (fail : Bool) : SourcesOnly
      ((s.advanceTo e).withFlt { s.flt with
        tests := [], fences := s.flt.fences.filter (fun f => f.unit_ != u), rotTc := (s.flt.rotTc + 1) % 8
        gapTc := some ((s.advanceTo e).time.ticks + msTicks (s.regBits (fltBase + 0x14) 16 16)) })
      (s.rotationDone false fail) := by
  have hfind : s.flt.tests.find? (fun t => t.why == TestWhy.rotation && unitRange (if false then 1 else 2) t.unit_) =
      some (UnitTest.mk u .rotation us (some e) 0 0) := by
    rw [htests]
    exact List.find?_cons_of_pos hbank
  rw [State.rotationDone, hfind, ← erase_only htests]
  exact (returnUnit_bank hbank _).trans (SourcesOnly.testResult ..)

/-- A self-test of a bank that no command waits for ends well: the bank returns (R736). -/
theorem unitTestEnds_bank {s : State} {us e : Nat} (htests : s.flt.tests = [UnitTest.mk u .selftest us (some e) 0 0])
    (hwait : s.clerk.waiting = []) (a b : Nat) : SourcesOnly
      ((s.advanceTo e).withFlt { s.flt with tests := [], fences := s.flt.fences.filter (fun f => f.unit_ != u) })
      (s.unitTestEnds u false a b) := by
  have honly := (returnUnit_bank hbank ((s.advanceTo e).withFlt { s.flt with tests := [] })).trans
    (SourcesOnly.testResult _ u false)
  have hends : s.unitTestEnds u false a b = State.finishKind (State.testResult (State.returnUnit
      ((s.advanceTo e).withFlt { s.flt with tests := [] }) u) u false) (fun k => k == .unitTest u) .ok none
      (State.testReply false u us 0) := by
    rw [← erase_only htests]
    exact unitTestEnds_only htests rfl rfl (by rw [(unitRange_bank hbank).1]; rfl) false a b
  rw [hends, finishKind_idle ((congrArg (·.clerk.waiting) honly).trans hwait)]
  exact honly

end Bank

theorem fenced_any (f : Foreman) (u : Nat) (gate : Bool) :
    (f.fenced u gate).fences.any (fun x => x.unit_ == u && x.why == FenceWhy.fault) = true := by
  rw [show (f.fenced u gate).fences = (f.testEnded u).fences ++ [Fence.mk u .fault gate] from rfl, List.any_append]
  simp

theorem fenced_any_bank {u : Nat} (hbank : unitRange 2 u = true) (s : State) (f : Foreman) (gate : Bool) :
    (f.fenced (s.unitOf u) gate).fences.any (fun x => x.unit_ == s.unitOf (s.unitOf u) && x.why == FenceWhy.fault) = true := by
  rw [(unitOf_bank hbank s).2]
  exact fenced_any ..

/-! ### Taking a message, R709 to R713 and R723 -/

/-- The state of a message's source once the foreman has taken it. -/
noncomputable def State.takenSource (s : State) (n : Nat) (m : FaultMsg) : FaultSource := { s.source n with
  slot := none, uncleared := (s.source n).uncleared || m.cls != 0
  worst := if m.cls = 0 then (s.source n).worst else max (s.source n).worst m.cls
  fatal := (s.source n).fatal || m.cls == 2, resign := (s.source n).resign || s.putOff m }

/-- The foreman once it has taken a message. -/
noncomputable def State.takenFlt (s : State) (n : Nat) (m : FaultMsg) : Foreman := { s.flt with
  sources := Tab.set {} s.flt.sources n (s.takenSource n m), hseq := s.flt.hseq + 1, lastTaken := n
  history := ((m, s.flt.hseq.toNat, s.reaction m) :: s.flt.history).take 16
  first := if s.flt.first.isNone && m.cls != 0 then some (m, s.flt.hseq.toNat, s.reaction m) else s.flt.first }

/-- Class and kind of a message that is taken are counted (R713). -/
noncomputable def State.takenCtr (s : State) (m : FaultMsg) : Tab DWord := ((s.count (classCounter m.cls)).count (kindCounter m.kind)).ctr

/-- The message is taken, and counted in the counters c; its reaction is still to come. -/
noncomputable def State.taken (s : State) (n : Nat) (m : FaultMsg) (c : Tab DWord) : State := { s with flt := s.takenFlt n m, ctr := c }

/-- With no command waiting, a message that is taken has its reaction, and a record of it may go to the daybook. -/
theorem take_idle {s u : State} {n : Nat} {m : FaultMsg} {lost : List Nat} {c : Tab DWord} (hc : c = s.takenCtr m)
    (hcarry : (s.taken n m c).carryOut m (s.reaction m) lost = u) (hwait : u.clerk.waiting = []) :
    ∃ l, s.take n m lost = { u with notices := l } := by
  have hstep : s.take n m lost = if bit (u.reg (fltBase + 8)) (19 + m.cls) then
      u.notify { book := bits (u.reg (fltBase + 8)) 0 8, kind := 6, source := 4099
                 body := faultBytes m s.flt.hseq.toNat (s.reaction m), timed := false
                 vector := some (bits (u.reg (fltBase + 8)) 8 11) }
      else u := by
    rw [← finishKind_idle hwait (fun k => k == .inject n) .ok (some s.flt.hseq.toNat) [], ← hcarry, hc]
    rfl
  rw [hstep]
  split
  · exact ⟨_, rfl⟩
  · exact ⟨_, rfl⟩

theorem foremanTake_takes {s : State} {n : Nat} {m : FaultMsg} (hnext : s.nextMessage = some (n, m)) (lost : List Nat) :
    exec (.foremanTake lost) s = .next (s.take n m lost) := by
  refine congrArg ok ?_
  rw [hnext]

/-- The kind's counter and the class's are apart. -/
theorem get_takenCtr (s : State) {m : FaultMsg} (hcls : m.cls < 3) :
    Tab.get 0 (s.takenCtr m) (kindCounter m.kind) = s.counter (kindCounter m.kind) + 1 := by
  have hne : kindCounter m.kind ≠ classCounter m.cls := Nat.ne_of_gt (Nat.lt_of_lt_of_le
    (Nat.add_lt_add_left ((Nat.mul_lt_mul_left (by decide)).2 hcls) _) (Nat.le_trans (by decide) (Nat.le_add_right _ _)))
  exact ((s.count (classCounter m.cls)).counter_count _).trans (congrArg (· + 1) (counter_count_other s hne))

/-- A message that is taken while no command waits, and whose reaction leaves the foreman f. -/
theorem next_taken {s : State} {n : Nat} {m : FaultMsg} {lost : List Nat} {f : Foreman} {Q : State → Prop}
    (hnext : s.nextMessage = some (n, m)) (hwait : s.clerk.waiting = [])
    (hcarry : ∀ c, (s.taken n m c).carryOut m (s.reaction m) lost = { s with flt := f, ctr := c })
    (hQ : ∀ c l, c = s.takenCtr m → Q { s with flt := f, ctr := c, notices := l }) : ∃ t,
    exec (.foremanTake lost) s = .next t ∧ t = { s with flt := t.flt, ctr := t.ctr, notices := t.notices } ∧ Q t := by
  obtain ⟨c, hc⟩ : ∃ c, c = s.takenCtr m := ⟨_, rfl⟩
  obtain ⟨l, htake⟩ := take_idle hc (hcarry c) hwait
  exact ⟨_, (foremanTake_takes hnext lost).trans (congrArg ok htake), rfl, hQ c l hc⟩

/-- A message that is taken while no command waits, and whose reaction raises messages of its own. -/
theorem next_carried {s : State} {n : Nat} {m : FaultMsg} {lost : List Nat} {f : Foreman} {Q : State → Prop}
    (hnext : s.nextMessage = some (n, m)) (hwait : s.clerk.waiting = [])
    (hcarry : ∀ c, SourcesOnly { s with flt := f, ctr := c } ((s.taken n m c).carryOut m (s.reaction m) lost))
    (hQ : ∀ t : State, t.flt = { f with sources := t.flt.sources } → Q t) : ∃ t, exec (.foremanTake lost) s = .next t ∧
    t = { s with flt := t.flt, ctr := t.ctr, notices := t.notices, free := t.free } ∧ Q t := by
  obtain ⟨c, hc⟩ : ∃ c, c = s.takenCtr m := ⟨_, rfl⟩
  have honly := hcarry c
  obtain ⟨l, htake⟩ := take_idle (lost := lost) hc rfl ((congrArg (·.clerk.waiting) honly).trans hwait)
  generalize (s.taken n m c).carryOut m (s.reaction m) lost = u at honly htake
  exact ⟨_, (foremanTake_takes hnext lost).trans (congrArg ok htake),
    congrArg (fun x : State => { x with flt := u.flt, ctr := u.ctr, notices := l, free := u.free }) honly,
    hQ _ honly.flt_eq⟩

theorem source_takenFlt (s : State) (n : Nat) (m : FaultMsg) :
    Tab.get {} (s.takenFlt n m).sources n = s.takenSource n m := Tab.get_set_same ..

theorem fatal_takenSource {s : State} {n : Nat} {m : FaultMsg} (hcls : m.cls = 2) : (s.takenSource n m).fatal = true :=
  (congrArg (fun k => (s.source n).fatal || k == 2) hcls).trans (Bool.or_true _)

/-- Without ports no frame is suspended. -/
theorem abandonSuspended_of_no_ports {s : State} (h : s.ports = []) : s.abandonSuspended = s := by
  refine foldl_eq_self fun p _ => if_pos ?_
  have hport : s.port p = {} := by
    rw [State.port, h]
    rfl
  rw [hport]
  rfl

/-- A kind whose reaction is LOG gets it whatever the source. -/
theorem reaction_log {s : State} {m : FaultMsg} (hcls : m.cls < 2) (hreact : s.reactionOf m.kind = 0) :
    s.reaction m = 0 := by
  rw [State.reaction, if_neg (Nat.ne_of_lt hcls), hreact]
  rfl

/-- A CONTAINED message of a bank whose kind has the reaction FENCE gets it (R717, R721). -/
theorem reaction_fence {s : State} {m : FaultMsg} (hcls : m.cls = 1) (hreact : s.reactionOf m.kind = 2)
    (hkind : fenceKind m.source = some 2) : s.reaction m = 2 := by
  rw [State.reaction, if_neg (by rw [hcls]; decide), hreact, hkind]
  rfl

theorem carryOut_none {s : State} {m : FaultMsg} {r : Nat} {lost : List Nat} (hcls : m.cls ≠ 2) (hr : r = 0) :
    s.carryOut m r lost = s := by
  subst hr
  exact if_neg hcls

/-- A post outside a bent without ports stops: it resigns nothing. -/
theorem stopPost_solo {s : State} (hports : s.ports = []) (hrole : s.bent.role = .solo) (hgoes : s.flt.stopped = false)
    (source : Nat) (fatal : Bool) :
    s.stopPost source fatal = s.withFlt { s.flt with stopped := true, stopSource := source } := by
  have hresign : s.beginResign fatal = s := if_pos (by rw [hrole]; rfl)
  rw [State.stopPost, abandonSuspended_of_no_ports hports, hresign]
  exact if_neg (by rw [hgoes]; exact Bool.false_ne_true)

/-- A CONTAINED message of a bank in service: the bank is fenced. -/
theorem carryOut_fence {s : State} {m : FaultMsg} {r : Nat} {lost : List Nat} (hcls : m.cls = 1) (hr : r = 2)
    (hbank : unitRange 2 m.source = true) (hopen : s.faultFenced (s.unitOf m.source) = false)
    (hwait : s.clerk.waiting = []) : SourcesOnly
      (s.withFlt (s.flt.fenced (s.unitOf m.source) (s.regBits (fltBase + 0x5000 + 4 * m.kind) 3 1 == 1)))
      (s.carryOut m r lost) := by
  subst hr
  rw [show s.carryOut m 2 lost = _ from if_neg (by rw [hcls]; decide)]
  exact fenceFault_bank (unitOf_bank hbank s).1 hopen hwait _ lost

/-- The foreman once a FATAL message has stopped the post. -/
noncomputable def Foreman.stoppedBy (f : Foreman) (m : FaultMsg) : Foreman := { f with
  fatal := true, fatalSource := m.source, fatalKind := m.kind, stopped := true, stopSource := m.source }

/-- A FATAL message at a post outside a bent without ports: the post stops. -/
theorem carryOut_fatal {s : State} {m : FaultMsg} {r : Nat} {lost : List Nat} (hcls : m.cls = 2) (hports : s.ports = [])
    (hrole : s.bent.role = .solo) (hgoes : s.flt.stopped = false) :
    s.carryOut m r lost = s.withFlt (s.flt.stoppedBy m) :=
  (if_pos hcls).trans (stopPost_solo (s := s.withFlt { s.flt with
    fatal := true, fatalSource := m.source, fatalKind := m.kind }) hports hrole hgoes m.source true)

/-! ### The end of an eye scan -/

/-- A command that completes with settings clamped has the status OK_CLAMPED. -/
theorem finishWaiting_okClamped {w : Waiting} (h : 0 < w.clamps) (s : State) (d : Option Nat) (reply : List Byte) :
    s.finishWaiting w .ok d reply = s.finishWaiting w .okClamped d reply := by
  have hfinish (u : State) (c : Cmd) (code n : Nat) : u.finishCmd c code .ok n reply w.clamps false w.discard =
      u.finishCmd c code .okClamped n reply w.clamps false w.discard := by
    unfold State.finishCmd
    rw [if_pos (by rw [decide_eq_true h]; rfl), ite_self]
  exact congrArg State.fenceSweep (hfinish ..)

/-- The only command that waits, one of a queue, completes well at its entry. -/
theorem completedAt_finishWaiting_ok {s : State} {v : Waiting} {q : Nat} {i : BitVec 16} (hwait : s.clerk.waiting = [v])
    (ho : v.cmd.origin = .queue q i) (hkept : v.discard = false) (d : Option Nat) (reply : List Byte) : ∃ record,
    CompletedAt q i record { s with clerk := { s.clerk with waiting := [] }, free := (s.detailWord d).2.free }
      (s.finishWaiting v .ok d reply) := by
  by_cases hclamps : 0 < v.clamps
  · rw [finishWaiting_okClamped hclamps]
    exact ⟨_, completedAt_finishWaiting hwait rfl ho hkept (.inl (by decide)) d reply⟩
  · exact ⟨_, completedAt_finishWaiting hwait rfl ho hkept (.inr (Nat.eq_zero_of_not_pos hclamps)) d reply⟩

theorem finishKind_only {s : State} {w : Waiting} (hwait : s.clerk.waiting = [w]) {p : WaitKind → Bool}
    (hp : p w.kind = true) (st : Status) (d : Option Nat) (reply : List Byte) :
    s.finishKind p st d reply = s.finishWaiting w st d reply := by
  simp [State.finishKind, hwait, hp]

/-! ### Raised and forced messages, R714, R706 and R774 -/

theorem mayRaise {s : State} {src : Nat} (h : s.underTest src = false) (kind : Nat) :
    (s.underTest src && kind != 0x1A) = false := by rw [h, Bool.false_and]

theorem slot_setSource (s : State) (n : Nat) (f : FaultSource) : ((s.setSource n f).source n).slot = f.slot :=
  congrArg FaultSource.slot (State.source_setSource ..)

/-- A message raised of a source that is not under test, into an empty slot: what the slot holds. -/
theorem raised_of_empty {s : State} {src kind cls : Nat} (hslot : (s.source src).slot = none)
    (hmay : s.underTest src = false) (hkind : escalates kind = false) (addr : Option Nat) :
    ((s.raise src kind cls addr).source src).slot =
      some (s.dated { source := src, kind := kind, cls := cls, address := (s.faultAddr addr).1 }) := by
  rw [raise_of_empty hslot (mayRaise hmay kind) hkind, State.source_setSource]

/-- The state with another power sequencer and foreman, the foreman's sources apart, other counters and free values. -/
noncomputable def State.toldTo (s : State) (p : Power) (f : Foreman) (g : Tab FaultSource) (c : Tab DWord) (n : Nat) : State :=
  { s with pwr := p, flt := { f with sources := g }, ctr := c, free := n }

/-- An event that changes the power sequencer and the foreman, and raises a message of a source that is not under test, into
its empty slot. -/
theorem next_raised {r : Result} {s : State} {p : Power} {f : Foreman} {src kind cls : Nat} {addr : Option Nat}
    {Q : State → Prop} (h : r = .next (State.raise (s.toldTo p f f.sources s.ctr s.free) src kind cls addr))
    (hslot : (State.source (s.toldTo p f f.sources s.ctr s.free) src).slot = none)
    (hmay : State.underTest (s.toldTo p f f.sources s.ctr s.free) src = false) (hkind : escalates kind = false)
    (hQ : ∀ g c n, (State.source (s.toldTo p f g c n) src).slot.map (fun m => (m.source, m.kind, m.cls)) =
      some (src, kind, cls) → Q (s.toldTo p f g c n)) : ∃ t, r = .next t ∧ Q t := by
  have honly : _ = s.toldTo p f _ _ _ :=
    SourcesOnly.raise (s.toldTo p f f.sources s.ctr s.free) src kind cls addr 0 0
  have hraised := congrArg (Option.map (fun m : FaultMsg => (m.source, m.kind, m.cls)))
    (raised_of_empty (cls := cls) hslot hmay hkind addr)
  rw [honly] at h hraised
  exact ⟨_, h, hQ _ _ _ hraised⟩

theorem gapTc_of {P : State → Prop} {s : State} {g : Option Nat} (hgap : s.flt.gapTc = g)
    (h : P (s.withFlt { s.flt with gapTc := g })) : P s := by
  subst hgap
  exact h

theorem gapFh_of {P : State → Prop} {s : State} {g : Option Nat} (hgap : s.flt.gapFh = g)
    (h : P (s.withFlt { s.flt with gapFh := g })) : P s := by
  subst hgap
  exact h

/-! ### Rotations, R731 to R734 -/

/-- The foreman once a unit that has left service is fenced for a test of us microseconds, which ends at a tick. -/
noncomputable def Foreman.testFenced (f : Foreman) (u us end_ : Nat) : Foreman := { f with
  fences := f.fences ++ [Fence.mk u .test false]
  tests := f.tests ++ [UnitTest.mk u .rotation us (some end_) 0 0] }

/-- A bank that leaves service for its rotation test: it is fenced, and its test begins. -/
theorem fenceTest_bank {s v : State} {u k : Nat} (hkind : fenceKind u = some k) (hjoiner : unitRange 0 u = false)
    (hleave : s.leaveService u = v) : s.fenceTest u .rotation =
      v.withFlt (v.flt.testFenced u (testTime k) (v.time.ticks + usTicks (testTime k))) := by
  subst hleave
  refine (if_neg (by rw [hjoiner]; exact Bool.false_ne_true)).trans ?_
  rw [State.beginTest, hkind]
  rfl

theorem holdBank {k : Nat} (hk : k < 32) : fenceKind (0x300 + 2 * k) = some 1 ∧ unitRange 0 (0x300 + 2 * k) = false := by
  revert hk
  revert k
  decide

theorem cacheBank {k : Nat} (hk : k < 8) : unitRange 2 (0x340 + 2 * k) = true := by
  revert hk
  revert k
  decide

theorem leaveService_holdBank {k : Nat} (hk : k < 32) (s : State) : s.leaveService (0x300 + 2 * k) = s.relocate := by
  rw [State.leaveService, (holdBank hk).1]
  rfl

theorem rotationStart_off {s : State} {hold : Bool} (hoff : s.regBits (fltBase + 0x14) (if hold then 0 else 1) 1 = 0) :
    s.rotationStart hold = s := if_pos (by rw [hoff]; rfl)

/-! ### The end of an eye scan, R737 -/

/-- An eye scan ends: its command completes. -/
theorem unitTestEnds_eyeScan {s : State} {w : Waiting} {u : Nat} (htests : s.flt.tests = [UnitTest.mk u .eyeScan 0 none 0 0])
    (hwait : s.clerk.waiting = [w]) (hkind : w.kind = .unitTest u) (fail : Bool) (a b : Nat) : ∃ reply,
    s.unitTestEnds u fail a b = (s.withFlt { s.flt with tests := [] }).finishWaiting w .ok none reply := by
  have hfinish (reply : List Byte) := finishKind_only (s := s.withFlt { s.flt with tests := [] }) hwait
    (p := fun k => k == .unitTest u) (by rw [hkind]; exact beq_self_eq_true _) .ok none reply
  rw [← erase_only htests] at hfinish ⊢
  exact ⟨_, (unitTestEnds_only htests rfl rfl (Bool.and_false _) fail a b).trans (hfinish _)⟩

/-- An event that completes well the only command that waits, one of a queue, and changes the foreman. -/
theorem next_finished {r : Result} {s : State} {w : Waiting} {q : Nat} {i : BitVec 16} {f : Foreman} {reply : List Byte}
    (hwait : s.clerk.waiting = [w]) (ho : w.cmd.origin = .queue q i) (hkept : w.discard = false)
    (h : r = .next ((s.withFlt f).finishWaiting w .ok none reply)) : ∃ t, r = .next t ∧ t = { s with
      flt := t.flt, clerk := t.clerk, queues := t.queues, hostMem := t.hostMem, ctr := t.ctr, notices := t.notices,
      free := t.free } ∧
    t.flt = f ∧ t.clerk = { s.clerk with waiting := [] } ∧ (t.queue q).cCompleted = (s.queue q).cCompleted + 1 := by
  obtain ⟨record, hdone⟩ := completedAt_finishWaiting_ok (s := s.withFlt f) hwait ho hkept none reply
  generalize State.finishWaiting _ w .ok none reply = t at h hdone
  exact ⟨t, h, congrArg (fun x : State => { x with flt := t.flt, clerk := t.clerk, free := t.free }) hdone.frame,
    congrArg State.flt hdone.frame, congrArg State.clerk hdone.frame, hdone.completed⟩

/-! ### The statement -/

/-- Settles O41, event by event. -/
theorem foremanEventsComplete : Obligations.ForemanEventsComplete := by
  refine ⟨fun s lost n m hnext hcls hreact hwait => ?log, fun s lost n m hnext hcls hreact hkind hopen hwait => ?fence,
    fun s lost n m hnext hcls hgoes hrole hports hwait => ?fatal,
    fun s source kind cls hsource hkind hcls hforce hesc hslot => ?force, fun s source hforce => ?refused,
    fun s hcold hslot hmay => ?warn, fun s hcold hslot hmay => ?limit, fun s hcold hslot hmay => ?trip, fun s => ?cooler,
    fun s source dv dt hmon hslot hmay => ?monitor, fun s source addr critical hlow hhigh hslot hmay => ?crossing,
    fun s hrot hon hgap hawake hbusy hlevel => ?holdTest, fun s hrot hon hgap hawake hbusy => ?cacheTest,
    fun s fail u us e htests hbank => ?rotationDone, fun s k hgap hoff => ?gapTc, fun s k hgap hoff => ?gapFh,
    fun s u a b us e htests hkind hwait => ?testDone, fun s u a b fail w q i htests hwait hkind ho hkept => ?eyeScan⟩
  case log =>
    have hnone : s.reaction m = 0 := reaction_log hcls hreact
    exact next_taken hnext hwait (fun _ => carryOut_none (Nat.ne_of_lt hcls) hnone) fun _ _ hc => ⟨rfl, rfl,
      congrArg (fun r => ((m, s.flt.hseq.toNat, r) :: s.flt.history).take 16) hnone,
      congrArg FaultSource.slot (source_takenFlt s n m), congrArg FaultSource.uncleared (source_takenFlt s n m),
      (congrArg (Tab.get 0 · _) hc).trans (get_takenCtr s (Nat.lt_trans hcls (by decide))), rfl⟩
  case fence =>
    exact next_carried (f := (s.takenFlt n m).fenced (s.unitOf m.source)
        (s.regBits (fltBase + 0x5000 + 4 * m.kind) 3 1 == 1)) hnext hwait
      (fun c => carryOut_fence (s := s.taken n m c) hcls (reaction_fence hcls hreact hkind) (bank_of_fenceKind hkind) hopen hwait)
      fun t h => ⟨congrArg Foreman.hseq h, (congrArg (fun f : Foreman => f.fences.any _) h).trans
        (fenced_any_bank (bank_of_fenceKind hkind) s ..), (congrArg Foreman.stopped h :)⟩
  case fatal =>
    exact next_taken (f := (s.takenFlt n m).stoppedBy m) hnext hwait (fun c => carryOut_fatal (s := s.taken n m c) hcls hports hrole hgoes)
      fun _ _ _ => ⟨rfl, rfl, rfl, rfl, rfl, rfl, congrArg FaultSource.slot (source_takenFlt s n m),
        (congrArg FaultSource.fatal (source_takenFlt s n m)).trans (fatal_takenSource hcls)⟩
  case force =>
    have hnumber : source % 4096 = source := Nat.mod_eq_of_lt hsource
    subst hkind hcls
    have hforced : exec (.faultForceWrite source) s = _ := congrArg ok ((if_pos (by rw [hnumber]; exact hforce)).trans
      (raiseMsg_of_empty (s := s.count (fltBase + 0x128)) (m := { source := source % 4096, forced := true, .. })
        (by rw [hnumber]; exact hslot) (by exact Bool.and_false _) hesc))
    rw [hnumber] at hforced
    exact ⟨_, hforced, rfl, congrArg (Option.map _) (slot_setSource ..), State.counter_count ..⟩
  case refused => exact ⟨_, congrArg ok (if_neg (by rw [hforce]; exact Bool.false_ne_true)), rfl, State.counter_count ..⟩
  case warn =>
    exact next_raised (p := s.pwr) (f := { s.flt with warmWarn := true }) (congrArg ok (if_neg (ne_true_of_eq_false hcold))) hslot
      hmay rfl fun _ _ _ hslot => ⟨rfl, rfl, hslot⟩
  case limit =>
    exact next_raised (p := s.pwr) (f := { s.flt with warmLimit := true }) (congrArg ok (if_neg (ne_true_of_eq_false hcold))) hslot
      hmay rfl fun _ _ _ hslot => ⟨rfl, rfl, hslot⟩
  case trip =>
    exact next_raised (p := s.pwr) (f := { s.flt with warmTrip := true }) (congrArg ok (if_neg (ne_true_of_eq_false hcold))) hslot
      hmay rfl fun _ _ _ hslot => ⟨rfl, rfl, hslot⟩
  case cooler => exact ⟨_, rfl, rfl, rfl⟩
  case monitor =>
    exact next_raised (p := { s.pwr with spreadV := dv, spreadT := dt }) (f := s.flt) (congrArg ok ((if_neg
      (by rw [hmon]; exact Bool.false_ne_true)).trans (congrArg (State.raise _ source 0x09)
        (by simp only [decide_eq_true_eq])))) hslot hmay rfl fun _ _ _ hslot => ⟨rfl, rfl, hslot⟩
  case crossing =>
    exact ⟨_, congrArg ok ((if_pos ⟨hlow, hhigh⟩).trans (raise_of_empty_at hslot (mayRaise hmay _) rfl addr 0 0)), rfl,
      congrArg (Option.map _) (slot_setSource ..)⟩
  case holdTest =>
    have hstart := fenceTest_bank (holdBank hrot).1 (holdBank hrot).2 (leaveService_holdBank hrot s)
    refine ⟨_, congrArg ok ((if_neg ?_).trans hstart), rfl, rfl, rfl⟩
    change ¬ (!(s.regBits (fltBase + 0x14) 0 1 == 1) || s.flt.gapFh.isSome || !s.awake || s.kindBusy 1 0 ||
      decide (s.reg (fltBase + 0x18) < s.holdLevel)) = true
    rw [hon, hgap, hawake, hbusy, decide_eq_false (Nat.not_lt.2 hlevel)]
    decide
  case cacheTest =>
    have hstart := fenceTest_bank (fenceKind_bank (cacheBank hrot)) (unitRange_bank (cacheBank hrot)).1
      (leaveService_bank (cacheBank hrot) s)
    refine ⟨_, congrArg ok ((if_neg ?_).trans hstart), rfl, rfl, rfl⟩
    change ¬ (!(s.regBits (fltBase + 0x14) 1 1 == 1) || s.flt.gapTc.isSome || !s.awake || s.kindBusy 2 0 || false) = true
    rw [hon, hgap, hawake, hbusy]
    decide
  case rotationDone =>
    have honly := rotationDone_bank hbank htests fail
    generalize hdone : s.rotationDone false fail = t at honly
    exact ⟨t, congrArg ok hdone,
      congrArg (fun x : State => { x with time := t.time, flt := t.flt, ctr := t.ctr, free := t.free }) honly,
      congrArg (·.flt.tests) honly, congrArg (·.flt.fences) honly, congrArg (·.flt.rotTc) honly,
      (congrArg (·.flt.gapTc) honly).trans (congrArg (fun x : Time => some (x.ticks + _)) (congrArg State.time honly).symm),
      (congrArg (·.time.ticks) honly).trans (ticks_advanceTo ..)⟩
  case gapTc =>
    have hends : s.gapEnds 1 = ((s.advanceTo k).withFlt { s.flt with gapTc := none }).rotationStart false :=
      gapTc_of (P := fun s => s.gapEnds 1 = ((s.advanceTo k).withFlt { s.flt with gapTc := none }).rotationStart false) hgap rfl
    exact ⟨_, congrArg ok (hends.trans (rotationStart_off hoff)), rfl, rfl, ticks_advanceTo ..⟩
  case gapFh =>
    have hends : s.gapEnds 0 = ((s.advanceTo k).withFlt { s.flt with gapFh := none }).rotationStart true :=
      gapFh_of (P := fun s => s.gapEnds 0 = ((s.advanceTo k).withFlt { s.flt with gapFh := none }).rotationStart true) hgap rfl
    exact ⟨_, congrArg ok (hends.trans (rotationStart_off hoff)), rfl, rfl, ticks_advanceTo ..⟩
  case testDone =>
    have honly := unitTestEnds_bank (bank_of_fenceKind hkind) htests hwait a b
    generalize hdone : s.unitTestEnds u false a b = t at honly
    exact ⟨t, congrArg ok hdone,
      congrArg (fun x : State => { x with time := t.time, flt := t.flt, ctr := t.ctr, free := t.free }) honly,
      congrArg (·.flt.tests) honly, congrArg (·.flt.fences) honly,
      (congrArg (·.time.ticks) honly).trans (ticks_advanceTo ..)⟩
  case eyeScan =>
    obtain ⟨reply, hends⟩ := unitTestEnds_eyeScan htests hwait hkind fail a b
    exact next_finished hwait ho hkept (congrArg ok hends)

end Sys2Proof.Machine
end

section
/-!
PROOFS. The Assay island's own events and the counter window: samples, closes of periods, checkpoint, seal, boot and power
loss, and what the post reads of the island (R663, R679 to R699, R840).
-/

namespace Sys2Proof.Machine

/-! ### An event and the parts of the state that it changes -/

section Next

variable {r : Result} {s : State} {a : Assay} {Q : State → Prop}

/-- An event that changes the island's data alone. -/
theorem next_assay (h : r = .next (s.setAssay a)) (hQ : Q (s.setAssay a)) :
    ∃ t, r = .next t ∧ t = { s with assay := t.assay } ∧ Q t := ⟨_, h, rfl, hQ⟩

/-- An event that lets legal time reach a value and then acts on the island's data. -/
theorem next_advanceLegal (f : Assay → Assay) (ms : Nat)
    (h : r = .next ((s.advanceLegal ms).setAssay (f (s.advanceLegal ms).assay))) : ∃ t, r = .next t ∧
    t = { s with time := t.time, assay := t.assay } ∧ t.assay = f s.assay ∧ s.time.ticks ≤ t.time.ticks := by
  obtain ⟨k, hk⟩ : ∃ k, s.advanceLegal ms = s.advance k := ⟨_, rfl⟩
  rw [hk] at h
  exact ⟨_, h, rfl, rfl, Nat.le_add_right ..⟩

/-- An event that changes the island's data, counts, and raises a message. -/
theorem next_assay_raise {o src kind cls : Nat} (ho : o < fltBase)
    (h : r = .next (((s.setAssay a).count o).raise src kind cls)) : ∃ t, r = .next t ∧
    t = { s with assay := t.assay, ctr := t.ctr, flt := t.flt, free := t.free } ∧ t.assay = a ∧
    t.counter o = s.counter o + 1 := by
  have honly := SourcesOnly.raise ((s.setAssay a).count o) src kind cls none 0 0
  have hcount := counter_raise_below ho ((s.setAssay a).count o) src kind cls none 0 0
  generalize State.raise _ src kind cls = t at h honly hcount
  exact ⟨t, h, congrArg (fun x : State => { x with assay := t.assay, ctr := t.ctr, flt := t.flt, free := t.free }) honly,
    congrArg State.assay honly, hcount.trans (State.counter_count ..)⟩

/-- An event that completes with TIMEOUT the only command that waits, one of a queue. -/
theorem next_timeout {w : Waiting} {k q : Nat} {i : BitVec 16} (hwait : s.clerk.waiting = [w])
    (ho : w.cmd.origin = .queue q i) (hkept : w.discard = false)
    (h : r = .next ((s.advanceTo k).finishWaiting w .timeout)) : ∃ t, r = .next t ∧ t = { s with
      time := t.time, clerk := t.clerk, queues := t.queues, hostMem := t.hostMem, ctr := t.ctr, notices := t.notices,
      free := t.free } ∧
    t.clerk = { s.clerk with waiting := [] } ∧ t.time.ticks = max s.time.ticks k ∧
    (t.queue q).cCompleted = (s.queue q).cCompleted + 1 ∧
    t.readHost (s.fnOfQueue q) ((s.queue q).addr i) 8 =
      leBytes 4 (doneHdr (lapParity (s.queue q).logN i + 2 * w.cmd.len + 65536 * w.cmd.tag.toNat) 0x84) ++
        leBytes 4 (12 + 256 * min w.clamps 255) := by
  have hdone := completedAt_finishWaiting (s := s.advanceTo k) (st := .timeout) hwait rfl ho hkept (.inl (by decide))
    none []
  have hrecord := hdone.record
  rw [length_doneRecord] at hrecord
  generalize State.finishWaiting _ w .timeout none [] = t at h hdone hrecord
  exact ⟨t, h, congrArg (fun x : State => { x with time := t.time, clerk := t.clerk, free := t.free }) hdone.frame,
    congrArg State.clerk hdone.frame, (congrArg (·.time.ticks) hdone.frame).trans (ticks_advanceTo ..), hdone.completed,
    (take_readBytes t.hostMem (by decide) _).symm.trans ((congrArg (List.take 8) hrecord).trans (take_doneRecord ..))⟩

end Next

/-! ### The log, R691 and R692 -/

/-- The island's data once an entry stands in its log. -/
noncomputable def Assay.logged (a : Assay) (e : AsyLog) (n : BitVec 32) : Assay :=
  { a with log := a.log ++ [e], logSeq := a.logSeq + 1, audit := n }

/-- While the log has room, an event enters it. -/
theorem logEntry_of_room {a : Assay} (hroom : a.logFull = false) (now kind : Nat) (old new : BitVec 64)
    (source param target : Nat) : ∃ e, a.logEntry now kind old new source param target =
      a.logged e (if Assay.audited kind then a.audit + 1 else a.audit) :=
  ⟨_, if_pos (by rw [hroom]; rfl)⟩

theorem length_logged (a : Assay) (e : AsyLog) (n : BitVec 32) : (a.logged e n).log.length = a.log.length + 1 :=
  List.length_append

/-! ### Steps of legal time, R679, R682 and R685 -/

/-- What a step of legal time crosses changes points, snapshots and the instants up to which they are taken. -/
def LegalOnly (a b : Assay) : Prop :=
  b = { a with points := b.points, snaps := b.snaps, billed := b.billed, closedMin := b.closedMin, stepAt := b.stepAt }

namespace LegalOnly

variable {a b c : Assay}

theorem refl (a : Assay) : LegalOnly a a := rfl

theorem trans (h : LegalOnly a b) (h' : LegalOnly b c) : LegalOnly a c :=
  Eq.trans h' (congrArg (fun x : Assay => { x with
    points := c.points, snaps := c.snaps, billed := c.billed, closedMin := c.closedMin, stepAt := c.stepAt }) h)

theorem foldl {α : Type} {f : Assay → α → Assay} (hf : ∀ a x, LegalOnly a (f a x)) (l : List α) (a : Assay) :
    LegalOnly a (l.foldl f a) :=
  List.foldlRecOn l f (refl a) fun _ h x _ => h.trans (hf _ x)

theorem withBilled (h : LegalOnly a b) (x : Tab Nat) : LegalOnly a { b with billed := x } := h.trans rfl

theorem withStep (h : LegalOnly a b) (m n : Nat) : LegalOnly a { b with closedMin := m, stepAt := n } := h.trans rfl

theorem withSnap (h : LegalOnly a b) (x : Tab (List AsySnap)) : LegalOnly a { b with snaps := x } := h.trans rfl

theorem snapshot (a : Assay) (n : Nat) (u : Int) : LegalOnly a (a.snapshot n u) := by
  refine withBilled (foldl (fun b e => ?_) _ a) _
  exact iteInduction (motive := LegalOnly b) (fun _ => refl b) fun _ =>
    withSnap (b := b.setPoint _ _) (by exact rfl) _

theorem crossed (a : Assay) (old new : Nat) : LegalOnly a (a.crossed old new) := by
  refine iteInduction (motive := LegalOnly a) (fun _ => withStep (refl a) ..) fun _ => ?_
  refine withStep ((foldl (fun b n => ?_) _ a).trans (foldl (fun b e => ?_) _ _)) ..
  · refine iteInduction (motive := LegalOnly b) (fun _ => refl b) fun _ => ?_
    split
    · exact iteInduction (fun _ => snapshot ..) fun _ => refl b
    · exact refl b
  · exact rfl

end LegalOnly

/-! ### A sample of span time, R683 and R684 -/

/-- Both have the same samples and LAST_D. -/
def SameSamples (a b : Assay) : Prop := b.samples = a.samples ∧ b.lastD = a.lastD

/-- The state t differs from s in the island and the free values at most, and its samples stand. -/
def SamplesKept (s t : State) : Prop := t = { s with assay := t.assay, free := t.free } ∧ SameSamples s.assay t.assay

theorem SameSamples.logEntry (a : Assay) (now kind : Nat) (old new : BitVec 64) (source : Nat) :
    SameSamples a (a.logEntry now kind old new source) :=
  iteInduction (motive := SameSamples a) (fun _ => ⟨rfl, rfl⟩) fun _ =>
    iteInduction (motive := SameSamples a) (fun _ => ⟨rfl, rfl⟩) fun _ => ⟨rfl, rfl⟩

theorem SamplesKept.refl (s : State) : SamplesKept s s := ⟨rfl, rfl, rfl⟩

theorem SamplesKept.setAssay {s : State} {a : Assay} (h : SameSamples s.assay a) : SamplesKept s (s.setAssay a) := ⟨rfl, h⟩

theorem SamplesKept.setLegal {s t : State} (h : SamplesKept s t) (ms : Nat) : SamplesKept s (t.setLegal ms) := by
  obtain ⟨hframe, hsamples, hlast⟩ := h
  have honly := LegalOnly.crossed
    { t.assay with ltBase := ms * 1000000, ltTick := t.time.ticks, ltValid := true, ltImplausible := false } t.legal ms
  exact ⟨congrArg (fun x : State => x.setAssay (t.setLegal ms).assay) hframe,
    (congrArg Assay.samples honly).trans hsamples, (congrArg Assay.lastD honly).trans hlast⟩

theorem sampleActs_keeps (s : State) (sample d : Int) : SamplesKept s (s.sampleActs sample d) := by
  refine iteInduction (motive := SamplesKept s) (fun _ => ?invalid) fun _ =>
    iteInduction (motive := SamplesKept s) (fun _ => ?trim) fun _ =>
    iteInduction (motive := SamplesKept s) (fun _ => ?step) fun _ =>
    iteInduction (motive := SamplesKept s) (fun _ => ?noted) fun _ => ?logged
  case invalid => exact iteInduction (fun _ => (SamplesKept.setAssay (.logEntry ..)).setLegal _) fun _ => .refl s
  case trim => exact ⟨rfl, rfl, rfl⟩
  case step => exact iteInduction (fun _ => (SamplesKept.setAssay (.logEntry ..)).setLegal _) fun _ => .refl s
  case noted => exact .setAssay ⟨rfl, rfl⟩
  case logged => exact .setAssay (SameSamples.logEntry { s.assay with ltImplausible := true, implausibleAt := some s.time.ticks } ..)

/-- The island's data once it has noted the difference d of a VALID sample from legal time. -/
noncomputable def Assay.sampled (a : Assay) (d : Int) : Assay :=
  if d.natAbs ≤ 1000 then { a with samples := (d :: a.samples).take 60, lastD := d, ltImplausible := false }
  else { a with samples := (d :: a.samples).take 60, lastD := d }

theorem samples_sampled (a : Assay) (d : Int) : (a.sampled d).samples = ((a.sampled d).lastD :: a.samples).take 60 :=
  iteInduction (motive := fun b : Assay => b.samples = (b.lastD :: a.samples).take 60) (fun _ => rfl) fun _ => rfl

/-- A VALID sample enters the samples, whatever the island does of it. -/
theorem next_sample {r : Result} {s : State} {k : Nat} {sample d : Int} (h : r = .next
    ((((s.advance k).count (asyCount 1)).setAssay (s.assay.sampled d)).sampleActs sample d)) : ∃ t, r = .next t ∧
    t = { s with time := t.time, ctr := t.ctr, assay := t.assay, free := t.free } ∧
    t.counter (asyCount 1) = s.counter (asyCount 1) + 1 ∧
    t.assay.samples = (t.assay.lastD :: s.assay.samples).take 60 ∧ s.time.ticks ≤ t.time.ticks := by
  obtain ⟨hframe, hsamples, hlast⟩ := sampleActs_keeps
    (((s.advance k).count (asyCount 1)).setAssay (s.assay.sampled d)) sample d
  generalize State.sampleActs _ sample d = t at h hframe hsamples hlast
  refine ⟨t, h, congrArg (fun x : State => { x with time := t.time, ctr := t.ctr }) hframe,
    (congrArg (·.counter (asyCount 1)) hframe).trans (State.counter_count ..), ?_,
    (Nat.le_add_right ..).trans_eq (congrArg (·.time.ticks) hframe).symm⟩
  rw [hsamples, hlast]
  exact samples_sampled ..

/-! ### The window -/

/-- With no record in the sender of the input port none crosses. -/
theorem crossSender_of_empty {s : State} (h : s.assay.sender = []) : s.crossSender = s := congrArg (List.foldl _ s) h

/-- The state t differs from s in the counters alone, and n blocks more stand in READS. -/
def ReadsCounted (n : Nat) (s t : State) : Prop :=
  t = { s with ctr := t.ctr } ∧ t.counter (asyCount 3) = s.counter (asyCount 3) + BitVec.ofNat 64 n

theorem ReadsCounted.succ {n : Nat} {s t u : State} (h : ReadsCounted 1 s t) (h' : ReadsCounted n t u) :
    ReadsCounted (n + 1) s u := by
  obtain ⟨hframe, hcount⟩ := h
  obtain ⟨hframe', hcount'⟩ := h'
  refine ⟨hframe'.trans (congrArg (fun x : State => { x with ctr := u.ctr }) hframe), ?_⟩
  rw [hcount', hcount, BitVec.add_assoc, Nat.add_comm n, BitVec.ofNat_add]

/-- A block that is read counts in READS (R663). -/
theorem readBlock_counts (s : State) (b : Bool) :
    ReadsCounted 1 s (if b then s.count (asyCount 3) else (s.count (asyCount 3)).count (asyCount 4)) :=
  iteInduction (motive := ReadsCounted 1 s) (fun _ => ⟨rfl, State.counter_count ..⟩) fun _ =>
    ⟨rfl, (counter_count_other (s.count (asyCount 3)) (by decide)).trans (State.counter_count ..)⟩

/-- A read of the window counts each of its blocks. -/
theorem readPort_counts (n : Nat) (s : State) (addr : Nat) : ReadsCounted n s (s.readPort addr n).2 := by
  induction n generalizing s addr with
  | zero => exact ⟨rfl, (BitVec.add_zero _).symm⟩
  | succ n ih => exact (readBlock_counts s (Assay.published addr)).succ (ih ..)

/-- Multiples of 2 ^ 16 do not show in 16 bits. -/
theorem ofNat_add_pow_mul (x k n : Nat) : BitVec.ofNat 16 (x + 2 ^ (16 + k) * n) = BitVec.ofNat 16 x :=
  BitVec.eq_of_toNat_eq (by simp [pow_add, mul_assoc])

theorem ofNat_ofLe_leBytes {w n : Nat} (hw : 256 ^ n = 2 ^ w) (v : Nat) :
    BitVec.ofNat w (ofLe (leBytes n v)) = BitVec.ofNat w v := by
  rw [ofLe_leBytes, hw]
  exact BitVec.eq_of_toNat_eq (by simp)

/-- Reading the first two words of a block of 64 bytes. -/
theorem slice_words (v w : Nat) (rest : List Byte) :
    slice (slice (leBytes 4 v ++ leBytes 4 w ++ rest) 0 64 ++ []) 0 4 = leBytes 4 v ∧
    slice (slice (leBytes 4 v ++ leBytes 4 w ++ rest) 0 64 ++ []) 4 2 = leBytes 2 w := ⟨rfl, rfl⟩

/-- The status page begins with the hallmark and the version of the firmware (R688, R693). -/
theorem statusPage_words (a : Assay) : ∃ w,
    leBytes 4 (Assay.hallmarkOf a.image).toNat ++ leBytes 4 w <+: a.statusPage ∧
    BitVec.ofNat 16 w = Assay.versionOf a.image := by
  constructor
  constructor
  · unfold Assay.statusPage
    iterate 12 refine List.prefix_append_of_prefix ?_
    exact List.prefix_rfl
  · exact (ofNat_add_pow_mul _ 4 _).trans ((ofNat_add_pow_mul _ 3 _).trans ((ofNat_add_pow_mul _ 2 _).trans
      ((ofNat_add_pow_mul _ 1 _).trans ((ofNat_add_pow_mul _ 0 _).trans (BitVec.ofNat_toNat ..)))))

theorem hallmark_pubBlock {a : Assay} (hrun : a.running = true) :
    BitVec.ofNat 32 (leAt (a.pubBlock 0xB40000 ++ []) 0 4) = Assay.hallmarkOf a.image ∧
    BitVec.ofNat 16 (leAt (a.pubBlock 0xB40000 ++ []) 4 2) = Assay.versionOf a.image := by
  obtain ⟨w, ⟨rest, hpage⟩, hversion⟩ := statusPage_words a
  have hblock : a.pubBlock 0xB40000 = slice a.statusPage 0 64 := (if_neg (by rw [hrun]; decide)).trans (if_pos (by decide))
  obtain ⟨hfirst, hsecond⟩ := slice_words (Assay.hallmarkOf a.image).toNat w rest
  rw [hblock, ← hpage]
  exact ⟨(congrArg (fun l => BitVec.ofNat 32 (ofLe l)) hfirst).trans
      ((ofNat_ofLe_leBytes (by decide) _).trans (BitVec.ofNat_toNat ..)),
    (congrArg (fun l => BitVec.ofNat 16 (ofLe l)) hsecond).trans ((ofNat_ofLe_leBytes (by decide) _).trans hversion)⟩

/-! ### Boot, R690 to R694 -/

/-- The island's data as it runs again: its points are those of the checkpoint, and its legal time is not valid (R690). -/
noncomputable def Assay.booted (a : Assay) (awake : Bool) (boot ticks : Nat) : Assay := { a with
  running := true, alive := awake || a.alive, ltValid := false, ltImplausible := false
  ltBase := boot * 1000000, ltTick := ticks, ltTrim := 0, stepAt := boot, pageMs := boot
  points := Tab.mapAll {} (fun _ (p : AsyPoint) => { p with diag := {
    restored := true, lastRx := BitVec.ofNat 32 p.lastRx, msgCtr := BitVec.ofNat 32 (p.msgCtr.getD 0) } }) a.ckptPoints }

/-- Legal time at boot, in milliseconds: a free value. -/
noncomputable def State.bootMs (s : State) : Nat := s.fresh.1.toNat % (2 ^ 32 * 1000)

/-- Without a pending image the island logs POWER_UP with what it boots to. -/
theorem islandBoot_logs {s : State} (hgo : (!s.glb.metrology || s.assay.running || s.assay.pfail) = false)
    (hpending : s.assay.pendingImage = none) (hsender : s.assay.sender = []) (hroom : s.assay.logFull = false)
    (selfTest : Bool) : ∃ e n, exec (.islandBoot selfTest) s =
      .next (s.fresh.2.setAssay ((s.assay.booted s.awake s.bootMs s.time.ticks).logged e n)) := by
  obtain ⟨e, hlog⟩ := logEntry_of_room (a := s.assay.booted s.awake s.bootMs s.time.ticks) hroom s.bootMs 0xA
    (BitVec.ofNat 64 s.assay.ckptMs) (BitVec.ofNat 64 s.bootMs) 0 0 0
  generalize (if Assay.audited 0xA = true then _ else _) = n at hlog
  refine ⟨e, n, congrArg ok ((if_neg (by rw [hgo]; decide)).trans (Eq.trans ?_ (crossSender_of_empty hsender)))⟩
  rw [← hlog]
  dsimp only
  rw [show s.fresh.2.assay.pendingImage = none from hpending, Assay.booted, hpending]
  rfl

/-! ### The statement -/

/-- Settles O40, event by event. -/
theorem islandEventsComplete : Obligations.IslandEventsComplete := by
  refine ⟨fun s w n k q i hwait hkind ho hkept => next_timeout hwait ho hkept (congrArg ok ?timeout),
    fun s hpart hon hflag hno => ?sample, fun s hpart hon hvalid hrun => ?valid, fun s m hrun hvalid hnext => ?period,
    fun s profile u hwrites hvalid hprofile hnext => ?billing,
    fun s hwrites => next_assay (congrArg ok (if_pos hwrites)) ⟨rfl, rfl, Tab.get_set_same .., rfl⟩,
    fun s open_ hwrites hmoves hroom => ?sealed, fun s hrun => next_assay (congrArg ok (if_pos hrun)) rfl,
    fun s selfTest hpart hoff hpower hpending hsender hroom => ?boot,
    fun s => next_assay rfl ⟨rfl, rfl, rfl, rfl, rfl, rfl, rfl⟩, fun s => next_assay rfl ⟨rfl, rfl, rfl, rfl, rfl, rfl, rfl⟩,
    fun s => next_assay rfl rfl, fun s => next_assay rfl rfl,
    fun s halive hoff => next_assay_raise (by decide) (congrArg ok (if_pos (by rw [halive, hoff]; rfl))),
    fun s hon halive hrun => ?hallmark, fun s addr n hon => ?access⟩
  case timeout =>
    rw [hwait, List.foldl_cons, hkind]
    rfl
  case sample =>
    have hquiet : (!s.assay.running || s.time.flag != TimeFlag.valid) = true := by
      rcases hno with hno | hno
      · rw [hno]
        rfl
      · rw [hno]
        exact Bool.or_true _
    exact ⟨_, congrArg ok ((if_neg (by rw [hpart, hon]; decide)).trans ((if_neg (mt beq_iff_eq.1 hflag)).trans
      (if_pos hquiet))), rfl, State.counter_count .., Nat.le_add_right ..⟩
  case valid =>
    have hflag : ¬(s.time.flag == TimeFlag.invalid) = true := by rw [hvalid]; decide
    have hacts : ¬(!s.assay.running || s.time.flag != TimeFlag.valid) = true := by rw [hrun, hvalid]; decide
    exact next_sample (congrArg ok ((if_neg (by rw [hpart, hon]; decide)).trans ((if_neg hflag).trans (if_neg hacts))))
  case period =>
    have hgo : ¬(!s.assay.running || !s.assay.ltValid) = true := by rw [hrun, hvalid]; decide
    refine next_advanceLegal (fun a => { a with closedMin := m }.closePeriods m)
      ((m : Int) * 60000 - (s.assay.localOf s.legal - s.legal)).toNat
      (congrArg ok ((if_neg hgo).trans ?_))
    rw [hnext]
  case billing =>
    have hgo : ¬(!s.islandWrites || !s.assay.ltValid || 256 ≤ profile) = true := by
      rw [hwrites, hvalid, decide_eq_false (Nat.not_le.2 hprofile)]
      decide
    refine next_advanceLegal (·.snapshot profile u) u.toNat (congrArg ok ((if_neg hgo).trans ?_))
    rw [hnext]
  case sealed =>
    obtain ⟨e, hlog⟩ := logEntry_of_room (a := Assay.countAt { s.assay with sealOpen := open_ } 9 1) hroom s.legal
      (if open_ then 2 else 3) 0 0 0 0 0
    exact next_assay (congrArg ok ((if_neg (by rw [hwrites, beq_false_of_ne hmoves]; decide)).trans
      (congrArg s.setAssay hlog))) ⟨rfl, Tab.get_set_same .., length_logged .., rfl⟩
  case boot =>
    obtain ⟨e, n, hstep⟩ := islandBoot_logs (by rw [hpart, hoff, hpower]; rfl) hpending hsender hroom selfTest
    exact ⟨_, hstep, rfl, rfl, rfl, length_logged .., rfl, rfl⟩
  case hallmark =>
    obtain ⟨hmark, hversion⟩ := hallmark_pubBlock hrun
    refine ⟨_, congrArg ok (if_neg (by rw [hon, halive, hrun]; decide)), rfl, ?_, State.counter_count ..⟩
    exact congrArg₂ (fun (h : BitVec 32) (v : BitVec 16) =>
      { s.glb with hallmark := h, hallmarkVer := v, hallmarkValid := true }) hmark hversion
  case access =>
    obtain ⟨hframe, hcount⟩ := readPort_counts n s (addr % 2 ^ 26 / 64 * 64)
    exact ⟨_, congrArg ok (if_neg (by rw [hon]; decide)), congrArg (fun x : State => { x with
      readData := (s.readPort (addr % 2 ^ 26 / 64 * 64) n).1, readBad := false }) hframe, rfl, rfl, hcount⟩

end Sys2Proof.Machine
end

section
/-!
PROOFS. The records that the Assay island takes from its input FIFO, and the RESULT that it writes for each (R669 to R677,
R685, R691 to R700).
-/

namespace Sys2Proof.Machine

/-! ### A record and its RESULT, R696 -/

/-- The record r of a type is the island's to process, the records of rest stand behind it, and none of the clerk's waits. -/
def AtHead (s : State) (r : AsyRec) (rest : List AsyRec) (typ : Nat) : Prop :=
  s.headRecord typ = some r ∧ s.assay.fifo.tail = rest ∧ s.assay.sender = []

theorem atHead_of_fifo {s : State} {r : AsyRec} {rest : List AsyRec} {typ : Nat} (hwrites : s.islandWrites = true)
    (hfifo : s.assay.fifo = r :: rest) (ht : r.typ = typ) (hsender : s.assay.sender = []) : AtHead s r rest typ := by
  refine ⟨?_, congrArg List.tail hfifo, hsender⟩
  rw [State.headRecord, if_pos hwrites, hfifo]
  exact if_pos (beq_iff_eq.2 ht)

/-- The state once the head record is off the input FIFO. -/
noncomputable def State.recordTaken (s : State) (rest : List AsyRec) : State := s.setAssay { s.assay with fifo := rest }

/-- The island's data once the RESULT of a record is written. -/
noncomputable def Assay.answered (a : Assay) (r : AsyRec) (result detail : Nat) : Assay :=
  { a with
    results := Tab.set [] a.results (a.resultHead % 1024)
      (leBytes 4 r.inseq.toNat ++ leBytes 4 (result + 256 * r.typ) ++ leBytes 4 detail ++ zeros 4)
    resultHead := (a.resultHead + 1) % 2 ^ 32, lastInseq := r.inseq
    counts := if result = 0 then a.counts else (a.countAt 6 1).counts }

/-- An effect of a record leaves the records that stand in the FIFO and in the sender, and RESULT_HEAD. -/
def RecordOnly (a b : Assay) : Prop := b.fifo = a.fifo ∧ b.sender = a.sender ∧ b.resultHead = a.resultHead

theorem RecordOnly.fifo {a b : Assay} (h : RecordOnly a b) : b.fifo = a.fifo := h.1

theorem RecordOnly.sender {a b : Assay} (h : RecordOnly a b) : b.sender = a.sender := h.2.1

theorem RecordOnly.resultHead {a b : Assay} (h : RecordOnly a b) : b.resultHead = a.resultHead := h.2.2

section Record

variable {s : State} {r : AsyRec} {rest : List AsyRec} {typ : Nat} {f : State → AsyRec → State × Nat × Option Nat}
  {a : Assay} {result : Nat}

/-- No command waits for the result of a record. -/
theorem answerRecord_of_none_waiting {t : State} (hwait : t.clerk.waiting = []) (n : BitVec 32) (k d : Nat) :
    t.answerRecord n k d = t := by
  have hquiet : t = { t with clerk := { t.clerk with waiting := [] } } :=
    congrArg (fun l => { t with clerk := { t.clerk with waiting := l } }) hwait
  exact (congrArg (·.answerRecord n k d) hquiet).trans hquiet.symm

/-- Writing a RESULT for which no command waits. -/
theorem giveResult_of_none_waiting {t : State} (hwait : t.clerk.waiting = []) (r : AsyRec) (result : Nat)
    (d : Option Nat) : t.giveResult r result d =
      (t.detailWord d).2.setAssay ((t.detailWord d).2.assay.answered r result (t.detailWord d).1) := by
  refine (answerRecord_of_none_waiting (by cases d <;> exact hwait) ..).trans (congrArg (State.setAssay _) ?_)
  by_cases h : result = 0
  · exact (if_pos h).trans (congrArg (fun c => { (t.detailWord d).2.assay.answered r result (t.detailWord d).1 with
      counts := c }) (if_pos h).symm)
  · exact (if_neg h).trans (congrArg (fun c => { (t.detailWord d).2.assay.answered r result (t.detailWord d).1 with
      counts := c }) (if_neg h).symm)

/-- A record is processed: its effect on the island, and then its RESULT. -/
theorem processRecord_effect (h : AtHead s r rest typ) (hwait : s.clerk.waiting = []) (honly : RecordOnly (s.recordTaken rest).assay a)
    {d : Option Nat} (hf : f (s.recordTaken rest) r = (s.setAssay a, result, d)) : s.processRecord typ f =
      ((s.setAssay a).detailWord d).2.setAssay (a.answered r result ((s.setAssay a).detailWord d).1) := by
  obtain ⟨hhead, htail, hsender⟩ := h
  have hcross : s.processRecord typ f = ((s.setAssay a).giveResult r result d).crossSender := by
    rw [State.processRecord, hhead]
    exact congrArg (fun x => (x.1.giveResult r x.2.1 x.2.2).crossSender) ((congrArg (fun l => f (s.recordTaken l) r) htail).trans hf)
  refine hcross.trans ((congrArg State.crossSender (giveResult_of_none_waiting (t := s.setAssay a) hwait r result d)).trans
    ((crossSender_of_empty (by cases d <;> exact honly.sender.trans hsender)).trans ?_))
  cases d <;> rfl

/-- A record is processed: its RESULT has a DETAIL that the spec states. -/
theorem next_result {e : Result} (h : AtHead s r rest typ) (hwait : s.clerk.waiting = []) (honly : RecordOnly (s.recordTaken rest).assay a)
    {d : Nat} (he : e = ok (s.processRecord typ f)) (hf : f (s.recordTaken rest) r = (s.setAssay a, result, some d)) {Q : State → Prop}
    (hQ : Q (s.setAssay (a.answered r result d))) : ∃ t, e = .next t ∧ t = { s with assay := t.assay } ∧ t.assay.fifo = rest ∧
      t.assay.lastInseq = r.inseq ∧ t.assay.resultHead = (s.assay.resultHead + 1) % 2 ^ 32 ∧ Q t := by
  exact ⟨_, he.trans (congrArg ok (processRecord_effect h hwait honly hf)), rfl, honly.fifo, rfl,
    congrArg (fun n => (n + 1) % 2 ^ 32) honly.resultHead, hQ⟩

/-- A record is processed: the DETAIL of its RESULT is a free value. -/
theorem next_freeResult {e : Result} (h : AtHead s r rest typ) (hwait : s.clerk.waiting = [])
    (honly : RecordOnly (s.recordTaken rest).assay a) (he : e = ok (s.processRecord typ f))
    (hf : f (s.recordTaken rest) r = (s.setAssay a, result, none)) {Q : State → Prop}
    (hQ : ∀ u d, Q (State.setAssay u (a.answered r result d))) : ∃ t, e = .next t ∧ t = { s with assay := t.assay, free := t.free } ∧
      t.assay.fifo = rest ∧ t.assay.lastInseq = r.inseq ∧ t.assay.resultHead = (s.assay.resultHead + 1) % 2 ^ 32 ∧
      Q t := by
  exact ⟨_, he.trans (congrArg ok (processRecord_effect h hwait honly hf)), rfl, honly.fifo, rfl,
    congrArg (fun n => (n + 1) % 2 ^ 32) honly.resultHead, hQ ..⟩

/-- The RESULT stands in the slot of RESULT_HEAD. -/
theorem results_answered {n : Nat} (hhead : a.resultHead = n) (ht : r.typ = typ) (result d : Nat) :
    Tab.get [] (a.answered r result d).results (n % 1024) =
      leBytes 4 r.inseq.toNat ++ leBytes 4 (result + 256 * typ) ++ leBytes 4 d ++ zeros 4 := by
  rw [← hhead, ← ht, Assay.answered, Tab.get_set_same]

/-- The first half of a RESULT holds INSEQ, RESULT and the type. -/
theorem take_results_answered {n : Nat} (hhead : a.resultHead = n) (ht : r.typ = typ) (result d : Nat) :
    (Tab.get [] (a.answered r result d).results (n % 1024)).take 8 =
      leBytes 4 r.inseq.toNat ++ leBytes 4 (result + 256 * typ) :=
  (congrArg (List.take 8) (results_answered hhead ht result d)).trans rfl

/-- An effect logs an entry, makes a change, and answers OK with the SEQ of the entry. -/
def Accepts (x : State × Nat × Option Nat) (s : State) (b : Assay) (n : BitVec 32) (c : State → State) : Prop :=
  ∃ y, x = (c (s.setAssay (b.logged y n)), 0, some b.logSeq)

theorem accepts_of_eq {x : State × Nat × Option Nat} {b : Assay} {n : BitVec 32} {kind source param target : Nat}
    {old new : BitVec 64} {c : State → State} (hroom : b.logFull = false)
    (hn : (if Assay.audited kind then b.audit + 1 else b.audit) = n)
    (h : x = (s.setAssay b).acceptLogged kind old new source param target c) : Accepts x s b n c := by
  obtain ⟨y, hlog⟩ := logEntry_of_room hroom (s.setAssay b).legal kind old new source param target
  exact ⟨y, h.trans (congrArg (fun z => (c (s.setAssay z), 0, some b.logSeq))
    (hlog.trans (congrArg (b.logged y) hn)))⟩

/-- A record is accepted: its change is logged and then done, and DETAIL is the SEQ of the entry (R692). -/
theorem next_accepted {e : Result} {b : Assay} {n : BitVec 32} (h : AtHead s r rest typ) (hwait : s.clerk.waiting = [])
    (he : e = ok (s.processRecord typ f)) (c : State → State) {g : Assay → Assay}
    (hc : ∀ x, c (s.setAssay x) = s.setAssay (g x)) (hf : Accepts (f (s.recordTaken rest) r) s b n c) {Q : State → Prop}
    (hQ : ∀ y, RecordOnly (s.recordTaken rest).assay (g (b.logged y n)) ∧ Q (s.setAssay ((g (b.logged y n)).answered r 0 b.logSeq))) : ∃ t,
      e = .next t ∧ t = { s with assay := t.assay } ∧ t.assay.fifo = rest ∧ t.assay.lastInseq = r.inseq ∧
      t.assay.resultHead = (s.assay.resultHead + 1) % 2 ^ 32 ∧ Q t := by
  obtain ⟨y, hf⟩ := hf
  exact next_result h hwait (hQ y).1 he (hf.trans (congrArg (·, 0, some b.logSeq) (hc _))) (hQ y).2

end Record

/-! ### Telegrams, R673 and R677 -/

/-- A point that has refused a telegram for a reason. -/
noncomputable def refusedPoint (p : AsyPoint) (reason : Nat) : AsyPoint :=
  { p with diag := { p.diag with refused := satAdd 32 p.diag.refused 1, lastReason := reason } }

theorem telegram_of_refused {a : Assay} {n reason : Nat} {t : List Byte}
    (h : Assay.checkTelegram (a.point n) t = .inl reason) (ms : Nat) :
    a.telegram n t ms = (a.setPoint n (refusedPoint (a.point n) reason)).countAt reason 1 := by
  rw [Assay.telegram, h]
  rfl

/-- A change of points, counts and settings. -/
theorem RecordOnly.of_settings (a : Assay) (p : Tab AsyPoint) (c : Tab Nat) (u : Nat) (z : Int) (d l k : Nat) :
    RecordOnly a { a with
      points := p, counts := c, utcTai := u, tzOffset := z, dstRule := d, ltStepMax := l, ckptS := k } := ⟨rfl, rfl, rfl⟩

theorem telegram_keeps (a : Assay) (n : Nat) (t : List Byte) (ms : Nat) :
    RecordOnly a (a.telegram n t ms) ∧ (a.telegram n t ms).lastInseq = a.lastInseq := by
  unfold Assay.telegram
  dsimp only
  split <;> exact ⟨.of_settings a .., rfl⟩

/-- The telegram at the head goes to the energy calculation. -/
theorem next_telegram {s : State} {r : AsyRec} {rest : List AsyRec} (h : AtHead s r rest 1) {Q : State → Prop}
    (hQ : Q (s.setAssay ({ s.assay with fifo := rest, lastInseq := r.inseq }.telegram r.point r.payload s.legal))) : ∃ t,
    exec .telegramRecord s = .next t ∧ t = { s with assay := t.assay } ∧ t.assay.fifo = rest ∧
    t.assay.lastInseq = r.inseq ∧ Q t := by
  obtain ⟨hhead, htail, hsender⟩ := h
  obtain ⟨honly, hinseq⟩ :=
    telegram_keeps { s.assay with fifo := rest, lastInseq := r.inseq } r.point r.payload s.legal
  refine ⟨_, congrArg ok (Eq.trans ?_ (crossSender_of_empty (honly.sender.trans hsender))), rfl, honly.fifo, hinseq, hQ⟩
  rw [hhead]
  exact congrArg (fun l => (s.setAssay ({ s.assay with fifo := l, lastInseq := r.inseq }.telegram r.point r.payload
    s.legal)).crossSender) htail

/-! ### Parameters, R675 -/

theorem point_setPoint (a : Assay) (n : Nat) (p : AsyPoint) : (a.setPoint n p).point n = p := Tab.get_set_same ..

theorem ofSigned_toSigned {w v : Nat} (hv : v < 2 ^ w) : ofSigned w (toSigned w v) = v := by
  have hmod : toSigned w v % ((2 ^ w : Nat) : Int) = ((v : Int) % ((2 ^ w : Nat) : Int)) :=
    iteInduction (motive := fun x : Int => x % ((2 ^ w : Nat) : Int) = (v : Int) % ((2 ^ w : Nat) : Int)) (fun _ => rfl)
      fun _ => Int.sub_emod_right ..
  rw [ofSigned, hmod, ← Int.natCast_emod, Nat.mod_eq_of_lt hv, Int.toNat_natCast]

/-- Codes of the parameters that are not of profile scope. -/
def wideCodes : List Nat := [1, 2, 3, 4, 5, 0x201, 0x202, 0x203]

/-- Whether a code equals a number, decided by what it is known not to be. -/
def decideCode {code : Nat} (hno : ¬(code / 256 = 1 ∨ code ∈ wideCodes)) (n : Nat) : Decidable (code = n) :=
  if hn : n / 256 = 1 ∨ n ∈ wideCodes then .isFalse fun h => hno (h ▸ hn) else inferInstance

/-- A code neither of profile scope nor among the others names no parameter. All 22 cases of the definition are refuted at
once, by the decisions of code = n. -/
theorem param_none (a : Assay) (target : Nat) {code : Nat} (hno : ¬(code / 256 = 1 ∨ code ∈ wideCodes)) :
    a.param code target = none := by
  unfold Assay.param Assay.param.match_1
  rw [show instDecidableEqNat code = decideCode hno from Subsingleton.elim ..]
  rfl

/-- A change that leaves the records and the log. -/
def RecordsKept (a b : Assay) : Prop := RecordOnly a b ∧ b.log = a.log ∧ b.logSeq = a.logSeq ∧ b.audit = a.audit

section Logged

variable {a b : Assay} {y : AsyLog} {n : BitVec 32}

theorem RecordsKept.only (h : RecordsKept (a.logged y n) b) : RecordOnly a b := h.1

theorem RecordsKept.length_log (h : RecordsKept (a.logged y n) b) : b.log.length = a.log.length + 1 :=
  (congrArg List.length h.2.1).trans (length_logged a y n)

theorem RecordsKept.logSeq (h : RecordsKept (a.logged y n) b) : b.logSeq = a.logSeq + 1 := h.2.2.1

theorem RecordsKept.audit (h : RecordsKept (a.logged y n) b) : b.audit = n := h.2.2.2

end Logged

/-- A parameter reads as set, and records and the log stand. -/
def ParamSet (a b : Assay) (code target v : Nat) : Prop := RecordsKept a b ∧ b.param code target = some v

/-- The switch of a point reads as set. -/
theorem flag_of_range {v : Nat} (h : Assay.paramRange 0x203 v = true) : flag (v == 1) = v := by
  obtain rfl | rfl := Nat.le_one_iff_eq_zero_or_eq_one.1 (of_decide_eq_true h)
  · rfl
  · rfl

theorem setParam_sets (a : Assay) (target : Nat) {v : Nat} (hv : v < 2 ^ 64) (ms : Nat) : ∀ code ∈ wideCodes,
    Assay.paramRange code v = true → ParamSet a (a.setParam code target v ms) code target v := by
  have hkept (p : Tab AsyPoint) (u : Nat) (z : Int) (d l k : Nat) : RecordsKept a { a with
      points := p, utcTai := u, tzOffset := z, dstRule := d, ltStepMax := l, ckptS := k } :=
    ⟨.of_settings a .., rfl, rfl, rfl⟩
  refine List.forall_mem_cons.2 ⟨fun _ => ⟨hkept .., rfl⟩, List.forall_mem_cons.2 ⟨fun _ => ⟨hkept .., ?zone⟩,
    List.forall_mem_cons.2 ⟨fun _ => ⟨hkept .., rfl⟩, List.forall_mem_cons.2 ⟨fun _ => ⟨hkept .., rfl⟩,
    List.forall_mem_cons.2 ⟨fun _ => ⟨hkept .., rfl⟩, List.forall_mem_cons.2 ⟨fun _ => ⟨hkept .., ?profile⟩,
    List.forall_mem_cons.2 ⟨fun _ => ⟨hkept .., ?sensor⟩,
    List.forall_mem_cons.2 ⟨fun hrange => ⟨hkept .., ?enabled⟩, fun _ h => absurd h List.not_mem_nil⟩⟩⟩⟩⟩⟩⟩⟩
  case zone => exact congrArg some (ofSigned_toSigned hv)
  case profile =>
    exact congrArg (fun p : AsyPoint => some p.profile) (point_setPoint a target { a.point target with profile := v })
  case sensor =>
    exact (congrArg (fun p : AsyPoint => some p.sensorId.toNat)
      (point_setPoint a target { a.point target with sensorId := BitVec.ofNat 64 v })).trans
        (congrArg some ((BitVec.toNat_ofNat ..).trans (Nat.mod_eq_of_lt hv)))
  case enabled =>
    exact (congrArg (fun p : AsyPoint => some (flag p.enabled)) (point_setPoint a target
      { a.point target with
        enabled := v == 1, first := if v = 1 && !(a.point target).enabled then true else (a.point target).first })).trans
      (congrArg some (flag_of_range hrange))

/-- Setting a parameter in range that is not of profile scope. -/
theorem paramSet_of_range {a : Assay} {code target old v code' target' v' : Nat} (hcode : code' = code)
    (htarget : target' = target) (hvalue : v' = v) (hold : a.param code target = some old) (hv : v' < 2 ^ 64)
    (hscope : code / 256 ≠ 1) (hrange : Assay.paramRange code v = true) (ms : Nat) :
    ParamSet a (a.setParam code' target' v' ms) code target v := by
  subst hcode htarget hvalue
  refine setParam_sets a _ hv ms _ ?_ hrange
  by_contra hno
  rw [param_none a _ (not_or.2 ⟨hscope, hno⟩)] at hold
  cases hold

/-- A step of legal time leaves the records and the log. -/
theorem setLegal_keeps (s : State) (ms : Nat) : RecordsKept s.assay (s.setLegal ms).assay := by
  have hlegal := LegalOnly.crossed
    { s.assay with ltBase := ms * 1000000, ltTick := s.time.ticks, ltValid := true, ltImplausible := false } s.legal ms
  rw [LegalOnly] at hlegal
  rw [State.setLegal, hlegal]
  exact ⟨⟨rfl, rfl, rfl⟩, rfl, rfl, rfl⟩

/-- Legal time stands at the instant to which it steps. -/
theorem setLegal_instant (s : State) (ms : Nat) : ((s.setLegal ms).assay.ltValid, (s.setLegal ms).assay.ltBase,
    (s.setLegal ms).assay.ltTick) = (true, ms * 1000000, s.time.ticks) :=
  (congrArg (fun a : Assay => (a.ltValid, a.ltBase, a.ltTick)) (LegalOnly.crossed
    { s.assay with ltBase := ms * 1000000, ltTick := s.time.ticks, ltValid := true, ltImplausible := false } s.legal ms) :)

theorem leAt_lt (bs : List Byte) (off n : Nat) : leAt bs off n < 256 ^ n := by
  induction n generalizing off with
  | zero => exact Nat.one_pos
  | succ n ih =>
    have hrest := ih (off + 1)
    have hbyte := (bs.getD off 0).isLt
    rw [leAt, slice, ofLe, pow_succ']
    refine (Nat.add_lt_add_right hbyte _).trans_le ?_
    rw [Nat.add_comm]
    exact Nat.mul_le_mul_left 256 hrest

/-- The first chunk of an image stands alone. -/
theorem splice_of_first {had : List Byte} {off : Nat} (hoff : off = 0) (hnone : had = []) (data : List Byte) :
    splice (had ++ zeros (off - had.length)) off data = data := by
  rw [hoff, hnone]
  exact (congrArg (data ++ ·) List.drop_nil).trans (List.append_nil _)

theorem logFull_of_open {a : Assay} (h : a.logClosed = false) : a.logFull = false :=
  decide_eq_false fun hfull => of_decide_eq_false h (le_trans (by decide) hfull)

theorem logFull_of_empty {a : Assay} (h : a.log = []) : a.logFull = false :=
  (congrArg (fun l : List AsyLog => decide (16384 ≤ l.length)) h).trans rfl

/-- The island's data once a load key is set (R695). -/
noncomputable def Assay.withKey (a : Assay) (key : List Byte) : Assay := { a with loadKey := key }

/-- The island's data once the readout slot of RESULT_HEAD is written (R700). -/
noncomputable def Assay.readOut (a : Assay) (bytes : List Byte) : Assay :=
  { a with readout := Tab.set [] a.readout (a.resultHead % 1024) bytes }

theorem readout_readOut (a : Assay) (bytes : List Byte) :
    Tab.get [] (a.readOut bytes).readout (a.resultHead % 1024) = bytes := by
  rw [Assay.readOut, Tab.get_set_same]

/-- The island's data once the log is archived and the seal journal heads the new one (R692). -/
noncomputable def Assay.rolled (a : Assay) : Assay :=
  { a with
    archives := (a.log :: a.archives).take 16, log := a.journal, journal := [], logRolls := (a.logRolls + 1) % 2 ^ 32 }

/-- A parameter that the seal does not forbid. -/
theorem sealed_of_open {code code' : Nat} {open_ : Bool} (hcode : code' = code) (h : open_ = true ∨ code = 5) :
    (code' != 5 && !open_) = false := by
  rcases h with h | h
  · rw [h]
    exact Bool.and_false _
  · rw [hcode, h]
    rfl

/-- Where the first chunk of an image ends. -/
theorem chunk_end {off : Nat} (hoff : off = 0) (l : List Byte) : off + (l.drop 8).length = l.length - 8 := by
  rw [hoff, Nat.zero_add, List.length_drop]

/-! ### The statement -/

/-- Settles O39, record by record. -/
theorem islandRecordEventsComplete : Obligations.IslandRecordEventsComplete := by
  refine ⟨fun s r rest hwrites hfifo ht hsender => next_telegram (atHead_of_fifo hwrites hfifo ht hsender) rfl,
    fun s r rest hwrites hfifo ht hsender hoff => next_telegram (atHead_of_fifo hwrites hfifo ht hsender) ?telegram,
    fun s r rest code target v old hwrites hfifo ht hsender hwait hlen hcode htarget hv hscope hold hseal hrange hopen =>
      next_accepted (b := (s.recordTaken rest).assay) (n := s.assay.audit + 1) (atHead_of_fifo hwrites hfifo ht hsender) hwait rfl
        (fun s => s.setAssay (s.assay.setParam (leAt r.payload 0 2) (fieldAt r.payload 4 0 17) (leAt r.payload 8 8) s.legal))
        (fun _ => rfl) ?param ?set,
    fun s r rest old hwrites hfifo ht hsender hwait hlen hcode hold hseal =>
      next_freeResult (a := (s.recordTaken rest).assay) (atHead_of_fifo hwrites hfifo ht hsender) hwait ⟨rfl, rfl, rfl⟩ rfl ?sealed
        fun u d => ⟨rfl, rfl, rfl, Tab.get_set_same .., take_results_answered rfl ht 1 d⟩,
    fun s r rest hwrites hfifo ht hsender hwait hlen hkind hseal hopen =>
      next_accepted (b := (s.recordTaken rest).assay) (n := s.assay.audit + 1) (atHead_of_fifo hwrites hfifo ht hsender) hwait rfl
        (fun s => s.setAssay (s.assay.withKey (slice r.payload 8 16))) (fun _ => rfl) ?key fun y =>
          ⟨⟨rfl, rfl, rfl⟩, rfl, length_logged _ y (s.assay.audit + 1), results_answered rfl ht 0 _⟩,
    fun s r rest total hwrites hfifo ht hsender hwait hlen hlen' hoff htotal hpart hseal =>
      next_freeResult (a := { (s.recordTaken rest).assay with load := some { total := total, data := r.payload.drop 8 } })
        (atHead_of_fifo hwrites hfifo ht hsender) hwait ⟨rfl, rfl, rfl⟩ rfl ?chunk fun u d =>
          ⟨rfl, rfl, take_results_answered rfl ht 0 d⟩,
    fun s r rest x hwrites hfifo ht hsender hwait hlen hsnap =>
      next_result (a := (s.recordTaken rest).assay.readOut (_ ++ Assay.regsBytes x.regs)) (atHead_of_fifo hwrites hfifo ht hsender) hwait
        ⟨rfl, rfl, rfl⟩ rfl ?fetch ⟨readout_readOut .., results_answered rfl ht 0 _⟩,
    fun s r rest hwrites hfifo ht hsender hwait hlen hsnap =>
      next_freeResult (a := (s.recordTaken rest).assay) (atHead_of_fifo hwrites hfifo ht hsender) hwait ⟨rfl, rfl, rfl⟩ rfl ?none
        fun u d => ⟨rfl, take_results_answered rfl ht 8 d⟩,
    fun s r rest hwrites hfifo ht hsender hwait hlen hseal hms hopen =>
      next_accepted (b := (s.recordTaken rest).assay) (n := s.assay.audit + 1) (atHead_of_fifo hwrites hfifo ht hsender) hwait rfl
        (·.setLegal (leAt r.payload 0 4 * 1000 + fieldAt r.payload 4 0 10)) (fun _ => rfl) ?legal ?stepped,
    fun s r rest hwrites hfifo ht hsender hwait hlen hseal hjournal =>
      next_accepted (b := (s.recordTaken rest).assay.rolled) (n := s.assay.audit + 1) (atHead_of_fifo hwrites hfifo ht hsender) hwait rfl id
        (fun _ => rfl) ?roll fun y =>
        ⟨⟨rfl, rfl, rfl⟩, rfl, congrArg (fun l => (l ++ [y]).length) hjournal, rfl,
          results_answered rfl ht 0 _⟩⟩
  case telegram =>
    have hreason : Assay.checkTelegram (s.assay.point r.point) r.payload = .inl 1 := if_pos (by rw [hoff]; rfl)
    have hpoint := point_setPoint s.assay r.point (refusedPoint (s.assay.point r.point) 1)
    rw [telegram_of_refused (a := { s.assay with fifo := rest, lastInseq := r.inseq }) hreason]
    exact ⟨congrArg (·.diag.refused) hpoint, congrArg (·.diag.lastReason) hpoint, congrArg (·.regs) hpoint⟩
  case param =>
    dsimp only
    rw [show (s.recordTaken rest).assay.param _ _ = some old from (congrArg₂ s.assay.param hcode htarget).trans hold]
    exact accepts_of_eq (logFull_of_open hopen) rfl ((if_neg (by rw [hlen]; decide)).trans ((if_neg (ne_true_of_eq_false (sealed_of_open hcode hseal))).trans
      ((if_neg (by rw [hcode, hv, hrange, beq_false_of_ne hscope]; exact Bool.false_ne_true)).trans
        (if_neg (by rw [show (s.recordTaken rest).assay.logClosed = false from hopen]; decide)))))
  case set =>
    intro y
    have hset := paramSet_of_range (a := (s.recordTaken rest).assay.logged y (s.assay.audit + 1)) hcode htarget hv
      hold (leAt_lt r.payload 8 8) hscope hrange
      (s.setAssay ((s.recordTaken rest).assay.logged y (s.assay.audit + 1))).legal
    exact ⟨hset.1.only, hset.2, hset.1.length_log, hset.1.logSeq, hset.1.audit, results_answered hset.1.only.resultHead ht 0 _⟩
  case sealed =>
    dsimp only
    rw [show (s.recordTaken rest).assay.param _ _ = some old from hold]
    exact (if_neg (by rw [hlen]; decide)).trans (if_pos (by
      rw [bne_iff_ne.2 hcode, show (s.recordTaken rest).assay.sealOpen = false from hseal]; rfl))
  case key =>
    exact accepts_of_eq (logFull_of_open hopen) rfl ((if_neg (by rw [hlen]; decide)).trans ((if_neg (by rw [hkind]; decide)).trans
      ((if_pos hkind).trans ((if_neg (by rw [show (s.recordTaken rest).assay.sealOpen = true from hseal]; decide)).trans
        (if_neg (by rw [show (s.recordTaken rest).assay.logClosed = false from hopen]; decide))))))
  case chunk =>
    refine (if_neg (by rw [decide_eq_false (Nat.not_lt.2 hlen), decide_eq_false (Nat.not_lt.2 hlen')]; decide)).trans
      ((if_neg (by rw [show (s.recordTaken rest).assay.sealOpen = true from hseal]; decide)).trans
      ((if_neg (by rw [chunk_end hoff, htotal]; exact Nat.not_lt.2 hpart.le)).trans
      ((if_pos (by rwa [chunk_end hoff, htotal])).trans (congrArg
        (fun l => (s.setAssay { (s.recordTaken rest).assay with load := some l }, 0, none))
        (congrArg₂ AsyLoad.mk htotal (splice_of_first hoff ?_ (r.payload.drop 8)))))))
    cases (s.recordTaken rest).assay.load with
    | none => rfl
    | some l => exact if_pos (by rw [hoff]; rfl)
  case fetch =>
    refine (if_neg (by rw [hlen]; decide)).trans ?_
    rw [show (Tab.get [] (s.recordTaken rest).assay.snaps _)[_]? = some x from hsnap]
    rfl
  case none =>
    refine (if_neg (by rw [hlen]; decide)).trans ?_
    rw [show (Tab.get [] (s.recordTaken rest).assay.snaps _)[_]? = none from hsnap]
    rfl
  case legal =>
    exact accepts_of_eq (logFull_of_open hopen) rfl ((if_neg (by rw [hlen]; decide)).trans
      ((if_neg (by rw [show (s.recordTaken rest).assay.sealOpen = true from hseal]; decide)).trans
        ((if_neg (Nat.not_lt.2 hms)).trans
          (if_neg (by rw [show (s.recordTaken rest).assay.logClosed = false from hopen]; decide)))))
  case stepped =>
    intro y
    have hkept := setLegal_keeps (s.setAssay ((s.recordTaken rest).assay.logged y (s.assay.audit + 1)))
      (leAt r.payload 0 4 * 1000 + fieldAt r.payload 4 0 10)
    have hset := setLegal_instant (s.setAssay ((s.recordTaken rest).assay.logged y (s.assay.audit + 1)))
      (leAt r.payload 0 4 * 1000 + fieldAt r.payload 4 0 10)
    exact ⟨hkept.only, congrArg Prod.fst hset, congrArg (·.2.1) hset, congrArg (·.2.2) hset, hkept.length_log, hkept.audit,
      results_answered hkept.only.resultHead ht 0 _⟩
  case roll =>
    exact accepts_of_eq (logFull_of_empty hjournal) rfl ((if_neg (by rw [hlen]; decide)).trans
      (if_neg (by rw [show (s.recordTaken rest).assay.sealOpen = true from hseal]; decide)))

end Sys2Proof.Machine
end

section
/-!
PROOFS. The tie beam, the heartbeats, the mirror stream and the copies of a bent (R613 to R648).
-/

namespace Sys2Proof.Machine

/-- The state with another bent. -/
noncomputable def State.withBent (s : State) (b : Bent) : State := { s with bent := b }

theorem bent_advanceTo (s : State) (k : Nat) : (s.advanceTo k).bent = s.bent := rfl

theorem role_of {P : State → Prop} {s : State} {r : Role} (hrole : s.bent.role = r)
    (h : P (s.withBent { s.bent with role := r })) : P s := by
  subst hrole
  exact h

/-- The state t differs from s in the bent at most. -/
def BentOnly (s t : State) : Prop := t = { s with bent := t.bent }

theorem BentOnly.trans {s t u : State} (h : BentOnly s t) (h' : BentOnly t u) : BentOnly s u :=
  Eq.trans h' (congrArg (fun x : State => { x with bent := u.bent }) h)

/-! ### Messages -/

/-- The state with another foreman, other counters and free values. -/
noncomputable def State.told (s : State) (f : Foreman) (c : Tab DWord) (n : Nat) : State := { s with flt := f, ctr := c, free := n }

/-- An event that leaves u and raises a message: it counts only in the foreman's block. -/
theorem next_told {r : Result} {u t : State} {Q : State → Prop} (h : r = .next t) (honly : SourcesOnly u t)
    (hcounter : ∀ x < fltBase, t.counter x = u.counter x)
    (hQ : ∀ f c n, (∀ x < fltBase, Tab.get 0 c x = u.counter x) → Q (u.told f c n)) : ∃ t, r = .next t ∧ Q t :=
  ⟨t, h, Eq.subst (motive := Q) (Eq.symm honly.frame) (hQ t.flt t.ctr t.free hcounter)⟩

theorem next_beamRaise {r : Result} {u : State} {src kind cls : Nat} {Q : State → Prop} (h : r = .next (u.raise src kind cls))
    (hQ : ∀ f c n, (∀ x < fltBase, Tab.get 0 c x = u.counter x) → Q (u.told f c n)) : ∃ t, r = .next t ∧ Q t :=
  next_told h (.raise ..) (fun _ hx => counter_raise_below hx ..) hQ

theorem bntCount_lt {k : Nat} (hk : k < 18) : bntCount k < fltBase :=
  Nat.lt_of_lt_of_le (Nat.add_lt_add_left ((Nat.mul_lt_mul_left (by decide)).2 hk) _) (by decide)

/-- What a counter of the bent holds after it counted before a message. -/
theorem bntCount_told {s : State} {c : Tab DWord} {k : Nat} (hk : k < 18)
    (hcounter : ∀ x < fltBase, Tab.get 0 c x = (s.count (bntCount k)).counter x) :
    Tab.get 0 c (bntCount k) = s.counter (bntCount k) + 1 := (hcounter _ (bntCount_lt hk)).trans (s.counter_count _)

/-! ### Packets and lanes, R613 -/

theorem pumpWaiting_nil {s : State} (h : s.bent.waiting = []) (n : Nat) : s.pumpWaiting n = s := by
  cases n with
  | zero => rfl
  | succ n => rw [State.pumpWaiting, h]

/-- The bent with other lanes and other packets that wait. -/
noncomputable def Bent.carrying (b : Bent) (l m : TbLane) (w : List TbPacket) : Bent :=
  { b with lane0 := l, lane1 := m, waiting := w }

/-- What a packet changes at most, whether it goes on a lane, waits or is lost. -/
def PacketSent (s t : State) : Prop := ∃ l m w, t = s.withBent (s.bent.carrying l m w)

theorem sendTb_sent (s : State) (p : TbPacket) : PacketSent s (s.sendTb p) :=
  iteInduction (motive := PacketSent s) (fun _ => ⟨_, _, _, rfl⟩) fun _ => iteInduction (motive := PacketSent s)
    (fun _ => ⟨_, _, _, rfl⟩) fun _ => iteInduction (motive := PacketSent s) (fun _ => ⟨_, _, _, rfl⟩) fun _ => ⟨_, _, _, rfl⟩

theorem BentOnly.sendTb (s : State) (p : TbPacket) : BentOnly s (s.sendTb p) := sendTb_frame s p

/-- A packet goes on lane 0 while it is free. -/
theorem sendTb_free {s : State} (hfree : State.laneFree s.bent.lane0 = true) (p : TbPacket) : s.sendTb p =
    s.withBent { s.bent with lane0 := { s.bent.lane0 with inFlight := s.bent.lane0.inFlight ++ [p] } } :=
  if_pos hfree

/-- A heartbeat on one lane. -/
noncomputable def State.putBeat (s : State) (p : TbPacket) (n : Nat) : State :=
  let l := if n = 0 then s.bent.lane0 else s.bent.lane1
  if !l.up then s
  else if State.laneFree l then s.modLane n (fun l => { l with inFlight := l.inFlight ++ [p] })
  else { s with bent := { s.bent with waiting := s.bent.waiting ++ [p] } }

theorem heartbeatTx_goes {s : State} (hrole : s.bent.role ≠ .solo) (hfree : State.laneFree s.bent.lane0 = true)
    (hdown : s.bent.lane1.up = false) {p : TbPacket}
    (hp : p = State.heartbeatPacket (s.withBent { s.bent with hbCount := s.bent.hbCount + 1 })) :
    s.heartbeatTx = s.withBent { s.bent with
      hbCount := s.bent.hbCount + 1, lane0 := { s.bent.lane0 with inFlight := s.bent.lane0.inFlight ++ [p] } } := by
  subst hp
  have hup : s.bent.lane0.up = true := (Bool.and_eq_true_iff.1 hfree).1
  refine (if_neg (e := State.putBeat (State.putBeat (s.withBent { s.bent with hbCount := s.bent.hbCount + 1 }) _ 0) _ 1)
    (by rw [beq_false_of_ne hrole]; exact Bool.false_ne_true)).trans ?_
  refine (congrArg (State.putBeat · _ 1) ((if_neg (show ¬ (!s.bent.lane0.up) = true by rw [hup]; decide)).trans
    (if_pos hfree))).trans ?_
  exact if_pos (show (!s.bent.lane1.up) = true by rw [hdown]; rfl)

/-! ### Heartbeats and their loss, R614 and R630 -/

theorem formWaitExpire_goes {s : State} {k : Nat} (hrole : s.bent.role = .forming) (hform : s.bent.formAt = some k)
    (hheld : s.bent.partnerHeld = false) (hpartner : s.bent.partnerRole ≠ some .orphan) (hhome : s.bentHome = false)
    (hquiet : s.flt.sources.any (fun e => e.2.resign) = false) : exec .formWaitExpire s = .next ((s.advanceTo k).withBent
      { s.bent with role := .active, controlHeld := true, inSync := false, formAt := none, step := .none }) := by
  have hgo : ¬ (s.bent.partnerHeld || s.bent.partnerRole == some .orphan || s.bentHome) = true := by
    rw [hheld, hhome, beq_false_of_ne hpartner]
    decide
  change execFormWaitExpire s = _
  rw [execFormWaitExpire, hrole, hform]
  exact congrArg ok ((if_neg hgo).trans (if_neg (ne_true_of_eq_false hquiet)))

/-- The state after heartbeats are lost, the loss counted. -/
noncomputable def State.beatLost (s : State) : State := (s.withBent { s.bent with hbLost := true }).count (bntCount 4)

/-- The loss of heartbeats at a post that is no standby is counted and told. -/
theorem heartbeatLoss_goes {s v : State} (hv : v = s.advanceTo (s.bent.lastHeard + s.hbLimit)) (hsolo : s.bent.role ≠ .solo)
    (hstandby : v.bent.role ≠ .standby) (hheard : s.bent.hbLost = false) : s.heartbeatLoss = v.beatLost.fresh.2.raiseMsg
      { source := beamSource, kind := 0x2D, cls := 1, address := v.beatLost.fresh.1.toNat % 2 ^ 48, witness := v.bent.witness } := by
  have hkept (m : FaultMsg) : (v.beatLost.fresh.2.raiseMsg m).bent.role = v.bent.role :=
    congrArg (·.bent.role) (SourcesOnly.raiseMsg v.beatLost.fresh.2 m)
  have hgo : ¬ (s.bent.role == .solo || s.bent.hbLost) = true := by
    rw [hheard, beq_false_of_ne hsolo]
    decide
  have hnone (m : FaultMsg) : ¬ ((v.beatLost.fresh.2.raiseMsg m).bent.role == .standby) = true := by
    rw [hkept, beq_false_of_ne hstandby]
    exact Bool.false_ne_true
  exact (if_neg hgo).trans (hv ▸ if_neg (hnone _))

/-! ### Confirmations, R618 and R622 -/

section Unwaited

variable {s : State} (hnone : s.bent.unacked.all (fun u => u.wait == .none) = true)
include hnone

theorem confirmed_unacked {x : Unacked} (hx : x ∈ s.bent.unacked) (t : State) : t.confirmed x.wait = t := by
  rw [eq_of_beq (List.all_eq_true.1 hnone x hx)]
  rfl

theorem ackRx_goes (n : Nat) : s.ackRx n = s.withBent { s.bent with
    lastHeard := s.time.ticks, hbLost := false, mseqConfirmed := max s.bent.mseqConfirmed (min n s.bent.mseqSent)
    unacked := s.bent.unacked.filter (fun u => n < u.mseq) } :=
  foldl_eq_self fun _ hx => confirmed_unacked hnone (List.mem_of_mem_filter hx) _

theorem unacked_overdue : s.bent.unacked.foldl (fun s u => s.confirmed u.wait) (State.count (s.withBent { s.bent with
      inSync := false, unacked := s.bent.unacked.map (fun u => { u with wait := MirrorWait.none }) }) (bntCount 7)) =
    State.count (s.withBent { s.bent with inSync := false }) (bntCount 7) := by
  have hkept : s.bent.unacked.map (fun u => { u with wait := MirrorWait.none }) = s.bent.unacked :=
    (List.map_congr_left (g := id) fun x hx => congrArg (fun w => { x with wait := w })
      (eq_of_beq (List.all_eq_true.1 hnone x hx)).symm).trans (List.map_id _)
  refine (foldl_eq_self fun _ hx => confirmed_unacked hnone hx _).trans ?_
  rw [hkept]

theorem ackOverdue_goes {u : Unacked} {rest : List Unacked} {k : Nat} (hk : k = u.sentAt + s.ackLimit)
    (hrole : s.bent.role = .active) (hsync : s.bent.inSync = true) (hfirst : s.bent.unacked = u :: rest) :
    s.ackOverdue = State.count ((s.advanceTo k).withBent { (s.advanceTo k).bent with inSync := false }) (bntCount 7) := by
  subst hk
  rw [State.ackOverdue, hfirst]
  exact (if_neg (by rw [hrole, hsync]; decide)).trans (unacked_overdue (s := s.advanceTo (u.sentAt + s.ackLimit))
    (by rw [bent_advanceTo]; exact hnone))

end Unwaited

/-! ### Lanes and copies, R613 and R645 to R647 -/

theorem tbLaneUp_goes {s : State} {lane : Nat} (hlane : lane < 2)
    (hdown : (if lane = 0 then s.bent.lane0.up else s.bent.lane1.up) = false)
    (hunfenced : s.fenced (0x0C0 + 8 * lane) = false) (hwait : s.bent.waiting = []) :
    exec (.tbLaneUp lane) s = .next (s.modLane lane (fun _ => { up := true })) := by
  refine congrArg ok ((if_neg ?_).trans (pumpWaiting_nil ?_ 32))
  · rw [hdown, hunfenced, decide_eq_false (Nat.not_le.2 hlane)]
    decide
  · unfold State.modLane
    split
    · exact hwait
    · exact hwait

theorem pumpCopy_idle {s : State} (h : s.bent.copying = false) (n : Nat) : s.pumpCopy n = s := by
  cases n with
  | zero => rfl
  | succ n => exact if_pos (by rw [h, Bool.not_false, Bool.or_true]; rfl)

theorem pumpCopy_full {s : State} (h : s.mirrorCredit = false) (n : Nat) : s.pumpCopy n = s := by
  cases n with
  | zero => rfl
  | succ n => exact if_pos (by rw [h, Bool.not_false, Bool.or_true])

theorem BentOnly.sendCopies (l : List LedgerItem) (s : State) : BentOnly s (l.foldl State.sendCopy s) := by
  induction l generalizing s with
  | nil => exact Eq.refl s
  | cons it l ih => exact BentOnly.trans (t := s.sendCopy it) (BentOnly.sendTb (s.withBent _) _) (ih _)

theorem BentOnly.pumpCopy (n : Nat) (s : State) : BentOnly s (s.pumpCopy n) := by
  induction n generalizing s with
  | zero => exact Eq.refl s
  | succ n ih =>
    refine iteInduction (motive := BentOnly s) (fun _ => Eq.refl s) fun _ => ?_
    generalize s.bent.copyQueue = l
    cases l with
    | nil => exact BentOnly.sendTb (s.withBent _) _
    | cons k rest =>
      exact BentOnly.trans (sendCopies (s.copyItems k) (s.withBent { s.bent with copyQueue := rest })) (ih _)

theorem resyncStart_frame (s : State) : BentOnly s s.resyncStart :=
  iteInduction (motive := BentOnly s) (fun _ => Eq.refl s) fun _ => BentOnly.pumpCopy _ (s.withBent _)

theorem resyncStart_goes {s : State} (hrole : s.bent.role = .active) (hpartner : s.bent.partnerRole = some .resync)
    (hcopying : s.bent.copying = false) (hup : s.bent.lane0.up = true) (hfull : s.mirrorCredit = false) :
    s.resyncStart = s.withBent { s.bent with copying := true, syncSent := false, copyQueue := s.copyKeys } := by
  refine (if_neg ?_).trans (pumpCopy_full (s := s.withBent { s.bent with
    copying := true, syncSent := false, copyQueue := s.copyKeys }) hfull _)
  rw [hrole, hpartner, hcopying, hup, Bool.true_or]
  decide

/-! ### The MSEQ stream, R618, R627 and R645 -/

/-- The entry that is next in the stream runs. -/
theorem takeEntry_next {s : State} {n : Nat} (hjoined : (s.bent.role == .resync && !s.bent.joined) = false)
    (hn : n = s.bent.mseqSent + 1) (run : State → State) :
    s.takeEntry n run = (run s).withBent { (run s).bent with mseqSent := n } := by
  unfold State.takeEntry
  rw [hjoined, if_neg Bool.false_ne_true, if_neg (by rw [hn]; exact Nat.not_succ_le_self _), if_pos hn]
  rfl

theorem coverKept_nil (s : State) : s.coverKept [] = s :=
  congrArg₂ (fun kept gone : List Kept => gone.foldl (fun (s : State) (k : Kept) => (s.freeFrame k.frame).count (bntCount 12))
    (s.withBent { s.bent with kept := kept })) (List.filter_true s.bent.kept) (List.filter_false s.bent.kept)

theorem ringOf_setRing (s : State) (q : Nat) (r : RingLedger) : (s.setRing q r).ringOf q = r := Tab.get_set_same ..

/-- A ring of the ledger after WQ_DONE of an index. -/
noncomputable def RingLedger.doneTo (r : RingLedger) (i : BitVec 16) : RingLedger :=
  { r with done := i, ci := State.laterIndex r.ci i, window := r.window.filter (fun a => (a.index - i).toNat < 32768) }

theorem journal_of {P : State → Prop} {s : State} {j : List Journal} (hjournal : s.bent.journal = j)
    (h : P (s.withBent { s.bent with journal := j })) : P s := by
  subst hjournal
  exact h

theorem applyEntry_wqDone {s : State} (hjournal : s.bent.journal = []) (q : Nat) (i : BitVec 16) :
    s.applyEntry (.wqDone q i) = s.setRing q ((s.ringOf q).doneTo i) :=
  journal_of (P := fun s => s.applyEntry (.wqDone q i) = s.setRing q ((s.ringOf q).doneTo i)) hjournal (coverKept_nil _)

theorem follows_standby {s : State} (hrole : s.bent.role = .standby) (hwarm : s.bent.cold = false) : s.follows = true := by
  rw [State.follows, hrole, hwarm]
  rfl

/-- The next entry of the stream is applied and acknowledged by a standby. -/
theorem mirrorRx_next {s : State} {n : Nat} {e : MirrorEntry} {r : Bent} (hrole : s.bent.role = .standby)
    (hwarm : s.bent.cold = false) (hn : n = s.bent.mseqSent + 1) (happly : s.heard.applyEntry e = s.withBent r)
    (hkept : r.role = .standby) : s.mirrorRx n [e] = (s.withBent { r with mseqSent := n }).sendTb (.ack n) := by
  have hfollows : s.heard.follows = true := follows_standby hrole hwarm
  have htaken : s.heard.takeEntries n [e] = s.withBent { r with mseqSent := n } := by
    refine (congrArg (State.takeEntries · (n + 1) []) (if_pos hfollows)).trans ?_
    refine (takeEntry_next (s := s.heard) (by rw [show s.heard.bent.role = .standby from hrole]; rfl) hn _).trans ?_
    rw [happly]
    rfl
  refine (if_pos hfollows).trans ((congrArg State.sendAck htaken).trans (if_pos ?_))
  rw [show (s.withBent { r with mseqSent := n }).bent.role = .standby from hkept]
  rfl

/-- The next record of a copy is noted, applied and acknowledged by the post that asked for it. -/
theorem copyRx_next {s u : State} {n : Nat} {it : LedgerItem} (hrole : s.bent.role = .resync) (hjoined : s.bent.joined = true)
    (hn : n = s.bent.mseqSent + 1) (happly : (s.heard.noteCopy it).applyItem it = u) (hkept : u.bent.role = .resync)
    (hin : u.bent.joined = true) : s.copyRx n [it] = (u.withBent { u.bent with mseqSent := n }).sendTb (.ack n) := by
  have hrun : (if s.heard.bent.role == .resync then s.heard.takeEntry n (fun s => (s.noteCopy it).applyItem it)
      else s.heard) = u.withBent { u.bent with mseqSent := n } := by
    refine (if_pos (beq_iff_eq.2 hrole)).trans ((takeEntry_next (s := s.heard) ?_ hn _).trans ?_)
    · rw [show s.heard.bent.joined = true from hjoined]
      exact Bool.and_false _
    · rw [happly]
  refine (if_neg (by rw [show s.heard.bent.role = .resync from hrole]; decide)).trans
    ((congrArg State.sendAck hrun).trans (if_pos ?_))
  rw [show (u.withBent { u.bent with mseqSent := n }).bent.role = .resync from hkept,
    show (u.withBent { u.bent with mseqSent := n }).bent.joined = true from hin]
  rfl

/-- A stream-table record as the copy sets it. -/
noncomputable def State.copiedEntry (s : State) (h : Nat) (b : List Byte) : StreamEntry :=
  { entryOf b with lastSeen := (s.entry h).lastSeen }

/-- The state after a stream record of a copy, numbered n, before it is acknowledged. -/
noncomputable def State.copied (s : State) (n h : Nat) (b : List Byte) : State :=
  let u := (s.heard.noteCopy (.stream h b)).setEntry h (s.copiedEntry h b)
  u.withBent { u.bent with mseqSent := n }

theorem copyRx_stream {s : State} {n h : Nat} {b : List Byte} (hrole : s.bent.role = .resync) (hjoined : s.bent.joined = true)
    (hn : n = s.bent.mseqSent + 1) (hstate : (entryOf b).state ≠ 0) :
    s.copyRx n [.stream h b] = (s.copied n h b).sendTb (.ack n) :=
  copyRx_next (u := (s.heard.noteCopy (.stream h b)).setEntry h (s.copiedEntry h b)) hrole hjoined hn
    (congrArg (State.setEntry _ h) (if_neg hstate)) hrole hjoined

theorem joined_of {P : State → Prop} {s : State} {j : Bool} (hjoined : s.bent.joined = j)
    (h : P (s.withBent { s.bent with joined := j })) : P s := by
  subst hjoined
  exact h

/-- What a post is that has become standby at the end of its copy. -/
noncomputable def Bent.synced (b : Bent) (now : Nat) : Bent := { b with
  lastHeard := now, hbLost := false, role := .standby, inSync := true, copying := false, copyUntil := none, copyLeft := 0
  resyncFails := 0, copyDone := upto 0 6, retryAt := none }

theorem syncDoneRx_goes {s : State} {n : Nat} (hrole : s.bent.role = .resync) (hjoined : s.bent.joined = true)
    (hn : s.bent.mseqSent = n) (hhome : s.bentHome = false) :
    s.syncDoneRx n = (s.withBent (s.bent.synced s.time.ticks)).count (bntCount 15) := by
  have hends : s.syncDoneRx n = if (s.bent.mseqSent != n) = true then s.heard.copyFail false
      else ((s.withBent (s.bent.synced s.time.ticks)).count (bntCount 15)).startHoldOff :=
    role_of (P := fun s => s.syncDoneRx n = if (s.bent.mseqSent != n) = true then s.heard.copyFail false
      else ((s.withBent (s.bent.synced s.time.ticks)).count (bntCount 15)).startHoldOff) hrole
      (joined_of (P := fun s => State.syncDoneRx (s.withBent { s.bent with role := .resync }) n =
        if (s.bent.mseqSent != n) = true then (State.heard (s.withBent { s.bent with role := .resync })).copyFail false
        else ((s.withBent (s.bent.synced s.time.ticks)).count (bntCount 15)).startHoldOff) hjoined rfl)
  refine hends.trans ((if_neg ?_).trans (if_neg ?_))
  · rw [hn, bne_self_eq_false]
    exact Bool.false_ne_true
  · rw [show ((s.withBent (s.bent.synced s.time.ticks)).count (bntCount 15)).bentHome = false from hhome, Bool.and_false]
    exact Bool.false_ne_true

/-- What a post is whose copy has failed at a tick. -/
noncomputable def Bent.copyFailed (b : Bent) (now : Nat) : Bent := { b with
  copying := false, joined := false, copyUntil := none, copyLeft := 0, resyncFails := min 2 (b.resyncFails + 1)
  fallback := b.fallback || min 2 (b.resyncFails + 1) == 2, retryAt := some (now + secTicks 1) }

theorem copyFail_goes {s : State} (hrole : s.bent.role = .resync) : s.copyFail false =
    ((s.withBent (s.bent.copyFailed s.time.ticks)).count (bntCount 16)).raise beamSource 0x31 1 :=
  role_of (P := fun s => s.copyFail false =
    ((s.withBent (s.bent.copyFailed s.time.ticks)).count (bntCount 16)).raise beamSource 0x31 1) hrole rfl

theorem rings_of {P : State → Prop} {s : State} {q : Tab WorkQueue} {b : Tab Daybook} (hqueues : s.queues = q)
    (hbooks : s.books = b) (h : P { s with queues := q, books := b }) : P s := by
  subst hqueues hbooks
  exact h

/-- A post without rings asks for a copy. -/
theorem enterResync_bare {s : State} (hqueues : s.queues = []) (hbooks : s.books = []) : s.enterResync =
    State.withBent { s with deliveries := [] } { s.bent with role := .resync, inSync := false, joined := false
                                                             copying := false, holdOffAt := none, retryAt := none, formAt := none } :=
  rings_of (P := fun s => s.enterResync = State.withBent { s with deliveries := [] } { s.bent with
    role := .resync, inSync := false, joined := false, copying := false, holdOffAt := none, retryAt := none
    formAt := none }) hqueues hbooks rfl

theorem resyncRetry_goes {s : State} {k : Nat} (hrole : s.bent.role = .resync) (hretry : s.bent.retryAt = some k) :
    s.resyncRetry = (s.advanceTo k).enterResync := by
  rw [State.resyncRetry, hrole, hretry]

/-- A member that follows its king's cycle start and pattern. -/
noncomputable def State.followed (s : State) (start pattern : Nat) : State :=
  { s.heard with span := { s.span with tn := start, pattern := pattern, change := none } }

theorem spanStateRx_goes {s : State} {cycle : BitVec 32} (hrole : s.bent.role = .standby) (hmember : s.span.state = .member)
    (hking : s.span.kingId = s.bent.bentId) (hcycle : s.span.cycle = cycle) (start pattern : Nat) :
    exec (.spanStateRx cycle start pattern none) s = .next (s.followed start pattern) := by
  refine congrArg ok (if_neg (e := s.followed start pattern) ?_)
  change ¬ (s.bent.role != .standby || s.span.state != .member || s.span.kingId != s.bent.bentId || s.span.cycle != cycle) = true
  rw [hrole, hmember, hking, hcycle, bne_self_eq_false, bne_self_eq_false, bne_self_eq_false, bne_self_eq_false]
  exact Bool.false_ne_true

/-! ### The statement -/

/-- Settles O37, event by event. -/
theorem bentStreamEventsComplete : Obligations.BentStreamEventsComplete := by
  refine ⟨fun s k hrole hform hheld hpartner hhome hquiet => ?formWait, fun s p hrole hfree hdown hp => ?beatTx,
    fun s role inSync cold hrole => ?beatRx, fun s role inSync cold => ?badBeat, fun s hsolo hstandby hheard => ?loss,
    fun s n hrole hnone => ?ack, fun s u rest hrole hsync hfirst hnone => ?overdue, fun s => ?down0, fun s => ?down1,
    fun s hdown hunfenced hwait => ?up0, fun s hdown hunfenced hwait => ?up1, fun s n hwait hcopying => ?credit,
    fun s n q i hrole hwarm hn hjournal hfree => ?mirror, fun s hrole hpartner hcopying hup hfull => ?start,
    fun s => ?startFrame, fun s n h b hrole hjoined hn hstate => ?copy, fun s n hrole hjoined hn hhome => ?syncDone,
    fun s hrole => ?fail, fun s k hrole hretry hqueues hbooks => ?retry,
    fun s cycle start pattern hrole hmember hking hcycle => ?span⟩
  case formWait =>
    exact ⟨_, formWaitExpire_goes hrole hform hheld hpartner hhome hquiet, rfl, rfl, ticks_advanceTo ..⟩
  case beatTx => exact ⟨_, congrArg ok (heartbeatTx_goes hrole hfree hdown hp), rfl, rfl⟩
  case beatRx =>
    exact ⟨_, role_of (P := fun s => exec (.heartbeatRx false role inSync cold) s = .next (s.withBent { s.bent with
      lastHeard := s.time.ticks, hbLost := false, partnerRole := roleOf role, partnerCold := cold && role == 3 })) hrole rfl,
      rfl, rfl⟩
  case badBeat => exact ⟨s.count (bntCount 17), rfl, rfl, s.counter_count _⟩
  case loss =>
    obtain ⟨k, hk⟩ : ∃ k, k = s.bent.lastHeard + s.hbLimit := ⟨_, rfl⟩
    rw [← hk]
    exact next_told (congrArg ok (heartbeatLoss_goes (v := s.advanceTo k) (by rw [hk]) hsolo hstandby hheard)) (SourcesOnly.raiseMsg ..)
      (fun _ hx => counter_raiseMsg_below hx ..) fun _ _ _ hcounter => ⟨rfl, rfl, ticks_advanceTo ..,
        bntCount_told (by decide) hcounter⟩
  case ack => exact ⟨_, congrArg ok ((if_pos (beq_iff_eq.2 hrole)).trans (ackRx_goes hnone n)), rfl, rfl⟩
  case overdue =>
    obtain ⟨k, hk⟩ : ∃ k, k = u.sentAt + s.ackLimit := ⟨_, rfl⟩
    rw [← hk]
    exact ⟨_, congrArg ok (ackOverdue_goes hnone hk hrole hsync hfirst), rfl, rfl, ticks_advanceTo .., counter_of_ctr rfl⟩
  case down0 => exact next_beamRaise (congrArg ok (if_neg (by decide))) fun _ _ _ _ => ⟨rfl, rfl⟩
  case down1 => exact next_beamRaise (congrArg ok (if_neg (by decide))) fun _ _ _ _ => ⟨rfl, rfl⟩
  case up0 => exact ⟨_, tbLaneUp_goes (by decide) hdown hunfenced hwait, rfl, rfl⟩
  case up1 => exact ⟨_, tbLaneUp_goes (by decide) hdown hunfenced hwait, rfl, rfl⟩
  case credit =>
    exact ⟨_, congrArg ok ((congrArg (State.pumpCopy · State.copyBurst) (pumpWaiting_nil (s := s.modLane 0 (fun l =>
      { l with inFlight := l.inFlight.drop n })) hwait 64)).trans (pumpCopy_idle (by exact hcopying) _)), rfl, rfl⟩
  case mirror =>
    have hmirror := mirrorRx_next hrole hwarm hn (applyEntry_wqDone (s := s.heard) hjournal q i) hrole
    have hring := ringOf_setRing s.heard q ((s.ringOf q).doneTo i)
    exact ⟨_, congrArg ok (hmirror.trans (sendTb_free (by exact hfree) _)), rfl, rfl, rfl, congrArg RingLedger.done hring,
      congrArg RingLedger.window hring⟩
  case start => exact ⟨_, congrArg ok (resyncStart_goes hrole hpartner hcopying hup hfull), rfl, rfl⟩
  case startFrame => exact ⟨_, rfl, resyncStart_frame s⟩
  case copy =>
    obtain ⟨l, m, w, hsent⟩ := sendTb_sent (s.copied n h b) (.ack n)
    exact ⟨_, congrArg ok ((copyRx_stream hrole hjoined hn hstate).trans hsent), rfl, rfl, rfl,
      State.entry_setEntry (s := s.heard.noteCopy (.stream h b)) .., hrole⟩
  case syncDone =>
    exact ⟨_, congrArg ok (syncDoneRx_goes hrole hjoined hn hhome), rfl, rfl, counter_of_ctr rfl⟩
  case fail =>
    exact next_beamRaise (congrArg ok (copyFail_goes hrole)) fun _ _ _ hcounter => ⟨rfl, rfl, bntCount_told (by decide) hcounter⟩
  case retry =>
    exact ⟨_, congrArg ok ((resyncRetry_goes hrole hretry).trans (enterResync_bare hqueues hbooks)), rfl,
      congrArg (fun r => { s.bent with role := r, inSync := false, joined := false, copying := false, holdOffAt := none
                                       retryAt := none, formAt := none }) hrole.symm, ticks_advanceTo ..⟩
  case span => exact ⟨_, spanStateRx_goes hrole hmember hking hcycle start pattern, rfl, rfl, rfl⟩

end Sys2Proof.Machine
end
